-- ==== Sys2Proof/Word.lean ====
section
/-! DEFINITION. The plain data types shared by the commands and the state of the block. -/

namespace Sys2Proof

/-- One byte of memory. -/
abbrev Byte := BitVec 8

/-- A 32-bit register of the window (R10). -/
abbrev Word := BitVec 32

/-- The 64 B of one line; byte 0 is the least significant. -/
abbrev LineData := BitVec 512

/-- The byte enables of one line; bit i enables byte i. -/
abbrev ByteEn := BitVec 64

/-- The six major modes (R46), in the encoding order of MD_STATUS.MODE. -/
inductive Mode where
  | off | wake | run | burrow | den | restore
deriving DecidableEq, Repr

/-- MD_STATUS.MODE's encoding of a mode. -/
def Mode.code : Mode → Nat
  | .off => 0 | .wake => 1 | .run => 2 | .burrow => 3 | .den => 4 | .restore => 5

/-- The burrow phase of Table 6-3; `none` outside BURROW. -/
inductive Phase where
  | none | p0 | p1 | p2 | p3 | p4 | p5
deriving DecidableEq, Repr

/-- MD_STATUS.PHASE's encoding. -/
def Phase.code : Phase → Nat
  | .none => 7 | .p0 => 0 | .p1 => 1 | .p2 => 2 | .p3 => 3 | .p4 => 4 | .p5 => 5

/-- The two access paths of the register window (R11). -/
inductive Path where
  | cxl | spmi
deriving DecidableEq, Repr

/-- Event severities, in FLAGS.SEV order (Table 15-1). -/
inductive Sev where
  | info | warning | error | critical
deriving DecidableEq, Repr

def Sev.code : Sev → Nat
  | .info => 0 | .warning => 1 | .error => 2 | .critical => 3

/-- Where an event is raised (R471). -/
inductive EvSource where
  | keeper | lamp | partner
deriving DecidableEq, Repr

/-- Kinds of a declared output fault, in PS_FIRST.KIND's encoding 1 to 3. -/
inductive FaultKind where
  | uv | ov | oc
deriving DecidableEq, Repr

def FaultKind.code : FaultKind → Nat
  | .uv => 1 | .ov => 2 | .oc => 3

/-- The burrow trigger sources of Table 2-3; `bit` is the MD_CAUSE bit. -/
inductive Cause where
  | vinA | vinB | pred | pfw | bridge | host | therm | rail | store | lamp
deriving DecidableEq, Repr

def Cause.bit : Cause → Nat
  | .vinA => 0 | .vinB => 1 | .pred => 2 | .pfw => 3 | .bridge => 4
  | .host => 5 | .therm => 6 | .rail => 7 | .store => 8 | .lamp => 9

/-- Bridgeable column of Table 2-3. -/
def Cause.bridgeable : Cause → Bool
  | .vinA | .vinB | .pred | .pfw => true
  | _ => false

/-- Abandonable column of Table 2-3. -/
def Cause.abandonable : Cause → Bool
  | .vinA | .vinB | .pred | .pfw | .bridge => true
  | _ => false

/-- Reading of a thermal sensor in one sweep (R376 to R378): tenths of a degree, or an NTC open or shorted. -/
inductive SenReading where
  | temp (t : Int) | ntcOpen | ntcShort
deriving DecidableEq, Repr

/-- One daymark copy as the reader finds it (Table 16-1); the cryptographic checks are given by their outcome. -/
structure DmkCopy where
  /-- false: bus fault or the read was cut off (cause 0x1) -/
  readOk : Bool
  /-- MAGIC, FORMAT, LENGTH and NSECT pass (cause 0x2 otherwise) -/
  hdrOk : Bool
  crcOk : Bool
  /-- SHA-256 of PUBKEY as four 64-bit words -/
  keyHash : List Nat
  sigOk : Bool
  /-- the section directory and tables are well formed (cause 0x6 otherwise) -/
  sectOk : Bool
  bl : Nat
  fitReq : Nat
  imgVer : Nat
  boardId : Nat
  crc : Nat
  /-- REGS entries in order: register offset, value -/
  regs : List (Nat × Nat)
  /-- service public key, when SVC_KEY is present -/
  svcKey : Option Nat
  /-- STORE_T: eight points (CAP_K, ESR_K) -/
  storeT : List (Nat × Nat)
  /-- LTO_OCV: 21 values in mV -/
  ltoOcv : List Nat
deriving DecidableEq, Repr

/-- What a store audit measures (R314), per cell in mV. -/
structure AuditMeas where
  v0 : List Nat
  v1ms : List Nat
  v20 : List Nat
  v200 : List Nat
  /-- energy delivered to VSYS, and energy that left the store less the ESR loss, in µJ -/
  eOut : Nat
  eIn : Nat
  /-- LTO: charge drawn in µAh, and OCV-table SoC difference in 1/10000 -/
  qDrawn : Nat
  socDiff : Nat
deriving DecidableEq, Repr

/-- One tick's requests at the budget arbiter (R388), with the VSYS load and the draws that the latest full scan measured (R387), in 10 mW. -/
structure BudgetIn where
  vsysLoad : Nat
  chgDraw : Nat
  accDraw : Nat
  dram : List Nat
  nand : List Nat
  acc : Nat
  chg : Nat
deriving DecidableEq, Repr

/-- Requesters of a DRAM read whose result returns (R187). -/
inductive DramReq where
  | host (tag : Nat)
  | rmw
  | ctx (n : Nat)
  | scrub
  | mapLine
  | mirrorLine
  /-- P3's read of a staging line (R219) -/
  | staging
  /-- a read of a poison-bitmap line (R132) -/
  | poisonLine
  /-- the active's read of a line that resynchronisation copies (R428) -/
  | resync
deriving DecidableEq, Repr

/-- What the device returns with a DRAM read: the symbols of the codeword in error, 16 × device + beat (R185), and the one device that the
per-device diagnostic shows failing after an uncorrectable read, if exactly one (R186). -/
structure DramErr where
  syms : List Nat
  diag : Option Nat
deriving DecidableEq, Repr

/-- Outcome of a DRAM read at the line ECC (R185, R186). -/
inductive DramOut where
  /-- no error -/
  | clean
  /-- corrected; the symbols in error lie in this device -/
  | corrected (dev : Nat)
  | ue
deriving DecidableEq, Repr

/-- HELLO frame payload (Table 13-4). Roles: 0 solo, 1 active, 2 standby; mirror: 0 current, 1 stale, 2 resynchronising. -/
structure HelloMsg where
  role : Nat
  epoch : Nat
  mirror : Nat
  fenceWsn : Nat
  /-- the pairing tag matches (R395) -/
  tagOk : Bool
  /-- TW_STALE of the partner: its stale-since epoch, or the label of its valid touch map (R427) -/
  stale : Nat
  evSeq : Nat
  /-- CUM of the frame's header (Table 13-3) -/
  cum : Nat
deriving DecidableEq, Repr

/-- HEARTBEAT frame payload. -/
structure BeatMsg where
  role : Nat
  mode : Nat
  mirror : Nat
  /-- 0 absent, 1 present, 2 ready, 3 failed -/
  store : Nat
  epoch : Nat
deriving DecidableEq, Repr

/-- One unit's sampled inputs for a control tick (Table 13-6). -/
structure InputMsg where
  vinRet : Bool
  /-- source limit of R387 in 10 mW -/
  limit : Nat
  level : Nat
  stop : Bool
  /-- external rails with a fault, one bit each -/
  xFault : Nat
  xPg : Nat
  hburrow : Bool
  hbOff : Bool
  storeReady : Bool
  storeCc : Bool
  zone : Nat
  /-- charge request and stack: 10 mW and mV -/
  chgReq : Nat
  stackMv : Nat
  /-- zone current and ACC_OUT I_LIM in mA -/
  zoneMa : Nat
  accMa : Nat
  feedOk : Bool
deriving DecidableEq, Repr

/-- What a CTRL frame carries (Table 13-4). -/
inductive CtrlMsg where
  /-- a relayed VX_HOST_BURROW with its target: true for OFF -/
  | hostBurrow (toOff : Bool)
  /-- switch-over: the final CUM of the old active (R421) -/
  | switchOver (cum : Nat)
  /-- burrow outcome of the partner: true when it completed, false when abandoned (R417) -/
  | outcome (completed : Bool)
  /-- NEXT values of the governing unit, per slave (R412) -/
  | nexts (v : List Nat)
  /-- a relayed Sanitize (R112) -/
  | sanitize
  /-- the partner's sanitize has finished (R112) -/
  | sanitizeDone
  /-- a standby passes VX_TWIN_SWITCH action 0x01 on to its active (R421) -/
  | switchRequest
  /-- the active cannot switch: the standby's command ends with Busy (R122, R424) -/
  | switchRefused
  /-- a standby asks for a FULL resynchronisation (TW_CTRL.RSY_FULL) -/
  | resyncFull
deriving DecidableEq, Repr

/-- Thresholds of Set Alert Configuration (R105): `none` when not enabled. -/
structure AlertCfg where
  lifeUsed : Option Nat
  overTemp : Option Int
  underTemp : Option Int
  corrVolatile : Option Nat
  corrPersistent : Option Nat
deriving DecidableEq, Repr

/-- Why the input FETs open (R293). -/
inductive InfetCause where
  | overVoltage | reverse | overCurrent
deriving DecidableEq, Repr

/-- Criterion by which the store is declared absent (R304). -/
inductive AbsentCause where
  | ntcOpen | tapStep | collapse
deriving DecidableEq, Repr

/-- What a NAND page read meets (R236, R237). -/
structure NandRead where
  /-- decode stage reached, 1 to 3 -/
  stage : Nat
  /-- codeword 0 reads as all 0xFF; it does not decode -/
  erased : Bool
  cw0Bad : Bool
  /-- MAGIC or HDR_CRC is wrong -/
  hdrBad : Bool
  /-- data codewords that do not decode, 0 to 7 -/
  badCw : List Nat
  /-- DATA_CRC does not match -/
  crcBad : Bool
deriving DecidableEq, Repr

/-- A read that decodes whole in its first stage. -/
def NandRead.clean : NandRead := ⟨1, false, false, false, [], false⟩

/-- How the back end classes a read result (R237). -/
inductive PageClass where
  | erased
  | unusable
  /-- readable, but for the 32 lines of each data codeword that does not decode -/
  | lines (bad : List Nat)
deriving DecidableEq, Repr

/-- Keeper boot facts at a KRST (R445, R463): banks valid with version, plane 1 self-check. -/
structure BootInfo where
  ok0 : Bool
  ok1 : Bool
  ver0 : Nat
  ver1 : Nat
  controlOk : Bool
  plane1Ok : Bool
deriving DecidableEq, Repr

end Sys2Proof
end

