-- ==== Sys2Proof/Syntax.lean ====
section
/-! DEFINITION. The commands the block takes: one constructor per row of spec/opcode_table.json.
The table gives no operands; each constructor carries what the rules of its step read from outside the state. -/

namespace Sys2Proof

/-- The commands. A line is a line address DPA / 64; a granule is DPA / 16 KiB; offsets are window offsets. -/
inductive Instr where
  -- host link (03, 01)
  | memWr (tag line : Nat) (data : LineData)
  | memWrPtl (tag line : Nat) (be : ByteEn) (data : LineData)
  | cwaitPass
  | cwaitExpiry
  | writeThroughDone (crcOk : Bool := true)
  | ndrCommit
  | memRd (tag line : Nat)
  | drsCommit (tag : Nat)
  | gpfPhase1
  | gpfPhase2
  | perstNAssert
  | perstNRelease
  | linkUp (width speed ver : Nat)
  -- mailbox (03)
  | identifyMemoryDevice
  | getShutdownState
  | setShutdownState (dirty : Bool)
  | getHealthInfo
  | getAlertConfiguration
  | setAlertConfiguration (cfg : AlertCfg)
  | getEventRecords (log : Sev)
  | clearEventRecords (log : Sev) (handles : List Nat) (clearAll : Bool)
  | getEventInterruptPolicy
  | setEventInterruptPolicy (policy : List Nat)
  | getLsa (off len : Nat)
  | setLsa (off : Nat) (data : List Byte)
  | getPoisonList (start len : Nat)
  | injectPoison (line : Nat)
  | clearPoison (tag line : Nat) (data : LineData)
  | getTimestamp
  | setTimestamp (ns : Nat)
  | setPartitionInfo
  | sanitize (decoders : Option Bool := none)
  | sanitizeComplete
  | unsupportedCommand (opcode : Nat)
  | vxAuthChallenge (purpose reserved : Nat)
  | vxAuthResponse (nonce purpose reserved : Nat) (sigOk : Bool)
  | vxHostBurrow (confirm target reserved : Nat)
  | vxCoverStatus
  | twinSwitchOver (action : Nat) (reserved : Nat := 0)
  | forcedPromotion (reserved : Nat)
  | serviceModeEnter (reserved : Nat)
  | serviceModeLeave (reserved : Nat)
  | vxJournalRead (start count reserved : Nat)
  | ticketExpiry
  | challengeExpiry
  | authRefusalEnd
  | serviceTimeout
  -- resets and the lamp-die reset (00, 02)
  | por (vinRet : Bool)
  | krst (boot : BootInfo)
  | vkeepGood (vioMv : Nat)
  | lrstRequest
  | drainDone
  | drainTimeout
  | lampRelease (parityWord : Option Nat)
  | writePathOpen
  -- mode controller (02)
  | wakeReq (path : Path)
  | latchClr (path : Path)
  | serviceNHold
  | vinComparatorFire (b : Bool)
  | vinCmpRelease (b : Bool)
  | vinCmpMismatch
  | predictorFire
  | pfwNFire
  | bridgeClose
  | bridgeExpiry
  -- burrow (06)
  | fence
  | shedStep (k : Nat)
  | p1End
  | p1Late
  | burrowSweepVisit (faultWord : Option Nat) (mirrorUe : Bool) (cacheFault : Bool := false)
  | programConfirm (n : Nat)
  | programStatus (n : Nat) (pass : Bool)
  | lunNotReady (lun : Nat)
  | p2End
  | p2Timeout
  | p3End (fails : List Nat := [])
  | p3Timeout (landed : Nat := 0)
  | journalCommit
  | p4Timeout
  | vinReturnDebounced
  | abandonRecordWritten
  | abandonUpDone
  | abandonWindowExpiry
  | thermalLockoutScan (temps : List Int)
  | denRebase
  | hwCut (sensor : Nat)
  -- wake and restore (08, 16)
  | daymarkRead (copy0 copy1 : Option DmkCopy) (sfdp x4 : Bool)
  | dramTrainingDone (ok0 ok1 : Bool) (reads : List (Nat × NandRead) := [])
  | nandScanDone (failedLuns : List Nat) (failedCes : List Nat := []) (reads : List (Nat × NandRead) := [])
  | restoreDecision
  | manifestLoad (badSegs : List Nat) (reads : List (Nat × NandRead) := [])
  | granuleFetchDone (g : Nat) (rd : NandRead) (rd2 : NandRead := NandRead.clean)
  | verifyGranule (g : Nat) (ueLines : List Nat) (tableUe : Bool) (rd : NandRead) (rd2 : NandRead := NandRead.clean) (ces : List (Nat × Nat) := [])
  | restoreComplete (fails : List Nat := [])
  -- cover and trickle (04)
  | rebase
  | rebaseNow (path : Path)
  | coverStale
  | coverStaleError
  | ledgerScrub (word : Nat) (fault : Bool)
  | doubtWriterDone
  | mirrorWrite (g : Nat)
  | trickleMode
  | sweepVisit
  | copyMapped (n : Nat) (crcOk : Bool)
  | calSample (energyNj : Nat) (lenUs : Nat := 0)
  | cleanAll (path : Path)
  | stopCleanAll (path : Path)
  | contextArm
  -- DRAM controller (05)
  | schedule (ch sub nowNs : Nat) (readyBanks : List Nat)
  | refresh (ch sub rank : Nat)
  | retrainPause (ch sub : Nat) (forced : Bool) (mr4Double mr4Over : Bool)
  | caParityAlert (ch sub nowNs highNs : Nat)
  | dramReadDone (req : DramReq) (line : Nat) (err : DramErr) (atNs : Option Nat := none)
  | patrolScrub (ch : Nat) (back : Option DramErr)
  | selfRefreshEntry (ch : Nat)
  | selfRefreshExit (ch : Nat)
  -- NAND back end (07)
  | eraseDone (block : Nat) (pass : Bool)
  | eraseTimeout (block : Nat)
  | relocate (rd : NandRead := NandRead.clean)
  | nandPatrol (g : Nat) (rd : NandRead)
  | checkpointStart
  | checkpointCommit
  -- store and power path (09, 10)
  | infetClose (fell : Bool := false)
  | infetOpen (cause : InfetCause)
  | infetReclose
  | infetRst (path : Path)
  | inputCurrentLimit
  | storeTakeover (vsysMv : Nat := 0)
  | storeRelease (vsysMv : Nat := 0xFFFF)
  | storeFailed (cause : Nat)
  | storeAbsent (cause : AbsentCause)
  | storePresent
  | storeRetry (path : Path)
  | chargeTerminate
  | rechargeStart
  | zoneChange (tStore : Int)
  | safetyTimerExpiry
  | tmrClr (path : Path)
  | auditStart
  | auditNow (path : Path)
  | auditDone (m : AuditMeas)
  | auditDerate
  | accOvercurrent
  | accRetry
  | peerChargeStop
  | vsysLoss
  | vsysRestore
  -- supervision (10)
  | railFault (n : Nat) (kind : FaultKind) (also : List (Nat × FaultKind) := []) (level : Option Nat := none)
  | adcScan (ch : List Int) (iout : List Nat)
  | adcOnDemand (path : Path) (ch : Nat)
  | rearm (path : Path) (idx : Nat)
  | clrFirst (path : Path)
  | w1cWrite (path : Path) (off : Nat) (value : Word)
  -- sequencer and SPMI (11)
  | sequencerTick
  | entryPowerGood (n : Nat)
  | entryUpTimeout (n : Nat)
  | entryRetry (n : Nat)
  | entryOff (n : Nat)
  | entryDownTimeout (n : Nat)
  | spmiCommandSend
  | spmiStatusRead (m lastSeq result pg : Nat) (parityErr : Bool) (flags : Nat := 0)
  | spmiAckTimeout (m : Nat)
  | slvRescan (path : Path)
  | pgPoll (n : Nat) (pg : Nat)
  | spmiWakeup (sid : Nat)
  | spmiSleep
  | spmiIdleOff
  | spmiIgnoredCommand
  -- thermal and budget (12)
  | thermalSweep (r : List SenReading)
  | levelChange
  | senRetry (path : Path)
  | arbiterTick (b : BudgetIn)
  -- twin (13)
  | hello (m : HelloMsg)
  | mirror (wsn line : Nat) (be : ByteEn) (data : LineData)
  | cumulativeAck (cum : Nat)
  | heartbeat (m : BeatMsg)
  | nak (lseq : Nat)
  | retrain
  | mooringLinkDown
  | pairTimeout
  | bellSilent
  | bellAlive
  | controlTick (own : InputMsg)
  | input (m : InputMsg)
  | decision (word : BitVec 64)
  | selfTestDone (own partner : Bool)
  | fenceFrame (cum causes : Nat)
  | fenceWaitExpiry
  | graceExpiry
  | ctrl (m : CtrlMsg)
  | rsyBegin (g : Nat)
  | rsyData (g ln : Nat) (data : LineData)
  | rsyEnd (g : Nat)
  | rsyFull (path : Path)
  -- keeper flash (14)
  | efKey (path : Path) (value : Word)
  | unlockExpiry (path : Path)
  | read (path : Path) (bitErrors : Nat)
  | program (path : Path)
  | erase (path : Path)
  | suspend (path : Path)
  | resume (path : Path)
  | otpRead (path : Path)
  | otpProg (path : Path)
  | clear (path : Path)
  | wordProgramDone (pulses : Nat) (ok : Bool)
  | sectorEraseDone (ok : Bool)
  | eraseResume
  | journalRecordWrite
  -- event recorder (15)
  | eventRaise (src : EvSource) (cls : Nat) (sev : Sev) (param : Nat)
  | eventMove
  | recordClose
  | archiveWrite
  | freeze (path : Path)
  | thaw (path : Path)
  | freezeExpiry
  | evClear (path : Path) (value : Word)
  | clearComplete
  | evRdsel (path : Path) (value : Word)
  -- register window (00, 04, 16, 18)
  | rcRead (path : Path) (off size : Nat)
  | captureRead (path : Path) (off size : Nat)
  | fitBlWrite (path : Path) (off : Nat) (value : Word)
  | populationWrite (path : Path) (off : Nat) (value : Word)
  | registerWrite (path : Path) (off size : Nat) (value : BitVec 64) (long : Bool := true)
  | hostLinkDown
  | mooringLinkUp (lanes : Nat)
  | abandonLinkWaitExpiry
  | aonPowerLoss
deriving DecidableEq, Repr

end Sys2Proof
end

