-- ==== Sys2Proof/Config.lean ====
section
/-! DEFINITION. The free values: what the spec leaves open and the hardware nevertheless produces. None has a body, so nothing
can be proved of any of them but what holds for every value. Each is applied to the model's counter of free values taken. -/

namespace Sys2Proof.Config

/-- Keeper entropy behind a challenge nonce (R117, log entry 3). -/
opaque entropy : Nat → BitVec 64

/-- Keeper entropy that seeds a neighbour-refresh LFSR at WAKE (R176, log entry 3). -/
opaque lfsrSeed : Nat → BitVec 32

/-- The data of a keeper-flash READ whose result the spec leaves undefined (R437, R452, log entry 3). -/
opaque flashWord : Nat → BitVec 64

/-- The bits an interrupted keeper-flash word program leaves in the word (R439, R446, log entry 3). -/
opaque cutWord : Nat → BitVec 64

/-- The initial management threshold that the DRAM devices report for RFM (R178, log entry 3). -/
opaque raaimt : Nat → Nat

/-- The maximum management threshold that the DRAM devices report for RFM (R178, log entry 3). -/
opaque raammt : Nat → Nat

/-- What one refresh takes off an activation count under the rules the DRAM devices report (R178, log entry 3). -/
opaque raaRef : Nat → Nat

/-- The DATA_CRC of a block-table page, whose 4 B entries the spec gives no layout (R276, Table 8-6, log entry 3). -/
opaque btCrc : Nat → BitVec 32

/-- A value where a rule names a measured quantity it gives no source for (log entry 3). -/
opaque measured : Nat → Nat

end Sys2Proof.Config
end

