-- ==== Sys2Proof/Machine/State.lean ====
section
/-! DEFINITION. The state of the block as plain data, its state after reset, and the (empty in practice) ways a step can stop.
Register fields live in `regs`, keyed by offset * 128 + lowest bit * 4 + class; a field that `regs` does not list holds its reset value
(the register tables are in Machine/Regs.lean). Everything the spec gives the machine beside its registers has a field here. -/

namespace Sys2Proof.Machine

/-- No command of this block ends in a fault: the spec gives every row an effect. Safe. -/
inductive Fault where
  /-- Raised by nobody: the type needs a name for a stop that the spec never asks for. Safe. -/
  | none
deriving DecidableEq, Repr

/-- Refusals. `notModelled` is answered only by an arm of Dispatch whose command has no meaning yet. Safe. -/
inductive Refusal where
  | notModelled (mnemonic : String)
deriving DecidableEq, Repr

/-- A CXL.mem write inside the device (R17): its tag, line, byte enables, data and arrival number. -/
structure Wr where
  tag : Nat
  line : Nat
  /-- full-line MemWr (false: MemWrPtl) -/
  full : Bool
  be : ByteEn
  data : LineData
  /-- arrival number over reads and writes (R89) -/
  seq : Nat
  /-- a Clear Poison write: no ingress slot and no credit (R101) -/
  mbox : Bool
  /-- WSN in twin operation, 0 otherwise (R41) -/
  wsn : Nat
deriving DecidableEq, Repr

/-- Why the ledger stage is stopped (R145). -/
inductive StageKind where
  /-- credit-wait (R147) -/
  | cwait
  /-- write-through waiting for a page or an epoch value (R149 step 1, R239) -/
  | wtWait
  /-- write-through running on context n (R149 step 3) -/
  | wtBusy (n : Nat)
  /-- the ledger update is made and the write buffer has no free entry (R168) -/
  | bufWait
deriving DecidableEq, Repr

/-- The write that stops the ledger stage. -/
structure LStage where
  w : Wr
  kind : StageKind
deriving DecidableEq, Repr

/-- A committed line in a channel write buffer (R168). -/
structure WbEntry where
  line : Nat
  be : ByteEn
  data : LineData
  /-- admitted to a command queue -/
  admitted : Bool
  /-- write command issued at this time in ns; the entry is freed when it has left the replay window -/
  issued : Option Nat
  /-- it holds the write of a write-through (Table 5-5) -/
  wt : Bool
deriving DecidableEq, Repr

/-- A read-request queue entry (R82). -/
structure Rd where
  tag : Nat
  line : Nat
  seq : Nat
  /-- value and poison once every earlier write to the line is committed (R90) -/
  value : Option (LineData × Bool)
  /-- the DRAM data has been delivered (or was not needed) -/
  ready : Bool
deriving DecidableEq, Repr

/-- What the link transmit FIFO carries to the host. -/
inductive TxMsg where
  | ndr (tag : Nat)
  | drs (tag : Nat) (data : LineData) (poison : Bool)
  | gpf (phase : Nat)
deriving DecidableEq, Repr

/-- One event record (Table 15-1) with the recorder's own marks. -/
structure EvRec where
  seq : Nat
  cls : Nat
  sev : Sev
  noClear : Bool
  relTime : Bool
  copy : Bool
  pended : Bool
  reloaded : Bool
  mode : Nat
  phase : Nat
  snapValid : Nat
  time : Nat
  rep : Nat
  param : Nat
  lastDt : Nat
  snaps : List Nat
  handle : Nat
  /-- ring only: consumed by the host (R108), written to the archive (R477), still open (R472) -/
  consumed : Bool
  flushed : Bool
  opened : Bool
deriving DecidableEq, Repr

/-- Journal payloads (Table 14-9). -/
inductive JPay where
  | manifestPtr (loc ver nLanded nLost nPoisoned dsc : Nat) (dirty selfClean deferred : Bool) (dmkCrc : Nat)
  | mapRootPtr (loc rootSeq ceil manVer : Nat)
  | runOpen (epoch reason : Nat)
  | abandon (ver pages : Nat)
  | denDrop (ver cause : Nat)
  | restoreDone (ver form restored lost poisoned : Nat)
  | sanitizeStart (epoch : Nat)
  | sanitizeDone (epoch : Nat)
  | shutdown (dirty : Bool)
  | dscInc (dsc : Nat)
  | devMark (ch sub rank dev : Nat)
  | twinState (role mirror : Nat) (forced : Bool) (epoch stale fenceWsn : Nat)
  | counters (holdCount : Nat)
deriving DecidableEq, Repr

/-- A journal record (Table 14-8). -/
structure JRec where
  seq : Nat
  origSeq : Nat
  copy : Bool
  relTime : Bool
  /-- device timestamp in seconds -/
  time : Nat
  pay : JPay
  /-- sector and slot it lies in -/
  sector : Nat
  slot : Nat
deriving DecidableEq, Repr

/-- The CXL record format of an event (Table 3-7, Table 15-3); a vendor-defined record is tagged with the UUID of ID_VENDOR_UUID (R107). -/
inductive CxlFmt where
  | generalMedia | dram | memoryModule
  | vendor (uuid : Nat)
deriving DecidableEq, Repr

/-- An event record as Get Event Records returns it: its format, and the recorder record it carries. -/
structure CxlRec where
  fmt : CxlFmt
  body : EvRec
deriving DecidableEq, Repr

/-- The CDAT entries of Table 3-8: latencies in ns, bandwidths in 1/512 GB/s (R114). -/
structure Cdat where
  readNs : Nat
  writeNs : Nat
  readBw : Nat
  writeBw : Nat
deriving DecidableEq, Repr

/-- Output of a mailbox command. -/
inductive MOut where
  | none
  | identify (volatile256M persistent256M lsaBytes logRecords poisonMax injectLimit partAlign : Nat)
  | shutdown (dirty : Bool)
  | health (status media lifeUsed : Nat) (temp : Int) (dsc corrVolatile corrPersistent : Nat)
  | alerts (cfg : AlertCfg)
  | policy (p : List Nat)
  | records (r : List CxlRec) (overflow : Bool)
  | bytes (b : List Byte)
  | poisonList (r : List (Nat × Nat)) (more : Bool)
  | timestamp (ns : Nat)
  | challenge (nonce purpose serial validMs : Nat)
  | ticket (ms : Nat)
  | cover (eAvail eReq eBridge nDirty reserve need egNj margin ageUs state cwaits wts : Nat)
  | twin (role epoch wsn : Nat)
  | service (on : Nat)
  | journal (first returned oldest newest : Nat) (recs : List (List Byte))
deriving DecidableEq, Repr

/-- The last mailbox response. -/
structure Mbox where
  opcode : Nat
  ret : Nat
  out : MOut
deriving DecidableEq, Repr

/-- Authorisation (R117, R118). -/
structure Auth where
  /-- open challenge: nonce, purpose, ms of issue -/
  chal : Option (Nat × Nat × Nat)
  /-- granted ticket: purpose, ms at which it expires -/
  ticket : Option (Nat × Nat)
  /-- ms of failed checks in the current window -/
  fails : List Nat
deriving DecidableEq, Repr

/-- The host link's own state (03). -/
structure HostSt where
  ingress : List Wr
  stage : Option LStage
  staged : List Wr
  reads : List Rd
  /-- Req credits the host holds -/
  reqCredits : Nat
  nextSeq : Nat
  tx : List TxMsg
  mbox : Mbox
  /-- opcode of a command in progress: a Clear Poison that waits on its write (R101), a Set LSA that programs keeper flash (R111), a
  VX_TWIN_SWITCH (R122) -/
  mboxBusy : Option Nat
  /-- a Set LSA in progress: offset and data (R111, R453) -/
  lsaSet : Option (Nat × List Byte)
  /-- arrival number of the Clear Poison write that the command in progress waits for (R101) -/
  clearSeq : Nat
  /-- arrival number of a write whose completion a PERST_N took away (R72) -/
  quiet : Option Nat
  /-- a committed HDM decoder or enabled DVSEC range (R112, log entry 82) -/
  decoder : Bool
  cdat : Cdat
  alert : AlertCfg
  policy : List Nat
  auth : Auth
  /-- label storage area contents and sectors whose alternate copy is not erased (R453) -/
  lsa : List Host.Cell
  lsaDirty : List Nat
  /-- sectors with no usable pair left (R453) -/
  lsaDead : List Nat
  /-- logical sectors whose current copy is the odd one of the pair -/
  lsaOdd : List Nat
  /-- 0 none, 1 running, 2 finished here and waiting for the partner, 4 running with the partner finished -/
  sanitize : Nat
  /-- DRAM line corrections since POR (Table 3-5) -/
  corrections : Nat
  /-- ms of the last credit-wait report and of the last credit-wait or write-through -/
  cwaitReport : Option Nat
  lastDegraded : Option Nat
  /-- pacer bucket in 1/256 line (R383) -/
  pacer : Nat
  /-- last register read result, per access -/
  rdata : Nat
deriving DecidableEq, Repr

/-- A ledger entry (Table 4-1). -/
inductive LState where
  | clean
  | lost
  | cleaning
  | dirty (age : Nat)
  | dirtyCleaning (age : Nat)
deriving DecidableEq, Repr

/-- Ledger and cover (04). -/
structure CoverSt where
  /-- granule to entry; an unlisted user granule has the entry `ledDflt`, any other is CLEAN -/
  ledger : List (Nat × LState)
  ledDflt : LState
  /-- the mirror's entries, `mirrorDflt` where it lists none; and queued mirror updates (R132, R133) -/
  mirror : List (Nat × LState)
  mirrorDflt : LState
  mirrorPend : List (Nat × LState)
  /-- N_dirty (LG_NDIRTY) -/
  nDirty : Nat
  /-- 0.1 µJ -/
  eDebt : Nat
  /-- µJ -/
  eAvail : Nat
  eLimit : Nat
  eBridge : Nat
  /-- e_g(T) in 0.1 µJ -/
  eg : Nat
  /-- the ledger-doubt writer is running (R157) -/
  doubtWriter : Bool
  /-- calibration: completions in the interval, contexts in flight at its start, the baseline in mW once a quiet millisecond has been measured
  since the WAKE (R137) -/
  calCount : Nat
  calCtx : Nat
  calBase : Option Nat
  /-- contexts the hand waits for, target age of the sweep (R153) -/
  target : Option Nat
deriving DecidableEq, Repr

/-- A DRAM command kept in the retry buffer (R181). -/
inductive DramCmd where
  | act (rank bank row : Nat)
  /-- precharge of one bank, of all banks -/
  | pre (rank bank : Nat)
  | prea
  /-- column commands; `ap` carries auto-precharge -/
  | rd (line : Nat) (ap : Bool)
  | wr (line : Nat) (ap : Bool)
  | refab (rank : Nat)
  | refsb (rank ba : Nat)
  | rfm (rank bank : Nat)
  | mrw
deriving DecidableEq, Repr

/-- A request in a subchannel command queue (R171). -/
structure DramQ where
  line : Nat
  write : Bool
  cls : Nat
  /-- source within the class, in the order of Table 5-5, and the context of a context read -/
  src : Nat
  ctx : Nat
deriving DecidableEq, Repr

/-- A CA parity replay that runs (R182, R183): when the first alert of its window was seen, when the wait on the latest one is over, and the
replays of it that failed; the commands of the window, those still to be issued again once they begin, and the time of the last one issued. -/
structure Replay where
  first : Nat
  ready : Nat
  fails : Nat
  win : List DramCmd
  left : Option (List DramCmd)
  last : Nat
deriving DecidableEq, Repr

/-- A DRAM read that has issued and not returned: its line, the context it serves, whether a write to the line has entered the write buffer
since, and the time in ns of its issue (R181, R188, R226). -/
structure RdOut where
  line : Nat
  ctx : Option Nat
  newer : Bool
  issuedAt : Nat
deriving DecidableEq, Repr

/-- One DRAM subchannel (05). -/
structure SubCh where
  queue : List DramQ
  /-- requests from the fabric that wait for admission, oldest first -/
  waiting : List DramQ
  /-- last source, and last context, admitted per class (R171) -/
  lastSrc : List (Nat × Nat)
  lastCtx : List (Nat × Nat)
  /-- last 32 commands with their issue time in ns -/
  retry : List (Nat × DramCmd)
  /-- refreshes postponed, per rank -/
  postponed : List (Nat × Nat)
  /-- neighbour rows pending, per bank (R176) -/
  nref : List (Nat × List Nat)
  /-- rolling accumulated activation count per bank (R178) -/
  raa : List (Nat × Nat)
  /-- correction counts per rank and device within the scrub pass (R186) -/
  corr : List (Nat × Nat)
  /-- refresh at the doubled rate (R175) -/
  doubled : Bool
  replay : Option Replay
deriving DecidableEq, Repr

/-- The DRAM controller and the cache contents. -/
structure DramSt where
  /-- the cache DRAM, by byte address; an unlisted byte reads 0x00 (R67) -/
  cells : List Host.Cell
  /-- poison bitmap: line to error source, 0x2 internal or 0x3 injected (R99) -/
  poison : List (Nat × Nat)
  /-- the rest of the bitmap, kept by granule: user granules that restore found LOST are poisoned as a whole, but for the lines cleared
  since; `whole` lists the granules that differ from `wholeDflt` (R98) -/
  wholeDflt : Bool
  whole : List Nat
  cleared : List Nat
  /-- committed write-buffer entries, oldest first -/
  wbuf : List WbEntry
  /-- subchannels DC0A, DC0B, DC1A, DC1B as 0 to 3 -/
  sub : List (Nat × SubCh)
  /-- neighbour-refresh LFSR per channel -/
  lfsr : List (Nat × Nat)
  /-- line the patrol scrubber reads next, per channel -/
  scrub : List (Nat × Nat)
  /-- the DRAM has been initialised in this WAKE -/
  trained : Bool
  /-- reads that have issued and not returned, oldest first -/
  rdOut : List RdOut
  /-- channels whose scrub read has been asked for (R171, R188) -/
  scrubAsked : List Nat
  /-- corrected lines whose write-back waits for a free entry (R188) -/
  wback : List Nat
  /-- the latest time in ns that a DRAM command brought -/
  now : Nat
deriving DecidableEq, Repr

/-- Context states (Table 6-1). -/
inductive CtxSt where
  | idle | armed | setup | load | prog | check | halt
deriving DecidableEq, Repr

def CtxSt.code : CtxSt → Nat
  | .idle => 0 | .armed => 1 | .setup => 2 | .load => 3 | .prog => 4 | .check => 5 | .halt => 6

/-- What a context copies. -/
inductive CopyKind where
  | none | trickle | refresh | reloc | burrow | wt | metaPage
deriving DecidableEq, Repr

/-- A burrow context (06). -/
structure Ctx where
  st : CtxSt
  kind : CopyKind
  gran : Nat
  page : Nat
  ver : Nat
  retgt : Nat
  poison : Bool
  lostRec : Bool
  /-- lines found poisoned or uncorrectable at the copy's DRAM read -/
  lp : List Nat
  /-- a line found uncorrectable by this read and not already poisoned (N_NEWUE) -/
  newUe : Bool
  /-- the OPEN block it owns (R246) -/
  blk : Option Nat
  /-- superseded location handed to the back end; `none` unknown (R212) -/
  sup : Option Nat
  /-- source page of a relocation copy -/
  src : Nat
  /-- the entry's age when a trickle copy was armed (log entry 12) -/
  age : Nat
  /-- time in ns at which the data of its last DRAM read came (the look-back of Table 6-5) -/
  readAt : Nat
deriving DecidableEq, Repr

/-- A manifest entry (Table 7-8). -/
inductive MEntTy where
  | landed | landedP | lost | range | void
deriving DecidableEq, Repr

structure MEnt where
  gran : Nat
  loc : Nat
  stride : Bool
  ty : MEntTy
deriving DecidableEq, Repr

/-- A manifest page's data (Table 7-7). -/
structure ManPage where
  pageNo : Nat
  entries : List MEnt
  closing : Bool
  prevPage : Nat
  prevMan : Nat
  rootSeq : Nat
  nLanded : Nat
  nLost : Nat
  nPoisoned : Nat
  pages : Nat
  nNewUe : Nat
deriving DecidableEq, Repr

/-- A root page's data (Table 7-6), with the map image and block table its listed pages hold. -/
structure RootPage where
  rootSeq : Nat
  ceil : Nat
  manVer : Nat
  map : List (Nat × Nat)
  mapDflt : Nat
  opens : List Nat
  plan : List Nat
  lunFailed : List Nat
  retireBudget : Nat
  /-- SEG_LOC and BT_LOC: the page of each segment and of each block-table page -/
  segLoc : List (Nat × Nat)
  btLoc : List (Nat × Nat)
deriving DecidableEq, Repr

/-- A programmed NAND page (Table 7-3). -/
structure NPage where
  kind : Nat
  index : Nat
  ver : Nat
  crc : Nat
  lp : List Nat
  data : List Host.Cell
  man : Option ManPage
  root : Option RootPage
deriving DecidableEq, Repr

/-- Block states (Table 7-5). -/
inductive BlkSt where
  | free | opened | full | metaBlk | bad
deriving DecidableEq, Repr

structure Blk where
  st : BlkSt
  erases : Nat
  /-- lowest erased page -/
  next : Nat
  retiring : Bool
  /-- it has served as META since its last erase, so it is no copy block (R264) -/
  metaUse : Bool
deriving DecidableEq, Repr

/-- A slot of the staging table (R217). -/
structure Slot where
  page : Nat
  lost : Bool
  poison : Bool
  newUe : Bool
deriving DecidableEq, Repr

/-- Steps of an abandon in progress (R59). -/
inductive AbnStep where
  | none | finishing | journalling | powering | settling
deriving DecidableEq, Repr

/-- The burrow engine's own state (06). -/
structure BurrowSt where
  ctx : List (Nat × Ctx)
  /-- the burrow's version (R200) -/
  version : Nat
  /-- next granule and pass of the sweep (R208) -/
  pos : Nat
  pass : Nat
  /-- a ledger-doubt window was open at the fence -/
  doubt : Bool
  stopped : Bool
  handoff : List Nat
  staging : List (Nat × Slot)
  /-- staging lines, counted within the table, that P3 found uncorrectable (R219) -/
  slotsBad : List Nat
  /-- granules of a faulted ledger word that the sweep still takes (R210) -/
  faultTake : List Nat
  drained : Bool
  /-- channels whose DRAM rail or channel failed in this burrow -/
  dramBad : List Nat
  /-- the NAND rails that stopped P3, or the lamp die stopped (Table 6-5) -/
  noManifest : Bool
  lampDead : Bool
  /-- closing manifest page, when closed -/
  manLoc : Option Nat
  /-- manifest pages programmed by P3 -/
  manPages : List Nat
  /-- commit record written in P4 -/
  committed : Bool
  /-- orderly OFF requested (VX_HOST_BURROW TARGET) -/
  offReq : Bool
  /-- a trigger has qualified and the fence is awaited -/
  trig : Bool
  /-- triggers latched during an LRST (R71) or an abandon (R60) -/
  latched : List Cause
  /-- the sanitize was running at the trigger (R113) -/
  inSanitize : Bool
  /-- the burrow came from early service (R215) -/
  inRestore : Bool
  /-- fence stands: write path, commits and credits stopped (R200) -/
  fenced : Bool
  /-- sub-state of an abandon -/
  abn : AbnStep
  /-- ms of the abandons in the sliding window (R61) -/
  abnTimes : List Nat
  /-- pacing account in nJ (R223) and the last grant in 10 mW -/
  account : Int
  /-- E_avail at the fence, µJ -/
  eFence : Nat
  /-- ms at which P2, P3 and P4 began -/
  t2 : Nat
  t3 : Nat
  t4 : Nat
  /-- held version (R271) -/
  heldVer : Nat
  /-- ms at which the bridge window opened -/
  bridgeAt : Nat
  /-- latch clear remembered (R63) -/
  latchClr : Bool
  /-- the lamp logic is released after an LRST (Table 2-9) -/
  released : Bool
  /-- orphans that found 16 already listed, page and granule: that of a fence (R253), and those of lamp-die resets (log entry 115) -/
  voidExtra : List (Nat × Nat)
  /-- the writes that stood staged at an abandon are not all committed yet: the writes behind them wait (R24) -/
  regroup : Bool
deriving DecidableEq, Repr

/-- A checkpoint in progress: the meta pages still to be programmed as (KIND, INDEX), those landed, the map image it saves, and the changed segments
it took (R257, R258). -/
structure Ckpt where
  todo : List (Nat × Nat)
  segs : List (Nat × Nat)
  bts : List (Nat × Nat)
  map : List (Nat × Nat)
  mapDflt : Nat
  took : List (Nat × Nat)
  /-- the root page once it has landed (R257) -/
  root : Option Nat
deriving DecidableEq, Repr

/-- The NAND back end (07). -/
structure NandSt where
  pages : List (Nat × NPage)
  blocks : List (Nat × Blk)
  /-- the granule map: granule to page, `mapDflt` where it lists none (R240) -/
  map : List (Nat × Nat)
  mapDflt : Nat
  /-- granules whose map entry is unknown (R243) -/
  mapUnknown : List Nat
  /-- sealTbl table; an unlisted granule holds the CRC-32C of 16,384 zero bytes -/
  sealTbl : List (Nat × Nat)
  /-- translation cache: granules cached, most recently used first (R242) -/
  tcache : List Nat
  pErased : Nat
  metaErased : Nat
  epoch : Nat
  ceil : Nat
  plan : List Nat
  eraseQ : List Nat
  /-- blocks whose erase runs on its LUN's array -/
  erasing : List Nat
  /-- superseded locations that a burrow's copies handed to the back end, released once the burrow is committed (R212) -/
  superseded : List Nat
  orphans : List (Nat × Nat)
  refreshQ : List Nat
  /-- relocations waiting: granule and source page -/
  relocQ : List (Nat × Nat)
  /-- segments changed since their last segment page, with the ms of the change -/
  changed : List (Nat × Nat)
  ckpt : Option Ckpt
  /-- pages that were read and found unusable or erased (R237) -/
  unread : List Nat
  lastProgFail : List (Nat × Nat)
  badAtFirst : Nat
  /-- RETIRE_BUDGET, fixed at the first WAKE (R255, R264) -/
  budget : Option Nat
  /-- the block table has been read since the POR, and the map since the lamp logic came up: NB_WEAR and NB_CAP show figures (R16) -/
  lifeOn : Bool
  capOn : Bool
  /-- burrow or manifest pages kept live (R244) -/
  live : List Nat
deriving DecidableEq, Repr

/-- Result of selection for a granule (R278). -/
inductive Sel where
  | zero
  | lost
  | copy (loc : Nat)
deriving DecidableEq, Repr

/-- Restore (08). -/
structure RestoreSt where
  decided : Bool
  /-- `none` no barrier; `some none` infinite; `some (some v)` (R275) -/
  vbar : Option (Option Nat)
  /-- closing pages of the chain, oldest first -/
  chain : List Nat
  sel : List (Nat × Sel)
  /-- granules still to be fetched or verified -/
  todo : List Nat
  /-- early-service pending table (R287) -/
  pend : List Nat
  /-- granules that an access waits for, in the order of the accesses: their fetches go first (R288) -/
  prio : List Nat
  /-- LUNs whose background fetch in flight has ended since the first of their priority fetches waits (R288) -/
  ahead : List Nat
  refetched : Nat
  restored : Nat
  lost : Nat
  loaded : Bool
  /-- segments whose page was unusable (R281) -/
  badSegs : List Nat
  /-- ms of the wake event (DT_WAKE.RUN_MS) -/
  wakeAt : Nat
deriving DecidableEq, Repr

/-- Store, charger and power path (09), beyond the ES_ registers. -/
structure StoreSt where
  /-- audited capacitance per cell in mF, at the audit temperature -/
  cAud : List Nat
  /-- audited LTO capacity in 10 mAh -/
  qAud : Nat
  derates : Nat
  auditDue : Bool
  /-- ms of the last audit that passed -/
  lastPass : Nat
  /-- the store's first charge cycle has completed (R306) -/
  firstCycle : Bool
  /-- ms of input over-current openings within the window -/
  ocTimes : List Nat
  /-- a charge cycle is under way: it began and has not reached IDLE (R308, R312) -/
  cycle : Bool
  /-- the WARNING of the present NTC_STORE failure has been raised (R310) -/
  ntcSaid : Bool
  /-- current the balancer moves at, in mA (R301) -/
  balMa : Nat
  /-- ms of the last opening -/
  openAt : Nat
  /-- ms until which ACC_OUT stays off after an over-current -/
  accOff : Option Nat
  /-- the discharge of R311 runs -/
  discharging : Bool
  /-- a removal since the latch or failure -/
  removed : Bool
  /-- an absence or failure not yet answered by STORE_READY (R306) -/
  lossReported : Bool
  /-- input FETs: the last opening was an over-current; the over-current latch stands (R294) -/
  ocOpen : Bool
  infLatched : Bool
  /-- safety timer: progress in µs and wall time in ms of the charge cycle (R312) -/
  progUs : Nat
  wallMs : Nat
deriving DecidableEq, Repr

/-- Supervision (10), beyond the PS_ registers. -/
structure RailSt where
  /-- scan counts per output and warning level, 4 × index + 0 UV, 1 OV, 2 OC: scans crossed, scans inside (R335) -/
  warnCnt : List (Nat × (Nat × Nat))
  /-- raised warnings, by the same key -/
  warned : List Nat
  /-- outputs that have faulted since the last scan (R347) -/
  fresh : List Nat
  /-- a VSET change that slews: the old VSET in mV, and the tick 20 µs after its end (R327) -/
  slew : List (Nat × (Nat × Nat))
  /-- the debounce of a VIN return ended during a way down that has not yet ended (R68) -/
  back : Bool
  /-- latched faults -/
  latched : List Nat
  vinLowCnt : Nat × Nat
  xchk : Nat × Nat
  /-- attempts since the start of the sequence or re-arm, per entry -/
  tries : List (Nat × Nat)
  /-- tick at which an entry was switched on or off -/
  since : List (Nat × Nat)
  tick : Nat
  seqStart : Nat
  /-- ADC channel readings of the last scan -/
  adc : List Int
  /-- on-demand conversion requested -/
  adcReq : Bool
  /-- VIO_EXT present (R519) -/
  vioOk : Bool
  /-- target of a down sequence or of shed step 3: 0 none, 1 OFF, 2 DEN, 3 OFF in reverse order without DN_SLOT (R336, R359); while a shed
  step runs: 4 the P5 decision is WAKE, 5 the up sequence of an abandon follows (R358, R374) -/
  downTo : Nat
  /-- VIN came back during the down sequence (R68) -/
  rose : Bool
deriving DecidableEq, Repr

/-- An SPMI command frame (Table 11-4). -/
structure SpmiCmd where
  slave : Nat
  seq : Nat
  opcode : Nat
  target : Nat
  arg : Nat
  cls : Nat
  resends : Nat
  /-- MID of the sender -/
  src : Nat
deriving DecidableEq, Repr

/-- One bit of the frame's CRC-8, polynomial x^8 + x^2 + x + 1 (Table 11-4). -/
def crc8Bit (c : Nat) : Nat := if 128 ≤ c then (2 * c % 256) ^^^ 7 else 2 * c

/-- CHK over bytes, initial value 0. -/
def crc8 (l : List Byte) : Nat :=
  l.foldl (fun c b => (List.range 8).foldl (fun c _ => crc8Bit c) (c ^^^ b.toNat)) 0

/-- Bytes 0 to 6 of a command frame, and the whole of it (Table 11-4). -/
def SpmiCmd.body (q : SpmiCmd) : List Byte :=
  [q.seq, q.seq / 256, q.opcode, q.target, q.arg, q.arg / 256, q.src].map (BitVec.ofNat 8)
def SpmiCmd.frame (q : SpmiCmd) : List Byte := q.body ++ [BitVec.ofNat 8 (crc8 q.body)]

structure SpmiSt where
  queue : List SpmiCmd
  /-- sent and not acknowledged -/
  out : List SpmiCmd
  /-- last slave served, per class -/
  last : List (Nat × Nat)
  /-- failed probe reads, per slave -/
  probeFails : List (Nat × Nat)
  /-- the slave responder is powered (R373) -/
  awake : Bool
  /-- frames sent on the bus: slave and bytes, newest first -/
  sent : List (Nat × List Byte)
  /-- FLAGS and PG of the last status block read, per slave (Table 11-5) -/
  flags : List (Nat × Nat)
  pg : List (Nat × Nat)
deriving DecidableEq, Repr

/-- Thermal controller and arbiter (12), beyond their registers. -/
structure ThermSt where
  up : List (Nat × Bool)
  upCnt : List (Nat × Nat)
  dnCnt : List (Nat × Nat)
  lastChange : Option Nat
  /-- last reading, last good reading and failing sweeps per sensor -/
  prev : List (Nat × Int)
  good : List (Nat × Int)
  bad : List (Nat × Nat)
  grantDram : List Nat
  grantNand : List Nat
  grantAcc : Nat
  grantChg : Nat
  /-- last winner per class -/
  winner : List (Nat × Nat)
  /-- ms at which the thermal LOCKOUT entered OFF -/
  offAt : Nat
  /-- the last scan of R385 found the release temperature -/
  tempOk : Bool
deriving DecidableEq, Repr

/-- A mooring frame that this unit has sent: its type, its first parameter, and what its header carries (R399). -/
structure MFrame where
  ty : Nat
  par : Nat
  lseq : Nat
  /-- the last LSEQ received in order when it was formed -/
  lack : Nat
  cum : Nat
deriving DecidableEq, Repr

/-- Twin operation (13), beyond the TW_ registers. -/
structure TwinSt where
  /-- committed WSN on the active, known commit on the standby (R405) -/
  acc : Nat
  /-- acknowledged WSN (R404) -/
  apl : Nat
  /-- the last WSN this active has given to a write; none is given twice (log entry 79) -/
  wsn : Nat
  /-- standby: staged mirrored lines, WSN order -/
  mstaged : List Wr
  /-- standby: mirrored lines that wait for the ledger stage -/
  mwait : List Wr
  /-- discard MIRROR frames (own fence, R414) -/
  noAck : Bool
  fenceWsn : Nat
  /-- the partner's FENCE arrived before the link went down -/
  partnerFence : Bool
  /-- both units in RUN with the link up since the last WAKE -/
  paired : Bool
  /-- grace of R416 runs -/
  grace : Bool
  /-- standby waits for the active's FENCE (R415) -/
  fenceWait : Bool
  /-- held lines wait for the burrow outcome (R417) -/
  outcome : Bool
  /-- this unit abandoned a burrow since the last link-up (Table 13-11) -/
  ownAbandon : Bool
  /-- this active has burrowed and not yet told its partner the outcome (R417) -/
  burrowed : Bool
  /-- the link is held down: a pairing tag did not match, or one unit is solo (R395, Table 13-1) -/
  heldDown : Bool
  beat : Option BeatMsg
  inOwn : Option InputMsg
  inPartner : Option InputMsg
  inFresh : Bool
  wordOwn : BitVec 64
  wordPartner : Option (BitVec 64)
  /-- the last agreed word; on a follower the word it executes -/
  wordAgreed : BitVec 64
  /-- charger current cap of the word in force, in 10 mA (R409) -/
  chgCap : Option Nat
  mism : Nat
  selfTest : Bool
  touch : List Nat
  touchOk : Bool
  /-- granules between RSY_BEGIN and RSY_END, with the standby's line mask (R428) -/
  rsyMask : List (Nat × Nat)
  /-- active: granules still to copy -/
  rsyTodo : List Nat
  /-- standby: resynchronised lines that wait for cover, and a RSY_END behind them -/
  rsyPend : List (Nat × LineData)
  rsyDone : Bool
  learned : Nat
  /-- LSEQ of the next frame sent -/
  lseqTx : Nat
  /-- LSEQ of the next frame expected (R400) -/
  lseqRx : Nat
  /-- HELLO has resolved the roles since the link came up -/
  sawHello : Bool
  /-- switch-over in progress -/
  switching : Bool
  /-- the replay buffer: the last 64 frames sent since the link came up, newest first (R400) -/
  txf : List MFrame
deriving DecidableEq, Repr

/-- A keeper-flash sector (R449 to R463). -/
structure Sector where
  erases : Nat
  pending : Bool
  retired : Bool
  /-- the most pulses that a word program has needed since the last erase -/
  pulses : Nat
deriving DecidableEq, Repr

/-- Who runs a keeper-flash operation. -/
inductive FlashOwner where
  | keeper | lsa | host (p : Path)
deriving DecidableEq, Repr

structure FlashErase where
  sector : Nat
  owner : FlashOwner
  suspended : Bool
deriving DecidableEq, Repr

structure FlashProg where
  word : Nat
  value : BitVec 64
  owner : FlashOwner
  otp : Bool
deriving DecidableEq, Repr

/-- Keeper flash and journal (14). -/
structure KeeperSt where
  /-- array words by index; an unlisted word reads all ones (erased) -/
  words : List (Nat × BitVec 64)
  uncorr : List Nat
  sectors : List (Nat × Sector)
  /-- erases started and not ended, in order; the first of each plane is the one in progress -/
  erasing : List FlashErase
  /-- word programs of the command interface, likewise -/
  progs : List FlashProg
  /-- last path served in class 3 -/
  lastPath : Path
  recs : List JRec
  /-- records requested and not yet written, oldest first -/
  jq : List JPay
  nextSeq : Nat
  head : Nat
  slot : Nat
  start : Nat
  sinceStep : Nat
  fwVer0 : Nat
  fwVer1 : Nat
  /-- keeper core running -/
  up : Bool
  /-- STATE of Table 14-10 -/
  state : Nat
  /-- neither control copy was readable, or plane 1 failed its self-check, at the last KRST -/
  unusable : Bool
  /-- SSEQ of the open sector (R454) -/
  sseq : Nat
  /-- what the last hold-up left, as PS_KEEP.LAST codes it; 0 once a WAKE has found it (R344) -/
  hold : Nat
  /-- the keeper has stopped in a hold-up (R344) -/
  stopped : Bool
deriving DecidableEq, Repr

/-- Event recorder (15). -/
structure EventSt where
  queue : List EvRec
  ring : List (Nat × EvRec)
  arch : List (Nat × EvRec)
  /-- next event sequence number -/
  seq : Nat
  /-- a standby's own handle counter while its partner is not alive (R413) -/
  ownHandle : Nat
  /-- the occurrences numbered since the last control tick while both units log every event: true for the partner's (R413) -/
  srcs : List Bool
  lastSrc : EvSource
  /-- overflow flags of the four logs, by severity code -/
  ovf : List (Nat × Bool)
  /-- ms at which a freeze ended -/
  frzEnd : Option Nat
  /-- running clear: SEQ of its record and severity -/
  clearing : Option (Nat × Nat)
  /-- the ring waits for its reload at WAKE -/
  reload : Bool
  head : Nat
deriving DecidableEq, Repr

/-- The daymark in force (16). -/
structure DmkSt where
  inForce : Bool
  svcKey : Option Nat
  storeT : List (Nat × Nat)
  ltoOcv : List Nat
  /-- the last daymark read ended in LOCKOUT 0x01 to 0x03 (DT_DMK.PREV_LOCK) -/
  lockedLast : Bool
deriving DecidableEq, Repr

/-- The OTP row (Table 14-6). A blank word reads all ones and is listed as `none`. -/
structure OtpSt where
  serial : Nat
  part : Nat
  rev : Nat
  blMax : Nat
  fit : Nat
  dmkHash : List (Option Nat)
  moorKey : List (Option Nat)
  /-- manufacturing data and reserved words, by word index -/
  other : List (Nat × BitVec 64)
deriving DecidableEq, Repr

/-- State kept once for each access path (18, Access paths and locking). -/
structure PathSt where
  capEavail : Nat
  capAge : Nat
  capEdebt : Nat
  capEpoch : Nat
  capAcc : Nat
  capApl : Nat
  efOtp : Bool
  efAddr : Nat
  efLo : Nat
  efHi : Nat
  efErr : Nat
  efUndef : Bool
  efUncorr : Bool
  efCorr : Bool
  efDone : Bool
  /-- 0 locked, 1 first key written, 2 unlocked -/
  unlock : Nat
  rdTier : Bool
  rdSlot : Nat
  rdLoaded : Bool
  rdEmpty : Bool
  rdData : List Nat
deriving DecidableEq, Repr

/-- The pins the block reads. -/
structure PinSt where
  pfwN : Bool
  perstN : Bool
  serviceN : Bool
deriving DecidableEq, Repr

/-- The whole block. -/
structure State where
  mode : Mode
  phase : Phase
  /-- milliseconds of CLK_AON since POR -/
  ms : Nat
  /-- device timestamp in ns and whether it was set since POR (R110) -/
  tstamp : Nat
  tsSet : Bool
  regs : List (Nat × Nat)
  /-- CL fields written in service mode whose value is not yet in force, by the same key (R503, R540) -/
  written : List (Nat × Nat)
  otp : OtpSt
  pins : PinSt
  cxl : PathSt
  spmiP : PathSt
  host : HostSt
  cover : CoverSt
  dram : DramSt
  bur : BurrowSt
  nand : NandSt
  rst : RestoreSt
  store : StoreSt
  rail : RailSt
  spmi : SpmiSt
  therm : ThermSt
  twin : TwinSt
  keep : KeeperSt
  ev : EventSt
  dmk : DmkSt
  /-- the model's own counter of free values taken; no statement rests on it -/
  freeCount : Nat
  /-- commands waiting, first in, first out -/
  pending : List Instr
deriving DecidableEq, Repr

/-- One path's registers after reset (R442, R482, R159). -/
def PathSt.reset : PathSt :=
  { capEavail := 0, capAge := 0, capEdebt := 0, capEpoch := 0, capAcc := 0, capApl := 0, efOtp := false,
    efAddr := 0, efLo := 0, efHi := 0, efErr := 0, efUndef := false, efUncorr := false, efCorr := false,
    efDone := true, unlock := 0, rdTier := false, rdSlot := 0, rdLoaded := false, rdEmpty := false, rdData := [] }

def HostSt.reset : HostSt :=
  { ingress := [], stage := none, staged := [], reads := [], reqCredits := 0, nextSeq := 0, tx := [],
    mbox := ⟨0, 0, .none⟩, mboxBusy := none, lsaSet := none, clearSeq := 0, quiet := none, decoder := false, cdat := ⟨160, 110, 26 * 512, 24 * 512⟩,
    alert := ⟨none, none, none, none, none⟩,
    policy := [0, 0, 0, 0], auth := ⟨none, none, []⟩, lsa := [], lsaDirty := [], lsaDead := [], lsaOdd := [], sanitize := 0,
    corrections := 0, cwaitReport := none, lastDegraded := none, pacer := 32 * 256, rdata := 0 }

def CoverSt.reset : CoverSt :=
  { ledger := [], ledDflt := .clean, mirror := [], mirrorDflt := .clean, mirrorPend := [], nDirty := 0, eDebt := 0, eAvail := 0, eLimit := 0,
    eBridge := 0, eg := 0, doubtWriter := false, calCount := 0, calCtx := 0, calBase := none, target := none }

def SubCh.reset : SubCh :=
  { queue := [], waiting := [], lastSrc := [], lastCtx := [], retry := [], postponed := [], nref := [], raa := [], corr := [], doubled := false, replay := none }

def DramSt.reset : DramSt :=
  { cells := [], poison := [], wholeDflt := false, whole := [], cleared := [], wbuf := [], sub := [], lfsr := [], scrub := [], trained := false, rdOut := [], scrubAsked := [], wback := [],
    now := 0 }

def Ctx.idle : Ctx :=
  { st := .idle, kind := .none, gran := 0, page := 0, ver := 0, retgt := 0, poison := false, lostRec := false,
    lp := [], newUe := false, blk := none, sup := none, src := 0, age := 0, readAt := 0 }

def BurrowSt.reset : BurrowSt :=
  { ctx := [], version := 0, pos := 0, pass := 0, doubt := false, stopped := false, handoff := [], staging := [], slotsBad := [], faultTake := [],
    drained := false, dramBad := [], noManifest := false, lampDead := false, manLoc := none, manPages := [],
    committed := false, offReq := false, trig := false, latched := [], inSanitize := false, inRestore := false,
    fenced := false, abn := .none, abnTimes := [], account := 0, eFence := 0, t2 := 0, t3 := 0, t4 := 0,
    heldVer := 0, bridgeAt := 0, latchClr := false, released := false, voidExtra := [], regroup := false }

def NandSt.reset : NandSt :=
  { pages := [], blocks := [], map := [], mapDflt := 0xFFFFFFFF, mapUnknown := [], sealTbl := [], tcache := [], pErased := 0, metaErased := 0,
    epoch := 0, ceil := 0, plan := [], eraseQ := [], erasing := [], superseded := [], orphans := [], refreshQ := [], relocQ := [], changed := [],
    ckpt := none, unread := [], lastProgFail := [], badAtFirst := 0, budget := none, lifeOn := false, capOn := false, live := [] }

def RestoreSt.reset : RestoreSt :=
  { decided := false, vbar := none, chain := [], sel := [], todo := [], pend := [], prio := [], ahead := [], refetched := 0, restored := 0,
    lost := 0, loaded := false, badSegs := [], wakeAt := 0 }

def StoreSt.reset : StoreSt :=
  { cAud := [], qAud := 0, derates := 0, auditDue := false, lastPass := 0, firstCycle := false, ocTimes := [],
    cycle := false, ntcSaid := false, balMa := 0,
    openAt := 0, accOff := none, discharging := false, removed := false, lossReported := false, ocOpen := false,
    infLatched := false, progUs := 0, wallMs := 0 }

def RailSt.reset : RailSt :=
  { warnCnt := [], warned := [], fresh := [], slew := [], back := false, latched := [], vinLowCnt := (0, 0), xchk := (0, 0), tries := [], since := [],
    tick := 0, seqStart := 0, adc := [], adcReq := false, vioOk := true, downTo := 0, rose := false }

def SpmiSt.reset : SpmiSt :=
  { queue := [], out := [], last := [], probeFails := [], awake := false, sent := [], flags := [], pg := [] }

def ThermSt.reset : ThermSt :=
  { up := [], upCnt := [], dnCnt := [], lastChange := none, prev := [], good := [], bad := [], grantDram := [0, 0],
    grantNand := [0, 0, 0, 0, 0, 0, 0, 0], grantAcc := 0, grantChg := 0, winner := [], offAt := 0, tempOk := false }

def TwinSt.reset : TwinSt :=
  { acc := 0, apl := 0, wsn := 0, mstaged := [], mwait := [], noAck := false, fenceWsn := 0,
    partnerFence := false, paired := false, grace := false, fenceWait := false, outcome := false, ownAbandon := false,
    burrowed := false, heldDown := false,
    beat := none, inOwn := none, inPartner := none, inFresh := false, wordOwn := 0, wordPartner := none,
    wordAgreed := 0, chgCap := none, mism := 0, selfTest := false, touch := [], touchOk := false, rsyMask := [], rsyTodo := [],
    rsyPend := [], rsyDone := false,
    learned := 0, lseqTx := 0, lseqRx := 0, sawHello := false,
    switching := false, txf := [] }

def KeeperSt.reset : KeeperSt :=
  { words := [], uncorr := [], sectors := [], erasing := [], progs := [], lastPath := .spmi, recs := [], jq := [],
    nextSeq := 1, head := 256, slot := 0, start := 256, sinceStep := 0, fwVer0 := 0, fwVer1 := 0, up := false,
    state := 0, unusable := false, sseq := 0, hold := 0, stopped := false }

def EventSt.reset : EventSt :=
  { queue := [], ring := [], arch := [], seq := 0, ownHandle := 0, srcs := [], lastSrc := .partner, ovf := [], frzEnd := none, clearing := none,
    reload := true, head := 0 }

def DmkSt.reset : DmkSt :=
  { inForce := false, svcKey := none, storeT := [], ltoOcv := [], lockedLast := false }

/-- The OTP row of a VX8460 as it leaves Denroale (DESIGN CHOICE, log entry 5). -/
def OtpSt.reset : OtpSt :=
  { serial := 0, part := 0x8460, rev := 1, blMax := 1, fit := 0x460C810F, dmkHash := [none, none, none, none],
    moorKey := [none, none], other := [] }

/-- The block right after its power-on reset, before the commands that follow it (R16, R538): OFF, nothing held. -/
def State.reset : State :=
  { mode := .off, phase := .none, ms := 0, tstamp := 0, tsSet := false, regs := [], written := [], otp := .reset,
    pins := ⟨true, true, true⟩, cxl := .reset, spmiP := .reset, host := .reset, cover := .reset, dram := .reset,
    bur := .reset, nand := .reset, rst := .reset, store := .reset, rail := .reset, spmi := .reset, therm := .reset,
    twin := .reset, keep := .reset, ev := .reset, dmk := .reset, freeCount := 0, pending := [] }

end Sys2Proof.Machine
end

