-- ==== Sys2Proof/Machine/Map.lean ====
section
/-! DEFINITION. Sparse maps in one canonical form (keys strictly rising), and what a field of a register is. -/

namespace Sys2Proof.Machine

/-- The value listed for a key. -/
def mfind {α : Type} (k : Nat) : List (Nat × α) → Option α
  | [] => none
  | (a, v) :: t => if a = k then some v else mfind k t

/-- The value of a key, `d` where the map lists none. -/
def mget {α : Type} (d : α) (m : List (Nat × α)) (k : Nat) : α := (mfind k m).getD d

/-- The map without a key. -/
def mdel {α : Type} (k : Nat) (m : List (Nat × α)) : List (Nat × α) := m.filter (fun p => p.1 != k)

/-- Insert before the first greater key. -/
def mins {α : Type} (k : Nat) (v : α) : List (Nat × α) → List (Nat × α)
  | [] => [(k, v)]
  | (a, w) :: t => if k < a then (k, v) :: (a, w) :: t else (a, w) :: mins k v t

/-- Set a key. -/
def mset {α : Type} (k : Nat) (v : α) (m : List (Nat × α)) : List (Nat × α) := mins k v (mdel k m)

/-- Set a key, keeping no entry that equals what an unlisted key reads as. -/
def msetD {α : Type} [DecidableEq α] (d : α) (k : Nat) (v : α) (m : List (Nat × α)) : List (Nat × α) :=
  if v = d then mdel k m else mset k v m

/-- Change the value of a key, starting from `d` where the map lists none. -/
def mupd {α : Type} (d : α) (k : Nat) (f : α → α) (m : List (Nat × α)) : List (Nat × α) :=
  mset k (f (mget d m k)) m

/-- Add an element to a list that stands for a set. -/
def sadd (k : Nat) (l : List Nat) : List Nat := if l.contains k then l else l ++ [k]

/-- Remove an element from a list that stands for a set. -/
def sdel (k : Nat) (l : List Nat) : List Nat := l.filter (· != k)

/-- Insert by key, before the first greater key. -/
def kins {α : Type} (key : α → Nat) (x : α) : List α → List α
  | [] => [x]
  | y :: t => if key x < key y then x :: y :: t else y :: kins key x t

/-- A list in ascending order of a key; equal keys keep their order. -/
def ksort {α : Type} (key : α → Nat) (l : List α) : List α := l.foldl (fun acc x => kins key x acc) []

/-- Access codes (R12, R13). -/
inductive Acc where
  | ro | rw | cl | wo | rc | w1c
deriving DecidableEq, Repr

/-- Reset classes (R16). -/
inductive RCls where
  | por | krst | lrst | link
deriving DecidableEq, Repr

def RCls.code : RCls → Nat
  | .por => 0 | .krst => 1 | .lrst => 2 | .link => 3

/-- A field of a register: offset, lowest bit, width, reset value, access code and reset class. -/
structure Fld where
  off : Nat
  lo : Nat
  w : Nat
  rst : Nat
  acc : Acc
  cls : RCls
deriving DecidableEq, Repr

/-- The key of a field in `State.regs`; its low two bits are the reset class. -/
def Fld.key (f : Fld) : Nat := f.off * 128 + f.lo * 4 + f.cls.code

/-- The stored value of a field, within its width: its reset value until something sets it. -/
def State.getF (s : State) (f : Fld) : Nat := mget f.rst s.regs f.key % 2 ^ f.w

/-- A one-bit field. -/
def State.getB (s : State) (f : Fld) : Bool := s.getF f != 0

/-- Set fields in order; a value is cut to the field's width. -/
def setRegs : List (Fld × Nat) → List (Nat × Nat) → List (Nat × Nat)
  | [], m => m
  | (f, v) :: t, m => setRegs t (mset f.key (v % 2 ^ f.w) m)

def State.setF (s : State) (f : Fld) (v : Nat) : State :=
  { s with regs := mset f.key (v % 2 ^ f.w) s.regs }

def State.setFs (s : State) (l : List (Fld × Nat)) : State := { s with regs := setRegs l s.regs }

/-- A Boolean as a bit. -/
def b2n (b : Bool) : Nat := if b then 1 else 0

def State.setB (s : State) (f : Fld) (b : Bool) : State := s.setF f (b2n b)

/-- Add to a field that saturates at its greatest value. -/
def State.addSat (s : State) (f : Fld) (n : Nat) : State := s.setF f (min (2 ^ f.w - 1) (s.getF f + n))

/-- Add to a field that wraps. -/
def State.addWrap (s : State) (f : Fld) (n : Nat) : State := s.setF f (s.getF f + n)

/-- Written fields whose keys satisfy a test come into force (R540). -/
def State.comeInto (s : State) (p : Nat → Bool) : State :=
  if s.written.isEmpty then s
  else { s with
    regs := (s.written.filter (fun x => p x.1)).foldl (fun m x => mset x.1 x.2 m) s.regs
    written := s.written.filter (fun x => !p x.1) }

/-- The register block, and the offset, of a field's key. -/
def keyBlock (k : Nat) : Nat := k / 524288
def keyOff (k : Nat) : Nat := k / 128

/-- Written fields of a block come into force. -/
def State.blockForce (s : State) (b : Nat) : State := s.comeInto (fun k => keyBlock k == b)

/-- A two's complement field of width w as an integer. -/
def signed (w v : Nat) : Int := if v < 2 ^ (w - 1) then v else (v : Int) - 2 ^ w

/-- An integer as a two's complement field of width w. -/
def toField (w : Nat) (v : Int) : Nat := (v % (2 ^ w : Int)).toNat

def State.getS (s : State) (f : Fld) : Int := signed f.w (s.getF f)

/-- Reset every field of a class to its reset value (R16). -/
def State.resetClass (s : State) (c : RCls) : State :=
  { s with regs := s.regs.filter (fun p => p.1 % 4 != c.code) }

end Sys2Proof.Machine
end

