-- ==== Sys2Proof/Machine/Regs.lean ====
section
/-! DEFINITION. The fields of the register tables of spec/ (02 to 16), with the reset value, the access code and the reset class
that the tables give them (R10 to R16). An indexed register is a function of its index. -/

namespace Sys2Proof.Machine.Reg

def MD_STATUS_RSTR_FORM : Fld := ⟨0x1000, 14, 2, 0, .ro, .por⟩
def MD_STATUS_THERM_LATCH : Fld := ⟨0x1000, 13, 1, 0, .ro, .por⟩
def MD_STATUS_LRST_ACT : Fld := ⟨0x1000, 12, 1, 0, .ro, .por⟩
def MD_STATUS_NOABANDON : Fld := ⟨0x1000, 11, 1, 0, .ro, .por⟩
def MD_STATUS_SERVICE : Fld := ⟨0x1000, 10, 1, 0, .ro, .por⟩
def MD_STATUS_DRAM_HELD : Fld := ⟨0x1000, 9, 1, 0, .ro, .por⟩
def MD_STATUS_MEDIA_READY : Fld := ⟨0x1000, 8, 1, 0, .ro, .por⟩
def MD_STATUS_BRIDGE : Fld := ⟨0x1000, 7, 1, 0, .ro, .por⟩
def MD_STATUS_PHASE : Fld := ⟨0x1000, 4, 3, 7, .ro, .por⟩
def MD_STATUS_LOCKOUT : Fld := ⟨0x1000, 3, 1, 0, .ro, .por⟩
def MD_STATUS_MODE : Fld := ⟨0x1000, 0, 3, 0, .ro, .por⟩

def MD_CAUSE_BURROW_COUNT : Fld := ⟨0x1004, 16, 16, 0, .ro, .por⟩
def MD_CAUSE_CAUSES : Fld := ⟨0x1004, 0, 10, 0, .ro, .por⟩

def MD_LOCKOUT_ALL : Fld := ⟨0x1008, 16, 9, 0, .ro, .por⟩
def MD_LOCKOUT_RAIL : Fld := ⟨0x1008, 8, 8, 0, .ro, .por⟩
def MD_LOCKOUT_REASON : Fld := ⟨0x1008, 0, 8, 0, .ro, .por⟩

def MD_CFG_EARLY_EN : Fld := ⟨0x100C, 28, 1, 0, .cl, .por⟩
def MD_CFG_DEN_EN : Fld := ⟨0x100C, 27, 1, 1, .cl, .por⟩
def MD_CFG_WAKE_ON_RET : Fld := ⟨0x100C, 26, 1, 1, .cl, .por⟩
def MD_CFG_ABN_DBNC_MS : Fld := ⟨0x100C, 19, 7, 10, .cl, .por⟩
def MD_CFG_BRIDGE_MS : Fld := ⟨0x100C, 13, 6, 0, .cl, .por⟩
def MD_CFG_PFW_EN : Fld := ⟨0x100C, 12, 1, 1, .cl, .por⟩
def MD_CFG_T_PRED : Fld := ⟨0x100C, 7, 5, 4, .cl, .por⟩
def MD_CFG_PRED_EN : Fld := ⟨0x100C, 6, 1, 1, .cl, .por⟩
def MD_CFG_PF_DGL : Fld := ⟨0x100C, 0, 6, 10, .cl, .por⟩

def MD_CTRL_WAKE_REQ : Fld := ⟨0x1010, 1, 1, 0, .wo, .por⟩
def MD_CTRL_LATCH_CLR : Fld := ⟨0x1010, 0, 1, 0, .wo, .por⟩

def MD_ABANDON_ABN_TOTAL : Fld := ⟨0x1014, 16, 16, 0, .ro, .por⟩
def MD_ABANDON_FORCE_NEXT : Fld := ⟨0x1014, 2, 1, 0, .ro, .por⟩
def MD_ABANDON_RECENT : Fld := ⟨0x1014, 0, 2, 0, .ro, .por⟩

def MD_LAST_TRANS_SEQ : Fld := ⟨0x1018, 16, 16, 0, .ro, .por⟩
def MD_LAST_TO : Fld := ⟨0x1018, 3, 3, 0, .ro, .por⟩
def MD_LAST_FROM : Fld := ⟨0x1018, 0, 3, 0, .ro, .por⟩

def MD_ENTRY_MS_ENTRY_MS : Fld := ⟨0x101C, 0, 32, 0, .ro, .por⟩

def HL_STATUS_ROLE : Fld := ⟨0x2000, 28, 2, 0, .ro, .por⟩
def HL_STATUS_CXL_VER : Fld := ⟨0x2000, 26, 2, 0, .ro, .link⟩
def HL_STATUS_CREDITS_OPEN : Fld := ⟨0x2000, 25, 1, 0, .ro, .link⟩
def HL_STATUS_LINK_UP : Fld := ⟨0x2000, 24, 1, 0, .ro, .link⟩
def HL_STATUS_LTSSM : Fld := ⟨0x2000, 16, 8, 0, .ro, .link⟩
def HL_STATUS_WIDTH : Fld := ⟨0x2000, 8, 4, 0, .ro, .link⟩
def HL_STATUS_SPEED : Fld := ⟨0x2000, 4, 4, 0, .ro, .link⟩

def HL_CFG_L1_EN : Fld := ⟨0x2004, 8, 1, 1, .cl, .por⟩
def HL_CFG_MAX_WIDTH : Fld := ⟨0x2004, 4, 4, 8, .cl, .por⟩
def HL_CFG_MAX_SPEED : Fld := ⟨0x2004, 0, 4, 5, .cl, .por⟩

def HL_CREDIT_HELD_LAST : Fld := ⟨0x2008, 18, 9, 0, .ro, .por⟩
def HL_CREDIT_OCCUPIED : Fld := ⟨0x2008, 9, 9, 0, .ro, .link⟩
def HL_CREDIT_HOST_RWD : Fld := ⟨0x2008, 0, 9, 0, .ro, .link⟩

def HL_LAT_MAX_RD_NS : Fld := ⟨0x200C, 16, 16, 0, .rc, .link⟩
def HL_LAT_MAX_WR_NS : Fld := ⟨0x200C, 0, 16, 0, .rc, .link⟩

def HL_ERR_DOWN : Fld := ⟨0x2010, 24, 8, 0, .rc, .por⟩
def HL_ERR_RETRAIN : Fld := ⟨0x2010, 16, 8, 0, .rc, .por⟩
def HL_ERR_CRC_ERR : Fld := ⟨0x2010, 0, 16, 0, .rc, .por⟩

def HL_DSC_DSC : Fld := ⟨0x2014, 0, 32, 0, .ro, .por⟩

def HL_SHUTDOWN_SELF_CLEAN : Fld := ⟨0x2018, 1, 1, 0, .ro, .por⟩
def HL_SHUTDOWN_DIRTY : Fld := ⟨0x2018, 0, 1, 0, .ro, .por⟩

def HL_POISON_COUNT : Fld := ⟨0x201C, 0, 32, 0, .ro, .por⟩

def HL_AUTH_TICKET_MS : Fld := ⟨0x2020, 16, 16, 0, .ro, .link⟩
def HL_AUTH_REFUSING : Fld := ⟨0x2020, 9, 1, 0, .ro, .krst⟩
def HL_AUTH_CHAL_OPEN : Fld := ⟨0x2020, 8, 1, 0, .ro, .link⟩
def HL_AUTH_FAILS : Fld := ⟨0x2020, 4, 4, 0, .ro, .krst⟩
def HL_AUTH_TICKET : Fld := ⟨0x2020, 3, 1, 0, .ro, .link⟩
def HL_AUTH_PURPOSE : Fld := ⟨0x2020, 0, 3, 0, .ro, .link⟩

def HL_MBOX_RET_CODE : Fld := ⟨0x2024, 16, 16, 0, .ro, .link⟩
def HL_MBOX_OPCODE : Fld := ⟨0x2024, 0, 16, 0, .ro, .link⟩

def LG_STATUS_CLEAN_ALL : Fld := ⟨0x3000, 11, 1, 0, .ro, .lrst⟩
def LG_STATUS_TRK_MODE : Fld := ⟨0x3000, 9, 2, 0, .ro, .lrst⟩
def LG_STATUS_STALE : Fld := ⟨0x3000, 8, 1, 0, .ro, .lrst⟩
def LG_STATUS_SHORTFALL : Fld := ⟨0x3000, 7, 1, 0, .ro, .lrst⟩
def LG_STATUS_DOUBT : Fld := ⟨0x3000, 6, 1, 0, .ro, .por⟩
def LG_STATUS_WT : Fld := ⟨0x3000, 5, 1, 0, .ro, .lrst⟩
def LG_STATUS_CWAIT : Fld := ⟨0x3000, 4, 1, 0, .ro, .lrst⟩
def LG_STATUS_L_SHORT : Fld := ⟨0x3000, 3, 1, 0, .ro, .lrst⟩
def LG_STATUS_E_SHORT : Fld := ⟨0x3000, 2, 1, 0, .ro, .lrst⟩
def LG_STATUS_STATE : Fld := ⟨0x3000, 0, 2, 0, .ro, .lrst⟩

def LG_CFG_CAL_EN : Fld := ⟨0x3004, 24, 1, 1, .cl, .por⟩
def LG_CFG_CWAIT_US : Fld := ⟨0x3004, 16, 8, 50, .cl, .por⟩
def LG_CFG_MARGIN : Fld := ⟨0x3004, 0, 10, 200, .cl, .por⟩

def LG_EFIXED_P_BASE : Fld := ⟨0x3008, 16, 16, 320, .cl, .por⟩
def LG_EFIXED_E_FIXED_MJ : Fld := ⟨0x3008, 0, 16, 4000, .cl, .por⟩

def LG_BRIDGE_P_BRIDGE : Fld := ⟨0x300C, 0, 16, 1500, .cl, .por⟩

def LG_EGCFG_EG_INC_MIN : Fld := ⟨0x3010, 16, 16, 17000, .cl, .por⟩
def LG_EGCFG_EG_INC25_INIT : Fld := ⟨0x3010, 0, 16, 22200, .cl, .por⟩

def LG_EGTEMP_K_150 : Fld := ⟨0x3014, 24, 8, 112, .cl, .por⟩
def LG_EGTEMP_K_85 : Fld := ⟨0x3014, 16, 8, 104, .cl, .por⟩
def LG_EGTEMP_K_0 : Fld := ⟨0x3014, 8, 8, 105, .cl, .por⟩
def LG_EGTEMP_K_M40 : Fld := ⟨0x3014, 0, 8, 115, .cl, .por⟩

def LG_EG_EG_T_NJ : Fld := ⟨0x3018, 16, 16, 0, .ro, .por⟩
def LG_EG_EG_INC25 : Fld := ⟨0x3018, 0, 16, 0, .ro, .por⟩

def LG_EAVAIL_LO_EAVAIL : Fld := ⟨0x301C, 0, 32, 0, .ro, .por⟩

def LG_EAVAIL_HI_AGE_US : Fld := ⟨0x3020, 16, 16, 0, .ro, .por⟩
def LG_EAVAIL_HI_EAVAIL : Fld := ⟨0x3020, 0, 16, 0, .ro, .por⟩

def LG_EDEBT_LO_EDEBT : Fld := ⟨0x3024, 0, 32, 0, .ro, .lrst⟩

def LG_EDEBT_HI_EDEBT : Fld := ⟨0x3028, 0, 16, 0, .ro, .lrst⟩

def LG_EBRIDGE_EBRIDGE : Fld := ⟨0x302C, 0, 32, 0, .ro, .por⟩

def LG_NDIRTY_NDIRTY : Fld := ⟨0x3030, 0, 23, 0, .ro, .por⟩

def LG_NMAX_NMAX : Fld := ⟨0x3034, 0, 23, 0, .ro, .lrst⟩

def LG_RESERVE_PERASED : Fld := ⟨0x3038, 0, 28, 0, .ro, .lrst⟩

def LG_RNEED_NEED : Fld := ⟨0x303C, 0, 23, 65, .ro, .lrst⟩

def LG_TRICKLE_TRK_FULL : Fld := ⟨0x3040, 16, 7, 95, .cl, .por⟩
def LG_TRICKLE_TRK_OFF : Fld := ⟨0x3040, 8, 7, 70, .cl, .por⟩
def LG_TRICKLE_TRK_ON : Fld := ⟨0x3040, 0, 7, 80, .cl, .por⟩

def LG_TRKCTX_MIN_AGE : Fld := ⟨0x3044, 16, 2, 1, .cl, .por⟩
def LG_TRKCTX_BG_CTX : Fld := ⟨0x3044, 8, 8, 16, .cl, .por⟩
def LG_TRKCTX_MAX_CTX : Fld := ⟨0x3044, 0, 8, 64, .cl, .por⟩

def LG_TRKSTAT_IN_FLIGHT : Fld := ⟨0x3048, 24, 8, 0, .ro, .lrst⟩
def LG_TRKSTAT_HAND : Fld := ⟨0x3048, 0, 23, 0, .ro, .por⟩

def LG_CWAIT_CNT_CWAIT_COUNT : Fld := ⟨0x304C, 0, 32, 0, .ro, .por⟩

def LG_WT_CNT_WT_COUNT : Fld := ⟨0x3050, 0, 32, 0, .ro, .por⟩

def LG_PARITY_COUNT : Fld := ⟨0x3054, 24, 8, 0, .rc, .por⟩
def LG_PARITY_ADDR : Fld := ⟨0x3054, 0, 18, 0, .ro, .por⟩

def LG_CTRL_STOP_CLEAN_ALL : Fld := ⟨0x3058, 2, 1, 0, .wo, .por⟩
def LG_CTRL_REBASE : Fld := ⟨0x3058, 1, 1, 0, .wo, .por⟩
def LG_CTRL_CLEAN_ALL : Fld := ⟨0x3058, 0, 1, 0, .wo, .por⟩

def DC_CFG_RFM_EN : Fld := ⟨0x4000, 15, 1, 0, .cl, .por⟩
def DC_CFG_REFSB_EN : Fld := ⟨0x4000, 14, 1, 0, .cl, .por⟩
def DC_CFG_SR_IDLE_EN : Fld := ⟨0x4000, 13, 1, 0, .cl, .por⟩
def DC_CFG_CH_EN : Fld := ⟨0x4000, 8, 2, 3, .cl, .por⟩
def DC_CFG_RANKS : Fld := ⟨0x4000, 7, 1, 0, .cl, .por⟩
def DC_CFG_DENSITY : Fld := ⟨0x4000, 5, 2, 2, .cl, .por⟩
def DC_CFG_SPEED : Fld := ⟨0x4000, 0, 4, 8, .cl, .por⟩

def DC_STATUS_HOLD : Fld := ⟨0x4004, 15, 1, 0, .ro, .por⟩
def DC_STATUS_CH1_STATE : Fld := ⟨0x4004, 4, 4, 0, .ro, .por⟩
def DC_STATUS_CH0_STATE : Fld := ⟨0x4004, 0, 4, 0, .ro, .por⟩

def DC_XOR_MASK (n : Nat) : Fld := ⟨0x4008 + 4 * n, 0, 32, 0, .cl, .por⟩

def DC_ADJ_ADJ_EN : Fld := ⟨0x401C, 31, 1, 0, .cl, .por⟩
def DC_ADJ_ADJ_SRC : Fld := ⟨0x401C, 24, 5, 0, .cl, .por⟩
def DC_ADJ_ADJ_MASK : Fld := ⟨0x401C, 0, 17, 0, .cl, .por⟩

def DC_NREF_NREF_EN : Fld := ⟨0x4020, 15, 1, 1, .cl, .por⟩
def DC_NREF_NREF_K : Fld := ⟨0x4020, 0, 5, 10, .cl, .por⟩

def DC_TIMING_SR_IDLE_US : Fld := ⟨0x4024, 16, 16, 100, .cl, .por⟩
def DC_TIMING_PAR_WIN_NS : Fld := ⟨0x4024, 8, 8, 40, .cl, .por⟩
def DC_TIMING_RETRAIN_MS : Fld := ⟨0x4024, 0, 8, 16, .cl, .por⟩

def DC_ECCCFG_SCRUB_H : Fld := ⟨0x4028, 8, 8, 24, .cl, .por⟩
def DC_ECCCFG_DEV_THRESH : Fld := ⟨0x4028, 0, 8, 64, .cl, .por⟩

def DC_ERR_UE_COUNT (n : Nat) : Fld := ⟨0x4400 + 1024 * n, 16, 16, 0, .rc, .lrst⟩
def DC_ERR_CE_COUNT (n : Nat) : Fld := ⟨0x4400 + 1024 * n, 0, 16, 0, .rc, .lrst⟩

def DC_DEVFAIL_DEVICES (n : Nat) : Fld := ⟨0x4404 + 1024 * n, 0, 16, 0, .ro, .por⟩

def DC_REPLAY_REPLAYS (n : Nat) : Fld := ⟨0x4408 + 1024 * n, 16, 16, 0, .rc, .lrst⟩
def DC_REPLAY_FAILED (n : Nat) : Fld := ⟨0x4408 + 1024 * n, 15, 1, 0, .ro, .por⟩
def DC_REPLAY_LAST_LEN (n : Nat) : Fld := ⟨0x4408 + 1024 * n, 0, 8, 0, .ro, .lrst⟩

def DC_UEADDR_LA (n : Nat) : Fld := ⟨0x440C + 1024 * n, 0, 32, 0, .ro, .lrst⟩

def DC_MAINT_NREF_COUNT (n : Nat) : Fld := ⟨0x4410 + 1024 * n, 16, 16, 0, .rc, .lrst⟩
def DC_MAINT_RETRAIN_COUNT (n : Nat) : Fld := ⟨0x4410 + 1024 * n, 8, 8, 0, .rc, .lrst⟩
def DC_MAINT_FORCED (n : Nat) : Fld := ⟨0x4410 + 1024 * n, 0, 8, 0, .rc, .lrst⟩

def BE_STATUS_ESTOP : Fld := ⟨0x5000, 11, 1, 0, .ro, .por⟩
def BE_STATUS_P1_LATE : Fld := ⟨0x5000, 10, 1, 0, .ro, .por⟩
def BE_STATUS_DEFERRED : Fld := ⟨0x5000, 9, 1, 0, .ro, .por⟩
def BE_STATUS_MAN_CLOSED : Fld := ⟨0x5000, 8, 1, 0, .ro, .por⟩
def BE_STATUS_ABANDONING : Fld := ⟨0x5000, 7, 1, 0, .ro, .por⟩
def BE_STATUS_HANDOFF : Fld := ⟨0x5000, 6, 1, 0, .ro, .por⟩
def BE_STATUS_ACTIVE : Fld := ⟨0x5000, 5, 1, 0, .ro, .por⟩
def BE_STATUS_SHED : Fld := ⟨0x5000, 0, 4, 15, .ro, .por⟩

def BE_CFG_EP_NJ : Fld := ⟨0x5004, 16, 16, 21500, .cl, .por⟩
def BE_CFG_LINK_HOLD : Fld := ⟨0x5004, 0, 1, 1, .cl, .por⟩

def BE_TMO_P2_100MS : Fld := ⟨0x5008, 24, 8, 200, .cl, .por⟩
def BE_TMO_P3_MS : Fld := ⟨0x5008, 16, 8, 100, .cl, .por⟩
def BE_TMO_P4_MS : Fld := ⟨0x5008, 8, 8, 20, .cl, .por⟩
def BE_TMO_P1_US : Fld := ⟨0x5008, 0, 8, 10, .cl, .por⟩

def BE_TAKEN_TAKEN : Fld := ⟨0x500C, 0, 23, 0, .ro, .por⟩

def BE_LANDED_LANDED : Fld := ⟨0x5010, 0, 23, 0, .ro, .por⟩

def BE_LOST_LOST : Fld := ⟨0x5014, 0, 23, 0, .ro, .por⟩

def BE_POISONED_POISONED : Fld := ⟨0x5018, 0, 23, 0, .ro, .por⟩

def BE_FAULTS_RETARGETS : Fld := ⟨0x501C, 16, 16, 0, .ro, .por⟩
def BE_FAULTS_BLK_RETIRED : Fld := ⟨0x501C, 8, 8, 0, .ro, .por⟩
def BE_FAULTS_LUN_FAILED : Fld := ⟨0x501C, 0, 8, 0, .ro, .por⟩

def BE_TIME_T_FENCE_NS : Fld := ⟨0x5020, 24, 8, 0, .ro, .por⟩
def BE_TIME_T_FIRST_NS : Fld := ⟨0x5020, 12, 12, 0, .ro, .por⟩

def BE_DUR_P2_MS : Fld := ⟨0x5024, 16, 16, 0, .ro, .por⟩
def BE_DUR_P3_MS : Fld := ⟨0x5024, 8, 8, 0, .ro, .por⟩
def BE_DUR_P4_MS : Fld := ⟨0x5024, 0, 8, 0, .ro, .por⟩

def BE_ENERGY_E_FENCE : Fld := ⟨0x5028, 16, 16, 0, .ro, .por⟩
def BE_ENERGY_E_SPENT : Fld := ⟨0x5028, 0, 16, 0, .ro, .por⟩

def BE_CTX_IN_FLIGHT : Fld := ⟨0x502C, 18, 9, 0, .ro, .lrst⟩
def BE_CTX_ARMED : Fld := ⟨0x502C, 9, 9, 0, .ro, .lrst⟩
def BE_CTX_IDLE : Fld := ⟨0x502C, 0, 9, 256, .ro, .lrst⟩

def BE_GRANT_GRANT : Fld := ⟨0x5030, 16, 16, 0, .ro, .lrst⟩
def BE_GRANT_PROG_NOW : Fld := ⟨0x5030, 0, 9, 0, .ro, .lrst⟩

def BC_CTL_VER_HI (n : Nat) : Fld := ⟨0x6000 + 16 * n, 16, 16, 0, .ro, .lrst⟩
def BC_CTL_POISON (n : Nat) : Fld := ⟨0x6000 + 16 * n, 15, 1, 0, .ro, .lrst⟩
def BC_CTL_LOSTREC (n : Nat) : Fld := ⟨0x6000 + 16 * n, 14, 1, 0, .ro, .lrst⟩
def BC_CTL_RETGT (n : Nat) : Fld := ⟨0x6000 + 16 * n, 11, 3, 0, .ro, .lrst⟩
def BC_CTL_KIND (n : Nat) : Fld := ⟨0x6000 + 16 * n, 8, 2, 0, .ro, .lrst⟩
def BC_CTL_STATE (n : Nat) : Fld := ⟨0x6000 + 16 * n, 0, 4, 0, .ro, .lrst⟩

def BC_GRAN_GRANULE (n : Nat) : Fld := ⟨0x6004 + 16 * n, 0, 23, 0, .ro, .lrst⟩

def BC_PAGE_CH (n : Nat) : Fld := ⟨0x6008 + 16 * n, 29, 3, 0, .ro, .lrst⟩
def BC_PAGE_CE (n : Nat) : Fld := ⟨0x6008 + 16 * n, 27, 2, 0, .ro, .lrst⟩
def BC_PAGE_LUN (n : Nat) : Fld := ⟨0x6008 + 16 * n, 26, 1, 0, .ro, .lrst⟩
def BC_PAGE_BLOCK (n : Nat) : Fld := ⟨0x6008 + 16 * n, 10, 16, 0, .ro, .lrst⟩
def BC_PAGE_PAGE (n : Nat) : Fld := ⟨0x6008 + 16 * n, 0, 10, 0, .ro, .lrst⟩

def BC_VER_VER_LO (n : Nat) : Fld := ⟨0x600C + 16 * n, 0, 32, 0, .ro, .lrst⟩

def NB_STATUS_EA_MODE : Fld := ⟨0x7000, 14, 2, 0, .ro, .lrst⟩
def NB_STATUS_RSV_SHORT : Fld := ⟨0x7000, 13, 1, 0, .ro, .lrst⟩
def NB_STATUS_CKPT_BUSY : Fld := ⟨0x7000, 12, 1, 0, .ro, .lrst⟩
def NB_STATUS_SCAN : Fld := ⟨0x7000, 11, 1, 0, .ro, .por⟩
def NB_STATUS_PATROL : Fld := ⟨0x7000, 10, 1, 0, .ro, .lrst⟩
def NB_STATUS_LUNS_FAILED : Fld := ⟨0x7000, 0, 7, 0, .ro, .por⟩

def NB_CFG_SPEED : Fld := ⟨0x7004, 16, 8, 24, .cl, .por⟩
def NB_CFG_IFACE : Fld := ⟨0x7004, 15, 1, 1, .cl, .por⟩
def NB_CFG_LUNS : Fld := ⟨0x7004, 10, 1, 1, .cl, .por⟩
def NB_CFG_CE_PER_CH : Fld := ⟨0x7004, 8, 2, 3, .cl, .por⟩
def NB_CFG_CH_EN : Fld := ⟨0x7004, 0, 8, 255, .cl, .por⟩

def NB_GEOM_BLOCKS : Fld := ⟨0x7008, 16, 16, 0, .cl, .por⟩
def NB_GEOM_PPB : Fld := ⟨0x7008, 0, 11, 0, .cl, .por⟩

def NB_TIMING_TBERS_MS : Fld := ⟨0x700C, 24, 8, 5, .cl, .por⟩
def NB_TIMING_TPROG_US : Fld := ⟨0x700C, 8, 8, 65, .cl, .por⟩
def NB_TIMING_TR_US : Fld := ⟨0x700C, 0, 8, 25, .cl, .por⟩

def NB_SLC_SLC_CODE : Fld := ⟨0x7010, 24, 8, 0, .cl, .por⟩
def NB_SLC_SLC_VAL : Fld := ⟨0x7010, 16, 8, 0, .cl, .por⟩
def NB_SLC_SLC_METHOD : Fld := ⟨0x7010, 15, 1, 0, .cl, .por⟩
def NB_SLC_RR_LEVELS : Fld := ⟨0x7010, 8, 4, 8, .cl, .por⟩
def NB_SLC_RR_FA : Fld := ⟨0x7010, 0, 8, 137, .cl, .por⟩

def NB_POLICY_CKPT_100MS : Fld := ⟨0x7014, 24, 8, 10, .cl, .por⟩
def NB_POLICY_PATROL_D : Fld := ⟨0x7014, 16, 8, 7, .cl, .por⟩
def NB_POLICY_HEADROOM : Fld := ⟨0x7014, 8, 8, 2, .cl, .por⟩
def NB_POLICY_WL_DELTA : Fld := ⟨0x7014, 0, 8, 20, .cl, .por⟩

def NB_WEAR_LIFE_USED : Fld := ⟨0x7018, 24, 8, 0, .ro, .por⟩
def NB_WEAR_RATED_KCYC : Fld := ⟨0x7018, 16, 8, 30, .cl, .por⟩
def NB_WEAR_AVG_EC : Fld := ⟨0x7018, 0, 16, 0, .ro, .por⟩

def NB_CAP_CAP : Fld := ⟨0x701C, 0, 28, 0, .ro, .lrst⟩

def NB_ECC_UNCORR : Fld := ⟨0x7020, 24, 8, 0, .rc, .por⟩
def NB_ECC_STAGE3 : Fld := ⟨0x7020, 16, 8, 0, .rc, .por⟩
def NB_ECC_STAGE2 : Fld := ⟨0x7020, 0, 16, 0, .rc, .por⟩

def NB_LUNFAIL_FAILED (n : Nat) : Fld := ⟨0x7024 + 4 * n, 0, 32, 0, .ro, .por⟩

def NB_MANPTR_LOC : Fld := ⟨0x702C, 0, 32, 4294967295, .ro, .por⟩

def NB_ROOTPTR_LOC : Fld := ⟨0x7030, 0, 32, 4294967295, .ro, .por⟩

def NB_EPOCH_LO_EPOCH : Fld := ⟨0x7034, 0, 32, 0, .ro, .por⟩

def NB_EPOCH_HI_EPOCH : Fld := ⟨0x7038, 0, 16, 0, .ro, .por⟩

def NB_TCACHE_MISSES : Fld := ⟨0x703C, 16, 16, 0, .rc, .lrst⟩
def NB_TCACHE_PAR_ERR : Fld := ⟨0x703C, 8, 8, 0, .rc, .lrst⟩

def ES_STATUS_ABS_CAUSE : Fld := ⟨0x8000, 20, 3, 0, .ro, .por⟩
def ES_STATUS_FAIL_CAUSE : Fld := ⟨0x8000, 16, 4, 0, .ro, .por⟩
def ES_STATUS_STORE : Fld := ⟨0x8000, 14, 2, 0, .ro, .por⟩
def ES_STATUS_ZONE : Fld := ⟨0x8000, 11, 3, 7, .ro, .por⟩
def ES_STATUS_CHG : Fld := ⟨0x8000, 8, 3, 0, .ro, .por⟩
def ES_STATUS_TMR_FAULT : Fld := ⟨0x8000, 7, 1, 0, .ro, .por⟩
def ES_STATUS_AUDIT_BUSY : Fld := ⟨0x8000, 6, 1, 0, .ro, .por⟩
def ES_STATUS_BAL_ACTIVE : Fld := ⟨0x8000, 5, 1, 0, .ro, .por⟩
def ES_STATUS_ACC_ON : Fld := ⟨0x8000, 4, 1, 0, .ro, .por⟩
def ES_STATUS_PATH : Fld := ⟨0x8000, 3, 1, 0, .ro, .por⟩
def ES_STATUS_INFET_ON : Fld := ⟨0x8000, 2, 1, 0, .ro, .por⟩
def ES_STATUS_INFET_TRIP : Fld := ⟨0x8000, 0, 2, 0, .ro, .por⟩

def ES_CFG_STORE_TYPE : Fld := ⟨0x8004, 31, 1, 0, .cl, .por⟩
def ES_CFG_NCELLS : Fld := ⟨0x8004, 27, 4, 6, .cl, .por⟩
def ES_CFG_V_FLOOR : Fld := ⟨0x8004, 0, 16, 4000, .cl, .por⟩

def ES_IN_RSENSE : Fld := ⟨0x8008, 24, 8, 20, .cl, .por⟩
def ES_IN_VSYS_HOLD : Fld := ⟨0x8008, 16, 8, 70, .cl, .por⟩
def ES_IN_OV_V : Fld := ⟨0x8008, 8, 8, 60, .cl, .por⟩
def ES_IN_ILIM : Fld := ⟨0x8008, 0, 8, 100, .cl, .por⟩

def ES_AUDCFG_I_AUD : Fld := ⟨0x800C, 24, 8, 20, .cl, .por⟩
def ES_AUDCFG_C_MIN_PCT : Fld := ⟨0x800C, 16, 8, 60, .cl, .por⟩
def ES_AUDCFG_ESR_MAX_PCT : Fld := ⟨0x800C, 8, 8, 30, .cl, .por⟩
def ES_AUDCFG_AUDIT_H : Fld := ⟨0x800C, 0, 8, 24, .cl, .por⟩

def ES_RATED_CAP_RATED : Fld := ⟨0x8010, 16, 16, 100, .cl, .por⟩
def ES_RATED_ESR_RATED : Fld := ⟨0x8010, 0, 16, 1500, .cl, .por⟩

def ES_ZONE_V_CELL (n : Nat) : Fld := ⟨0x8014 + 4 * n, 16, 12, ([2700, 2700, 2700, 2600, 2450].getD n 0), .cl, .por⟩
def ES_ZONE_I_RATE (n : Nat) : Fld := ⟨0x8014 + 4 * n, 0, 8, 100, .cl, .por⟩

def ES_ZTEMP_B01 : Fld := ⟨0x8028, 24, 8, 236, .cl, .por⟩
def ES_ZTEMP_B12 : Fld := ⟨0x8028, 16, 8, 0, .cl, .por⟩
def ES_ZTEMP_B23 : Fld := ⟨0x8028, 8, 8, 45, .cl, .por⟩
def ES_ZTEMP_B34 : Fld := ⟨0x8028, 0, 8, 55, .cl, .por⟩

def ES_CHG_TMR_MIN : Fld := ⟨0x802C, 24, 8, 120, .cl, .por⟩
def ES_CHG_TERM_PCT : Fld := ⟨0x802C, 16, 8, 5, .cl, .por⟩
def ES_CHG_PRE_MA : Fld := ⟨0x802C, 8, 8, 50, .cl, .por⟩
def ES_CHG_RECHG : Fld := ⟨0x802C, 0, 8, 5, .cl, .por⟩

def ES_BAL_BAL_EN : Fld := ⟨0x8030, 31, 1, 1, .cl, .por⟩
def ES_BAL_BAL_MA : Fld := ⟨0x8030, 16, 10, 300, .cl, .por⟩
def ES_BAL_BAL_MV : Fld := ⟨0x8030, 0, 8, 20, .cl, .por⟩

def ES_AUDIT_CAP : Fld := ⟨0x8034, 16, 16, 0, .ro, .por⟩
def ES_AUDIT_ESR : Fld := ⟨0x8034, 0, 16, 0, .ro, .por⟩

def ES_AUDIT2_ETA : Fld := ⟨0x8038, 24, 8, 0, .ro, .por⟩
def ES_AUDIT2_T_AUD : Fld := ⟨0x8038, 16, 8, 0, .ro, .por⟩
def ES_AUDIT2_AGE_H : Fld := ⟨0x8038, 8, 8, 0, .ro, .por⟩
def ES_AUDIT2_RESULT : Fld := ⟨0x8038, 0, 4, 0, .ro, .por⟩

def ES_PMAX_P_STORE_MAX : Fld := ⟨0x803C, 16, 16, 0, .ro, .por⟩
def ES_PMAX_T_STORE : Fld := ⟨0x803C, 8, 8, 0, .ro, .por⟩

def ES_CELLV_V_ODD (n : Nat) : Fld := ⟨0x8040 + 4 * n, 16, 16, 0, .ro, .por⟩
def ES_CELLV_V_EVEN (n : Nat) : Fld := ⟨0x8040 + 4 * n, 0, 16, 0, .ro, .por⟩

def ES_MEAS_IIN : Fld := ⟨0x8050, 16, 16, 0, .ro, .por⟩
def ES_MEAS_ISTORE : Fld := ⟨0x8050, 0, 16, 0, .ro, .por⟩

def ES_TIMER_PROG_MIN : Fld := ⟨0x8054, 16, 16, 0, .ro, .por⟩
def ES_TIMER_WALL_MIN : Fld := ⟨0x8054, 0, 16, 0, .ro, .por⟩

def ES_ACC_MODE : Fld := ⟨0x8058, 30, 2, 0, .cl, .por⟩
def ES_ACC_ACC_EN : Fld := ⟨0x8058, 29, 1, 0, .rw, .por⟩
def ES_ACC_I_LIM : Fld := ⟨0x8058, 16, 12, 2000, .cl, .por⟩
def ES_ACC_V_SET : Fld := ⟨0x8058, 0, 8, 50, .cl, .por⟩

def ES_ACCSTAT_V_ACC : Fld := ⟨0x805C, 16, 16, 0, .ro, .por⟩
def ES_ACCSTAT_I_ACC : Fld := ⟨0x805C, 0, 16, 0, .ro, .por⟩

def ES_CTRL_STORE_RETRY : Fld := ⟨0x8060, 3, 1, 0, .wo, .por⟩
def ES_CTRL_AUDIT_NOW : Fld := ⟨0x8060, 2, 1, 0, .wo, .por⟩
def ES_CTRL_TMR_CLR : Fld := ⟨0x8060, 1, 1, 0, .wo, .por⟩
def ES_CTRL_INFET_RST : Fld := ⟨0x8060, 0, 1, 0, .wo, .por⟩

def PS_STATUS_FAULT_N : Fld := ⟨0x9000, 24, 5, 0, .ro, .por⟩
def PS_STATUS_WARN_N : Fld := ⟨0x9000, 16, 5, 0, .ro, .por⟩
def PS_STATUS_XCHK_FAIL : Fld := ⟨0x9000, 6, 1, 0, .ro, .por⟩
def PS_STATUS_HOLDUP : Fld := ⟨0x9000, 5, 1, 0, .ro, .por⟩
def PS_STATUS_VSYS_LOSS : Fld := ⟨0x9000, 4, 1, 0, .ro, .por⟩
def PS_STATUS_VIN_LOW_WARN : Fld := ⟨0x9000, 3, 1, 0, .ro, .por⟩
def PS_STATUS_VIN_RET : Fld := ⟨0x9000, 2, 1, 0, .ro, .por⟩
def PS_STATUS_CMP_B : Fld := ⟨0x9000, 1, 1, 0, .ro, .por⟩
def PS_STATUS_CMP_A : Fld := ⟨0x9000, 0, 1, 0, .ro, .por⟩

def PS_VIN_PF_WARN : Fld := ⟨0x9004, 16, 8, 100, .cl, .por⟩
def PS_VIN_RET_LEVEL : Fld := ⟨0x9004, 8, 8, 90, .cl, .por⟩
def PS_VIN_PF_LEVEL : Fld := ⟨0x9004, 0, 8, 80, .cl, .por⟩

def PS_VMEAS_VIN_MV : Fld := ⟨0x9008, 16, 16, 0, .ro, .por⟩
def PS_VMEAS_VSYS_MV : Fld := ⟨0x9008, 0, 16, 0, .ro, .por⟩

def PS_KEEP_HOLD_COUNT : Fld := ⟨0x900C, 16, 16, 0, .ro, .por⟩
def PS_KEEP_LAST : Fld := ⟨0x900C, 12, 2, 0, .ro, .por⟩
def PS_KEEP_VKEEP_MV : Fld := ⟨0x900C, 0, 12, 0, .ro, .por⟩

def PS_DOM_PD : Fld := ⟨0x9010, 0, 32, 0, .ro, .por⟩

def PS_FIRST_MODE : Fld := ⟨0x9014, 16, 3, 0, .ro, .por⟩
def PS_FIRST_KIND : Fld := ⟨0x9014, 8, 3, 0, .ro, .por⟩
def PS_FIRST_RAIL : Fld := ⟨0x9014, 0, 5, 0, .ro, .por⟩

def PS_FLTBITS_FLT : Fld := ⟨0x9018, 0, 24, 0, .w1c, .por⟩

def PS_WRNBITS_WRN : Fld := ⟨0x901C, 0, 24, 0, .w1c, .por⟩

def PS_ADC_SCANS : Fld := ⟨0x9020, 16, 16, 0, .ro, .por⟩
def PS_ADC_LAST_US : Fld := ⟨0x9020, 8, 8, 0, .ro, .por⟩
def PS_ADC_SCAN : Fld := ⟨0x9020, 0, 2, 0, .ro, .por⟩

def PS_ADCCH_DONE : Fld := ⟨0x9024, 31, 1, 0, .ro, .por⟩
def PS_ADCCH_CH : Fld := ⟨0x9024, 16, 6, 0, .rw, .por⟩
def PS_ADCCH_RESULT : Fld := ⟨0x9024, 0, 16, 0, .ro, .por⟩

def PS_CTRL_REARM_IDX : Fld := ⟨0x9028, 8, 5, 0, .wo, .por⟩
def PS_CTRL_REARM : Fld := ⟨0x9028, 1, 1, 0, .wo, .por⟩
def PS_CTRL_CLR_FIRST : Fld := ⟨0x9028, 0, 1, 0, .wo, .por⟩

def PS_SW_SSC_EN : Fld := ⟨0x902C, 8, 1, 0, .cl, .por⟩
def PS_SW_SSC_PCT : Fld := ⟨0x902C, 0, 4, 4, .cl, .por⟩

def PS_SET_ON (n : Nat) : Fld := ⟨0x9100 + 16 * n, 31, 1, 0, .ro, .por⟩
def PS_SET_PG (n : Nat) : Fld := ⟨0x9100 + 16 * n, 30, 1, 0, .ro, .por⟩
def PS_SET_CLASS (n : Nat) : Fld := ⟨0x9100 + 16 * n, 29, 1, ([1, 1, 1, 1, 0, 0, 0, 1, 0, 1, 0, 0, 0, 0, 0, 0, 1, 0, 0, 0, 0, 0, 0, 0].getD n 0), .cl, .por⟩
def PS_SET_SAFE (n : Nat) : Fld := ⟨0x9100 + 16 * n, 28, 1, 0, .cl, .por⟩
def PS_SET_LL_EN (n : Nat) : Fld := ⟨0x9100 + 16 * n, 27, 1, 1, .cl, .por⟩
def PS_SET_COMP (n : Nat) : Fld := ⟨0x9100 + 16 * n, 25, 2, 0, .cl, .por⟩
def PS_SET_SS (n : Nat) : Fld := ⟨0x9100 + 16 * n, 23, 2, 1, .cl, .por⟩
def PS_SET_VSET (n : Nat) : Fld := ⟨0x9100 + 16 * n, 0, 13, ([750, 1100, 1100, 1800, 2500, 2500, 1200, 850, 1800, 1000, 3300, 3300, 0, 0, 0, 0, 1800, 1800, 1800, 1800, 0, 0, 0, 0].getD n 0), .cl, .por⟩

def PS_LVL_OV_FAULT (n : Nat) : Fld := ⟨0x9104 + 16 * n, 24, 8, 20, .cl, .por⟩
def PS_LVL_OV_WARN (n : Nat) : Fld := ⟨0x9104 + 16 * n, 16, 8, 10, .cl, .por⟩
def PS_LVL_UV_WARN (n : Nat) : Fld := ⟨0x9104 + 16 * n, 8, 8, 10, .cl, .por⟩
def PS_LVL_UV_FAULT (n : Nat) : Fld := ⟨0x9104 + 16 * n, 0, 8, 20, .cl, .por⟩

def PS_OC_OC_FAULT (n : Nat) : Fld := ⟨0x9108 + 16 * n, 16, 16, ([2250, 1000, 750, 250, 375, 375, 625, 625, 250, 125, 1500, 750, 0, 0, 0, 0, 25, 13, 63, 63, 375, 375, 375, 375].getD n 0), .cl, .por⟩
def PS_OC_OC_WARN (n : Nat) : Fld := ⟨0x9108 + 16 * n, 0, 16, ([1800, 800, 600, 200, 300, 300, 500, 500, 200, 100, 1200, 600, 0, 0, 0, 0, 20, 10, 50, 50, 300, 300, 300, 300].getD n 0), .cl, .por⟩

def PS_MEAS_V_MV (n : Nat) : Fld := ⟨0x910C + 16 * n, 16, 16, 0, .ro, .por⟩
def PS_MEAS_I_10MA (n : Nat) : Fld := ⟨0x910C + 16 * n, 0, 16, 0, .ro, .por⟩

def SQ_STATUS_ELAPSED : Fld := ⟨0xA000, 16, 16, 0, .ro, .por⟩
def SQ_STATUS_QUEUED : Fld := ⟨0xA000, 8, 4, 0, .ro, .por⟩
def SQ_STATUS_STEP : Fld := ⟨0xA000, 6, 2, 0, .ro, .por⟩
def SQ_STATUS_SEQ : Fld := ⟨0xA000, 3, 3, 0, .ro, .por⟩
def SQ_STATUS_LEFT_OFF : Fld := ⟨0xA000, 2, 1, 0, .ro, .por⟩

def SQ_CFG_ACC_SHED : Fld := ⟨0xA004, 16, 4, 0, .cl, .por⟩
def SQ_CFG_RETRY_MS : Fld := ⟨0xA004, 8, 8, 10, .cl, .por⟩
def SQ_CFG_PG_POLL : Fld := ⟨0xA004, 0, 8, 10, .cl, .por⟩

def SQ_SPMI_ROLE : Fld := ⟨0xA008, 30, 2, 0, .cl, .por⟩
def SQ_SPMI_COMASTER : Fld := ⟨0xA008, 29, 1, 0, .cl, .por⟩
def SQ_SPMI_MID : Fld := ⟨0xA008, 24, 2, 0, .cl, .por⟩
def SQ_SPMI_SID : Fld := ⟨0xA008, 20, 4, 0, .cl, .por⟩
def SQ_SPMI_ACK_US : Fld := ⟨0xA008, 8, 8, 50, .cl, .por⟩
def SQ_SPMI_RATE_MHZ : Fld := ⟨0xA008, 0, 5, 26, .cl, .por⟩

def SQ_SPMIERR_PAR_ERR : Fld := ⟨0xA00C, 24, 8, 0, .rc, .por⟩
def SQ_SPMIERR_RESENDS : Fld := ⟨0xA00C, 16, 8, 0, .rc, .por⟩
def SQ_SPMIERR_NARROW : Fld := ⟨0xA00C, 8, 8, 0, .rc, .por⟩
def SQ_SPMIERR_LOST : Fld := ⟨0xA00C, 0, 8, 0, .rc, .por⟩

def SQ_CTRL_SLV_RESCAN : Fld := ⟨0xA010, 0, 1, 0, .wo, .por⟩

def SQ_SLV_EN (n : Nat) : Fld := ⟨0xA020 + 4 * n, 31, 1, 0, .cl, .por⟩
def SQ_SLV_SID (n : Nat) : Fld := ⟨0xA020 + 4 * n, 24, 4, 0, .cl, .por⟩
def SQ_SLV_STATE (n : Nat) : Fld := ⟨0xA020 + 4 * n, 16, 2, 0, .ro, .por⟩
def SQ_SLV_RESULT (n : Nat) : Fld := ⟨0xA020 + 4 * n, 8, 8, 0, .ro, .por⟩

def SQ_SLVSEQ_NEXT (n : Nat) : Fld := ⟨0xA040 + 4 * n, 16, 16, 0, .ro, .por⟩
def SQ_SLVSEQ_LAST_ACK (n : Nat) : Fld := ⟨0xA040 + 4 * n, 0, 16, 0, .ro, .por⟩

def SQ_XR_VSET_MV (n : Nat) : Fld := ⟨0xA060 + 4 * n, 16, 16, 0, .cl, .por⟩
def SQ_XR_SLAVE (n : Nat) : Fld := ⟨0xA060 + 4 * n, 8, 3, 0, .cl, .por⟩
def SQ_XR_RAIL (n : Nat) : Fld := ⟨0xA060 + 4 * n, 0, 5, 0, .cl, .por⟩

def SQ_ENT_UP_EN (n : Nat) : Fld := ⟨0xA100 + 16 * n, 31, 1, ([1, 1, 1, 1, 1, 1, 1, 1, 1, 1, 0, 0, 0, 0, 0, 0, 1, 1, 0, 0, 0, 0, 0, 0, 0, 0, 0, 0, 0, 0, 0, 0].getD n 0), .cl, .por⟩
def SQ_ENT_UP_RETRY (n : Nat) : Fld := ⟨0xA100 + 16 * n, 28, 3, ([0, 0, 0, 0, 1, 1, 1, 0, 1, 0, 1, 1, 0, 0, 0, 0, 0, 1, 1, 1, 1, 1, 1, 1, 1, 1, 1, 1, 1, 1, 1, 1].getD n 0), .cl, .por⟩
def SQ_ENT_UP_UP_SLOT (n : Nat) : Fld := ⟨0xA100 + 16 * n, 12, 12, ([0, 0, 0, 0, 0, 0, 100, 0, 0, 0, 200, 200, 0, 0, 0, 0, 0, 0, 200, 200, 200, 200, 200, 200, 200, 200, 200, 200, 200, 200, 200, 200].getD n 0), .cl, .por⟩
def SQ_ENT_UP_UP_TMO (n : Nat) : Fld := ⟨0xA100 + 16 * n, 0, 12, 200, .cl, .por⟩

def SQ_ENT_DN_SHED (n : Nat) : Fld := ⟨0xA104 + 16 * n, 24, 4, ([2, 3, 3, 3, 2, 2, 2, 2, 2, 15, 1, 1, 0, 0, 0, 0, 15, 0, 0, 0, 0, 0, 0, 0, 0, 0, 0, 0, 0, 0, 0, 0].getD n 0), .cl, .por⟩
def SQ_ENT_DN_DN_SLOT (n : Nat) : Fld := ⟨0xA104 + 16 * n, 12, 12, 0, .cl, .por⟩
def SQ_ENT_DN_DN_TMO (n : Nat) : Fld := ⟨0xA104 + 16 * n, 0, 12, 200, .cl, .por⟩

def SQ_ENT_PAR_PARENTS (n : Nat) : Fld := ⟨0xA108 + 16 * n, 0, 32, ([0, 131, 129, 0, 134, 134, 128, 128, 128, 0, 0, 0, 0, 0, 0, 0, 0, 0, 0, 0, 0, 0, 0, 0, 0, 0, 0, 0, 0, 0, 0, 0].getD n 0), .cl, .por⟩

def SQ_ENT_ST_TRIES (n : Nat) : Fld := ⟨0xA10C + 16 * n, 12, 4, 0, .ro, .por⟩
def SQ_ENT_ST_STATE (n : Nat) : Fld := ⟨0xA10C + 16 * n, 0, 4, 0, .ro, .por⟩

def TH_STATUS_MAX_SRC : Fld := ⟨0xB000, 24, 5, 0, .ro, .por⟩
def TH_STATUS_FAILED_N : Fld := ⟨0xB000, 20, 4, 0, .ro, .por⟩
def TH_STATUS_PEND : Fld := ⟨0xB000, 18, 1, 0, .ro, .por⟩
def TH_STATUS_LEVEL : Fld := ⟨0xB000, 16, 2, 0, .ro, .por⟩
def TH_STATUS_T_MAX : Fld := ⟨0xB000, 0, 16, 0, .ro, .por⟩

def TH_THR1_ORDERLY : Fld := ⟨0xB004, 24, 8, 155, .cl, .por⟩
def TH_THR1_STEP3 : Fld := ⟨0xB004, 16, 8, 145, .cl, .por⟩
def TH_THR1_STEP2 : Fld := ⟨0xB004, 8, 8, 135, .cl, .por⟩
def TH_THR1_STEP1 : Fld := ⟨0xB004, 0, 8, 125, .cl, .por⟩

def TH_THR2_CRIT : Fld := ⟨0xB008, 16, 8, 170, .cl, .por⟩
def TH_THR2_T_FAIL : Fld := ⟨0xB008, 8, 8, 0, .cl, .por⟩
def TH_THR2_HYST : Fld := ⟨0xB008, 4, 4, 5, .cl, .por⟩

def TH_CFG_TS10_EN : Fld := ⟨0xB00C, 0, 1, 1, .cl, .por⟩

def TH_SEN_CAUSE (n : Nat) : Fld := ⟨0xB010 + 4 * n, 18, 2, 0, .ro, .por⟩
def TH_SEN_STATE (n : Nat) : Fld := ⟨0xB010 + 4 * n, 16, 2, 1, .ro, .por⟩
def TH_SEN_TEMP (n : Nat) : Fld := ⟨0xB010 + 4 * n, 0, 16, 0, .ro, .por⟩

def TH_CTRL_SEN_RETRY : Fld := ⟨0xB03C, 0, 1, 0, .wo, .por⟩

def TH_LOG_CHANGES : Fld := ⟨0xB040, 16, 16, 0, .rc, .por⟩
def TH_LOG_CUTS : Fld := ⟨0xB040, 8, 8, 0, .ro, .por⟩
def TH_LOG_STOPS : Fld := ⟨0xB040, 0, 8, 0, .ro, .por⟩

def BA_STATUS_SHORT : Fld := ⟨0xB800, 16, 4, 0, .ro, .por⟩
def BA_STATUS_BUDGET : Fld := ⟨0xB800, 0, 16, 0, .ro, .por⟩

def BA_CFG_UNC_MARGIN : Fld := ⟨0xB804, 16, 16, 100, .cl, .por⟩
def BA_CFG_P_IN_MAX : Fld := ⟨0xB804, 0, 16, 20000, .cl, .por⟩

def BA_SRC_P_UNC : Fld := ⟨0xB808, 16, 16, 0, .ro, .por⟩
def BA_SRC_OVER : Fld := ⟨0xB808, 2, 1, 0, .ro, .por⟩
def BA_SRC_SOURCE : Fld := ⟨0xB808, 0, 2, 0, .ro, .por⟩

def BA_GRANTA_ACC : Fld := ⟨0xB80C, 16, 16, 0, .ro, .por⟩
def BA_GRANTA_CHG : Fld := ⟨0xB80C, 0, 16, 0, .ro, .por⟩

def BA_GRANTB_NAND : Fld := ⟨0xB810, 16, 16, 0, .ro, .por⟩
def BA_GRANTB_DRAM : Fld := ⟨0xB810, 0, 16, 0, .ro, .por⟩

def BA_CNT_CUTS : Fld := ⟨0xB814, 16, 16, 0, .rc, .por⟩
def BA_CNT_SHORT_TICKS : Fld := ⟨0xB814, 0, 16, 0, .rc, .por⟩

def TW_STATUS_LANES : Fld := ⟨0xC000, 24, 4, 0, .ro, .por⟩
def TW_STATUS_PARTNER : Fld := ⟨0xC000, 22, 2, 3, .ro, .por⟩
def TW_STATUS_LINK : Fld := ⟨0xC000, 20, 2, 0, .ro, .por⟩
def TW_STATUS_BELL_OK : Fld := ⟨0xC000, 19, 1, 0, .ro, .por⟩
def TW_STATUS_SPLIT : Fld := ⟨0xC000, 18, 1, 0, .ro, .por⟩
def TW_STATUS_MIRROR : Fld := ⟨0xC000, 16, 2, 1, .ro, .por⟩
def TW_STATUS_GOVERN : Fld := ⟨0xC000, 15, 1, 0, .ro, .por⟩
def TW_STATUS_FOLLOW : Fld := ⟨0xC000, 14, 1, 0, .ro, .por⟩
def TW_STATUS_LS_ON : Fld := ⟨0xC000, 13, 1, 0, .ro, .por⟩
def TW_STATUS_PAIR_FAIL : Fld := ⟨0xC000, 12, 1, 0, .ro, .por⟩
def TW_STATUS_ST_FAIL : Fld := ⟨0xC000, 11, 1, 0, .ro, .por⟩
def TW_STATUS_FORCED : Fld := ⟨0xC000, 10, 1, 0, .ro, .por⟩
def TW_STATUS_ROLE : Fld := ⟨0xC000, 8, 2, 0, .ro, .por⟩

def TW_CFG_TWIN_EN : Fld := ⟨0xC004, 31, 1, 0, .cl, .por⟩
def TW_CFG_ROLE_INIT : Fld := ⟨0xC004, 30, 1, 0, .cl, .por⟩
def TW_CFG_UNIT : Fld := ⟨0xC004, 29, 1, 0, .cl, .por⟩
def TW_CFG_SH_VIN : Fld := ⟨0xC004, 28, 1, 1, .cl, .por⟩
def TW_CFG_SH_THERM : Fld := ⟨0xC004, 27, 1, 1, .cl, .por⟩
def TW_CFG_RSY_GBPS : Fld := ⟨0xC004, 8, 8, 8, .cl, .por⟩
def TW_CFG_GRACE_US : Fld := ⟨0xC004, 4, 4, 2, .cl, .por⟩

def TW_EPOCH_EPOCH : Fld := ⟨0xC008, 0, 32, 0, .ro, .por⟩

def TW_STALE_EPOCH : Fld := ⟨0xC00C, 0, 32, 4294967295, .ro, .por⟩

def TW_ACC_LO_WSN : Fld := ⟨0xC010, 0, 32, 0, .ro, .por⟩

def TW_ACC_HI_WSN : Fld := ⟨0xC014, 0, 32, 0, .ro, .por⟩

def TW_APL_LO_WSN : Fld := ⟨0xC018, 0, 32, 0, .ro, .por⟩

def TW_APL_HI_WSN : Fld := ⟨0xC01C, 0, 32, 0, .ro, .por⟩

def TW_HELD_STAGED : Fld := ⟨0xC020, 16, 9, 0, .ro, .por⟩
def TW_HELD_FX : Fld := ⟨0xC020, 0, 2, 0, .ro, .por⟩

def TW_LS_FAULTS : Fld := ⟨0xC024, 24, 8, 0, .ro, .por⟩
def TW_LS_MISMATCH : Fld := ⟨0xC024, 16, 8, 0, .rc, .por⟩
def TW_LS_ST_PARTNER : Fld := ⟨0xC024, 2, 2, 0, .ro, .por⟩
def TW_LS_ST_OWN : Fld := ⟨0xC024, 0, 2, 0, .ro, .por⟩

def TW_LINK_RETRAINS : Fld := ⟨0xC028, 24, 8, 0, .rc, .por⟩
def TW_LINK_DOWNS : Fld := ⟨0xC028, 16, 8, 0, .rc, .por⟩
def TW_LINK_REPLAYS : Fld := ⟨0xC028, 0, 16, 0, .rc, .por⟩

def TW_RESYNC_KIND : Fld := ⟨0xC02C, 30, 2, 0, .ro, .por⟩
def TW_RESYNC_RUNNING : Fld := ⟨0xC02C, 29, 1, 0, .ro, .por⟩
def TW_RESYNC_LEFT : Fld := ⟨0xC02C, 0, 23, 0, .ro, .por⟩

def TW_PEER_CAP_OUT : Fld := ⟨0xC030, 8, 6, 0, .ro, .por⟩
def TW_PEER_CAP_IN : Fld := ⟨0xC030, 0, 6, 0, .ro, .por⟩

def TW_CTRL_RSY_FULL : Fld := ⟨0xC034, 1, 1, 0, .wo, .por⟩
def TW_CTRL_RETRAIN : Fld := ⟨0xC034, 0, 1, 0, .wo, .por⟩

def EF_STATUS_ERR : Fld := ⟨0xD000, 12, 4, 0, .ro, .krst⟩
def EF_STATUS_UNDEF : Fld := ⟨0xD000, 11, 1, 0, .ro, .krst⟩
def EF_STATUS_UNCORR : Fld := ⟨0xD000, 10, 1, 0, .ro, .krst⟩
def EF_STATUS_CORR : Fld := ⟨0xD000, 9, 1, 0, .ro, .krst⟩
def EF_STATUS_UNLOCKED : Fld := ⟨0xD000, 7, 1, 0, .ro, .krst⟩
def EF_STATUS_SUSP1 : Fld := ⟨0xD000, 6, 1, 0, .ro, .krst⟩
def EF_STATUS_BUSY1 : Fld := ⟨0xD000, 5, 1, 0, .ro, .krst⟩
def EF_STATUS_BUSY0 : Fld := ⟨0xD000, 4, 1, 0, .ro, .krst⟩
def EF_STATUS_DONE : Fld := ⟨0xD000, 0, 1, 1, .ro, .krst⟩

def EF_KEY_KEY : Fld := ⟨0xD004, 0, 16, 0, .wo, .krst⟩

def EF_CMD_CMD : Fld := ⟨0xD008, 0, 8, 0, .wo, .krst⟩

def EF_ADDR_OTP : Fld := ⟨0xD00C, 31, 1, 0, .rw, .krst⟩
def EF_ADDR_ADDR : Fld := ⟨0xD00C, 3, 19, 0, .rw, .krst⟩

def EF_DATA_LO_DATA : Fld := ⟨0xD010, 0, 32, 0, .rw, .krst⟩

def EF_DATA_HI_DATA : Fld := ⟨0xD014, 0, 32, 0, .rw, .krst⟩

def EF_HEALTH_STATE : Fld := ⟨0xD018, 24, 3, 0, .ro, .krst⟩
def EF_HEALTH_WEAR : Fld := ⟨0xD018, 16, 8, 0, .ro, .krst⟩
def EF_HEALTH_PULSE_MAX : Fld := ⟨0xD018, 0, 5, 0, .ro, .krst⟩

def EF_JOURNAL_WINDOW : Fld := ⟨0xD01C, 16, 9, 0, .ro, .krst⟩
def EF_JOURNAL_GOOD : Fld := ⟨0xD01C, 0, 10, 0, .ro, .krst⟩

def EF_JSTART_SINCE_STEP : Fld := ⟨0xD020, 16, 6, 0, .ro, .krst⟩
def EF_JSTART_START : Fld := ⟨0xD020, 0, 10, 0, .ro, .krst⟩

def EF_JSEQ_NEW_SEQ : Fld := ⟨0xD024, 0, 32, 0, .ro, .krst⟩

def EF_JSEQ_OLD_SEQ : Fld := ⟨0xD028, 0, 32, 0, .ro, .krst⟩

def EF_SECT_RETIRED : Fld := ⟨0xD02C, 16, 10, 0, .ro, .krst⟩
def EF_SECT_SPARES : Fld := ⟨0xD02C, 8, 8, 0, .ro, .krst⟩
def EF_SECT_PENDING : Fld := ⟨0xD02C, 0, 8, 0, .ro, .krst⟩

def EF_OPS_SUSPENDS : Fld := ⟨0xD030, 16, 16, 0, .rc, .krst⟩
def EF_OPS_CORR : Fld := ⟨0xD030, 0, 16, 0, .rc, .krst⟩

def EF_FW_B1_VALID : Fld := ⟨0xD034, 2, 1, 0, .ro, .krst⟩
def EF_FW_B0_VALID : Fld := ⟨0xD034, 1, 1, 0, .ro, .krst⟩
def EF_FW_BANK : Fld := ⟨0xD034, 0, 1, 0, .ro, .krst⟩

def EV_STATUS_PEND : Fld := ⟨0xE000, 16, 6, 0, .ro, .por⟩
def EV_STATUS_CLR_REFUSED : Fld := ⟨0xE000, 13, 1, 0, .ro, .krst⟩
def EV_STATUS_FRZ_REFUSED : Fld := ⟨0xE000, 12, 1, 0, .ro, .krst⟩
def EV_STATUS_RAM_ONLY : Fld := ⟨0xE000, 11, 1, 0, .ro, .krst⟩
def EV_STATUS_CLEARING : Fld := ⟨0xE000, 10, 1, 0, .ro, .krst⟩
def EV_STATUS_FRZ_MS : Fld := ⟨0xE000, 4, 6, 0, .ro, .krst⟩
def EV_STATUS_FRZ_PATH : Fld := ⟨0xE000, 1, 1, 0, .ro, .krst⟩
def EV_STATUS_FREEZE : Fld := ⟨0xE000, 0, 1, 0, .ro, .krst⟩

def EV_CTRL_THAW : Fld := ⟨0xE004, 1, 1, 0, .wo, .krst⟩
def EV_CTRL_FREEZE : Fld := ⟨0xE004, 0, 1, 0, .wo, .krst⟩

def EV_CLEAR_GO : Fld := ⟨0xE008, 8, 1, 0, .wo, .krst⟩
def EV_CLEAR_SEV : Fld := ⟨0xE008, 0, 2, 0, .wo, .krst⟩

def EV_RAISED_RAISED : Fld := ⟨0xE00C, 0, 32, 0, .ro, .por⟩

def EV_LOSS_PEND_OVF : Fld := ⟨0xE010, 16, 16, 0, .ro, .por⟩
def EV_LOSS_DISCARD : Fld := ⟨0xE010, 0, 16, 0, .ro, .por⟩

def EV_DROP_CRIT_OVF : Fld := ⟨0xE014, 16, 16, 0, .ro, .por⟩
def EV_DROP_FLASH_DROP : Fld := ⟨0xE014, 0, 16, 0, .rc, .por⟩

def EV_RING_COUNT : Fld := ⟨0xE018, 16, 11, 0, .ro, .por⟩
def EV_RING_UNFLUSHED : Fld := ⟨0xE018, 0, 11, 0, .ro, .por⟩

def EV_FLASH_HEAD : Fld := ⟨0xE01C, 16, 13, 0, .ro, .krst⟩
def EV_FLASH_HELD : Fld := ⟨0xE01C, 0, 13, 0, .ro, .krst⟩

def EV_SEQ_SEQ : Fld := ⟨0xE020, 0, 32, 0, .ro, .por⟩

def EV_RDSEL_TIER : Fld := ⟨0xE024, 31, 1, 0, .rw, .krst⟩
def EV_RDSEL_LOADED : Fld := ⟨0xE024, 30, 1, 0, .ro, .krst⟩
def EV_RDSEL_EMPTY : Fld := ⟨0xE024, 29, 1, 0, .ro, .krst⟩
def EV_RDSEL_SLOT : Fld := ⟨0xE024, 0, 13, 0, .rw, .krst⟩

def EV_ENTERED_ENTERED : Fld := ⟨0xE028, 0, 32, 0, .ro, .por⟩

def EV_RDDATA_DATA (n : Nat) : Fld := ⟨0xE040 + 4 * n, 0, 32, 0, .ro, .krst⟩

def EV_MASK_OFF_B (n : Nat) : Fld := ⟨0xE100 + 4 * n, 16, 16, ([4100, 36864, 32768, 49152].getD (n % 4) 0), .cl, .por⟩
def EV_MASK_OFF_A (n : Nat) : Fld := ⟨0xE100 + 4 * n, 0, 16, ([4096, 12288, 36884, 45056].getD (n % 4) 0), .cl, .por⟩

def ID_PART_PART : Fld := ⟨0x0000, 16, 16, 0, .ro, .por⟩
def ID_PART_REV : Fld := ⟨0x0000, 8, 8, 0, .ro, .por⟩

def ID_CAP_MAX_GIB : Fld := ⟨0x0004, 24, 8, 64, .ro, .por⟩
def ID_CAP_MAX_LUNS : Fld := ⟨0x0004, 16, 8, 64, .ro, .por⟩
def ID_CAP_UNITS : Fld := ⟨0x0004, 0, 6, 63, .ro, .por⟩

def ID_FIT_FIT : Fld := ⟨0x0008, 0, 32, 0, .ro, .por⟩

def ID_BL_BL_MAX : Fld := ⟨0x000C, 8, 8, 0, .ro, .por⟩
def ID_BL_BL : Fld := ⟨0x000C, 0, 8, 1, .cl, .por⟩

def ID_SERIAL_LO_SERIAL : Fld := ⟨0x0010, 0, 32, 0, .ro, .por⟩

def ID_SERIAL_HI_SERIAL : Fld := ⟨0x0014, 0, 32, 0, .ro, .por⟩

def ID_VENDOR_UUID_UUID (n : Nat) : Fld := ⟨0x0018 + 4 * n, 0, 32, ([1577949761, 745622280, 2385957109, 446129092].getD n 0), .ro, .por⟩

def DT_DMK_C1_CAUSE : Fld := ⟨0xF000, 28, 4, 1, .ro, .por⟩
def DT_DMK_C0_CAUSE : Fld := ⟨0xF000, 24, 4, 1, .ro, .por⟩
def DT_DMK_PREV_LOCK : Fld := ⟨0xF000, 7, 1, 0, .ro, .por⟩
def DT_DMK_SVC_DIRTY : Fld := ⟨0xF000, 6, 1, 0, .ro, .por⟩
def DT_DMK_SVC_REJ : Fld := ⟨0xF000, 5, 1, 0, .ro, .por⟩
def DT_DMK_BOUND : Fld := ⟨0xF000, 4, 1, 0, .ro, .por⟩
def DT_DMK_BOUND_NOW : Fld := ⟨0xF000, 3, 1, 0, .ro, .por⟩
def DT_DMK_X4 : Fld := ⟨0xF000, 2, 1, 0, .ro, .por⟩
def DT_DMK_SFDP : Fld := ⟨0xF000, 1, 1, 0, .ro, .por⟩
def DT_DMK_COPY : Fld := ⟨0xF000, 0, 1, 0, .ro, .por⟩

def DT_DMKVER_IMG_VER : Fld := ⟨0xF004, 0, 32, 0, .ro, .por⟩

def DT_DMKCRC_CRC : Fld := ⟨0xF008, 0, 32, 0, .ro, .por⟩

def DT_BOARD_BOARD_ID : Fld := ⟨0xF00C, 0, 32, 0, .ro, .por⟩

def DT_FITREQ_FIT_REQ : Fld := ⟨0xF010, 0, 32, 0, .cl, .por⟩

def DT_WAKE_RUN_MS : Fld := ⟨0xF014, 16, 16, 0, .ro, .por⟩
def DT_WAKE_STEP : Fld := ⟨0xF014, 4, 4, 0, .ro, .por⟩
def DT_WAKE_CAUSE : Fld := ⟨0xF014, 0, 4, 0, .ro, .por⟩

def DT_SVC_LEFT_S : Fld := ⟨0xF018, 16, 16, 0, .ro, .por⟩
def DT_SVC_EXIT : Fld := ⟨0xF018, 0, 4, 0, .ro, .por⟩

/-- One row of the register index (Table 18-2): `count` registers from `base` on, `stride` apart; `valid` tells the indices in use. -/
structure Row where
  base : Nat
  stride : Nat
  count : Nat
  valid : Nat → Bool
  fields : Nat → List Fld

def rowsMD : List Row :=
  [⟨0x1000, 4, 1, fun _ => true, fun _ => [MD_STATUS_RSTR_FORM, MD_STATUS_THERM_LATCH, MD_STATUS_LRST_ACT, MD_STATUS_NOABANDON, MD_STATUS_SERVICE, MD_STATUS_DRAM_HELD, MD_STATUS_MEDIA_READY, MD_STATUS_BRIDGE, MD_STATUS_PHASE, MD_STATUS_LOCKOUT, MD_STATUS_MODE]⟩,
   ⟨0x1004, 4, 1, fun _ => true, fun _ => [MD_CAUSE_BURROW_COUNT, MD_CAUSE_CAUSES]⟩,
   ⟨0x1008, 4, 1, fun _ => true, fun _ => [MD_LOCKOUT_ALL, MD_LOCKOUT_RAIL, MD_LOCKOUT_REASON]⟩,
   ⟨0x100C, 4, 1, fun _ => true, fun _ => [MD_CFG_EARLY_EN, MD_CFG_DEN_EN, MD_CFG_WAKE_ON_RET, MD_CFG_ABN_DBNC_MS, MD_CFG_BRIDGE_MS, MD_CFG_PFW_EN, MD_CFG_T_PRED, MD_CFG_PRED_EN, MD_CFG_PF_DGL]⟩,
   ⟨0x1010, 4, 1, fun _ => true, fun _ => [MD_CTRL_WAKE_REQ, MD_CTRL_LATCH_CLR]⟩,
   ⟨0x1014, 4, 1, fun _ => true, fun _ => [MD_ABANDON_ABN_TOTAL, MD_ABANDON_FORCE_NEXT, MD_ABANDON_RECENT]⟩,
   ⟨0x1018, 4, 1, fun _ => true, fun _ => [MD_LAST_TRANS_SEQ, MD_LAST_TO, MD_LAST_FROM]⟩,
   ⟨0x101C, 4, 1, fun _ => true, fun _ => [MD_ENTRY_MS_ENTRY_MS]⟩]

def rowsHL : List Row :=
  [⟨0x2000, 4, 1, fun _ => true, fun _ => [HL_STATUS_ROLE, HL_STATUS_CXL_VER, HL_STATUS_CREDITS_OPEN, HL_STATUS_LINK_UP, HL_STATUS_LTSSM, HL_STATUS_WIDTH, HL_STATUS_SPEED]⟩,
   ⟨0x2004, 4, 1, fun _ => true, fun _ => [HL_CFG_L1_EN, HL_CFG_MAX_WIDTH, HL_CFG_MAX_SPEED]⟩,
   ⟨0x2008, 4, 1, fun _ => true, fun _ => [HL_CREDIT_HELD_LAST, HL_CREDIT_OCCUPIED, HL_CREDIT_HOST_RWD]⟩,
   ⟨0x200C, 4, 1, fun _ => true, fun _ => [HL_LAT_MAX_RD_NS, HL_LAT_MAX_WR_NS]⟩,
   ⟨0x2010, 4, 1, fun _ => true, fun _ => [HL_ERR_DOWN, HL_ERR_RETRAIN, HL_ERR_CRC_ERR]⟩,
   ⟨0x2014, 4, 1, fun _ => true, fun _ => [HL_DSC_DSC]⟩,
   ⟨0x2018, 4, 1, fun _ => true, fun _ => [HL_SHUTDOWN_SELF_CLEAN, HL_SHUTDOWN_DIRTY]⟩,
   ⟨0x201C, 4, 1, fun _ => true, fun _ => [HL_POISON_COUNT]⟩,
   ⟨0x2020, 4, 1, fun _ => true, fun _ => [HL_AUTH_TICKET_MS, HL_AUTH_REFUSING, HL_AUTH_CHAL_OPEN, HL_AUTH_FAILS, HL_AUTH_TICKET, HL_AUTH_PURPOSE]⟩,
   ⟨0x2024, 4, 1, fun _ => true, fun _ => [HL_MBOX_RET_CODE, HL_MBOX_OPCODE]⟩]

def rowsLG : List Row :=
  [⟨0x3000, 4, 1, fun _ => true, fun _ => [LG_STATUS_CLEAN_ALL, LG_STATUS_TRK_MODE, LG_STATUS_STALE, LG_STATUS_SHORTFALL, LG_STATUS_DOUBT, LG_STATUS_WT, LG_STATUS_CWAIT, LG_STATUS_L_SHORT, LG_STATUS_E_SHORT, LG_STATUS_STATE]⟩,
   ⟨0x3004, 4, 1, fun _ => true, fun _ => [LG_CFG_CAL_EN, LG_CFG_CWAIT_US, LG_CFG_MARGIN]⟩,
   ⟨0x3008, 4, 1, fun _ => true, fun _ => [LG_EFIXED_P_BASE, LG_EFIXED_E_FIXED_MJ]⟩,
   ⟨0x300C, 4, 1, fun _ => true, fun _ => [LG_BRIDGE_P_BRIDGE]⟩,
   ⟨0x3010, 4, 1, fun _ => true, fun _ => [LG_EGCFG_EG_INC_MIN, LG_EGCFG_EG_INC25_INIT]⟩,
   ⟨0x3014, 4, 1, fun _ => true, fun _ => [LG_EGTEMP_K_150, LG_EGTEMP_K_85, LG_EGTEMP_K_0, LG_EGTEMP_K_M40]⟩,
   ⟨0x3018, 4, 1, fun _ => true, fun _ => [LG_EG_EG_T_NJ, LG_EG_EG_INC25]⟩,
   ⟨0x301C, 4, 1, fun _ => true, fun _ => [LG_EAVAIL_LO_EAVAIL]⟩,
   ⟨0x3020, 4, 1, fun _ => true, fun _ => [LG_EAVAIL_HI_AGE_US, LG_EAVAIL_HI_EAVAIL]⟩,
   ⟨0x3024, 4, 1, fun _ => true, fun _ => [LG_EDEBT_LO_EDEBT]⟩,
   ⟨0x3028, 4, 1, fun _ => true, fun _ => [LG_EDEBT_HI_EDEBT]⟩,
   ⟨0x302C, 4, 1, fun _ => true, fun _ => [LG_EBRIDGE_EBRIDGE]⟩,
   ⟨0x3030, 4, 1, fun _ => true, fun _ => [LG_NDIRTY_NDIRTY]⟩,
   ⟨0x3034, 4, 1, fun _ => true, fun _ => [LG_NMAX_NMAX]⟩,
   ⟨0x3038, 4, 1, fun _ => true, fun _ => [LG_RESERVE_PERASED]⟩,
   ⟨0x303C, 4, 1, fun _ => true, fun _ => [LG_RNEED_NEED]⟩,
   ⟨0x3040, 4, 1, fun _ => true, fun _ => [LG_TRICKLE_TRK_FULL, LG_TRICKLE_TRK_OFF, LG_TRICKLE_TRK_ON]⟩,
   ⟨0x3044, 4, 1, fun _ => true, fun _ => [LG_TRKCTX_MIN_AGE, LG_TRKCTX_BG_CTX, LG_TRKCTX_MAX_CTX]⟩,
   ⟨0x3048, 4, 1, fun _ => true, fun _ => [LG_TRKSTAT_IN_FLIGHT, LG_TRKSTAT_HAND]⟩,
   ⟨0x304C, 4, 1, fun _ => true, fun _ => [LG_CWAIT_CNT_CWAIT_COUNT]⟩,
   ⟨0x3050, 4, 1, fun _ => true, fun _ => [LG_WT_CNT_WT_COUNT]⟩,
   ⟨0x3054, 4, 1, fun _ => true, fun _ => [LG_PARITY_COUNT, LG_PARITY_ADDR]⟩,
   ⟨0x3058, 4, 1, fun _ => true, fun _ => [LG_CTRL_STOP_CLEAN_ALL, LG_CTRL_REBASE, LG_CTRL_CLEAN_ALL]⟩]

def rowsDC : List Row :=
  [⟨0x4000, 4, 1, fun _ => true, fun _ => [DC_CFG_RFM_EN, DC_CFG_REFSB_EN, DC_CFG_SR_IDLE_EN, DC_CFG_CH_EN, DC_CFG_RANKS, DC_CFG_DENSITY, DC_CFG_SPEED]⟩,
   ⟨0x4004, 4, 1, fun _ => true, fun _ => [DC_STATUS_HOLD, DC_STATUS_CH1_STATE, DC_STATUS_CH0_STATE]⟩,
   ⟨0x4008, 4, 5, fun _ => true, fun n => [DC_XOR_MASK n]⟩,
   ⟨0x401C, 4, 1, fun _ => true, fun _ => [DC_ADJ_ADJ_EN, DC_ADJ_ADJ_SRC, DC_ADJ_ADJ_MASK]⟩,
   ⟨0x4020, 4, 1, fun _ => true, fun _ => [DC_NREF_NREF_EN, DC_NREF_NREF_K]⟩,
   ⟨0x4024, 4, 1, fun _ => true, fun _ => [DC_TIMING_SR_IDLE_US, DC_TIMING_PAR_WIN_NS, DC_TIMING_RETRAIN_MS]⟩,
   ⟨0x4028, 4, 1, fun _ => true, fun _ => [DC_ECCCFG_SCRUB_H, DC_ECCCFG_DEV_THRESH]⟩,
   ⟨0x4400, 1024, 2, fun _ => true, fun n => [DC_ERR_UE_COUNT n, DC_ERR_CE_COUNT n]⟩,
   ⟨0x4404, 1024, 2, fun _ => true, fun n => [DC_DEVFAIL_DEVICES n]⟩,
   ⟨0x4408, 1024, 2, fun _ => true, fun n => [DC_REPLAY_REPLAYS n, DC_REPLAY_FAILED n, DC_REPLAY_LAST_LEN n]⟩,
   ⟨0x440C, 1024, 2, fun _ => true, fun n => [DC_UEADDR_LA n]⟩,
   ⟨0x4410, 1024, 2, fun _ => true, fun n => [DC_MAINT_NREF_COUNT n, DC_MAINT_RETRAIN_COUNT n, DC_MAINT_FORCED n]⟩]

def rowsBE : List Row :=
  [⟨0x5000, 4, 1, fun _ => true, fun _ => [BE_STATUS_ESTOP, BE_STATUS_P1_LATE, BE_STATUS_DEFERRED, BE_STATUS_MAN_CLOSED, BE_STATUS_ABANDONING, BE_STATUS_HANDOFF, BE_STATUS_ACTIVE, BE_STATUS_SHED]⟩,
   ⟨0x5004, 4, 1, fun _ => true, fun _ => [BE_CFG_EP_NJ, BE_CFG_LINK_HOLD]⟩,
   ⟨0x5008, 4, 1, fun _ => true, fun _ => [BE_TMO_P2_100MS, BE_TMO_P3_MS, BE_TMO_P4_MS, BE_TMO_P1_US]⟩,
   ⟨0x500C, 4, 1, fun _ => true, fun _ => [BE_TAKEN_TAKEN]⟩,
   ⟨0x5010, 4, 1, fun _ => true, fun _ => [BE_LANDED_LANDED]⟩,
   ⟨0x5014, 4, 1, fun _ => true, fun _ => [BE_LOST_LOST]⟩,
   ⟨0x5018, 4, 1, fun _ => true, fun _ => [BE_POISONED_POISONED]⟩,
   ⟨0x501C, 4, 1, fun _ => true, fun _ => [BE_FAULTS_RETARGETS, BE_FAULTS_BLK_RETIRED, BE_FAULTS_LUN_FAILED]⟩,
   ⟨0x5020, 4, 1, fun _ => true, fun _ => [BE_TIME_T_FENCE_NS, BE_TIME_T_FIRST_NS]⟩,
   ⟨0x5024, 4, 1, fun _ => true, fun _ => [BE_DUR_P2_MS, BE_DUR_P3_MS, BE_DUR_P4_MS]⟩,
   ⟨0x5028, 4, 1, fun _ => true, fun _ => [BE_ENERGY_E_FENCE, BE_ENERGY_E_SPENT]⟩,
   ⟨0x502C, 4, 1, fun _ => true, fun _ => [BE_CTX_IN_FLIGHT, BE_CTX_ARMED, BE_CTX_IDLE]⟩,
   ⟨0x5030, 4, 1, fun _ => true, fun _ => [BE_GRANT_GRANT, BE_GRANT_PROG_NOW]⟩]

def rowsBC : List Row :=
  [⟨0x6000, 16, 256, fun _ => true, fun n => [BC_CTL_VER_HI n, BC_CTL_POISON n, BC_CTL_LOSTREC n, BC_CTL_RETGT n, BC_CTL_KIND n, BC_CTL_STATE n]⟩,
   ⟨0x6004, 16, 256, fun _ => true, fun n => [BC_GRAN_GRANULE n]⟩,
   ⟨0x6008, 16, 256, fun _ => true, fun n => [BC_PAGE_CH n, BC_PAGE_CE n, BC_PAGE_LUN n, BC_PAGE_BLOCK n, BC_PAGE_PAGE n]⟩,
   ⟨0x600C, 16, 256, fun _ => true, fun n => [BC_VER_VER_LO n]⟩]

def rowsNB : List Row :=
  [⟨0x7000, 4, 1, fun _ => true, fun _ => [NB_STATUS_EA_MODE, NB_STATUS_RSV_SHORT, NB_STATUS_CKPT_BUSY, NB_STATUS_SCAN, NB_STATUS_PATROL, NB_STATUS_LUNS_FAILED]⟩,
   ⟨0x7004, 4, 1, fun _ => true, fun _ => [NB_CFG_SPEED, NB_CFG_IFACE, NB_CFG_LUNS, NB_CFG_CE_PER_CH, NB_CFG_CH_EN]⟩,
   ⟨0x7008, 4, 1, fun _ => true, fun _ => [NB_GEOM_BLOCKS, NB_GEOM_PPB]⟩,
   ⟨0x700C, 4, 1, fun _ => true, fun _ => [NB_TIMING_TBERS_MS, NB_TIMING_TPROG_US, NB_TIMING_TR_US]⟩,
   ⟨0x7010, 4, 1, fun _ => true, fun _ => [NB_SLC_SLC_CODE, NB_SLC_SLC_VAL, NB_SLC_SLC_METHOD, NB_SLC_RR_LEVELS, NB_SLC_RR_FA]⟩,
   ⟨0x7014, 4, 1, fun _ => true, fun _ => [NB_POLICY_CKPT_100MS, NB_POLICY_PATROL_D, NB_POLICY_HEADROOM, NB_POLICY_WL_DELTA]⟩,
   ⟨0x7018, 4, 1, fun _ => true, fun _ => [NB_WEAR_LIFE_USED, NB_WEAR_RATED_KCYC, NB_WEAR_AVG_EC]⟩,
   ⟨0x701C, 4, 1, fun _ => true, fun _ => [NB_CAP_CAP]⟩,
   ⟨0x7020, 4, 1, fun _ => true, fun _ => [NB_ECC_UNCORR, NB_ECC_STAGE3, NB_ECC_STAGE2]⟩,
   ⟨0x7024, 4, 2, fun _ => true, fun n => [NB_LUNFAIL_FAILED n]⟩,
   ⟨0x702C, 4, 1, fun _ => true, fun _ => [NB_MANPTR_LOC]⟩,
   ⟨0x7030, 4, 1, fun _ => true, fun _ => [NB_ROOTPTR_LOC]⟩,
   ⟨0x7034, 4, 1, fun _ => true, fun _ => [NB_EPOCH_LO_EPOCH]⟩,
   ⟨0x7038, 4, 1, fun _ => true, fun _ => [NB_EPOCH_HI_EPOCH]⟩,
   ⟨0x703C, 4, 1, fun _ => true, fun _ => [NB_TCACHE_MISSES, NB_TCACHE_PAR_ERR]⟩]

def rowsES : List Row :=
  [⟨0x8000, 4, 1, fun _ => true, fun _ => [ES_STATUS_ABS_CAUSE, ES_STATUS_FAIL_CAUSE, ES_STATUS_STORE, ES_STATUS_ZONE, ES_STATUS_CHG, ES_STATUS_TMR_FAULT, ES_STATUS_AUDIT_BUSY, ES_STATUS_BAL_ACTIVE, ES_STATUS_ACC_ON, ES_STATUS_PATH, ES_STATUS_INFET_ON, ES_STATUS_INFET_TRIP]⟩,
   ⟨0x8004, 4, 1, fun _ => true, fun _ => [ES_CFG_STORE_TYPE, ES_CFG_NCELLS, ES_CFG_V_FLOOR]⟩,
   ⟨0x8008, 4, 1, fun _ => true, fun _ => [ES_IN_RSENSE, ES_IN_VSYS_HOLD, ES_IN_OV_V, ES_IN_ILIM]⟩,
   ⟨0x800C, 4, 1, fun _ => true, fun _ => [ES_AUDCFG_I_AUD, ES_AUDCFG_C_MIN_PCT, ES_AUDCFG_ESR_MAX_PCT, ES_AUDCFG_AUDIT_H]⟩,
   ⟨0x8010, 4, 1, fun _ => true, fun _ => [ES_RATED_CAP_RATED, ES_RATED_ESR_RATED]⟩,
   ⟨0x8014, 4, 5, fun _ => true, fun n => [ES_ZONE_V_CELL n, ES_ZONE_I_RATE n]⟩,
   ⟨0x8028, 4, 1, fun _ => true, fun _ => [ES_ZTEMP_B01, ES_ZTEMP_B12, ES_ZTEMP_B23, ES_ZTEMP_B34]⟩,
   ⟨0x802C, 4, 1, fun _ => true, fun _ => [ES_CHG_TMR_MIN, ES_CHG_TERM_PCT, ES_CHG_PRE_MA, ES_CHG_RECHG]⟩,
   ⟨0x8030, 4, 1, fun _ => true, fun _ => [ES_BAL_BAL_EN, ES_BAL_BAL_MA, ES_BAL_BAL_MV]⟩,
   ⟨0x8034, 4, 1, fun _ => true, fun _ => [ES_AUDIT_CAP, ES_AUDIT_ESR]⟩,
   ⟨0x8038, 4, 1, fun _ => true, fun _ => [ES_AUDIT2_ETA, ES_AUDIT2_T_AUD, ES_AUDIT2_AGE_H, ES_AUDIT2_RESULT]⟩,
   ⟨0x803C, 4, 1, fun _ => true, fun _ => [ES_PMAX_P_STORE_MAX, ES_PMAX_T_STORE]⟩,
   ⟨0x8040, 4, 4, fun _ => true, fun n => [ES_CELLV_V_ODD n, ES_CELLV_V_EVEN n]⟩,
   ⟨0x8050, 4, 1, fun _ => true, fun _ => [ES_MEAS_IIN, ES_MEAS_ISTORE]⟩,
   ⟨0x8054, 4, 1, fun _ => true, fun _ => [ES_TIMER_PROG_MIN, ES_TIMER_WALL_MIN]⟩,
   ⟨0x8058, 4, 1, fun _ => true, fun _ => [ES_ACC_MODE, ES_ACC_ACC_EN, ES_ACC_I_LIM, ES_ACC_V_SET]⟩,
   ⟨0x805C, 4, 1, fun _ => true, fun _ => [ES_ACCSTAT_V_ACC, ES_ACCSTAT_I_ACC]⟩,
   ⟨0x8060, 4, 1, fun _ => true, fun _ => [ES_CTRL_STORE_RETRY, ES_CTRL_AUDIT_NOW, ES_CTRL_TMR_CLR, ES_CTRL_INFET_RST]⟩]

def rowsPS : List Row :=
  [⟨0x9000, 4, 1, fun _ => true, fun _ => [PS_STATUS_FAULT_N, PS_STATUS_WARN_N, PS_STATUS_XCHK_FAIL, PS_STATUS_HOLDUP, PS_STATUS_VSYS_LOSS, PS_STATUS_VIN_LOW_WARN, PS_STATUS_VIN_RET, PS_STATUS_CMP_B, PS_STATUS_CMP_A]⟩,
   ⟨0x9004, 4, 1, fun _ => true, fun _ => [PS_VIN_PF_WARN, PS_VIN_RET_LEVEL, PS_VIN_PF_LEVEL]⟩,
   ⟨0x9008, 4, 1, fun _ => true, fun _ => [PS_VMEAS_VIN_MV, PS_VMEAS_VSYS_MV]⟩,
   ⟨0x900C, 4, 1, fun _ => true, fun _ => [PS_KEEP_HOLD_COUNT, PS_KEEP_LAST, PS_KEEP_VKEEP_MV]⟩,
   ⟨0x9010, 4, 1, fun _ => true, fun _ => [PS_DOM_PD]⟩,
   ⟨0x9014, 4, 1, fun _ => true, fun _ => [PS_FIRST_MODE, PS_FIRST_KIND, PS_FIRST_RAIL]⟩,
   ⟨0x9018, 4, 1, fun _ => true, fun _ => [PS_FLTBITS_FLT]⟩,
   ⟨0x901C, 4, 1, fun _ => true, fun _ => [PS_WRNBITS_WRN]⟩,
   ⟨0x9020, 4, 1, fun _ => true, fun _ => [PS_ADC_SCANS, PS_ADC_LAST_US, PS_ADC_SCAN]⟩,
   ⟨0x9024, 4, 1, fun _ => true, fun _ => [PS_ADCCH_DONE, PS_ADCCH_CH, PS_ADCCH_RESULT]⟩,
   ⟨0x9028, 4, 1, fun _ => true, fun _ => [PS_CTRL_REARM_IDX, PS_CTRL_REARM, PS_CTRL_CLR_FIRST]⟩,
   ⟨0x902C, 4, 1, fun _ => true, fun _ => [PS_SW_SSC_EN, PS_SW_SSC_PCT]⟩,
   ⟨0x9100, 16, 24, fun n => n < 12 || 16 ≤ n, fun n => [PS_SET_ON n, PS_SET_PG n, PS_SET_CLASS n, PS_SET_SAFE n, PS_SET_LL_EN n, PS_SET_COMP n, PS_SET_SS n, PS_SET_VSET n]⟩,
   ⟨0x9104, 16, 24, fun n => n < 12 || 16 ≤ n, fun n => [PS_LVL_OV_FAULT n, PS_LVL_OV_WARN n, PS_LVL_UV_WARN n, PS_LVL_UV_FAULT n]⟩,
   ⟨0x9108, 16, 24, fun n => n < 12 || 16 ≤ n, fun n => [PS_OC_OC_FAULT n, PS_OC_OC_WARN n]⟩,
   ⟨0x910C, 16, 24, fun n => n < 12 || 16 ≤ n, fun n => [PS_MEAS_V_MV n, PS_MEAS_I_10MA n]⟩]

def rowsSQ : List Row :=
  [⟨0xA000, 4, 1, fun _ => true, fun _ => [SQ_STATUS_ELAPSED, SQ_STATUS_QUEUED, SQ_STATUS_STEP, SQ_STATUS_SEQ, SQ_STATUS_LEFT_OFF]⟩,
   ⟨0xA004, 4, 1, fun _ => true, fun _ => [SQ_CFG_ACC_SHED, SQ_CFG_RETRY_MS, SQ_CFG_PG_POLL]⟩,
   ⟨0xA008, 4, 1, fun _ => true, fun _ => [SQ_SPMI_ROLE, SQ_SPMI_COMASTER, SQ_SPMI_MID, SQ_SPMI_SID, SQ_SPMI_ACK_US, SQ_SPMI_RATE_MHZ]⟩,
   ⟨0xA00C, 4, 1, fun _ => true, fun _ => [SQ_SPMIERR_PAR_ERR, SQ_SPMIERR_RESENDS, SQ_SPMIERR_NARROW, SQ_SPMIERR_LOST]⟩,
   ⟨0xA010, 4, 1, fun _ => true, fun _ => [SQ_CTRL_SLV_RESCAN]⟩,
   ⟨0xA020, 4, 8, fun _ => true, fun n => [SQ_SLV_EN n, SQ_SLV_SID n, SQ_SLV_STATE n, SQ_SLV_RESULT n]⟩,
   ⟨0xA040, 4, 8, fun _ => true, fun n => [SQ_SLVSEQ_NEXT n, SQ_SLVSEQ_LAST_ACK n]⟩,
   ⟨0xA060, 4, 8, fun _ => true, fun n => [SQ_XR_VSET_MV n, SQ_XR_SLAVE n, SQ_XR_RAIL n]⟩,
   ⟨0xA100, 16, 32, fun n => n < 12 || 16 ≤ n, fun n => [SQ_ENT_UP_EN n, SQ_ENT_UP_RETRY n, SQ_ENT_UP_UP_SLOT n, SQ_ENT_UP_UP_TMO n]⟩,
   ⟨0xA104, 16, 32, fun n => n < 12 || 16 ≤ n, fun n => [SQ_ENT_DN_SHED n, SQ_ENT_DN_DN_SLOT n, SQ_ENT_DN_DN_TMO n]⟩,
   ⟨0xA108, 16, 32, fun n => n < 12 || 16 ≤ n, fun n => [SQ_ENT_PAR_PARENTS n]⟩,
   ⟨0xA10C, 16, 32, fun n => n < 12 || 16 ≤ n, fun n => [SQ_ENT_ST_TRIES n, SQ_ENT_ST_STATE n]⟩]

def rowsTH : List Row :=
  [⟨0xB000, 4, 1, fun _ => true, fun _ => [TH_STATUS_MAX_SRC, TH_STATUS_FAILED_N, TH_STATUS_PEND, TH_STATUS_LEVEL, TH_STATUS_T_MAX]⟩,
   ⟨0xB004, 4, 1, fun _ => true, fun _ => [TH_THR1_ORDERLY, TH_THR1_STEP3, TH_THR1_STEP2, TH_THR1_STEP1]⟩,
   ⟨0xB008, 4, 1, fun _ => true, fun _ => [TH_THR2_CRIT, TH_THR2_T_FAIL, TH_THR2_HYST]⟩,
   ⟨0xB00C, 4, 1, fun _ => true, fun _ => [TH_CFG_TS10_EN]⟩,
   ⟨0xB010, 4, 11, fun _ => true, fun n => [TH_SEN_CAUSE n, TH_SEN_STATE n, TH_SEN_TEMP n]⟩,
   ⟨0xB03C, 4, 1, fun _ => true, fun _ => [TH_CTRL_SEN_RETRY]⟩,
   ⟨0xB040, 4, 1, fun _ => true, fun _ => [TH_LOG_CHANGES, TH_LOG_CUTS, TH_LOG_STOPS]⟩]

def rowsBA : List Row :=
  [⟨0xB800, 4, 1, fun _ => true, fun _ => [BA_STATUS_SHORT, BA_STATUS_BUDGET]⟩,
   ⟨0xB804, 4, 1, fun _ => true, fun _ => [BA_CFG_UNC_MARGIN, BA_CFG_P_IN_MAX]⟩,
   ⟨0xB808, 4, 1, fun _ => true, fun _ => [BA_SRC_P_UNC, BA_SRC_OVER, BA_SRC_SOURCE]⟩,
   ⟨0xB80C, 4, 1, fun _ => true, fun _ => [BA_GRANTA_ACC, BA_GRANTA_CHG]⟩,
   ⟨0xB810, 4, 1, fun _ => true, fun _ => [BA_GRANTB_NAND, BA_GRANTB_DRAM]⟩,
   ⟨0xB814, 4, 1, fun _ => true, fun _ => [BA_CNT_CUTS, BA_CNT_SHORT_TICKS]⟩]

def rowsTW : List Row :=
  [⟨0xC000, 4, 1, fun _ => true, fun _ => [TW_STATUS_LANES, TW_STATUS_PARTNER, TW_STATUS_LINK, TW_STATUS_BELL_OK, TW_STATUS_SPLIT, TW_STATUS_MIRROR, TW_STATUS_GOVERN, TW_STATUS_FOLLOW, TW_STATUS_LS_ON, TW_STATUS_PAIR_FAIL, TW_STATUS_ST_FAIL, TW_STATUS_FORCED, TW_STATUS_ROLE]⟩,
   ⟨0xC004, 4, 1, fun _ => true, fun _ => [TW_CFG_TWIN_EN, TW_CFG_ROLE_INIT, TW_CFG_UNIT, TW_CFG_SH_VIN, TW_CFG_SH_THERM, TW_CFG_RSY_GBPS, TW_CFG_GRACE_US]⟩,
   ⟨0xC008, 4, 1, fun _ => true, fun _ => [TW_EPOCH_EPOCH]⟩,
   ⟨0xC00C, 4, 1, fun _ => true, fun _ => [TW_STALE_EPOCH]⟩,
   ⟨0xC010, 4, 1, fun _ => true, fun _ => [TW_ACC_LO_WSN]⟩,
   ⟨0xC014, 4, 1, fun _ => true, fun _ => [TW_ACC_HI_WSN]⟩,
   ⟨0xC018, 4, 1, fun _ => true, fun _ => [TW_APL_LO_WSN]⟩,
   ⟨0xC01C, 4, 1, fun _ => true, fun _ => [TW_APL_HI_WSN]⟩,
   ⟨0xC020, 4, 1, fun _ => true, fun _ => [TW_HELD_STAGED, TW_HELD_FX]⟩,
   ⟨0xC024, 4, 1, fun _ => true, fun _ => [TW_LS_FAULTS, TW_LS_MISMATCH, TW_LS_ST_PARTNER, TW_LS_ST_OWN]⟩,
   ⟨0xC028, 4, 1, fun _ => true, fun _ => [TW_LINK_RETRAINS, TW_LINK_DOWNS, TW_LINK_REPLAYS]⟩,
   ⟨0xC02C, 4, 1, fun _ => true, fun _ => [TW_RESYNC_KIND, TW_RESYNC_RUNNING, TW_RESYNC_LEFT]⟩,
   ⟨0xC030, 4, 1, fun _ => true, fun _ => [TW_PEER_CAP_OUT, TW_PEER_CAP_IN]⟩,
   ⟨0xC034, 4, 1, fun _ => true, fun _ => [TW_CTRL_RSY_FULL, TW_CTRL_RETRAIN]⟩]

def rowsEF : List Row :=
  [⟨0xD000, 4, 1, fun _ => true, fun _ => [EF_STATUS_ERR, EF_STATUS_UNDEF, EF_STATUS_UNCORR, EF_STATUS_CORR, EF_STATUS_UNLOCKED, EF_STATUS_SUSP1, EF_STATUS_BUSY1, EF_STATUS_BUSY0, EF_STATUS_DONE]⟩,
   ⟨0xD004, 4, 1, fun _ => true, fun _ => [EF_KEY_KEY]⟩,
   ⟨0xD008, 4, 1, fun _ => true, fun _ => [EF_CMD_CMD]⟩,
   ⟨0xD00C, 4, 1, fun _ => true, fun _ => [EF_ADDR_OTP, EF_ADDR_ADDR]⟩,
   ⟨0xD010, 4, 1, fun _ => true, fun _ => [EF_DATA_LO_DATA]⟩,
   ⟨0xD014, 4, 1, fun _ => true, fun _ => [EF_DATA_HI_DATA]⟩,
   ⟨0xD018, 4, 1, fun _ => true, fun _ => [EF_HEALTH_STATE, EF_HEALTH_WEAR, EF_HEALTH_PULSE_MAX]⟩,
   ⟨0xD01C, 4, 1, fun _ => true, fun _ => [EF_JOURNAL_WINDOW, EF_JOURNAL_GOOD]⟩,
   ⟨0xD020, 4, 1, fun _ => true, fun _ => [EF_JSTART_SINCE_STEP, EF_JSTART_START]⟩,
   ⟨0xD024, 4, 1, fun _ => true, fun _ => [EF_JSEQ_NEW_SEQ]⟩,
   ⟨0xD028, 4, 1, fun _ => true, fun _ => [EF_JSEQ_OLD_SEQ]⟩,
   ⟨0xD02C, 4, 1, fun _ => true, fun _ => [EF_SECT_RETIRED, EF_SECT_SPARES, EF_SECT_PENDING]⟩,
   ⟨0xD030, 4, 1, fun _ => true, fun _ => [EF_OPS_SUSPENDS, EF_OPS_CORR]⟩,
   ⟨0xD034, 4, 1, fun _ => true, fun _ => [EF_FW_B1_VALID, EF_FW_B0_VALID, EF_FW_BANK]⟩]

def rowsEV : List Row :=
  [⟨0xE000, 4, 1, fun _ => true, fun _ => [EV_STATUS_PEND, EV_STATUS_CLR_REFUSED, EV_STATUS_FRZ_REFUSED, EV_STATUS_RAM_ONLY, EV_STATUS_CLEARING, EV_STATUS_FRZ_MS, EV_STATUS_FRZ_PATH, EV_STATUS_FREEZE]⟩,
   ⟨0xE004, 4, 1, fun _ => true, fun _ => [EV_CTRL_THAW, EV_CTRL_FREEZE]⟩,
   ⟨0xE008, 4, 1, fun _ => true, fun _ => [EV_CLEAR_GO, EV_CLEAR_SEV]⟩,
   ⟨0xE00C, 4, 1, fun _ => true, fun _ => [EV_RAISED_RAISED]⟩,
   ⟨0xE010, 4, 1, fun _ => true, fun _ => [EV_LOSS_PEND_OVF, EV_LOSS_DISCARD]⟩,
   ⟨0xE014, 4, 1, fun _ => true, fun _ => [EV_DROP_CRIT_OVF, EV_DROP_FLASH_DROP]⟩,
   ⟨0xE018, 4, 1, fun _ => true, fun _ => [EV_RING_COUNT, EV_RING_UNFLUSHED]⟩,
   ⟨0xE01C, 4, 1, fun _ => true, fun _ => [EV_FLASH_HEAD, EV_FLASH_HELD]⟩,
   ⟨0xE020, 4, 1, fun _ => true, fun _ => [EV_SEQ_SEQ]⟩,
   ⟨0xE024, 4, 1, fun _ => true, fun _ => [EV_RDSEL_TIER, EV_RDSEL_LOADED, EV_RDSEL_EMPTY, EV_RDSEL_SLOT]⟩,
   ⟨0xE028, 4, 1, fun _ => true, fun _ => [EV_ENTERED_ENTERED]⟩,
   ⟨0xE040, 4, 16, fun _ => true, fun n => [EV_RDDATA_DATA n]⟩,
   ⟨0xE100, 4, 256, fun _ => true, fun n => [EV_MASK_OFF_B n, EV_MASK_OFF_A n]⟩]

def rowsID : List Row :=
  [⟨0x0000, 4, 1, fun _ => true, fun _ => [ID_PART_PART, ID_PART_REV]⟩,
   ⟨0x0004, 4, 1, fun _ => true, fun _ => [ID_CAP_MAX_GIB, ID_CAP_MAX_LUNS, ID_CAP_UNITS]⟩,
   ⟨0x0008, 4, 1, fun _ => true, fun _ => [ID_FIT_FIT]⟩,
   ⟨0x000C, 4, 1, fun _ => true, fun _ => [ID_BL_BL_MAX, ID_BL_BL]⟩,
   ⟨0x0010, 4, 1, fun _ => true, fun _ => [ID_SERIAL_LO_SERIAL]⟩,
   ⟨0x0014, 4, 1, fun _ => true, fun _ => [ID_SERIAL_HI_SERIAL]⟩,
   ⟨0x0018, 4, 4, fun _ => true, fun n => [ID_VENDOR_UUID_UUID n]⟩]

def rowsDT : List Row :=
  [⟨0xF000, 4, 1, fun _ => true, fun _ => [DT_DMK_C1_CAUSE, DT_DMK_C0_CAUSE, DT_DMK_PREV_LOCK, DT_DMK_SVC_DIRTY, DT_DMK_SVC_REJ, DT_DMK_BOUND, DT_DMK_BOUND_NOW, DT_DMK_X4, DT_DMK_SFDP, DT_DMK_COPY]⟩,
   ⟨0xF004, 4, 1, fun _ => true, fun _ => [DT_DMKVER_IMG_VER]⟩,
   ⟨0xF008, 4, 1, fun _ => true, fun _ => [DT_DMKCRC_CRC]⟩,
   ⟨0xF00C, 4, 1, fun _ => true, fun _ => [DT_BOARD_BOARD_ID]⟩,
   ⟨0xF010, 4, 1, fun _ => true, fun _ => [DT_FITREQ_FIT_REQ]⟩,
   ⟨0xF014, 4, 1, fun _ => true, fun _ => [DT_WAKE_RUN_MS, DT_WAKE_STEP, DT_WAKE_CAUSE]⟩,
   ⟨0xF018, 4, 1, fun _ => true, fun _ => [DT_SVC_LEFT_S, DT_SVC_EXIT]⟩]

/-- The rows of the 4 KiB block an offset lies in (Table 18-1). -/
def rowsOf (off : Nat) : List Row :=
  match off / 4096 with
  | 0 => rowsID
  | 1 => rowsMD
  | 2 => rowsHL
  | 3 => rowsLG
  | 4 => rowsDC
  | 5 => rowsBE
  | 6 => rowsBC
  | 7 => rowsNB
  | 8 => rowsES
  | 9 => rowsPS
  | 10 => rowsSQ
  | 11 => rowsTH ++ rowsBA
  | 12 => rowsTW
  | 13 => rowsEF
  | 14 => rowsEV
  | 15 => rowsDT
  | _ => []

/-- Does the row hold the register at this offset? -/
def Row.hit (r : Row) (off : Nat) : Bool :=
  r.base ≤ off && (off - r.base) % r.stride == 0 && (off - r.base) / r.stride < r.count
    && r.valid ((off - r.base) / r.stride)

/-- The fields of the register at an offset; none where Table 18-2 lists no register (R538). -/
def fieldsAt (off : Nat) : List Fld :=
  match (rowsOf off).find? (·.hit off) with
  | some r => r.fields ((off - r.base) / r.stride)
  | none => []

/-- ES_CFG and ES_RATED, which come into force at an audit (R322). -/
def esAudit : List Nat := [ES_CFG_NCELLS.off, ES_RATED_CAP_RATED.off]

end Sys2Proof.Machine.Reg
end

