-- ==== Sys2Proof/Machine/Ops.lean ====
section
/-! DEFINITION. Named operations over memory and the books: lines and bytes of the cache DRAM (R125, R168 to R170), geometry (R4,
R77, R161), the cover terms (R135 to R146) and the small readers of State that every family uses. -/

namespace Sys2Proof.Machine

/-! ### Bytes, lines and their canonical store -/

/-- Byte i of a line. -/
def byteOf (d : LineData) (i : Nat) : Byte := d.extractLsb' (8 * i) 8

/-- The byte at an address; an unlisted byte reads 0x00 (R67). -/
def byteAt (m : List Host.Cell) (a : Nat) : Byte := mget 0 m a

/-- Write one byte, keeping the canonical form. -/
def putByte (m : List Host.Cell) (a : Nat) (b : Byte) : List Host.Cell := msetD 0 a b m

/-- The canonical form of a memory: addresses strictly rising, no listed 0x00. -/
def Memory.wf : List Host.Cell → Bool
  | [] => true
  | [(_, v)] => v != 0
  | (a, v) :: (b, w) :: t => v != 0 && decide (a < b) && Memory.wf ((b, w) :: t)

/-- The 64 B from a base address on. -/
def lineFrom (m : List Host.Cell) (base : Nat) : LineData :=
  (List.range 64).foldl (fun acc i => acc ||| ((byteAt m (base + i)).setWidth 512 <<< (8 * i))) 0

/-- A line of the cache DRAM. -/
def lineAt (m : List Host.Cell) (line : Nat) : LineData := lineFrom m (64 * line)

/-- Write the enabled bytes of 64 B from a base address on. -/
def putBytes (m : List Host.Cell) (base : Nat) (be : ByteEn) (d : LineData) : List Host.Cell :=
  (List.range 64).foldl (fun acc i => if be.getLsbD i then putByte acc (base + i) (byteOf d i) else acc) m

/-- Write the enabled bytes of a line. -/
def putLine (m : List Host.Cell) (line : Nat) (be : ByteEn) (d : LineData) : List Host.Cell :=
  putBytes m (64 * line) be d

/-- All bytes enabled. -/
def beAll : ByteEn := 0xFFFFFFFFFFFFFFFF#64

/-- The bits that a byte-enable mask covers. -/
def beMask (be : ByteEn) : LineData :=
  (List.range 64).foldl (fun acc i => if be.getLsbD i then acc ||| (0xFF#512 <<< (8 * i)) else acc) 0

/-- The enabled bytes of `new` over `old` (R170). -/
def mergeLine (be : ByteEn) (new old : LineData) : LineData := (new &&& beMask be) ||| (old &&& ~~~ (beMask be))

/-- CRC-32C, one byte (reflected polynomial 0x82F63B78). -/
def crcByte (c : Nat) (b : Byte) : Nat :=
  (List.range 8).foldl (fun c _ => if c % 2 = 1 then (c / 2) ^^^ 0x82F63B78 else c / 2) (c ^^^ b.toNat)

/-- CRC-32C of a byte sequence. -/
def crc32c (l : List Byte) : Nat := (l.foldl crcByte 0xFFFFFFFF) ^^^ 0xFFFFFFFF

/-- Little-endian bytes of a number. -/
def leBytes : Nat → Nat → List Byte
  | 0, _ => []
  | n + 1, v => BitVec.ofNat 8 v :: leBytes n (v / 256)

/-- The number that little-endian bytes spell. -/
def ofLe : List Byte → Nat
  | [] => 0
  | b :: t => b.toNat + 256 * ofLe t

/-! ### Geometry -/

/-- The silicon is a VX8430: DC1, NF_B, the mooring link and ACC_OUT are absent (R3, R5). -/
def State.is8430 (s : State) : Bool := s.otp.part == 0x8430

/-- The twin unit is present: only the VX8460 has it (Table 0-1). -/
def State.hasTwin (s : State) : Bool := s.otp.part == 0x8460

/-- ACC_OUT is present (Table 0-1). -/
def State.hasAcc (s : State) : Bool := !s.is8430

/-- Populated DRAM channels (DC_CFG.CH_EN; bit 9 reads 0 on the VX8430). -/
def State.channels (s : State) : Nat := if s.getF Reg.DC_CFG_CH_EN = 3 && !s.is8430 then 2 else 1

/-- Capacity of one channel in GiB (Table 5-1). -/
def State.chanGib (s : State) : Nat :=
  (if s.getF Reg.DC_CFG_DENSITY = 0 then 16 else if s.getF Reg.DC_CFG_DENSITY = 1 then 24 else 32)
    * (if s.getB Reg.DC_CFG_RANKS then 2 else 1)

/-- Populated capacity C in GiB (R161). -/
def State.capGib (s : State) : Nat := s.channels * s.chanGib

/-- User granules: C × 255 / 256 in granules of 16 KiB (R4, R125). -/
def State.nUser (s : State) : Nat := s.capGib * 65280

/-- Reported capacity in units of 256 MiB (R76). -/
def State.cap256M (s : State) : Nat := s.nUser / 16384

/-- Granules below the reported capacity (R77). -/
def State.nReported (s : State) : Nat := s.cap256M * 16384

/-- Lines below the reported capacity. -/
def State.nLines (s : State) : Nat := s.nReported * 256

/-- The granule of a line (R77). -/
def granOf (line : Nat) : Nat := line / 256

/-- The DRAM channel of a granule (Table 5-3). -/
def State.chanOf (s : State) (g : Nat) : Nat := if s.channels = 2 then g % 2 else 0

/-- A DRAM channel has been declared failed (R184). -/
def State.chanFailed (s : State) (ch : Nat) : Bool := s.getB (Reg.DC_REPLAY_FAILED ch)

/-- The channel of a line has been declared failed. -/
def State.lineFailed (s : State) (line : Nat) : Bool := s.chanFailed (s.chanOf (granOf line))

/-! ### The reserved region (R132, Table 4-3), in lines; its parts follow one another from the reserved base -/

/-- The reserved base, C × 255/256. -/
def State.mapBase (s : State) : Nat := s.capGib * 16711680
def State.poisonBase (s : State) : Nat := s.mapBase + s.capGib * 4096
def State.mirrorBase (s : State) : Nat := s.poisonBase + s.capGib * 32768
def State.stagingBase (s : State) : Nat := s.mirrorBase + s.capGib * 512
def State.scratchBase (s : State) : Nat := s.stagingBase + s.capGib * 8192

/-- The line that holds a granule's map entry, 4 B each; its mirror entry, 4 bits each; its staging slot, 8 B each, in a block of the granule's
channel (R217). -/
def State.mapLineOf (s : State) (g : Nat) : Nat := s.mapBase + g / 16
def State.mirrorLineOf (s : State) (g : Nat) : Nat := s.mirrorBase + g / 128
def State.stagingLineOf (s : State) (g : Nat) : Nat := s.stagingBase + 256 * (2 * (g / 4096) + g % 2) + g % 4096 / 16

def State.isMapLine (s : State) (line : Nat) : Bool := decide (s.mapBase ≤ line) && decide (line < s.poisonBase)
def State.isPoisonLine (s : State) (line : Nat) : Bool := decide (s.poisonBase ≤ line) && decide (line < s.mirrorBase)
def State.isMirrorLine (s : State) (line : Nat) : Bool := decide (s.mirrorBase ≤ line) && decide (line < s.stagingBase)
def State.isStagingLine (s : State) (line : Nat) : Bool := decide (s.stagingBase ≤ line) && decide (line < s.scratchBase)

/-- Populated LUNs per channel, channels and LUNs (R232). -/
def State.lunsPerCe (s : State) : Nat := s.getF Reg.NB_CFG_LUNS + 1
def State.cePerCh (s : State) : Nat := s.getF Reg.NB_CFG_CE_PER_CH + 1
def State.nandCh (s : State) : Nat := if s.getF Reg.NB_CFG_CH_EN = 0xFF && !s.is8430 then 8 else 4

/-- The index CH × 8 + CE × 2 + LUN is populated. -/
def State.lunPop (s : State) (l : Nat) : Bool :=
  decide (l / 8 < s.nandCh) && decide (l / 2 % 4 < s.cePerCh) && decide (l % 2 < s.lunsPerCe)

/-- Populated LUN indices in ascending order. -/
def State.luns (s : State) : List Nat := (List.range 64).filter s.lunPop

/-- A LUN declared failed (NB_LUNFAILn). -/
def State.lunFailed (s : State) (l : Nat) : Bool := (s.getF (Reg.NB_LUNFAIL_FAILED (l / 32))).testBit (l % 32)

/-- LUNs in service. -/
def State.goodLuns (s : State) : List Nat := s.luns.filter (fun l => !s.lunFailed l)

/-- Pages per block and blocks per LUN. -/
def State.ppb (s : State) : Nat := s.getF Reg.NB_GEOM_PPB
def State.blocksPerLun (s : State) : Nat := s.getF Reg.NB_GEOM_BLOCKS

/-- The BCn_PAGE encoding: channel, CE and LUN in [31:26] (the LUN index), block in [25:10], page in [9:0]. -/
def locLun (loc : Nat) : Nat := loc / 67108864
def locBlock (loc : Nat) : Nat := loc / 1024
def locPage (loc : Nat) : Nat := loc % 1024
def mkBlock (lun b : Nat) : Nat := lun * 65536 + b
def mkLoc (blk page : Nat) : Nat := blk * 1024 + page
def blockLun (blk : Nat) : Nat := blk / 65536

/-- No copy, no page (R240). -/
def noLoc : Nat := 0xFFFFFFFF

/-- The map entry of a granule that is LOST (R278, R289); block 65,535 is never used (R240). -/
def lostLoc : Nat := 0x03FFFC00

/-- A map entry that names a page. -/
def isPage (loc : Nat) : Bool := loc != noLoc && loc != lostLoc

/-! ### Cover -/

/-- Manifest pages of a burrow of N granules. -/
def pMan (n : Nat) : Nat := max 1 ((n + 2039) / 2040)

/-- The landing need of a dirty count. -/
def landNeed (n : Nat) : Nat := n + pMan n + 64

/-- E_fixed in 0.1 µJ (R138). -/
def State.eFixed (s : State) : Nat := max 2000 (s.getF Reg.LG_EFIXED_E_FIXED_MJ) * 10000

/-- M in 1/1000 (R140). -/
def State.margin (s : State) : Nat := max 50 (s.getF Reg.LG_CFG_MARGIN)

/-- E_LIMIT in µJ, rounded down. -/
def State.limitOf (s : State) (eAvail : Nat) : Nat := eAvail * 1000 / (1000 + s.margin)

/-- E_DEBT rebuilt from a dirty count, in 0.1 µJ (R141). -/
def State.debtOf (s : State) (n : Nat) : Nat := s.eFixed + s.cover.eBridge * 10 + n * s.cover.eg

/-- The energy side of the cover check (R144, R146). -/
def State.energyOk (s : State) : Bool :=
  decide (s.cover.eDebt + s.cover.eg ≤ s.cover.eLimit * 10) && !s.getB Reg.LG_STATUS_SHORTFALL

/-- The landing side of the cover check (R144); after a loss it fails until the need is restored (R251). -/
def State.landOk (s : State) : Bool := decide (landNeed (s.cover.nDirty + 1) ≤ s.nand.pErased) && !s.getB Reg.NB_STATUS_RSV_SHORT

/-- The cover check of a write to a clean granule (R144); while the ledger-doubt writer runs every check passes (R157). -/
def State.coverOk (s : State) : Bool := s.cover.doubtWriter || (s.energyOk && s.landOk)

/-- The largest dirty count the landing reserve covers. -/
def landMax (p : Nat) : Nat := (p - 64) - ((p - 64) + 2040) / 2041

/-- The largest dirty count the energy covers. -/
def State.energyMax (s : State) : Nat :=
  if s.cover.eg = 0 then 4194304 else (s.cover.eLimit * 10 - (s.eFixed + s.cover.eBridge * 10)) / s.cover.eg

/-- N_max: the largest N for which both covers hold; 0 when none does. -/
def State.nMaxNow (s : State) : Nat := min 4194304 (min s.energyMax (landMax s.nand.pErased))

/-! ### Readers -/

/-- The ledger entry of a granule; from the reported capacity on it stays CLEAN (R77, R125). -/
def State.ledgerOf (s : State) (g : Nat) : LState := if g < s.nReported then mget s.cover.ledDflt s.cover.ledger g else .clean

/-- The entry counts in N_dirty (Table 4-1). -/
def LState.isDirty : LState → Bool
  | .clean | .lost => false
  | _ => true

/-- The granule is kept as poisoned as a whole. -/
def State.wholly (s : State) (g : Nat) : Bool := decide (g < s.nReported) && (s.dram.wholeDflt != s.dram.whole.contains g)

/-- The line's bit comes from its granule. -/
def State.byWhole (s : State) (line : Nat) : Bool := s.wholly (granOf line) && !s.dram.cleared.contains line

/-- A line's poison bit. -/
def State.poisoned (s : State) (line : Nat) : Bool := (mfind line s.dram.poison).isSome || s.byWhole line

/-- Lines whose poison bit is set. -/
def State.poisonCount (s : State) : Nat :=
  s.dram.poison.length + 256 * (if s.dram.wholeDflt then s.nReported - s.dram.whole.length else s.dram.whole.length) - s.dram.cleared.length

/-- A context. -/
def State.ctxOf (s : State) (n : Nat) : Ctx := mget Ctx.idle s.bur.ctx n

/-- A context is in flight (R197). -/
def CtxSt.inFlight : CtxSt → Bool
  | .idle | .armed => false
  | _ => true

def State.ctxCount (s : State) (p : Ctx → Bool) : Nat := (s.bur.ctx.filter (fun c => p c.2)).length

/-- Trickle, refresh and relocation copies in flight (R545). -/
def State.trickleCount (s : State) : Nat :=
  s.ctxCount (fun c => c.st.inFlight && (c.kind == .trickle || c.kind == .refresh || c.kind == .reloc || c.kind == .metaPage))

/-- The block table entry of a block; a block that nothing has touched is as the factory leaves it: erased (log entry 7). -/
def State.blkOf (s : State) (b : Nat) : Blk := mget ⟨.free, 0, 0, false, false⟩ s.nand.blocks b

/-- The map entry of a granule (R240). -/
def State.mapOf (s : State) (g : Nat) : Nat := mget s.nand.mapDflt s.nand.map g

/-- A two-bit domain state of PS_DOM: 0 off, 1 on, 2 retention, 3 switching. -/
def State.pdState (s : State) (n : Nat) : Nat := s.getF Reg.PS_DOM_PD / 4 ^ n % 4

/-- The power domain is on (PS_DOM). -/
def State.pd (s : State) (n : Nat) : Bool := s.pdState n == 1

/-- The lamp-die register blocks answer: PD1 FABRIC is on and no lamp-die reset is in progress (R539). -/
def State.lampUp (s : State) : Bool := s.pd 1 && !s.getB Reg.MD_STATUS_LRST_ACT

/-- Service mode (R119). -/
def State.service (s : State) : Bool := s.getB Reg.MD_STATUS_SERVICE

/-- A mailbox command or a register write from the host restarts the 600 s of service mode (R119). -/
def State.hostTouch (s : State) : State := if s.service then s.setF Reg.DT_SVC_LEFT_S 600 else s

/-- A register write reaches the device on a path; only the CXL path is the host's (R119). -/
def State.wrote (s : State) (p : Path) : State :=
  match p with
  | .cxl => s.hostTouch
  | .spmi => s

/-- Media ready. -/
def State.mediaReady (s : State) : Bool := s.getB Reg.MD_STATUS_MEDIA_READY

/-- VIN is at or above RET_LEVEL (PS_STATUS.VIN_RET). -/
def State.vinRet (s : State) : Bool := s.getB Reg.PS_STATUS_VIN_RET

/-- Roles of TW_STATUS.ROLE. -/
def State.role (s : State) : Nat := s.getF Reg.TW_STATUS_ROLE
def State.isSolo (s : State) : Bool := s.role == 0
def State.isActive (s : State) : Bool := s.role == 1
def State.isStandby (s : State) : Bool := s.role == 2

/-- The mooring link is up, a retrain included (R401). -/
def State.linkOn (s : State) : Bool := s.getF Reg.TW_STATUS_LINK == 2 || s.getF Reg.TW_STATUS_LINK == 3

/-- The link is up and HELLO has resolved the roles (R394). -/
def State.twinUp (s : State) : Bool := s.linkOn && s.twin.sawHello

/-- The active frames every write to its partner while the partner is alive (R404, R429). -/
def State.framing (s : State) : Bool := s.isActive && s.twinUp && s.getF Reg.TW_STATUS_PARTNER == 0

/-- The active waits for acknowledgements until it goes solo, which marks the mirror stale; it does not while it resynchronises a stale one
(R41, R419, R429), but for the end of that (log entry 116). -/
def State.ackWait (s : State) : Bool := s.isActive && (s.getF Reg.TW_STATUS_MIRROR == 0 || s.twin.rsyDone)

/-- TW_STALE as it reads: a stale standby's stale-since epoch, the label of an active's valid touch map, otherwise all ones. -/
def State.twStale (s : State) : Nat :=
  if (s.isStandby && s.getF Reg.TW_STATUS_MIRROR != 0) || (s.isActive && s.twin.touchOk) then s.getF Reg.TW_STALE_EPOCH else 0xFFFFFFFF

/-- The unit's peers work in lockstep: twin operation is enabled (R393). -/
def State.twinOn (s : State) : Bool := s.hasTwin && s.getB Reg.TW_CFG_TWIN_EN

/-- The store can deliver: ES_STATUS.STORE is present or ready. -/
def State.storeOk (s : State) : Bool := s.getF Reg.ES_STATUS_STORE = 1 || s.getF Reg.ES_STATUS_STORE = 2

/-- Trickle mode (LG_STATUS.TRK_MODE): 0 OFF, 1 BACKGROUND, 2 FULL. -/
def State.trkMode (s : State) : Nat := s.getF Reg.LG_STATUS_TRK_MODE

/-- Writes that stand in the device and are not committed, in arrival order. -/
def State.heldWrites (s : State) : List Wr :=
  s.host.staged ++ (match s.host.stage with | some l => [l.w] | none => []) ++ s.host.ingress

/-- Ingress slots occupied: a write holds its slot until its NDR is committed (R81); a Clear Poison write holds none (R101). -/
def State.occupied (s : State) : Nat := (s.heldWrites.filter (fun w => !w.mbox)).length

/-- RwD credits the host holds: every slot that is not occupied, once they are released (R80, Table 1-3). -/
def State.hostRwd (s : State) : Nat := if s.getB Reg.HL_STATUS_CREDITS_OPEN then 256 - s.occupied else 0

/-- A path's own state. -/
def State.path (s : State) : Path → PathSt
  | .cxl => s.cxl
  | .spmi => s.spmiP

def State.setPath (s : State) (p : Path) (x : PathSt) : State :=
  match p with
  | .cxl => { s with cxl := x }
  | .spmi => { s with spmiP := x }

/-- The path reaches the register at an offset: CXL while the link is up, SPMI in slave mode, limited in OFF and DEN (R371 to R373). -/
def State.reach (s : State) (p : Path) (off : Nat) : Bool :=
  match p with
  | .cxl => s.getB Reg.HL_STATUS_LINK_UP
  | .spmi => s.getF Reg.SQ_SPMI_ROLE == 2 &&
      ((s.mode != .off && s.mode != .den) ||
        (s.spmi.awake && (off / 4096 == 1 || off / 4096 == 8 || off / 4096 == 9 || off / 4096 == 10)))

/-- k(T) in 1/100 000: linear between the points of LG_EGTEMP, held beyond the ends (R136); T in 0.1 °C. -/
def State.kOf (s : State) (t : Int) : Nat :=
  let p := [((-400 : Int), s.getF Reg.LG_EGTEMP_K_M40), (0, s.getF Reg.LG_EGTEMP_K_0), (250, 100),
    (850, s.getF Reg.LG_EGTEMP_K_85), (1500, s.getF Reg.LG_EGTEMP_K_150)]
  let seg := fun (a b : Int × Nat) => (((a.2 : Int) * 1000 * (b.1 - t) + (b.2 : Int) * 1000 * (t - a.1)) / (b.1 - a.1)).toNat
  if t ≤ -400 then s.getF Reg.LG_EGTEMP_K_M40 * 1000
  else if t ≤ 0 then seg (p.getD 0 (0, 0)) (p.getD 1 (0, 0))
  else if t ≤ 250 then seg (p.getD 1 (0, 0)) (p.getD 2 (0, 0))
  else if t ≤ 850 then seg (p.getD 2 (0, 0)) (p.getD 3 (0, 0))
  else if t < 1500 then seg (p.getD 3 (0, 0)) (p.getD 4 (0, 0))
  else s.getF Reg.LG_EGTEMP_K_150 * 1000

/-- Reported maximum temperature in 0.1 °C (TH_STATUS.T_MAX is in units of 0.1 °C, signed). -/
def State.tMax (s : State) : Int := s.getS Reg.TH_STATUS_T_MAX

/-- P_BMAX in 10 mW (R136). -/
def State.pBmax (s : State) : Nat := if s.is8430 then 1150 else 2200

/-- P_B in 10 mW (R136). -/
def State.pB (s : State) : Nat := min s.pBmax (s.getF Reg.ES_PMAX_P_STORE_MAX)

/-- P_BASE in 10 mW: as written, otherwise the part's own default, 2.0 W on the VX8430 and 3.2 W on the others (R136, LG_EFIXED). -/
def State.pBase (s : State) : Nat :=
  if (mfind Reg.LG_EFIXED_P_BASE.key s.regs).isSome then s.getF Reg.LG_EFIXED_P_BASE else if s.is8430 then 200 else 320

/-- Outputs that are always critical (R325). -/
def alwaysCritical (n : Nat) : Bool := [0, 1, 2, 3, 7, 9, 16].contains n

/-- The output is critical (R325, R350). -/
def State.critical (s : State) (n : Nat) : Bool :=
  alwaysCritical n || ((n < 12 || [17, 18, 19].contains n) && s.getB (Reg.PS_SET_CLASS n))

/-- The store is a lithium-titanate string (ES_CFG.STORE_TYPE). -/
def State.isLto (s : State) : Bool := s.getB Reg.ES_CFG_STORE_TYPE

/-- ES_ZONEn in force: as written, otherwise the store type's own column of Table 9-2 (R309). The table gives an LTO string no V_CELL in
Z4, where charging stops: the model takes Z3's (DESIGN CHOICE, log entry 108). -/
def State.zoneV (s : State) (z : Nat) : Nat :=
  if s.isLto ∧ (mfind (Reg.ES_ZONE_V_CELL z).key s.regs).isNone then ([2600, 2700, 2800, 2700, 2700] : List Nat).getD z 0
  else s.getF (Reg.ES_ZONE_V_CELL z)
def State.zoneRate (s : State) (z : Nat) : Nat :=
  if s.isLto ∧ (mfind (Reg.ES_ZONE_I_RATE z).key s.regs).isNone then ([2, 10, 20, 10, 0] : List Nat).getD z 0
  else s.getF (Reg.ES_ZONE_I_RATE z)

/-- The value of a field in force, for the fields whose default depends on the part or on the store type (R136, R309). -/
def State.dfltF (s : State) (f : Fld) : Nat :=
  if f.off = 0x3008 ∧ f.lo = 16 then s.pBase
  else if 0x8014 ≤ f.off ∧ f.off ≤ 0x8024 then (if f.lo = 16 then s.zoneV ((f.off - 0x8014) / 4) else s.zoneRate ((f.off - 0x8014) / 4))
  else s.getF f

/-- TH_THR2.HYST in force. -/
def State.thHyst (s : State) : Nat := max 2 (min 15 (s.getF Reg.TH_THR2_HYST))

/-- Step 1, Step 2, Step 3 and T_ORDERLY in force, in °C: a value below the one before it plus HYST acts as that sum. -/
def State.thresholds (s : State) : List Nat :=
  let h := s.thHyst
  let a := s.getF Reg.TH_THR1_STEP1
  let b := max (s.getF Reg.TH_THR1_STEP2) (a + h)
  let c := max (s.getF Reg.TH_THR1_STEP3) (b + h)
  [a, b, c, max (s.getF Reg.TH_THR1_ORDERLY) (c + h)]

/-- e_g(T) in 0.1 µJ, rounded up; 65.5 µJ when P_B is at most P_BASE + 1 W (R136). -/
def State.egOf (s : State) (t : Int) : Nat :=
  let pb := s.pB
  let base := s.pBase
  let n := s.getF Reg.LG_EG_EG_INC25 * s.kOf t * pb
  let d := 10000000 * (pb - base)
  if pb ≤ base + 100 then 655 else (n + d - 1) / d

end Sys2Proof.Machine
end

