-- ==== Sys2Proof/Machine/Operands.lean ====
section
/-! DEFINITION. What a register field reads as: its stored value, or the state behind it where the field is a view of a counter, a
queue or a table (the field descriptions of 02 to 16). A snapshot (R469), a register read (R10, R13) and the mailbox read here. -/

namespace Sys2Proof.Machine

/-- Number of one bits in the low n bits. -/
def popcount : Nat → Nat → Nat
  | 0, _ => 0
  | n + 1, v => v % 2 + popcount n (v / 2)

/-! ### Keeper flash figures (R453, R458, R463) -/

/-- A keeper-flash sector. -/
def State.sector (s : State) (n : Nat) : Sector := mget ⟨0, false, false, 0⟩ s.keep.sectors n

/-- Sectors of a range that satisfy a test; a sector that is not listed is good. -/
def State.sectCount (s : State) (lo hi : Nat) (p : Sector → Bool) : Nat :=
  (s.keep.sectors.filter (fun x => decide (lo ≤ x.1) && decide (x.1 < hi) && p x.2)).length

/-- G: journal sectors neither retired nor pending (R458). -/
def State.jGood (s : State) : Nat := 512 - s.sectCount 256 768 (fun x => x.retired || x.pending)

/-- W (R458). -/
def State.jWindow (s : State) : Nat := min 448 (s.jGood - 16)

/-- Free spare sectors: each retired LSA, control or spare sector has taken one (R453). -/
def State.spares (s : State) : Nat := 32 - s.sectCount 896 1024 (·.retired)

/-- PULSE_MAX: the most pulses that a word program has needed in a good journal or event sector since that sector's last erase (R463). -/
def State.pulseMax (s : State) : Nat :=
  s.keep.sectors.foldl (fun n x => if decide (256 ≤ x.1) && decide (x.1 < 896) && !x.2.retired && !x.2.pending then max n x.2.pulses else n) 0

/-- Keeper flash wear in % (R463). -/
def State.flashWear (s : State) : Nat := min 100 ((s.pulseMax - 4) * 100 / 12)

/-- The journal cannot be used (R465). -/
def State.jDead (s : State) : Bool := s.keep.state == 4

/-- Oldest and newest record SEQ held; 0 when none (R123). -/
def State.jNewest (s : State) : Nat := if s.jDead then 0 else s.keep.recs.foldl (fun m r => max m r.seq) 0
def State.jOldest (s : State) : Nat :=
  if s.jDead then 0 else s.keep.recs.foldl (fun m r => if m = 0 then r.seq else min m r.seq) 0

/-! ### NAND figures (Wear and health) -/

/-- Good copy blocks: populated blocks on good LUNs that are neither META nor BAD. -/
def State.goodCopyBlocks (s : State) : Nat :=
  s.goodLuns.length * s.blocksPerLun
    - (s.nand.blocks.filter (fun b => (b.2.st == .metaBlk || b.2.st == .bad) && !s.lunFailed (blockLun b.1))).length

/-- Sum of the erase counts of good copy blocks. -/
def State.eraseSum (s : State) : Nat :=
  (s.nand.blocks.filter (fun b => b.2.st != .metaBlk && b.2.st != .bad && !s.lunFailed (blockLun b.1))).foldl
    (fun n b => n + b.2.erases) 0

/-- The landing capacity: good pages in non-META blocks less the live copy pages. -/
def State.landCap (s : State) : Nat := s.goodCopyBlocks * s.ppb - (s.nand.map.filter (fun x => isPage x.2)).length

/-- The full-cover block count of a population. -/
def State.fullCover (s : State) : Nat :=
  if s.ppb = 0 then 0 else (2 * s.nUser + pMan s.nUser + 64 + 256 + s.ppb - 1) / s.ppb

/-- RETIRE_BUDGET in force: fixed at the first WAKE, carried by every root (Table 7-6, R264). -/
def State.retireBudget (s : State) : Nat := s.nand.budget.getD 0

/-- Copy blocks that are BAD: those of failed LUNs, untouched ones among them, and single ones; a block that has served as META is none. -/
def State.badCopyBlocks (s : State) : Nat :=
  let failed := s.luns.filter s.lunFailed
  failed.length * s.blocksPerLun - (s.nand.blocks.filter (fun b => s.lunFailed (blockLun b.1) && b.2.metaUse)).length
    + (s.nand.blocks.filter (fun b => b.2.st == .bad && !b.2.metaUse && !s.lunFailed (blockLun b.1))).length

/-- Copy blocks that became BAD since the first WAKE. -/
def State.badSinceFirst (s : State) : Nat := s.badCopyBlocks - s.nand.badAtFirst

/-- NB_WEAR.LIFE_USED (R264): 0 from POR until the block table has been read (R16). A RETIRE_BUDGET of 0 makes the quotient undefined: the share is then
0 with no copy block lost and 100 with one (DESIGN CHOICE, log entry 119). -/
def State.lifeUsed (s : State) : Nat :=
  let n := s.goodCopyBlocks
  let wear := if n = 0 then 0 else s.eraseSum * 100 / (n * (max 1 (s.getF Reg.NB_WEAR_RATED_KCYC) * 1000))
  let retire := if s.retireBudget = 0 then (if s.badSinceFirst = 0 then 0 else 100) else s.badSinceFirst * 100 / s.retireBudget
  if s.nand.lifeOn then min 100 (max wear retire) else 0

/-! ### Fields that are views -/

/-- Cover exhausted or not, as VX_COVER_STATUS and LG_STATUS.STATE show it. -/
def State.coverState (s : State) : Nat :=
  if s.getF Reg.ES_STATUS_STORE = 0 then 3 else if !s.storeOk || !s.coverOk then 2 else if s.trkMode ≠ 0 then 1 else 0

/-- The KIND code of BCn_CTL. -/
def CopyKind.code : CopyKind → Nat
  | .none => 0
  | .trickle | .refresh | .reloc | .metaPage => 1
  | .burrow => 2
  | .wt => 3

def liveMD (s : State) (off lo : Nat) : Option Nat :=
  if off = 0x1000 then (if lo = 0 then some s.mode.code else if lo = 4 then some s.phase.code else none)
  else if off = 0x1014 ∧ lo = 0 then some (min 3 s.bur.abnTimes.length)
  else none

def liveHL (s : State) (off lo : Nat) : Option Nat :=
  if off = 0x2000 ∧ lo = 28 then some s.role
  else if off = 0x2008 then (if lo = 9 then some s.occupied else if lo = 0 then some s.hostRwd else none)
  else if off = 0x201C then some s.poisonCount
  else if off = 0x2020 then
    (if lo = 16 then some (match s.host.auth.ticket with | some (_, e) => min 0xFFFF (e - s.ms) | none => 0)
     else if lo = 8 then some (b2n s.host.auth.chal.isSome)
     else if lo = 4 then some (min 3 (s.host.auth.fails.filter (fun t => decide (s.ms < t + 60000))).length)
     else if lo = 3 then some (b2n s.host.auth.ticket.isSome)
     else if lo = 0 then some (match s.host.auth.chal, s.host.auth.ticket with
       | some (_, p, _), _ => p
       | none, some (p, _) => p
       | none, none => 0)
     else none)
  else none

def liveLG (s : State) (off lo : Nat) : Option Nat :=
  if off = 0x3000 then
    (if lo = 5 then some (match s.host.stage with | some ⟨_, .wtBusy _⟩ => 1 | some ⟨_, .wtWait⟩ => 1 | _ => 0)
     else if lo = 4 then some (match s.host.stage with | some ⟨_, .cwait⟩ => 1 | _ => 0)
     else if lo = 3 then some (b2n (!s.landOk))
     else if lo = 2 then some (b2n (!s.energyOk))
     else if lo = 0 then some s.coverState
     else none)
  else if off = 0x3018 ∧ lo = 16 then some (min 65535 (s.cover.eg * 100))
  else if off = 0x301C then some (s.cover.eAvail % 2 ^ 32)
  else if off = 0x3020 ∧ lo = 0 then some (s.cover.eAvail / 2 ^ 32 % 2 ^ 16)
  else if off = 0x3024 then some ((s.cover.eDebt + 9) / 10 % 2 ^ 32)
  else if off = 0x3028 ∧ lo = 0 then some ((s.cover.eDebt + 9) / 10 / 2 ^ 32 % 2 ^ 16)
  else if off = 0x302C then some (s.cover.eBridge % 2 ^ 32)
  else if off = 0x3030 then some s.cover.nDirty
  else if off = 0x3038 then some (min (2 ^ 28 - 1) s.nand.pErased)
  else if off = 0x303C then some (landNeed s.cover.nDirty)
  else if off = 0x3048 ∧ lo = 24 then some (min 255 s.trickleCount)
  else none

/-- The default bank mask of R166; k is the bank bit. -/
def State.defaultMask (s : State) (k : Nat) : Nat :=
  let two := s.channels = 2
  let rank := if s.getB Reg.DC_CFG_RANKS then 1 else 0
  let base := if k = 0 then 7 else if two then 8 + k else 7 + k
  let r0 := (if two then 13 else 12) + rank
  2 ^ base + 2 ^ (r0 + k) + 2 ^ (r0 + 5 + k)


def liveBE (s : State) (off lo : Nat) : Option Nat :=
  if off = 0x502C then
    (if lo = 18 then some (s.ctxCount (fun c => c.st.inFlight))
     else if lo = 9 then some (s.ctxCount (fun c => c.st == .armed))
     else some (256 - s.ctxCount (fun c => c.st != .idle)))
  else if off = 0x5030 ∧ lo = 0 then some (s.ctxCount (fun c => c.st == .prog))
  else none

def liveBC (s : State) (off lo : Nat) : Option Nat :=
  let c := s.ctxOf ((off - 0x6000) / 16)
  match (off - 0x6000) % 16 with
  | 0 => if lo = 16 then some (c.ver / 2 ^ 32 % 2 ^ 16) else if lo = 15 then some (b2n c.poison)
    else if lo = 14 then some (b2n c.lostRec) else if lo = 11 then some (min 7 c.retgt)
    else if lo = 8 then some c.kind.code else some c.st.code
  | 4 => some c.gran
  | 8 => some (c.page / 2 ^ lo % (if lo = 29 then 8 else if lo = 27 then 4 else if lo = 26 then 2 else if lo = 10 then 65536 else 1024))
  | _ => some (c.ver % 2 ^ 32)

def liveNB (s : State) (off lo : Nat) : Option Nat :=
  if off = 0x7000 ∧ lo = 0 then some (s.luns.filter s.lunFailed).length
  else if off = 0x7018 then
    (if lo = 24 then some s.lifeUsed
     else if lo = 0 then some (if s.goodCopyBlocks = 0 ∨ !s.nand.lifeOn then 0 else min 0xFFFF (s.eraseSum / s.goodCopyBlocks / 10))
     else none)
  else if off = 0x701C then some (if s.nand.capOn then min (2 ^ 28 - 1) s.landCap else 0)
  else if off = 0x7034 then some (s.nand.epoch % 2 ^ 32)
  else if off = 0x7038 then some (s.nand.epoch / 2 ^ 32 % 2 ^ 16)
  else none

def liveSQ (s : State) (off lo : Nat) : Option Nat :=
  if off = 0xA000 ∧ lo = 8 then some (min 15 s.spmi.queue.length) else none

def liveTW (s : State) (off lo : Nat) : Option Nat :=
  if off = 0xC000 ∧ lo = 20 then
    (if s.getF Reg.TW_STATUS_LINK = 0 ∧ s.pd 8 ∧ s.twinOn ∧ !s.twin.heldDown then some 1 else none)
  else if off = 0xC00C then some s.twStale
  else if off = 0xC010 then some (s.twin.acc % 2 ^ 32)
  else if off = 0xC014 then some (s.twin.acc / 2 ^ 32 % 2 ^ 32)
  else if off = 0xC018 then some (s.twin.apl % 2 ^ 32)
  else if off = 0xC01C then some (s.twin.apl / 2 ^ 32 % 2 ^ 32)
  else if off = 0xC020 ∧ lo = 16 then some (min 511 s.twin.mstaged.length)
  else none

/-- The plane of a keeper-flash sector (Table 14-1). -/
def planeOf (sector : Nat) : Nat := if sector < 256 then 0 else 1

/-- The erase in progress on a plane. -/
def State.eraseOn (s : State) (p : Nat) : Option FlashErase := s.keep.erasing.find? (fun e => planeOf e.sector == p)

/-- A plane is programming or erasing. -/
def State.planeBusy (s : State) (p : Nat) : Bool :=
  (match s.eraseOn p with | some e => !e.suspended | none => false)
  || s.keep.progs.any (fun g => !g.otp && planeOf (g.word / 512) == p)

def liveEF (s : State) (p : Path) (off lo : Nat) : Option Nat :=
  let x := s.path p
  if off = 0xD000 then
    some (if lo = 12 then x.efErr else if lo = 11 then b2n x.efUndef else if lo = 10 then b2n x.efUncorr
      else if lo = 9 then b2n x.efCorr else if lo = 7 then b2n (x.unlock == 2)
      else if lo = 6 then (match s.eraseOn 1 with | some e => b2n e.suspended | none => 0)
      else if lo = 5 then b2n (s.planeBusy 1) else if lo = 4 then b2n (s.planeBusy 0) else b2n x.efDone)
  else if off = 0xD00C then some (if lo = 31 then b2n x.efOtp else x.efAddr)
  else if off = 0xD010 then some x.efLo
  else if off = 0xD014 then some x.efHi
  else if !s.keep.up then none
  else if off = 0xD018 then
    some (if lo = 24 then s.keep.state else if lo = 16 then s.flashWear else min 16 s.pulseMax)
  else if off = 0xD01C then some (if lo = 16 then s.jWindow else s.jGood)
  else if off = 0xD020 then some (if lo = 16 then s.keep.sinceStep else s.keep.start)
  else if off = 0xD024 then some s.jNewest
  else if off = 0xD028 then some s.jOldest
  else if off = 0xD02C then
    some (if lo = 16 then s.sectCount 256 1024 (·.retired) else if lo = 8 then s.spares
      else min 255 (s.sectCount 0 1024 (·.pending)))
  else none

def liveEV (s : State) (p : Path) (off lo : Nat) : Option Nat :=
  let x := s.path p
  if off = 0xE000 then
    (if lo = 16 then some s.ev.queue.length
     else if lo = 11 then some (b2n (s.keep.up && decide (3 ≤ s.keep.state)))
     else if lo = 10 then some (b2n s.ev.clearing.isSome)
     else none)
  else if off = 0xE018 then
    some (if lo = 16 then s.ev.ring.length else (s.ev.ring.filter (fun r => !r.2.flushed)).length)
  else if off = 0xE01C then (if s.keep.up then some (if lo = 16 then s.ev.head else s.ev.arch.length) else none)
  else if off = 0xE024 then
    some (if lo = 31 then b2n x.rdTier else if lo = 30 then b2n x.rdLoaded else if lo = 29 then b2n x.rdEmpty else x.rdSlot)
  else if 0xE040 ≤ off ∧ off ≤ 0xE07C then some (x.rdData.getD ((off - 0xE040) / 4) 0)
  else none

def liveID (s : State) (off lo : Nat) : Option Nat :=
  if off = 0 then some (if lo = 16 then s.otp.part else s.otp.rev)
  else if off = 4 then
    some (if lo = 24 then (if s.is8430 then 0x20 else 0x40) else if lo = 16 then (if s.is8430 then 0x20 else 0x40)
      else if s.is8430 then 0x05 else if s.hasTwin then 0x3F else 0x2F)
  else if off = 8 then some s.otp.fit
  else if off = 0xC ∧ lo = 8 then some s.otp.blMax
  else if off = 0x10 then some (s.otp.serial % 2 ^ 32)
  else if off = 0x14 then some (s.otp.serial / 2 ^ 32 % 2 ^ 32)
  else none

def liveES (s : State) (off lo : Nat) : Option Nat :=
  if off = 0x8038 ∧ lo = 8 then
    some (if s.getF Reg.ES_AUDIT2_ETA = 0 then 0 else min 255 ((s.ms - s.store.lastPass) / 3600000))
  else if off = 0x8054 then some (if lo = 16 then s.store.progUs / 60000000 else s.store.wallMs / 60000)
  else none

def livePS (s : State) (off lo : Nat) : Option Nat :=
  if off = 0x9000 then (if lo = 24 then some s.rail.latched.length
    else if lo = 16 then some ((List.range 24).filter (fun n => s.rail.warned.any (fun k => k / 4 == n))).length else none)
  else none

/-- The state behind a field, where the field is a view. -/
def liveF (s : State) (p : Path) (off lo : Nat) : Option Nat :=
  match off / 4096 with
  | 0 => liveID s off lo
  | 1 => liveMD s off lo
  | 2 => liveHL s off lo
  | 3 => liveLG s off lo
  | 5 => liveBE s off lo
  | 6 => liveBC s off lo
  | 7 => liveNB s off lo
  | 8 => liveES s off lo
  | 9 => livePS s off lo
  | 10 => liveSQ s off lo
  | 12 => liveTW s off lo
  | 13 => liveEF s p off lo
  | 14 => liveEV s p off lo
  | _ => none

/-- The offset lies in a block of a unit that the silicon lacks (R6). -/
def State.absentReg (s : State) (off : Nat) : Bool :=
  (off / 4096 == 12 && !s.hasTwin) || (decide (0x4800 ≤ off) && decide (off < 0x5000) && s.is8430)

/-- The offset lies in a lamp-die block (R539). -/
def lampReg (off : Nat) : Bool := decide (2 ≤ off / 4096) && decide (off / 4096 ≤ 7)

/-- The register block answers: it is present and, on the lamp die, powered and out of reset. -/
def State.regLive (s : State) (off : Nat) : Bool :=
  !s.absentReg off && (!lampReg off || s.lampUp)

/-- The offset is that of a PSn_SET, and its output's index. -/
def isOutSet (off : Nat) : Bool := decide (0x9100 ≤ off) && decide (off < 0x9280) && off % 16 == 0
def outIdx (off : Nat) : Nat := (off - 0x9100) / 16

/-- A field's current value as a path sees it; a WO field reads 0 (R13), a CL field the value last written (R540), and DC_XORn of 0 the
default mask in force (R166). ES_ACC.MODE reads 0 on the VX8430 (R322); CLASS
reads 1 for outputs that are always critical and 0 for S0 to S3, and SAFE reads 0 for critical outputs (R348). -/
def State.viewF (s : State) (p : Path) (f : Fld) : Nat :=
  let v := (mfind f.key s.written).getD (s.dfltF f)
  if f.acc = .wo then 0
  else if f.off = 0x4000 ∧ f.lo = 8 ∧ s.is8430 then v % 2
  else if f.off = 0x8058 ∧ f.lo = 30 ∧ s.is8430 then 0
  else if isOutSet f.off ∧ f.lo = 29 ∧ (alwaysCritical (outIdx f.off) ∨ 20 ≤ outIdx f.off) then b2n (outIdx f.off < 20)
  else if isOutSet f.off ∧ f.lo = 28 ∧ s.critical (outIdx f.off) then 0
  else if f.off = 0x7004 ∧ f.lo = 0 ∧ s.is8430 then v % 16
  else if f.acc = .cl then (if 0x4008 ≤ f.off ∧ f.off ≤ 0x4018 ∧ v = 0 then s.defaultMask ((f.off - 0x4008) / 4) else v)
  else ((liveF s p f.off f.lo).getD v) % 2 ^ f.w

/-- The 32 bits of the register at an aligned offset, without the side effects of a read; a reserved field reads 0 (R12, R538). -/
def State.regView (s : State) (p : Path) (off : Nat) : Nat :=
  if s.regLive off then (Reg.fieldsAt off).foldl (fun n f => n + s.viewF p f * 2 ^ f.lo) 0 else 0

/-! ### Snapshots (R469) -/

/-- The register offset of snapshot slot k of a class. -/
def State.slotOff (s : State) (cls k : Nat) : Nat :=
  let i := 4 * (cls % 64) + k / 2
  if k % 2 = 0 then s.getF (Reg.EV_MASK_OFF_A i) else s.getF (Reg.EV_MASK_OFF_B i)

/-- A slot gives a value: an aligned offset of a block that is present and powered. -/
def State.slotOk (s : State) (cls k : Nat) : Bool :=
  let o := s.slotOff cls k
  o != 0xFFFF && o % 4 == 0 && s.regLive o

def State.snaps (s : State) (cls : Nat) : List Nat :=
  (List.range 8).map (fun k => if s.slotOk cls k then s.regView .cxl (s.slotOff cls k) else 0)

def State.snapValid (s : State) (cls : Nat) : Nat :=
  (List.range 8).foldl (fun n k => n + b2n (s.slotOk cls k) * 2 ^ k) 0

end Sys2Proof.Machine
end

