-- ==== Sys2Proof/Machine/Flags.lean ====
section
/-! DEFINITION. Status flags and what raises them: events into the pending queue (R468 to R473), journal requests (R456), poison bits
(R98, R102), the mode and LOCKOUT flags (R46 to R64), service mode (R119) and burrow triggers (R49 to R56). -/

namespace Sys2Proof.Machine

/-! ### Events -/

/-- Time of an event in ms: the device timestamp, or ms since POR before the first Set Timestamp (R110). -/
def State.evTime (s : State) : Nat := (if s.tsSet then s.tstamp / 1000000 else s.ms) % 2 ^ 48

/-- The keeper does not move pending entries: a freeze, a KRST, the wait for the reload, or PD10 off (R470). -/
def State.evBlocked (s : State) : Bool :=
  s.getB Reg.EV_STATUS_FREEZE || !s.keep.up || s.ev.reload || !s.pd 10

/-- The Event Record Handle (Table 15-1, R413). -/
def State.evHandle (s : State) : Nat :=
  if s.isStandby && s.getF Reg.TW_STATUS_PARTNER != 0 then 0x8000 + s.ev.ownHandle % 0x8000 else s.ev.seq % 32767 + 1

/-- Both units log every event, under one sequence: the partner is there and alive, with no split (R413). -/
def State.sharing (s : State) : Bool :=
  !s.isSolo && s.twinUp && s.getF Reg.TW_STATUS_PARTNER == 0 && !s.getB Reg.TW_STATUS_SPLIT

/-- The record of one occurrence (R468, R469). -/
def State.mkRec (s : State) (cls : Nat) (sev : Sev) (param : Nat) : EvRec :=
  { seq := s.ev.seq, cls := cls, sev := sev, noClear := cls == 0x3A, relTime := !s.tsSet, copy := false,
    pended := s.evBlocked, reloaded := false, mode := s.mode.code, phase := s.phase.code, snapValid := s.snapValid cls,
    time := s.evTime, rep := 1, param := param, lastDt := 0, snaps := s.snaps cls, handle := s.evHandle,
    consumed := false, flushed := false, opened := true }

/-- Two records are identical in the sense of R472. -/
def EvRec.same (a b : EvRec) : Bool := a.cls == b.cls && a.sev == b.sev && a.param == b.param

/-- One more occurrence in a record (R472). -/
def EvRec.again (a : EvRec) (n time : Nat) : EvRec :=
  { a with rep := a.rep + n, lastDt := min 0xFFFFFFFF (time - a.time) }

/-- The first non-CRITICAL entry of a list, removed, with its REPEAT. -/
def dropNonCrit : List EvRec → Option (List EvRec × Nat)
  | [] => none
  | e :: t => if e.sev = .critical then (dropNonCrit t).map (fun p => (e :: p.1, p.2)) else some (t, e.rep)

/-- A new entry for the pending queue, and the occurrences that overflow loses (R473). -/
def pushEntry (q : List EvRec) (e : EvRec) : List EvRec × Nat :=
  if q.length < 32 then (q ++ [e], 0)
  else if e.sev = .critical then
    match dropNonCrit q.reverse with
    | some (r, n) => (r.reverse ++ [e], n)
    | none => (q, 1)
  else (q, 1)

/-- An occurrence reaches the pending queue: it folds into the newest entry or enters (R472, R473). -/
def enqueue (q : List EvRec) (e : EvRec) : List EvRec × Nat :=
  match q.getLast? with
  | some a => if a.same e && decide (a.rep < 65535) then (q.dropLast ++ [a.again 1 e.time], 0) else pushEntry q e
  | none => pushEntry q e

/-- Raise an event (R470 to R473). -/
def State.raise (s : State) (src : EvSource) (cls : Nat) (sev : Sev) (param : Nat) : State :=
  { s with
    ev := { s.ev with
      queue := (enqueue s.ev.queue (s.mkRec cls sev param)).1
      seq := s.ev.seq + 1
      ownHandle := s.ev.ownHandle + 1
      srcs := if s.sharing then s.ev.srcs ++ [src == .partner] else []
      lastSrc := src }
    regs := setRegs [(Reg.EV_RAISED_RAISED, s.getF Reg.EV_RAISED_RAISED + 1),
      (Reg.EV_LOSS_PEND_OVF, s.getF Reg.EV_LOSS_PEND_OVF + (enqueue s.ev.queue (s.mkRec cls sev param)).2)] s.regs }

/-- Raise an event when a condition holds. -/
def State.raiseIf (s : State) (b : Bool) (src : EvSource) (cls : Nat) (sev : Sev) (param : Nat) : State :=
  if b then s.raise src cls sev param else s

/-! ### Alerts (R105) -/

/-- Life Used in %. -/
def State.lifePct (s : State) : Nat := min 100 (max s.lifeUsed s.flashWear)

/-- Which enabled thresholds are crossed: bits 0 life, 1 over-temperature, 2 under-temperature, 3 corrected errors (R105). -/
def State.crossed (s : State) : Nat :=
  let a := s.host.alert
  b2n (match a.lifeUsed with | some v => decide (v ≤ s.lifePct) | none => false)
    + 2 * b2n (match a.overTemp with | some v => decide (v * 10 ≤ s.tMax) | none => false)
    + 4 * b2n (match a.underTemp with | some v => decide (s.tMax ≤ v * 10) | none => false)
    + 8 * b2n (match a.corrPersistent with | some v => decide (v ≤ s.host.corrections) | none => false)

/-- A threshold newly crossed logs a Memory Module Event in the Warning log (R105). -/
def State.alertScan (s : State) (before : Nat) : State :=
  s.raiseIf ((List.range 4).any (fun k => s.crossed.testBit k && !before.testBit k)) .keeper 0x1D .warning 0

/-- The severity of each class of Table 15-3; THROTTLE takes two. -/
def evSev (cls : Nat) : List Sev :=
  if cls = 0x04 then [.info, .warning]
  else if 1 ≤ cls ∧ cls ≤ 6 then [.info]
  else if 0x10 ≤ cls ∧ cls ≤ 0x1D then [.warning]
  else if 0x20 ≤ cls ∧ cls ≤ 0x2E then [.error]
  else if 0x30 ≤ cls ∧ cls ≤ 0x3A then [.critical]
  else []

/-! ### Journal requests -/

/-- No further journal record is begun: the journal cannot be used (R465), or VSYS_LOSS stands (R344). -/
def State.jShut (s : State) : Bool := s.jDead || s.getB Reg.PS_STATUS_VSYS_LOSS

/-- Ask the keeper to write a record; none is written while the journal is shut (R344, R456, R465). -/
def State.jput (s : State) (p : JPay) : State :=
  { s with keep := { s.keep with jq := if s.jShut then s.keep.jq else s.keep.jq ++ [p] } }

/-! ### Poison (R98, R99) -/

/-- Set a line's poison bit with its error source: 2 internal, 3 injected. -/
def State.setPoison (s : State) (line src : Nat) : State :=
  if s.byWhole line then s else { s with dram := { s.dram with poison := mset line src s.dram.poison } }

/-- Set the poison bits of lines. -/
def State.setPoisons (s : State) (lines : List Nat) : State := lines.foldl (fun (a : State) l => a.setPoison l 2) s

/-- Clear a line's poison bit (R20). -/
def State.clearPoison (s : State) (line : Nat) : State :=
  { s with dram := { s.dram with
      poison := mdel line s.dram.poison
      cleared := if s.wholly (granOf line) then sadd line s.dram.cleared else s.dram.cleared } }

/-- No line is poisoned. -/
def DramSt.noPoison (d : DramSt) : DramSt := { d with poison := [], wholeDflt := false, whole := [], cleared := [] }

/-- A DRAM read in RUN, or in RESTORE after media ready, poisons a line: bit, event and count (R98, R102). -/
def State.poisonRun (s : State) (line : Nat) : State :=
  if s.poisoned line then s else (s.setPoison line 2).raise .lamp 0x2B .error line

/-! ### Modes, service mode and LOCKOUT -/

/-- Leave service mode; `exit` is DT_SVC.EXIT (R119). -/
def State.leaveService (s : State) (exit : Nat) : State :=
  if s.service then
    (s.setFs [(Reg.MD_STATUS_SERVICE, 0), (Reg.DT_SVC_EXIT, exit), (Reg.DT_SVC_LEFT_S, 0)]).raise .keeper 0x03 .info 0
  else s

/-- Change the mode: MD_LAST, MD_ENTRY_MS, clean-all ends (R47, R156), the touch map ends (R427), the balancer is off
outside WAKE and RUN (R301), and the media is ready in RUN and RESTORE
only (Table 3-2). -/
def State.setMode (s : State) (m : Mode) (ph : Phase) : State :=
  { s with
    mode := m
    phase := ph
    twin := { s.twin with touchOk := false }
    regs := setRegs [(Reg.MD_LAST_FROM, s.mode.code), (Reg.MD_LAST_TO, m.code),
      (Reg.MD_LAST_TRANS_SEQ, s.getF Reg.MD_LAST_TRANS_SEQ + 1), (Reg.MD_ENTRY_MS_ENTRY_MS, s.ms),
      (Reg.LG_STATUS_CLEAN_ALL, 0),
      (Reg.ES_STATUS_BAL_ACTIVE, if m = .wake ∨ m = .run then s.getF Reg.ES_STATUS_BAL_ACTIVE else 0),
      (Reg.MD_STATUS_MEDIA_READY, if m = .run ∨ m = .restore then s.getF Reg.MD_STATUS_MEDIA_READY else 0)] s.regs }

def State.enterMode (s : State) (m : Mode) (ph : Phase) : State := (s.leaveService 2).setMode m ph

/-- The order of R62 in which REASON chooses among recorded codes. -/
def lockOrder : List Nat := [7, 6, 8, 1, 2, 3, 4, 5, 9]

/-- The code REASON shows for a set of recorded codes. -/
def lockPick (all : Nat) : Nat := (lockOrder.find? (fun c => all.testBit (c - 1))).getD 0

/-- Record a LOCKOUT reason (R62); every code but 0x01 also raises the CRITICAL event. -/
def State.recordLock (s : State) (code rail : Nat) : State :=
  let all := s.getF Reg.MD_LOCKOUT_ALL ||| 2 ^ (code - 1)
  let r := if code = 4 ∨ code = 5 then rail else if s.getF Reg.MD_LOCKOUT_ALL = 0 then 0 else s.getF Reg.MD_LOCKOUT_RAIL
  (s.setFs [(Reg.MD_LOCKOUT_ALL, all), (Reg.MD_LOCKOUT_REASON, lockPick all), (Reg.MD_LOCKOUT_RAIL, r)]).raiseIf
    (code != 1) .keeper 0x30 .critical (code + 256 * r)

/-- A reason is recorded and not yet released. -/
def State.lockHas (s : State) (code : Nat) : Bool := (s.getF Reg.MD_LOCKOUT_ALL).testBit (code - 1)

/-- Set the two-bit states of power domains (PS_DOM). -/
def State.setPd (s : State) (l : List Nat) (v : Nat) : State :=
  s.setF Reg.PS_DOM_PD (l.foldl (fun d n => d - d / 4 ^ n % 4 * 4 ^ n + v * 4 ^ n) (s.getF Reg.PS_DOM_PD))

/-- The domains that the silicon has (R5). -/
def State.hasPd (s : State) (n : Nat) : Bool := !(s.is8430 && (n == 4 || n == 7)) && !(n == 8 && !s.hasTwin)

/-! ### Burrow triggers -/

/-- VIN is away as Table 2-2 reads it. -/
def State.vinLoss (s : State) : Bool := s.getB Reg.PS_STATUS_CMP_A || s.getB Reg.PS_STATUS_CMP_B

/-- The bridge window in ms (MD_CFG.BRIDGE_MS; values above 50 act as 50). -/
def State.bridgeMs (s : State) : Nat := min 50 (s.getF Reg.MD_CFG_BRIDGE_MS)

/-- A running store audit is aborted (R315). -/
def State.abortAudit (s : State) : State :=
  { s with
    store := { s.store with auditDue := s.store.auditDue || s.getB Reg.ES_STATUS_AUDIT_BUSY }
    regs := setRegs [(Reg.ES_STATUS_AUDIT_BUSY, 0),
      (Reg.ES_AUDIT2_RESULT, if s.getB Reg.ES_STATUS_AUDIT_BUSY then 4 else s.getF Reg.ES_AUDIT2_RESULT)] s.regs }

/-- Causes of Table 2-3 set in MD_CAUSE. -/
def State.causes (s : State) : Nat := s.getF Reg.MD_CAUSE_CAUSES

/-- Every recorded cause is abandonable (R57). -/
def allAbandonable (causes : Nat) : Bool := causes / 32 == 0

def State.addCause (s : State) (c : Cause) : State := s.setF Reg.MD_CAUSE_CAUSES (s.causes ||| 2 ^ c.bit)

/-- A cause joins a burrow: a non-abandonable one makes it non-abandonable, and MD_STATUS shows that (R57, R65). -/
def State.joinCause (s : State) (c : Cause) : State :=
  (s.addCause c).setF Reg.MD_STATUS_NOABANDON (if c.abandonable then s.getF Reg.MD_STATUS_NOABANDON else 1)

/-- Open a bridge window (R54, R55). -/
def State.openBridge (s : State) (c : Cause) : State :=
  { (s.setFs [(Reg.MD_CAUSE_CAUSES, 2 ^ c.bit), (Reg.MD_STATUS_BRIDGE, 1)]).abortAudit.raise .keeper 0x02 .info 1 with
    bur := { s.bur with bridgeAt := s.ms } }

/-- Start a burrow: MD_CAUSE, BURROW_COUNT and the trigger wire; the fence follows (R49, R55). MD_STATUS.NOABANDON shows whether it can be
abandoned (R57, R61). -/
def State.startBurrow (s : State) (c : Cause) : State :=
  let keep := s.getB Reg.MD_STATUS_BRIDGE
  { ((s.setFs [(Reg.MD_CAUSE_CAUSES, (if keep then s.causes else 0) ||| 2 ^ c.bit), (Reg.MD_STATUS_BRIDGE, 0),
      (Reg.MD_CAUSE_BURROW_COUNT, min 0xFFFF (s.getF Reg.MD_CAUSE_BURROW_COUNT + 1)),
      (Reg.MD_STATUS_NOABANDON, b2n (!c.abandonable || s.getB Reg.MD_ABANDON_FORCE_NEXT))]).abortAudit.raiseIf
      keep .keeper 0x02 .info 0) with
    bur := { s.bur with trig := true } }

/-- A slot's 64 bits: PAGE, VALID, LOST, POISON (R217). -/
def Slot.bits (x : Slot) : Nat := x.page + 2 ^ 32 + (if x.lost then 2 ^ 33 else 0) + (if x.poison then 2 ^ 34 else 0)

/-- The write-buffer entry that records a slot: 8 B of the granule's staging line (R218). -/
def slotBe (g : Nat) : ByteEn := BitVec.ofNat 64 (0xFF * 2 ^ (8 * (g % 4096 / 2 % 8)))
def slotData (g : Nat) (x : Slot) : LineData := BitVec.ofNat 512 (x.bits * 2 ^ (64 * (g % 4096 / 2 % 8)))

/-- A committed write enters the write buffer; over an entry of its line that is not admitted it replaces the data (R168). -/
def wbMerge (l : List WbEntry) (line : Nat) (be : ByteEn) (d : LineData) : List WbEntry :=
  if l.any (fun e => e.line == line && !e.admitted) then
    l.map (fun e => if e.line == line && !e.admitted then { e with be := e.be ||| be, data := mergeLine be d e.data } else e)
  else l ++ [⟨line, be, d, false, none, false⟩]

/-- Record a granule's slot in the staging table, by a committed write-buffer entry (R218; log entry 90). -/
def State.recordSlot (s : State) (g : Nat) (x : Slot) : State :=
  { s with
    bur := { s.bur with staging := mset g x s.bur.staging }
    dram := { s.dram with
      wbuf := if s.lineFailed (s.stagingLineOf g) then s.dram.wbuf else wbMerge s.dram.wbuf (s.stagingLineOf g) (slotBe g) (slotData g x) } }

/-- A granule that could not be landed is recorded LOST in the staging table (R218). -/
def State.lostSlot (s : State) (g : Nat) : State := s.recordSlot g ⟨0, true, false, false⟩

/-- A non-abandonable cause cancels an abandon that has not written its record: the burrow runs to completion (R60). In P2 the sweep takes the
handed-back granules again; in P3, where no visit follows, each is recorded LOST again. Causes that the abandon had latched join the burrow
(R65). -/
def State.cancelAbandon (s : State) : State :=
  let back := if s.phase = .p3 then s.bur.handoff else []
  let t := s.bur.latched.foldl State.joinCause (back.foldl State.lostSlot s)
  { (t.setFs [(Reg.MD_STATUS_NOABANDON, 1), (Reg.BE_STATUS_ABANDONING, 0),
      (Reg.BE_TAKEN_TAKEN, s.getF Reg.BE_TAKEN_TAKEN + back.length), (Reg.BE_LOST_LOST, s.getF Reg.BE_LOST_LOST + back.length)]) with
    bur := { t.bur with
      abn := .none
      latched := []
      stopped := s.getB Reg.BE_STATUS_ESTOP
      handoff := if s.phase = .p3 then [] else s.bur.handoff } }

/-- A trigger source qualifies (R49, R54 to R56, R60, R65, R71). A trigger during an LRST or late in an abandon is latched. -/
def State.trigger (s : State) (c : Cause) : State :=
  match s.mode with
  | .run | .restore =>
    if s.mode = .restore ∧ ¬ s.mediaReady then s
    else if s.getB Reg.MD_STATUS_LRST_ACT then
      { s.abortAudit with bur := { s.bur with latched := s.bur.latched ++ [c] } }
    else if s.bur.trig then s.joinCause c
    else if c.bridgeable ∧ 0 < s.bridgeMs ∧ s.mode = .run then
      (if s.getB Reg.MD_STATUS_BRIDGE then s.addCause c else s.openBridge c)
    else s.startBurrow c
  | .burrow =>
    if s.bur.abn = .none then s.joinCause c
    else if s.bur.abn = .finishing ∧ ¬ c.abandonable then (s.addCause c).cancelAbandon
    else { s with bur := { s.bur with latched := s.bur.latched ++ [c] } }
  | _ => s

end Sys2Proof.Machine
end

