-- ==== Sys2Proof/Machine/Events.lean ====
section
/-! DEFINITION. The event recorder (15): the ring, the archive, freeze, clear and the read window. -/

namespace Sys2Proof.Machine

/-! ### Records as bytes -/

/-- Bytes 0 to 59 of a record (Table 15-1). -/
def EvRec.body (e : EvRec) : List Byte :=
  leBytes 4 e.seq ++ leBytes 1 e.cls
    ++ leBytes 1 (e.sev.code + 4 * b2n e.noClear + 8 * b2n e.relTime + 16 * b2n e.copy + 32 * b2n e.pended + 64 * b2n e.reloaded)
    ++ leBytes 1 (e.mode + 16 * e.phase) ++ leBytes 1 e.snapValid ++ leBytes 6 e.time ++ leBytes 2 e.rep ++ leBytes 4 e.param
    ++ leBytes 4 e.lastDt ++ (e.snaps.map (leBytes 4)).flatten ++ leBytes 2 e.handle ++ leBytes 2 0

/-- The 64 B record with its CRC (Table 15-1). -/
def EvRec.bytes (e : EvRec) : List Byte := e.body ++ leBytes 4 (crc32c e.body)

/-- Sixteen little-endian words of a 64 B record. -/
def wordsOf (b : List Byte) : List Nat := (List.range 16).map (fun k => ofLe ((b.drop (4 * k)).take 4))

/-! ### The ring -/

/-- The record of greatest SEQ, with its slot: the ring's newest record. -/
def newest (m : List (Nat × EvRec)) : Option (Nat × EvRec) :=
  m.foldl (fun b x => match b with
    | none => some x
    | some y => if y.2.seq < x.2.seq then some x else some y) none

/-- The victim among records: lowest severity, oldest by SEQ (R474). -/
def victimOf (m : List (Nat × EvRec)) : Option (Nat × EvRec) :=
  m.foldl (fun b x => match b with
    | none => some x
    | some y => if x.2.sev.code < y.2.sev.code || (x.2.sev.code == y.2.sev.code && x.2.seq < y.2.seq) then some x else some y) none

/-- The oldest record by SEQ. -/
def oldestOf (m : List (Nat × EvRec)) : Option (Nat × EvRec) :=
  m.foldl (fun b x => match b with
    | none => some x
    | some y => if x.2.seq < y.2.seq then some x else some y) none

/-- The lowest slot below n that a map does not list. -/
def freeSlot (n : Nat) (m : List (Nat × EvRec)) : Option Nat := (List.range n).find? (fun k => (mfind k m).isNone)

/-- The slot that a new record of a full ring takes (R474, R475): a victim, unless the new record is to be discarded. -/
def ringVictim (m : List (Nat × EvRec)) (e : EvRec) : Option (Nat × EvRec) :=
  let clears := m.filter (fun x => x.2.noClear)
  if e.noClear ∧ 16 < clears.length then oldestOf clears
  else match victimOf (m.filter (fun x => !x.2.noClear)) with
    | some v => if v.2.sev = .critical ∧ e.sev ≠ .critical then none else some v
    | none => none

/-- What adding a record to the ring does: the new ring, and the record it overwrote or discarded. -/
def ringAdd (m : List (Nat × EvRec)) (e : EvRec) : List (Nat × EvRec) × Option EvRec × Bool :=
  match freeSlot 1024 m with
  | some k => (mset k e m, none, true)
  | none =>
    match ringVictim m e with
    | some v => (mset v.1 e m, some v.2, true)
    | none => (m, none, false)

/-- Close the newest record of the ring. -/
def closeNewest (m : List (Nat × EvRec)) : List (Nat × EvRec) :=
  match newest m with
  | some (k, r) => mset k { r with opened := false } m
  | none => m

/-- A record enters the ring; an overwrite or a discard is counted and may set a log's overflow flag (R108, R473 to R477). -/
def State.ringEnter (s : State) (e : EvRec) : State :=
  let a := ringAdd (closeNewest s.ev.ring) e
  let lost := match a.2.1 with
    | some v => if v.consumed then [] else [v.sev.code]
    | none => if a.2.2 then [] else [e.sev.code]
  let drop := match a.2.1 with
    | some v => b2n (!v.flushed)
    | none => 0
  let crit := match a.2.1 with
    | some v => b2n (v.sev == .critical)
    | none => 0
  { s with
    ev := { s.ev with ring := if a.2.2 then a.1 else s.ev.ring, ovf := lost.foldl (fun m c => mset c true m) s.ev.ovf }
    regs := setRegs [(Reg.EV_SEQ_SEQ, if a.2.2 then e.seq else s.getF Reg.EV_SEQ_SEQ),
      (Reg.EV_ENTERED_ENTERED, s.getF Reg.EV_ENTERED_ENTERED + (if a.2.2 then e.rep else 0)),
      (Reg.EV_LOSS_DISCARD, s.getF Reg.EV_LOSS_DISCARD + (if a.2.2 then 0 else e.rep)),
      (Reg.EV_DROP_FLASH_DROP, min 0xFFFF (s.getF Reg.EV_DROP_FLASH_DROP + drop)),
      (Reg.EV_DROP_CRIT_OVF, min 0xFFFF (s.getF Reg.EV_DROP_CRIT_OVF + crit))] s.regs }

/-- A pending entry reaches the ring: it folds into the newest record while that is identical and open, or enters (R472). -/
def State.ringTake (s : State) (e : EvRec) : State :=
  match newest s.ev.ring with
  | some (k, r) =>
    if r.same e && r.opened then
      (if r.rep + e.rep < 65535 then
        { s with
          ev := { s.ev with ring := mset k (r.again e.rep (e.time + e.lastDt)) s.ev.ring }
          regs := setRegs [(Reg.EV_ENTERED_ENTERED, s.getF Reg.EV_ENTERED_ENTERED + e.rep)] s.regs }
      else
        let full := { (r.again (65535 - r.rep) (e.time + e.lastDt)) with opened := false }
        let s1 : State := { s with
          ev := { s.ev with ring := mset k full s.ev.ring }
          regs := setRegs [(Reg.EV_ENTERED_ENTERED, s.getF Reg.EV_ENTERED_ENTERED + (65535 - r.rep))] s.regs }
        if e.rep = 65535 - r.rep then s1 else s1.ringEnter { e with rep := e.rep - (65535 - r.rep) })
    else s.ringEnter e
  | none => s.ringEnter e

/-! ### Commands -/

/-- EVENT_RAISE: a class of Table 15-3 at one of its severities; any other is never raised (R483). -/
def execEventRaise (src : EvSource) (cls : Nat) (sev : Sev) (param : Nat) (s : State) :
    Host.Outcome State Fault Refusal :=
  .next (if (evSev cls).contains sev then s.raise src cls sev (param % 2 ^ 32) else s)

/-- EVENT_MOVE: the oldest pending entry moves into the ring, unless R470 holds it back. -/
def execEventMove (s : State) : Host.Outcome State Fault Refusal :=
  .next (match s.ev.queue with
    | [] => s
    | e :: t => if s.evBlocked then s else
      ({ s with ev := { s.ev with queue := t } }).ringTake e)

/-- RECORD_CLOSE: 10 ms after its latest occurrence the ring's open record closes (R472). -/
def execRecordClose (s : State) : Host.Outcome State Fault Refusal :=
  .next (match newest s.ev.ring with
    | some (k, r) =>
      if r.opened && decide (r.time + r.lastDt + 10 ≤ s.evTime) && !s.getB Reg.EV_STATUS_FREEZE then
        { s with ev := { s.ev with ring := mset k { r with opened := false } s.ev.ring } }
      else s
    | none => s)

/-! ### The archive (R477 to R479) -/

/-- Good event sectors. -/
def State.evGood (s : State) : Nat := 128 - s.sectCount 768 896 (fun x => x.retired || x.pending)

/-- The archive's capacity K (R478). -/
def State.archCap (s : State) : Nat := 64 * (s.evGood - 2)

/-- The sector of an archive slot. -/
def archSector (slot : Nat) : Nat := 768 + slot / 64

/-- A sector of the archive that holds records. -/
def State.archFull (s : State) (sec : Nat) : Bool := s.ev.arch.any (fun x => archSector x.1 == sec)

/-- The next usable archive slot from one on: pending and retired sectors are skipped, and a sector that holds records is not begun. -/
def State.archNext (s : State) : Nat → Nat → Nat
  | 0, k => k
  | n + 1, k =>
    let x := s.sector (archSector k)
    if x.retired || x.pending || (decide (k % 64 = 0) && s.archFull (archSector k)) then s.archNext n ((k / 64 * 64 + 64) % 8192) else k

/-- Is a record of the reclaimed sector carried forward (Table 15-2)? `held` are the records held elsewhere and carried so far. -/
def carried (held : List EvRec) (k : Nat) (e : EvRec) : Bool :=
  let n := fun (c : Nat) => (held.filter (fun x => decide (c ≤ x.sev.code))).length
  if e.noClear then decide ((held.filter (fun x => x.noClear)).length ≤ 16)
  else match e.sev with
    | .critical => decide (n 3 < k / 2)
    | .error => decide (n 2 < 3 * k / 4)
    | .warning => decide (n 1 < 7 * k / 8)
    | .info => false

/-- The records of a sector in SEQ order. -/
def sectorRecs (m : List (Nat × EvRec)) (sec : Nat) : List (Nat × EvRec) :=
  ksort (fun x => x.2.seq) (m.filter (fun x => archSector x.1 == sec))

/-- Records of a sector go to the head, which leaves that sector first where it lies there, with COPY set; the sector is erased, as a part of the
command that asks for it (R450, R478, R481). -/
def State.archMove (s : State) (sec : Nat) (go : List EvRec) : State :=
  let h := if archSector s.ev.head = sec && s.ev.head % 64 ≠ 0 then (s.ev.head / 64 * 64 + 64) % 8192 else s.ev.head
  let placed := go.foldl (fun (acc : List (Nat × EvRec) × Nat) e =>
      (mset (s.archNext 128 acc.2) { e with copy := true } acc.1, (s.archNext 128 acc.2 + 1) % 8192))
    (s.ev.arch.filter (fun x => archSector x.1 != sec), h)
  let sc := s.sector sec
  let wiped := if sc.retired then sc else { sc with erases := sc.erases + 1, retired := decide (100000 ≤ sc.erases + 1), pulses := 0 }
  { s with
    ev := { s.ev with arch := placed.1, head := placed.2 }
    keep := { s.keep with sectors := mset sec wiped s.keep.sectors } }

/-- The oldest written sector that is not retired: the first in ring order from the head on (R478). -/
def State.archOldest (s : State) : Option Nat :=
  ((List.range 128).map (fun i => 768 + (s.ev.head / 64 + i) % 128)).find? (fun k => s.archFull k && !(s.sector k).retired)

/-- Reclaim the oldest written sector (R478): carried records go to the head with COPY, the others are dropped and counted. -/
def State.archReclaim (s : State) : State :=
  match s.archOldest with
  | none => s
  | some sec =>
    let rest := s.ev.arch.filter (fun x => archSector x.1 != sec)
    let go := (sectorRecs s.ev.arch sec).foldl
      (fun (acc : List EvRec × List EvRec × List EvRec) x =>
        if carried (acc.1 ++ rest.map (·.2)) s.archCap x.2 then (acc.1 ++ [x.2], acc.2.1, acc.2.2)
        else if x.2.sev = .critical then (acc.1, acc.2.1 ++ [x.2], acc.2.2) else (acc.1, acc.2.1, acc.2.2 ++ [x.2]))
      ([], [], [])
    let t := s.archMove sec go.1
    { t with
      regs := setRegs [(Reg.EV_DROP_CRIT_OVF, min 0xFFFF (s.getF Reg.EV_DROP_CRIT_OVF + go.2.1.length)),
        (Reg.EV_DROP_FLASH_DROP, min 0xFFFF (s.getF Reg.EV_DROP_FLASH_DROP + go.2.2.length))] s.regs }

/-- Written sectors of the archive, but for retired ones. -/
def State.archUsed (s : State) : Nat :=
  ((List.range 128).filter (fun k => s.archFull (768 + k) && !(s.sector (768 + k)).retired)).length

/-- Reclaim until a sector is free beyond the two kept erased (R478). -/
def State.archRoom (s : State) : Nat → State
  | 0 => s
  | n + 1 => if decide (s.ev.head % 64 = 0) && decide (s.evGood ≤ s.archUsed + 2) then s.archReclaim.archRoom n else s

/-- ARCHIVE_WRITE: the closed, unwritten ring record of least SEQ goes to the archive's head, after a reclaim when no sector is
free beyond the two kept erased; journal records go first (R477 to R479, R484). -/
def execArchiveWrite (s : State) : Host.Outcome State Fault Refusal :=
  .next (if s.evBlocked || decide (3 ≤ s.keep.state) || !s.keep.jq.isEmpty || s.ev.clearing.isSome then s
    else match oldestOf (s.ev.ring.filter (fun x => !x.2.opened && !x.2.flushed)) with
      | none => s
      | some (k, r) =>
        let s1 := s.archRoom 128
        let h := s1.archNext 128 s1.ev.head
        { s1 with ev := { s1.ev with
            ring := mset k { r with flushed := true } s1.ev.ring
            arch := mset h { r with flushed := true } s1.ev.arch
            head := (h + 1) % 8192 } })

/-! ### Freeze (R480) -/

/-- FREEZE: starts a freeze owned by the path, or is refused. -/
def State.doFreeze (s : State) (p : Path) : State :=
  if s.getB Reg.EV_STATUS_FREEZE || s.ev.clearing.isSome || (match s.ev.frzEnd with | some t => decide (s.ms < t + 10) | none => false)
  then s.setF Reg.EV_STATUS_FRZ_REFUSED 1
  else { s with
    ev := { s.ev with queue := s.ev.queue.map (fun e => { e with pended := true }) }
    regs := setRegs [(Reg.EV_STATUS_FREEZE, 1), (Reg.EV_STATUS_FRZ_PATH, if p = .spmi then 1 else 0),
      (Reg.EV_STATUS_FRZ_MS, 50), (Reg.EV_STATUS_FRZ_REFUSED, 0)] s.regs }

/-- A freeze ends. -/
def State.endFreeze (s : State) : State :=
  { s with
    ev := { s.ev with frzEnd := some s.ms }
    regs := setRegs [(Reg.EV_STATUS_FREEZE, 0), (Reg.EV_STATUS_FRZ_MS, 0), (Reg.EV_STATUS_FRZ_PATH, 0)] s.regs }

/-- The freeze stands and belongs to the path. -/
def State.ownsFreeze (s : State) (p : Path) : Bool :=
  s.getB Reg.EV_STATUS_FREEZE && (s.getB Reg.EV_STATUS_FRZ_PATH == (p == .spmi))

def State.doThaw (s : State) (p : Path) : State := if s.ownsFreeze p then s.endFreeze else s

/-- FREEZE: a write of 1 to EV_CTRL.FREEZE. -/
def execFreeze (p : Path) (s : State) : Host.Outcome State Fault Refusal :=
  .next (if s.reach p 0xE004 then (s.wrote p).doFreeze p else s)

/-- THAW: a write of 1 to EV_CTRL.THAW; from another path it is ignored (R484). -/
def execThaw (p : Path) (s : State) : Host.Outcome State Fault Refusal :=
  .next (if s.reach p 0xE004 then (s.wrote p).doThaw p else s)

/-- FREEZE_EXPIRY: 50 ms after it started a freeze ends. -/
def execFreezeExpiry (s : State) : Host.Outcome State Fault Refusal :=
  .next (if s.getB Reg.EV_STATUS_FREEZE then s.endFreeze else s)

/-! ### Clearing (R481) -/

/-- An EV_CLEAR ticket is held (R117). -/
def State.ticketFor (s : State) (purpose : Nat) : Bool :=
  match s.host.auth.ticket with
  | some (p, e) => p == purpose && decide (s.ms < e)
  | none => false

/-- The ticket is consumed. -/
def State.useTicket (s : State) : State := { s with host := { s.host with auth := { s.host.auth with ticket := none } } }

/-- A record that a clear deletes: below the clear record, at or below its severity, no clear record. -/
def clearHits (seq sev : Nat) (e : EvRec) : Bool := decide (e.seq < seq) && decide (e.sev.code ≤ sev) && !e.noClear

/-- Accept a clear: the clear record enters the ring and the archive, then the ring's records go (R481 steps 1 and 2). -/
def State.startClear (s : State) (sev : Nat) : State :=
  let rec0 := { s.mkRec 0x3A .critical sev with opened := false, flushed := decide (s.keep.state < 3) }
  let s0 := ({ s with
    ev := { s.ev with
      seq := s.ev.seq + 1
      ownHandle := s.ev.ownHandle + 1
      srcs := if s.sharing then s.ev.srcs ++ [false] else [] }
    regs := setRegs [(Reg.EV_RAISED_RAISED, s.getF Reg.EV_RAISED_RAISED + 1)] s.regs }).ringEnter rec0
  let s1 := s0.archRoom (if s.keep.state < 3 then 128 else 0)
  let h := s1.archNext 128 s1.ev.head
  { s1.useTicket with
    ev := { s1.ev with
      ring := s1.ev.ring.filter (fun x => !clearHits rec0.seq sev x.2)
      arch := if s1.keep.state < 3 then mset h rec0 s1.ev.arch else s1.ev.arch
      head := if s1.keep.state < 3 then (h + 1) % 8192 else s1.ev.head
      clearing := some (rec0.seq, sev) }
    regs := setRegs [(Reg.EV_STATUS_CLR_REFUSED, 0)] s1.regs }

/-- A write to EV_CLEAR: with GO and a ticket, over CXL and with no freeze or clear standing, a clear starts; else it is refused. -/
def State.doEvClear (s : State) (p : Path) (v : Nat) : State :=
  if v / 256 % 2 = 0 then s
  else if p = .cxl && s.ticketFor 2 && !s.getB Reg.EV_STATUS_FREEZE && s.ev.clearing.isNone then s.startClear (v % 4)
  else s.setF Reg.EV_STATUS_CLR_REFUSED 1

/-- EV_CLEAR. -/
def execEvClear (p : Path) (value : Word) (s : State) : Host.Outcome State Fault Refusal :=
  .next (if s.reach p 0xE008 then (s.wrote p).doEvClear p value.toNat else s)

/-- Delete a clear's records from the archive (R481 step 3). -/
def archDelete (seq sev : Nat) (m : List (Nat × EvRec)) : List (Nat × EvRec) := m.filter (fun x => !clearHits seq sev x.2)

/-- Step 3 of a clear: its records leave the archive, and of each affected sector the survivors are carried forward and the sector is erased
(R481). -/
def State.clearArch (s : State) (seq sev : Nat) : State :=
  let secs := (List.range 128).filter (fun k => s.ev.arch.any (fun x => archSector x.1 == 768 + k && clearHits seq sev x.2))
  secs.foldl (fun (a : State) k => a.archMove (768 + k) ((sectorRecs a.ev.arch (768 + k)).map (·.2)))
    { s with ev := { s.ev with arch := archDelete seq sev s.ev.arch } }

/-- CLEAR_COMPLETE: the archive's records go and the clear ends. -/
def execClearComplete (s : State) : Host.Outcome State Fault Refusal :=
  .next (match s.ev.clearing with
    | some (seq, sev) =>
      let t := s.clearArch seq sev
      { t with ev := { t.ev with clearing := none } }
    | none => s)

/-! ### Reading through the window (R482) -/

/-- Load the slot that a write to EV_RDSEL selects into the path's EV_RDDATA. -/
def State.doRdsel (s : State) (p : Path) (v : Nat) : State :=
  let tier := v.testBit 31
  let slot := if tier then v % 8192 else min 1023 (v % 8192)
  let r := mfind slot (if tier then s.ev.arch else s.ev.ring)
  s.setPath p { s.path p with
    rdTier := tier
    rdSlot := slot
    rdLoaded := true
    rdEmpty := r.isNone
    rdData := match r with | some e => wordsOf e.bytes | none => (List.range 16).map (fun _ => 0) }

/-- EV_RDSEL: a write to EV_RDSEL. -/
def execEvRdsel (p : Path) (value : Word) (s : State) : Host.Outcome State Fault Refusal :=
  .next (if s.reach p 0xE024 && s.keep.up then (s.wrote p).doRdsel p value.toNat else s)

end Sys2Proof.Machine
end

