-- ==== Sys2Proof/Machine/Keeper.lean ====
section
/-! DEFINITION. Keeper flash and the journal (14): the command interface, erase intent, and journal records. -/

namespace Sys2Proof.Machine

/-! ### Records as bytes (Table 14-8, Table 14-9) -/

/-- The TYPE of a record. -/
def JPay.type : JPay → Nat
  | .manifestPtr .. => 1 | .mapRootPtr .. => 2 | .runOpen .. => 3 | .abandon .. => 4 | .denDrop .. => 5
  | .restoreDone .. => 6 | .sanitizeStart .. => 7 | .sanitizeDone .. => 8 | .shutdown .. => 9 | .dscInc .. => 10
  | .devMark .. => 11 | .twinState .. => 12 | .counters .. => 13

/-- Bytes 16 to 59. -/
def JPay.bytes : JPay → List Byte
  | .manifestPtr loc ver nl no np dsc d c df crc =>
    leBytes 4 loc ++ leBytes 8 ver ++ leBytes 4 nl ++ leBytes 4 no ++ leBytes 4 np ++ leBytes 4 dsc
      ++ leBytes 1 (b2n d + 2 * b2n c) ++ leBytes 3 (b2n df) ++ leBytes 4 crc ++ leBytes 8 0
  | .mapRootPtr loc rs ceil mv => leBytes 4 loc ++ leBytes 4 rs ++ leBytes 6 ceil ++ leBytes 6 mv ++ leBytes 24 0
  | .runOpen e r => leBytes 6 e ++ leBytes 1 r ++ leBytes 37 0
  | .abandon v p => leBytes 8 v ++ leBytes 4 p ++ leBytes 32 0
  | .denDrop v c => leBytes 6 v ++ leBytes 1 c ++ leBytes 37 0
  | .restoreDone v f a b c => leBytes 6 v ++ leBytes 2 f ++ leBytes 4 a ++ leBytes 4 b ++ leBytes 4 c ++ leBytes 24 0
  | .sanitizeStart e => leBytes 44 e
  | .sanitizeDone e => leBytes 44 e
  | .shutdown d => leBytes 44 (b2n d)
  | .dscInc d => leBytes 44 d
  | .devMark c sb r d => leBytes 1 c ++ leBytes 1 sb ++ leBytes 1 r ++ leBytes 41 d
  | .twinState r m f e st w =>
    leBytes 1 r ++ leBytes 1 m ++ leBytes 2 (b2n f) ++ leBytes 4 e ++ leBytes 4 st ++ leBytes 32 w
  | .counters h => leBytes 44 h

/-- Bytes 0 to 59. -/
def JRec.body (r : JRec) : List Byte :=
  leBytes 4 r.seq ++ leBytes 4 r.origSeq ++ leBytes 1 r.pay.type ++ leBytes 1 1
    ++ leBytes 2 (b2n r.copy + 2 * b2n r.relTime) ++ leBytes 4 r.time ++ r.pay.bytes

/-- The 64 B record with its CRC. -/
def JRec.bytes (r : JRec) : List Byte := r.body ++ leBytes 4 (crc32c r.body)

/-- The sector header (R454). -/
def jHeader (sseq first erases : Nat) : List Byte :=
  let b := leBytes 4 0x4A4C ++ leBytes 4 sseq ++ leBytes 4 first ++ leBytes 48 erases
  b ++ leBytes 4 (crc32c b)

/-- Program bytes as 64-bit words from a word index on. -/
def putWords (m : List (Nat × BitVec 64)) (w : Nat) (b : List Byte) : List (Nat × BitVec 64) :=
  (List.range (b.length / 8)).foldl
    (fun acc k => mset (w + k) (BitVec.ofNat 64 (ofLe ((b.drop (8 * k)).take 8))) acc) m

/-! ### The window (R458) and the head -/

/-- The journal sector is in the ring. -/
def State.jRing (s : State) (k : Nat) : Bool := !(s.sector k).retired && !(s.sector k).pending

/-- Ring order over sectors 256 to 767 from one on. -/
def ringFrom (k : Nat) : List Nat := (List.range 512).map (fun i => 256 + (k - 256 + i) % 512)

/-- The window's sectors in ring order. -/
def State.window (s : State) : List Nat := ((ringFrom s.keep.start).filter s.jRing).take s.jWindow

/-- The element after one in a list that is read as a ring. -/
def nextIn (l : List Nat) (k : Nat) : Nat :=
  match l.dropWhile (· != k) with
  | _ :: a :: _ => a
  | _ => l.headD k

/-- The window sector after one. -/
def State.jNextSector (s : State) (k : Nat) : Nat :=
  if s.window.contains k then nextIn s.window k
  else ((ringFrom k).find? (fun x => s.window.contains x)).getD k

/-- The record two records compete for: only the latest of each is needed (R459). -/
def JPay.slotKey : JPay → Nat
  | .devMark c sb r _ => 100 + 16 * c + 4 * sb + r
  | .abandon v _ => 1000 + v
  | p => p.type

/-- The latest record, by ORIG_SEQ, that satisfies a test (R457). -/
def latestRec (l : List JRec) (p : JPay → Bool) : Option JRec :=
  (l.filter (fun r => p r.pay)).foldl (fun b r => match b with
    | none => some r
    | some x => if x.origSeq < r.origSeq then some r else some x) none

def isManPtr : JPay → Bool | .manifestPtr .. => true | _ => false
def isRootPtr : JPay → Bool | .mapRootPtr .. => true | _ => false
def isRunOpen : JPay → Bool | .runOpen .. => true | _ => false

/-- The VERSION of the latest MANIFEST_PTR; 0 when none. -/
def lastManVer (l : List JRec) : Nat :=
  match latestRec l isManPtr with
  | some ⟨_, _, _, _, _, .manifestPtr _ v _ _ _ _ _ _ _ _, _, _⟩ => v
  | _ => 0

/-- A record is needed: it is the latest of its kind, or an ABANDON above the latest manifest (R459). -/
def jNeeded (l : List JRec) (r : JRec) : Bool :=
  match r.pay with
  | .abandon v _ => decide (lastManVer l < v)
  | p => !l.any (fun x => x.pay.slotKey == p.slotKey && decide (r.origSeq < x.origSeq))

/-- Records of a sector to carry forward: needed, and held nowhere else (R459), in ascending ORIG_SEQ order. -/
def carryList (l : List JRec) (sec : Nat) : List JRec :=
  ksort (·.origSeq) (l.filter (fun r => r.sector == sec && jNeeded l r
    && !l.any (fun x => x.sector != sec && x.origSeq == r.origSeq)))

/-- Erase intent for a sector: it is pending and its erase count has risen (R449, R450). -/
def State.startErase (s : State) (sec : Nat) (o : FlashOwner) : State :=
  { s with keep := { s.keep with
      erasing := s.keep.erasing ++ [⟨sec, o, false⟩]
      sectors := mset sec { s.sector sec with erases := (s.sector sec).erases + 1, pending := true } s.keep.sectors } }

/-- Program one record into the next slot of the head (R455); a full or unusable head gives way to the next window sector. -/
def State.putRec (s : State) (pay : JPay) (orig : Option Nat) (copy relTm : Bool) (time : Nat) : State :=
  let turn := decide (63 ≤ s.keep.slot) || !s.jRing s.keep.head
  let head := if turn then s.jNextSector s.keep.head else s.keep.head
  let slot := if turn then 0 else s.keep.slot
  let sseq := if slot = 0 then s.keep.sseq + 1 else s.keep.sseq
  let r : JRec := ⟨s.keep.nextSeq, orig.getD s.keep.nextSeq, copy, relTm, time, pay, head, slot⟩
  let w0 := if slot = 0 then putWords s.keep.words (head * 512) (jHeader sseq r.seq (s.sector head).erases) else s.keep.words
  { s with keep := { s.keep with
      words := putWords w0 (head * 512 + 8 + 8 * slot) r.bytes
      recs := s.keep.recs ++ [r]
      nextSeq := s.keep.nextSeq + 1
      head := head
      slot := slot + 1
      sseq := sseq } }

/-- Keep the second window sector after the head erased: carry its needed records forward, then erase it (R459). No erase begins while
VSYS_LOSS stands (R344). -/
def State.jAhead (s : State) : State :=
  let sec := s.jNextSector (s.jNextSector s.keep.head)
  if s.getB Reg.PS_STATUS_VSYS_LOSS || sec = s.keep.head || !(s.keep.recs.any (fun r => r.sector == sec)) then s
  else
    let s1 := (carryList s.keep.recs sec).foldl (fun a r => a.putRec r.pay (some r.origSeq) true r.relTime r.time) s
    ({ s1 with keep := { s1.keep with recs := s1.keep.recs.filter (fun r => r.sector != sec) } }).startErase sec .keeper

/-- Write a record now (R455, R456, R459): a plane 1 erase in progress is suspended for it (R440); none while the journal cannot be
used (R465). -/
def State.jWrite (s : State) (p : JPay) : State :=
  if s.jDead then s
  else
    let e1 := s.keep.erasing.map (fun e => if planeOf e.sector = 1 then { e with suspended := true } else e)
    let s1 : State := { s with
      keep := { s.keep with erasing := e1 }
      regs := setRegs [(Reg.EF_OPS_SUSPENDS, min 0xFFFF (s.getF Reg.EF_OPS_SUSPENDS
        + (match s.eraseOn 1 with | some e => b2n (!e.suspended) | none => 0)))] s.regs }
    (s1.putRec p none false (!s.tsSet) ((if s.tsSet then s.tstamp / 1000000000 else s.ms / 1000) % 2 ^ 32)).jAhead

/-- Write every waiting record in order. -/
def State.jFlush (s : State) : State :=
  s.keep.jq.foldl (fun a p => a.jWrite p) { s with keep := { s.keep with jq := [] } }

/-- Write the waiting records and then this one; none while VSYS_LOSS stands (R344). -/
def State.jNow (s : State) (p : JPay) : State := if s.getB Reg.PS_STATUS_VSYS_LOSS then s else s.jFlush.jWrite p

/-! ### Health (R462, R463) -/

/-- STATE of Table 14-10: the highest state whose condition holds. -/
def State.flashStateOf (s : State) : Nat :=
  if s.keep.unusable || s.jGood < 24 then 4
  else if s.jGood < 80 || 32 < s.sectCount 896 1024 (·.retired) then 3
  else if s.jGood < 464 then 2
  else if 80 ≤ s.flashWear then 1
  else 0

/-- Recompute STATE; entering a higher state raises its event. -/
def State.flashHealth (s : State) : State :=
  let n := s.flashStateOf
  ({ s with keep := { s.keep with state := n } }).raiseIf (decide (s.keep.state < n)) .keeper
    (if 3 ≤ n then 0x39 else 0x1C) (if 3 ≤ n then .critical else .warning) n

/-- Retire a sector (R462); a free spare takes the place of an LSA sector, and without one its logical sector is lost to Set LSA (R453). -/
def State.retire (s : State) (sec : Nat) : State :=
  let lsa := decide (896 ≤ sec) && decide (sec < 960)
  let j := (sec - 896) / 2
  ({ s with
    keep := { s.keep with sectors := mset sec { s.sector sec with retired := true } s.keep.sectors }
    host := { s.host with
      lsaDirty := if lsa && decide (0 < s.spares) then sdel j s.host.lsaDirty else s.host.lsaDirty
      lsaDead := if lsa && decide (s.spares = 0) then sadd j s.host.lsaDead else s.host.lsaDead } }).flashHealth

/-! ### Label storage (R111, R453) -/

/-- The logical sectors that a range touches. -/
def lsaSectors (off len : Nat) : List Nat := (List.range 32).filter (fun j => decide (off < 4096 * (j + 1)) && decide (4096 * j < off + len))

/-- The physical sector of a logical LSA sector's alternate copy. -/
def State.lsaAlt (s : State) (j : Nat) : Nat := 896 + 2 * j + b2n (!s.host.lsaOdd.contains j)

/-- A Set LSA starts: the whole of each touched sector goes into its alternate copy, whose last word, with the sequence number and the CRC,
completes it. -/
def State.lsaStart (s : State) (off : Nat) (data : List Byte) : State :=
  { s with
    host := { s.host with mboxBusy := some 0x4103, lsaSet := some (off, data) }
    keep := { s.keep with progs := s.keep.progs ++ (lsaSectors off data.length).map (fun j => ⟨512 * s.lsaAlt j + 511, 0, .lsa, false⟩) } }

/-- The Set LSA in progress is given up: the old contents stand, and the copies it was writing are erased (R85, R111). -/
def State.lsaStop (s : State) : State :=
  match s.host.lsaSet with
  | none => s
  | some (off, data) =>
    let sec := lsaSectors off data.length
    let t := sec.foldl (fun (a : State) j => a.startErase (s.lsaAlt j) .lsa) s
    { t with
      host := { t.host with lsaSet := none, lsaDirty := t.host.lsaDirty ++ sec }
      keep := { t.keep with progs := t.keep.progs.filter (fun g => g.owner != .lsa) } }

/-- The last copy of a Set LSA is complete: all of them become current at once, the superseded copies are erased, the command ends. -/
def State.lsaEnd (s : State) : State :=
  match s.host.lsaSet with
  | none => s
  | some (off, data) =>
    if s.keep.progs.any (fun g => g.owner == .lsa) then s
    else
      let sec := lsaSectors off data.length
      let t : State := { s with host := { s.host with
        lsa := ((List.range data.length).zip data).foldl (fun m x => putByte m (off + x.1) x.2) s.host.lsa
        lsaOdd := sec.foldl (fun l j => if l.contains j then sdel j l else sadd j l) s.host.lsaOdd
        lsaDirty := s.host.lsaDirty ++ sec
        lsaSet := none
        mbox := if s.host.mboxBusy = some 0x4103 then ⟨0x4103, 0, .none⟩ else s.host.mbox
        mboxBusy := if s.host.mboxBusy = some 0x4103 then none else s.host.mboxBusy } }
      sec.foldl (fun (a : State) j => a.startErase (896 + 2 * j + b2n (s.host.lsaOdd.contains j)) .lsa) t

/-- A word of a Set LSA did not verify: its sector has been retired, and the copy is written again into the spare that replaces it; with no
spare left the command ends with Media Disabled (R453, R462). -/
def State.lsaRetry (s : State) (g : FlashProg) : State :=
  if s.host.lsaDead.contains ((g.word / 512 - 896) / 2) then
    (let t := s.lsaStop
     { t with host := { t.host with
        mbox := if s.host.mboxBusy = some 0x4103 then ⟨0x4103, 0x0007, .none⟩ else s.host.mbox
        mboxBusy := if s.host.mboxBusy = some 0x4103 then none else s.host.mboxBusy } })
  else { s with keep := { s.keep with progs := s.keep.progs ++ [g] } }

/-! ### The command interface (R442 to R448) -/

def State.updPath (s : State) (p : Path) (f : PathSt → PathSt) : State := s.setPath p (f (s.path p))

/-- A command is refused: it ends at once with ERR, and the write has consumed the unlock (R442, R443). -/
def State.efRefuse (s : State) (p : Path) (err : Nat) : State := s.updPath p (fun x => { x with efErr := err, unlock := 0 })

/-- A command ends with data. -/
def State.efData (s : State) (p : Path) (w : BitVec 64) (undef uncorr corr : Bool) : State :=
  s.updPath p (fun x => { x with
    efLo := w.toNat % 2 ^ 32
    efHi := w.toNat / 2 ^ 32
    efUndef := undef
    efUncorr := uncorr
    efCorr := corr
    unlock := 0
    efDone := true })

/-- The path's previous command still runs (ERR 0x6). -/
def State.efBusy (s : State) (p : Path) : Bool := !(s.path p).efDone

/-- A free value is taken. -/
def State.tick1 (s : State) : State := { s with freeCount := s.freeCount + 1 }

/-- The word that a keeper-flash read finds: event records and label storage as their engines hold them, everything else as
programmed. `none`: the spec gives no layout for the word (log entry 9). -/
def State.flashWordAt (s : State) (w : Nat) : Option (BitVec 64) :=
  let sec := w / 512
  if 768 ≤ sec ∧ sec < 896 then
    (match mfind (w / 8 - 768 * 64) s.ev.arch with
      | some e => some (BitVec.ofNat 64 (ofLe ((e.bytes.drop (8 * (w % 8))).take 8)))
      | none => some (BitVec.allOnes 64))
  else if 896 ≤ sec ∧ sec < 960 then
    (let j := (sec - 896) / 2
     if ((sec - 896) % 2 == 1) == s.host.lsaOdd.contains j then
       (if w % 512 = 511 then none
        else some (BitVec.ofNat 64 (ofLe ((List.range 8).map (fun i => byteAt s.host.lsa (4096 * j + 8 * (w % 512) + i))))))
     else some (BitVec.allOnes 64))
  else if 960 ≤ sec ∧ sec < 992 then none
  else some (mget (BitVec.allOnes 64) s.keep.words w)

/-- READ (R437, R444, R452). -/
def State.doRead (s : State) (p : Path) (bitErrors : Nat) : State :=
  let w := (s.path p).efAddr
  let sec := w / 512
  if s.efBusy p then s.efRefuse p 6
  else if (s.path p).efOtp then s.efRefuse p 2
  else if sec < 256 then s.efData p 0 false false false
  else if (s.sector sec).pending then (s.tick1).efData p (Config.flashWord s.freeCount) true false false
  else if 2 ≤ bitErrors ∨ s.keep.uncorr.contains w then (s.tick1).efData p (Config.flashWord s.freeCount) false true false
  else
    let s1 := if bitErrors = 1 then s.addSat Reg.EF_OPS_CORR 1 else s
    match s.flashWordAt w with
    | some v => s1.efData p v false false (bitErrors == 1)
    | none => (s1.tick1).efData p (Config.flashWord s.freeCount) false false (bitErrors == 1)

/-- The sector belongs to the firmware bank that is not running, and the running bank is valid; service mode holds (Table 14-5). -/
def State.fwWritable (s : State) (sec : Nat) : Bool :=
  let run := s.getF Reg.EF_FW_BANK
  decide (sec < 256) && (sec / 128 != run) && s.service
    && (if run = 0 then s.getB Reg.EF_FW_B0_VALID else s.getB Reg.EF_FW_B1_VALID)

/-- A bank with an erase or program in progress is not valid (R445). -/
def State.fwTouch (s : State) (sec : Nat) : State :=
  s.setF (if sec / 128 = 0 then Reg.EF_FW_B0_VALID else Reg.EF_FW_B1_VALID) 0

/-- PROGRAM (R439, R442, R444). -/
def State.doProgram (s : State) (p : Path) : State :=
  let x := s.path p
  let sec := x.efAddr / 512
  if s.efBusy p then s.efRefuse p 6
  else if x.unlock ≠ 2 then s.efRefuse p 1
  else if x.efOtp || !s.fwWritable sec then s.efRefuse p 2
  else if mget (BitVec.allOnes 64) s.keep.words x.efAddr ≠ BitVec.allOnes 64 then s.efRefuse p 3
  else
    (({ s with keep := { s.keep with
      progs := s.keep.progs ++ [FlashProg.mk x.efAddr (BitVec.ofNat 64 (x.efLo + 2 ^ 32 * x.efHi)) (.host p) false]
      lastPath := p } } : State).fwTouch sec).updPath p (fun y => { y with efDone := false, unlock := 0 })

/-- ERASE (R444, R450). -/
def State.doErase (s : State) (p : Path) : State :=
  let x := s.path p
  let sec := x.efAddr / 512
  if s.efBusy p then s.efRefuse p 6
  else if x.unlock ≠ 2 then s.efRefuse p 1
  else if x.efOtp || !s.fwWritable sec then s.efRefuse p 2
  else ((s.startErase sec (.host p)).fwTouch sec).updPath p (fun y => { y with efDone := false, unlock := 0 })

/-- An erase on plane 1 that the path started. -/
def ownErase (p : Path) (e : FlashErase) : Bool := decide (256 ≤ e.sector) && (e.owner == .host p)

/-- SUSPEND; a plane 0 erase is never suspended (R446). -/
def State.doSuspend (s : State) (p : Path) : State :=
  if s.keep.erasing.any (ownErase p) then
    { (s.updPath p (fun y => { y with unlock := 0 })).addSat Reg.EF_OPS_SUSPENDS 1 with
      keep := { s.keep with erasing := s.keep.erasing.map (fun e => if ownErase p e then { e with suspended := true } else e) } }
  else s.efRefuse p 2

/-- RESUME. -/
def State.doResume (s : State) (p : Path) : State :=
  if s.keep.erasing.any (fun e => ownErase p e && e.suspended) then
    { (s.updPath p (fun y => { y with unlock := 0 })) with
      keep := { s.keep with erasing := s.keep.erasing.map (fun e => if ownErase p e then { e with suspended := false } else e) } }
  else s.efRefuse p 2

/-- A word of the OTP row (Table 14-6). -/
def OtpSt.word (o : OtpSt) (i : Nat) : BitVec 64 :=
  if i = 0 then BitVec.ofNat 64 o.serial
  else if i = 1 then BitVec.ofNat 64 (o.part + 2 ^ 16 * o.rev + 2 ^ 24 * o.blMax + 2 ^ 32 * o.fit)
  else if 8 ≤ i ∧ i < 12 then
    (match o.dmkHash.getD (i - 8) none with | some v => BitVec.ofNat 64 v | none => BitVec.allOnes 64)
  else if i = 12 ∨ i = 13 then
    (match o.moorKey.getD (i - 12) none with | some v => BitVec.ofNat 64 v | none => BitVec.allOnes 64)
  else mget (BitVec.allOnes 64) o.other i

/-- OTP_READ; MOOR_KEY reads 0 (R447). -/
def State.doOtpRead (s : State) (p : Path) : State :=
  let i := (s.path p).efAddr % 256
  if s.efBusy p then s.efRefuse p 6
  else if i = 12 ∨ i = 13 then s.efData p 0 (s.path p).efUndef (s.path p).efUncorr (s.path p).efCorr
  else s.efData p (s.otp.word i) (s.path p).efUndef (s.path p).efUncorr (s.path p).efCorr

/-- OTP_PROG: a blank MOOR_KEY word in service mode (R444, R448). -/
def State.doOtpProg (s : State) (p : Path) : State :=
  let x := s.path p
  let i := x.efAddr % 256
  if s.efBusy p then s.efRefuse p 6
  else if x.unlock ≠ 2 then s.efRefuse p 1
  else if (i ≠ 12 ∧ i ≠ 13) ∨ ¬ s.service then s.efRefuse p 2
  else if (s.otp.moorKey.getD (i - 12) none).isSome then s.efRefuse p 7
  else
    ({ s with keep := { s.keep with
      progs := s.keep.progs ++ [FlashProg.mk i (BitVec.ofNat 64 (x.efLo + 2 ^ 32 * x.efHi)) (.host p) true]
      lastPath := p } }).updPath p (fun y => { y with efDone := false, unlock := 0 })

/-- CLEAR. -/
def State.doClear (s : State) (p : Path) : State :=
  if s.efBusy p then s.efRefuse p 6
  else s.updPath p (fun y => { y with efErr := 0, efCorr := false, efUncorr := false, efUndef := false, unlock := 0 })

/-- A write to EF_KEY: two steps unlock, anything else cancels (R442). -/
def State.doKey (s : State) (p : Path) (v : Nat) : State :=
  s.updPath p (fun x => { x with unlock :=
    if x.unlock = 1 ∧ v % 65536 = 0x6768 then 2 else if v % 65536 = 0x4C69 ∧ x.unlock = 0 then 1 else 0 })

/-! ### Commands -/

/-- The EF_ interface answers the path; in a hold-up it does not (R344). -/
def State.efUp (s : State) (p : Path) : Bool := s.reach p 0xD008 && s.keep.up && !s.getB Reg.PS_STATUS_VSYS_LOSS

/-- EF_KEY. -/
def execEfKey (p : Path) (value : Word) (s : State) : Host.Outcome State Fault Refusal :=
  .next (if s.efUp p then (s.wrote p).doKey p value.toNat else s)

/-- UNLOCK_EXPIRY: 1 ms passes without an EF_CMD write. -/
def execUnlockExpiry (p : Path) (s : State) : Host.Outcome State Fault Refusal :=
  .next (s.updPath p (fun x => { x with unlock := 0 }))

/-- READ. -/
def execRead (p : Path) (bitErrors : Nat) (s : State) : Host.Outcome State Fault Refusal :=
  .next (if s.efUp p then (s.wrote p).doRead p bitErrors else s)

/-- PROGRAM. -/
def execProgram (p : Path) (s : State) : Host.Outcome State Fault Refusal :=
  .next (if s.efUp p then (s.wrote p).doProgram p else s)

/-- ERASE. -/
def execErase (p : Path) (s : State) : Host.Outcome State Fault Refusal :=
  .next (if s.efUp p then (s.wrote p).doErase p else s)

/-- SUSPEND. -/
def execSuspend (p : Path) (s : State) : Host.Outcome State Fault Refusal :=
  .next (if s.efUp p then (s.wrote p).doSuspend p else s)

/-- RESUME. -/
def execResume (p : Path) (s : State) : Host.Outcome State Fault Refusal :=
  .next (if s.efUp p then (s.wrote p).doResume p else s)

/-- OTP_READ. -/
def execOtpRead (p : Path) (s : State) : Host.Outcome State Fault Refusal :=
  .next (if s.efUp p then (s.wrote p).doOtpRead p else s)

/-- OTP_PROG. -/
def execOtpProg (p : Path) (s : State) : Host.Outcome State Fault Refusal :=
  .next (if s.efUp p then (s.wrote p).doOtpProg p else s)

/-- CLEAR. -/
def execClear (p : Path) (s : State) : Host.Outcome State Fault Refusal :=
  .next (if s.efUp p then (s.wrote p).doClear p else s)

/-- The end of an operation as its owner's path sees it. -/
def State.efEnd (s : State) (o : FlashOwner) (err : Nat) : State :=
  match o with
  | .host p => s.updPath p (fun x => { x with efDone := true, efErr := if err = 0 then x.efErr else err })
  | _ => s

/-- The journal's head sector closes: the next record opens another sector. -/
def State.jClose (s : State) : State := { s with keep := { s.keep with slot := 63 } }

/-- A word of the head sector has failed to program: the sector retires and is closed, and the record whose word it was, the newest, is written in
the next slot with the SEQ that its torn slot leaves unused (R455, R462). -/
def State.headFailed (s : State) : State :=
  let t := s.retire s.keep.head
  match s.keep.recs.getLast? with
  | some r =>
    if r.sector == s.keep.head && !t.jDead then
      (({ t with keep := { t.keep with recs := s.keep.recs.dropLast, nextSeq := r.seq } } : State).putRec r.pay
        (if r.copy then some r.origSeq else none) r.copy r.relTime r.time).jAhead
    else t.jClose
  | none => t.jClose

/-- WORD_PROGRAM_DONE: the oldest program of the command interface or of the LSA engine ends; with none, a word of the journal's head sector
(R111, R438, R453, R462, R463). -/
def execWordProgramDone (pulses : Nat) (ok : Bool) (s : State) : Host.Outcome State Fault Refusal :=
  .next ((match s.keep.progs with
    | g :: t =>
      let s1 : State := { s with keep := { s.keep with progs := t } }
      if !ok then
        let s2 := s1.efEnd g.owner 4
        if g.otp then s2
        else if g.owner = .lsa then (s2.retire (g.word / 512)).lsaRetry g
        else s2.retire (g.word / 512)
      else if g.owner = .lsa then s1.lsaEnd
      else if g.otp then
        ({ s1 with otp := { s1.otp with moorKey := s1.otp.moorKey.set (g.word - 12) (some g.value.toNat) } }).efEnd g.owner 0
      else ({ s1 with keep := { s1.keep with words := mset g.word g.value s1.keep.words } }).efEnd g.owner 0
    | [] =>
      if ok then
        (let h := s.sector s.keep.head
         ({ s with keep := { s.keep with sectors := mset s.keep.head { h with pulses := max h.pulses (min 16 pulses) } s.keep.sectors } }).flashHealth)
      else s.headFailed : State).alertScan s.crossed)

/-- The window steps after every 64 erases of window sectors; a step that would remove the head waits (R458). -/
def State.windowStep (s : State) : State :=
  if s.keep.sinceStep < 64 then s
  else if s.keep.start = s.keep.head then s
  else
    let nxt := (((ringFrom s.keep.start).drop 1).find? s.jRing).getD s.keep.start
    { s with keep := { s.keep with start := nxt, sinceStep := s.keep.sinceStep - 64 } }

/-- Drop the words of an erased sector. -/
def wipe (sec : Nat) (m : List (Nat × BitVec 64)) : List (Nat × BitVec 64) := m.filter (fun x => x.1 / 512 != sec)

/-- SECTOR_ERASE_DONE: the erase in progress verifies and ERASE_DONE is recorded in both copies, or it fails and the sector retires
(R438, R450, R458, R462). A plane 1 erase is taken before a plane 0 erase. -/
def execSectorEraseDone (ok : Bool) (s : State) : Host.Outcome State Fault Refusal :=
  .next (match (s.eraseOn 1).filter (fun e => !e.suspended) <|> s.eraseOn 0 with
    | none => s
    | some e =>
      let sc := s.sector e.sector
      let rest := s.keep.erasing.erase e
      if !ok then
        ((({ s with keep := { s.keep with erasing := rest } }).efEnd e.owner 5).retire e.sector).alertScan s.crossed
      else
        let win := decide (256 ≤ e.sector) && decide (e.sector < 768)
        let s1 : State := { s with
          keep := { s.keep with
            erasing := rest
            words := wipe e.sector s.keep.words
            uncorr := s.keep.uncorr.filter (fun w => w / 512 != e.sector)
            sectors := mset e.sector { sc with pending := false, pulses := 0 } s.keep.sectors
            sinceStep := s.keep.sinceStep + b2n win }
          host := { s.host with lsaDirty := sdel ((e.sector - 896) / 2) s.host.lsaDirty } }
        let s2 := (s1.windowStep).efEnd e.owner 0
        (if decide (256 ≤ e.sector) && decide (100000 ≤ sc.erases) then s2.retire e.sector else s2.flashHealth).alertScan s.crossed)

/-- ERASE_RESUME: a suspended plane 1 erase resumes when no read or program waits there (R440). -/
def execEraseResume (s : State) : Host.Outcome State Fault Refusal :=
  .next (if s.keep.jq.isEmpty then
    { s with keep := { s.keep with
        erasing := s.keep.erasing.map (fun e => if planeOf e.sector = 1 then { e with suspended := false } else e) } }
    else s)

end Sys2Proof.Machine
end

