-- ==== Sys2Proof/Machine/Layout.lean ====
section
/-! DEFINITION. The byte layouts of 07 and 08: NAND pages and their headers (Tables 7-2 to 7-4), root and manifest data (Tables 7-6 to 7-8), and the
scratch part of the reserved region (Table 8-6). -/

namespace Sys2Proof.Machine

/-! ### A page (R234, R235) -/

/-- The byte of a page where data byte i stands: eight codewords of 2,048 data bytes and 256 parity bytes after codeword 0. -/
def pageOff (i : Nat) : Nat := 128 + 2304 * (i / 2048) + i % 2048

/-- Where the parity of codeword k begins: codeword 0 holds the header, k = 1 to 8 the data. -/
def parityOff (k : Nat) : Nat := if k = 0 then 64 else 2176 + 2304 * (k - 1)

/-- Bytes of a page that are written. -/
def pageBytes : Nat := 18560

/-- The codeword that holds a line of a granule. -/
def lineCw (l : Nat) : Nat := l / 32 + 1

/-- LINE_POISON. -/
def poisonBits (lp : List Nat) : Nat := lp.foldl (fun n l => n ||| 2 ^ l) 0

/-- Bytes 0 to 59 of the header. -/
def NPage.hdrBody (p : NPage) : List Byte :=
  leBytes 2 0x5856 ++ leBytes 1 p.kind ++ leBytes 1 1 ++ leBytes 4 p.index ++ leBytes 6 p.ver ++ leBytes 2 0 ++ leBytes 4 p.crc ++ leBytes 4 0
    ++ leBytes 32 (poisonBits p.lp) ++ leBytes 4 0

/-- The 64 B header: its body and HDR_CRC. -/
def NPage.header (p : NPage) : List Byte := p.hdrBody ++ leBytes 4 (crc32c p.hdrBody)

/-- A header that can be trusted: MAGIC and HDR_CRC are right (R235, R237). -/
def headerOk (h : List Byte) : Bool := ofLe (h.take 2) == 0x5856 && ofLe (h.drop 60) == crc32c (h.take 60)

/-! ### Data areas -/

/-- Bytes from an address on, without the zeros. -/
def cellsOf : Nat → List Byte → List Host.Cell
  | _, [] => []
  | a, b :: t => if b = 0 then cellsOf (a + 1) t else (a, b) :: cellsOf (a + 1) t

/-- The PAGE encoding of a block: page field 0. -/
def blockLoc (b : Nat) : Nat := b * 1024

/-- LUN_FAILED, one bit per LUN index. -/
def lunBits (l : List Nat) : Nat := l.foldl (fun n k => n ||| 2 ^ k) 0

/-- A root page's data (Table 7-6). -/
def RootPage.bytes (r : RootPage) : List Byte :=
  leBytes 4 r.rootSeq ++ leBytes 6 r.ceil ++ leBytes 6 r.manVer ++ leBytes 2 r.segLoc.length ++ leBytes 2 r.btLoc.length
    ++ leBytes 2 r.opens.length ++ leBytes 2 r.plan.length ++ leBytes 8 (lunBits r.lunFailed) ++ leBytes 4 r.retireBudget ++ leBytes 28 0
    ++ (r.segLoc.map (·.2) ++ r.btLoc.map (·.2) ++ r.opens.map blockLoc ++ r.plan.map blockLoc).flatMap (leBytes 4)

/-- TYPE of a manifest entry. -/
def MEntTy.code : MEntTy → Nat
  | .landed => 0 | .landedP => 1 | .lost => 2 | .range => 3 | .void => 4

/-- A manifest entry's 64 bits (Table 7-8). -/
def MEnt.bits (e : MEnt) : Nat := e.loc % 2 ^ 32 + e.gran % 2 ^ 23 * 2 ^ 32 + b2n e.stride * 2 ^ 55 + e.ty.code * 2 ^ 56

/-- A manifest page's data (Table 7-7). -/
def ManPage.bytes (m : ManPage) (ver : Nat) : List Byte :=
  leBytes 6 ver ++ leBytes 2 0 ++ leBytes 4 m.pageNo ++ leBytes 2 m.entries.length ++ leBytes 2 (b2n m.closing) ++ leBytes 4 m.prevPage
    ++ leBytes 4 m.prevMan ++ leBytes 4 m.rootSeq ++ leBytes 4 m.nLanded ++ leBytes 4 m.nLost ++ leBytes 4 m.nPoisoned ++ leBytes 4 m.pages
    ++ leBytes 4 m.nNewUe ++ leBytes 16 0 ++ (m.entries.map MEnt.bits).flatMap (leBytes 8)

/-- The map entries of a segment, 4 B each. -/
def State.segBytes (s : State) (k : Nat) : List Byte := (List.range 4096).flatMap (fun i => leBytes 4 (s.mapOf (4096 * k + i)))

/-! ### Scratch (R276, Table 8-6), in lines -/

/-- The parts of scratch, packed from its start: seal table, fetch list, block table, training pattern area, manifest build buffer, pending table. -/
def State.fetchBase (s : State) : Nat := s.scratchBase + s.capGib * 4096
def State.blkTabBase (s : State) : Nat := s.fetchBase + s.capGib * 4096
def State.patternBase (s : State) : Nat := s.blkTabBase + 262144
def State.buildBase (s : State) : Nat := s.patternBase + 16384
def State.pendBase (s : State) : Nat := s.buildBase + 16384

/-- The touch map ends the reserved region. -/
def State.touchBase (s : State) : Nat := s.capGib * 16777216 - s.capGib * 128

/-- The line of a granule's seal. -/
def State.sealLineOf (s : State) (g : Nat) : Nat := s.scratchBase + g / 16

/-- The only lines that training and the device diagnostic write (R179, R186). -/
def State.isPatternLine (s : State) (line : Nat) : Bool := decide (s.patternBase ≤ line) && decide (line < s.buildBase)

end Sys2Proof.Machine
end

