-- ==== Sys2Proof/Machine/Pages.lean ====
section
/-! DEFINITION. Shared operations of the ledger, the burrow contexts and the NAND back end (04, 06, 07): ledger transitions and their
books, the committed image of a granule, pages and blocks, arming, mapping, re-targeting and LUN failure. -/

namespace Sys2Proof.Machine

/-! ### The ledger and its books (R127, Table 4-2) -/

/-- Set an entry. -/
def State.setLedger (s : State) (g : Nat) (e : LState) : State :=
  { s with cover := { s.cover with ledger := msetD s.cover.ledDflt g e s.cover.ledger } }

/-- A credit of e_g returns and N_dirty falls (R37, R144). -/
def State.credit (s : State) : State :=
  { s with cover := { s.cover with nDirty := s.cover.nDirty - 1, eDebt := s.cover.eDebt - s.cover.eg } }

/-- A clean-all ends when nothing is dirty (R156). -/
def State.cleanAllCheck (s : State) : State := if s.cover.nDirty = 0 then s.setF Reg.LG_STATUS_CLEAN_ALL 0 else s

/-- A mirror update is queued (R133). -/
def State.mirrorQ (s : State) (g : Nat) (e : LState) : State :=
  { s with cover := { s.cover with mirrorPend := s.cover.mirrorPend ++ [(g, e)] } }

/-- Every entry, listed. -/
def State.ledgerAll (s : State) : List (Nat × LState) :=
  if s.cover.ledDflt = .clean then s.cover.ledger
  else (List.range s.nReported).map (fun g => (g, s.ledgerOf g))

/-- Replace every entry. -/
def State.mapLedger (s : State) (f : Nat → LState → LState) : State :=
  { s with cover := { s.cover with
      ledger := (s.ledgerAll.map (fun x => (x.1, f x.1 x.2))).filter (fun x => x.2 != .clean)
      ledDflt := .clean } }

/-- The number of dirty entries of a list. -/
def dirtyIn (l : List (Nat × LState)) : Nat := (l.filter (fun x => x.2.isDirty)).length

/-- Rebuild N_dirty and E_DEBT from the ledger (R127, R141). -/
def State.rebuildBooks (s : State) : State :=
  let n := dirtyIn s.cover.ledger + (if s.cover.ledDflt.isDirty then s.nReported - s.cover.ledger.length else 0)
  { s with cover := { s.cover with nDirty := n, eDebt := s.debtOf n } }

/-- The entry after a trickle copy that cannot be completed (Table 4-2); `age` is the age at its arming (log entry 12). -/
def LState.abandoned (age : Nat) : LState → LState
  | .cleaning => .dirty age
  | .dirtyCleaning a => .dirty a
  | e => e

/-- The trickle copy of a granule is abandoned. -/
def State.trickleBack (s : State) (g age : Nat) : State := s.setLedger g ((s.ledgerOf g).abandoned age)

/-! ### Opening and closing a ledger-doubt window (R157) -/

/-- A window opens: every user granule becomes DIRTY with age 0; the fault is recorded. -/
def State.openDoubt (s : State) (word : Nat) : State :=
  ({ s with
    cover := { s.cover with ledger := [], ledDflt := .dirty 0, doubtWriter := true, nDirty := s.nReported }
    regs := setRegs [(Reg.LG_STATUS_DOUBT, 1), (Reg.LG_PARITY_ADDR, word),
      (Reg.LG_PARITY_COUNT, min 0xFF (s.getF Reg.LG_PARITY_COUNT + 1))] s.regs }).raise .lamp 0x11 .warning 1

/-! ### The committed image of DRAM (R168, R169) -/

/-- DRAM with the committed write buffer laid over it, oldest entry first. -/
def State.image (s : State) : List Host.Cell := s.dram.wbuf.foldl (fun m e => putLine m e.line e.be e.data) s.dram.cells

/-- A line's committed value. -/
def State.imageLine (s : State) (line : Nat) : LineData := lineAt s.image line

/-- The data of a granule, by byte within it, without the lines that are written as 0x00. -/
def granCells (m : List Host.Cell) (g : Nat) (skip : List Nat) : List Host.Cell :=
  (m.filter (fun c => c.1 / 16384 == g && !skip.contains (c.1 % 16384 / 64))).map (fun c => (c.1 % 16384, c.2))

/-- Lines of a granule whose poison bit is set, by line within the granule. -/
def State.granPoison (s : State) (g : Nat) : List Nat :=
  if s.wholly g then (List.range 256).filter (fun l => s.poisoned (256 * g + l))
  else (s.dram.poison.filter (fun p => p.1 / 256 == g)).map (fun p => p.1 % 256)

/-- Carry the CRC over n bytes from a position on. -/
def crcRun : Nat → Nat → List Host.Cell → Nat → Nat
  | 0, _, _, c => c
  | n + 1, p, [], c => crcRun n (p + 1) [] (crcByte c 0)
  | n + 1, p, (a, b) :: t, c =>
    if a = p then crcRun n (p + 1) t (crcByte c b) else crcRun n (p + 1) ((a, b) :: t) (crcByte c 0)

/-- The CRC-32C of 16,384 data bytes (DATA_CRC, R235; the seal, R276). -/
def dataCrc (m : List Host.Cell) : Nat := crcRun 16384 0 m 0xFFFFFFFF ^^^ 0xFFFFFFFF

/-- The seal of a granule of zeros (R276). -/
def zeroSeal : Nat := dataCrc []

def State.sealOf (s : State) (g : Nat) : Nat := mget zeroSeal s.nand.sealTbl g

/-! ### Blocks and pages (R244 to R246) -/

/-- A rail is down: faulted, left off, waiting for its slot or a retry, ramping, going down, failed or broken (R245, R336, R354). -/
def State.railBad (s : State) (n : Nat) : Bool :=
  s.rail.latched.contains n || [1, 2, 4, 5, 6, 7, 8].contains (s.getF (Reg.SQ_ENT_ST_STATE n))

/-- The NAND group of a LUN is down: B4 feeds NF0 to NF3, B5 feeds NF4 to NF7, B6 all of them (Table 6-5, Table 10-2). -/
def State.groupDown (s : State) (l : Nat) : Bool := s.railBad (if l < 32 then 4 else 5) || s.railBad 6

/-- A LUN can be used. -/
def State.lunUp (s : State) (l : Nat) : Bool := s.lunPop l && !s.lunFailed l && !s.groupDown l

/-- The erased pages a block offers (R245). -/
def Blk.erased (b : Blk) (ppb : Nat) : Nat :=
  match b.st with
  | .free => ppb
  | .opened => ppb - b.next
  | _ => 0

/-- The erased pages of a LUN. -/
def State.lunErased (s : State) (l : Nat) : Nat :=
  if s.lunUp l then
    let ls := s.nand.blocks.filter (fun b => blockLun b.1 == l)
    (s.blocksPerLun - ls.length) * s.ppb + ls.foldl (fun n b => n + b.2.erased s.ppb) 0
  else 0

/-- P_erased counted from the block table (R245). -/
def State.erasedNow (s : State) : Nat := s.luns.foldl (fun n l => n + s.lunErased l) 0

/-- Erased pages of META blocks. -/
def State.metaNow (s : State) : Nat :=
  s.nand.blocks.foldl (fun n b => if b.2.st == .metaBlk && s.lunUp (blockLun b.1) then n + (s.ppb - b.2.next) else n) 0

/-- Recount both. -/
def State.recount (s : State) : State := { s with nand := { s.nand with pErased := s.erasedNow, metaErased := s.metaNow } }

def State.setBlk (s : State) (b : Nat) (x : Blk) : State := { s with nand := { s.nand with blocks := mset b x s.nand.blocks } }

/-- The next plan block of a LUN that is erased. -/
def State.planOn (s : State) (l : Nat) : Option Nat :=
  s.nand.plan.find? (fun b => blockLun b == l && s.lunUp l && (s.blkOf b).st == .free)

/-- The LUN with the most erased pages that has a plan block left (R198, R246). -/
def State.richLun (s : State) : Option Nat :=
  s.luns.foldl (fun best l =>
    if (s.planOn l).isNone then best
    else match best with
      | none => some l
      | some b => if s.lunErased b < s.lunErased l then some l else some b) none

/-- The home LUN of a context. -/
def State.homeLun (s : State) (n : Nat) : Nat := s.luns.getD (if s.luns.length = 0 then 0 else n % s.luns.length) 0

/-- The page that context n would take (R246). -/
def State.pickPage (s : State) (n : Nat) : Option Nat :=
  let fresh := (s.planOn (s.homeLun n) <|> s.richLun.bind s.planOn).map (fun b => mkLoc b 0)
  match (s.ctxOf n).blk with
  | some b =>
    if s.lunUp (blockLun b) && (s.blkOf b).st == .opened && decide ((s.blkOf b).next < s.ppb) then some (mkLoc b (s.blkOf b).next)
    else fresh
  | none => fresh

/-- The block after its next page is taken. -/
def Blk.take (b : Blk) (ppb : Nat) : Blk :=
  { b with next := b.next + 1, st := if b.next + 1 < ppb then .opened else .full }

/-- A page leaves the reserve (R143). -/
def State.takeLoc (s : State) (loc : Nat) : State :=
  let b := locBlock loc
  { s with nand := { s.nand with
      blocks := mset b ((s.blkOf b).take s.ppb) s.nand.blocks
      plan := sdel b s.nand.plan
      pErased := s.nand.pErased - 1 } }

/-! ### Requests to DRAM (R171) -/

/-- The subchannel of a line: DC0A, DC0B, DC1A, DC1B as 0 to 3 (R164). -/
def State.subOf (s : State) (line : Nat) : Nat := 2 * s.chanOf (granOf line) + line % 2

def State.subCh (s : State) (k : Nat) : SubCh := mget SubCh.reset s.dram.sub k

def State.setSub (s : State) (k : Nat) (x : SubCh) : State := { s with dram := { s.dram with sub := mset k x s.dram.sub } }

/-- A request waits for admission to its subchannel's command queue. -/
def State.ask (s : State) (q : DramQ) : State :=
  s.setSub (s.subOf q.line) { s.subCh (s.subOf q.line) with waiting := (s.subCh (s.subOf q.line)).waiting ++ [q] }

/-- Source numbers within a class, in the order of Table 5-5: class 1 write-through 0, drain 1, hold-path drain 2, fills 3; class 2 host
reads 0, drain 1, restore reads 2, burrow contexts 3; class 3 trickle contexts 0, scrub 1. -/
def State.askHost (s : State) (line : Nat) : State := s.ask ⟨line, false, 2, 0, 0⟩

/-- A copy that reads its granule from DRAM. -/
def CopyKind.ofGran (k : CopyKind) : Bool := k != .reloc && k != .metaPage

/-- A context asks for the first line of its granule on each subchannel; the next line follows each issue (log entry 13). -/
def State.askCtx (s : State) (n : Nat) : State :=
  let c := s.ctxOf n
  let cls := if s.mode = .burrow then 2 else if c.kind = .wt then 1 else 3
  let src := if s.mode = .burrow then 3 else 0
  if !c.kind.ofGran || s.chanFailed (s.chanOf c.gran) then s
  else (s.ask ⟨256 * c.gran, false, cls, src, n⟩).ask ⟨256 * c.gran + 1, false, cls, src, n⟩

/-- A request of some kind has not been issued yet. -/
def State.asked (s : State) (p : DramQ → Bool) : Bool := s.dram.sub.any (fun x => x.2.queue.any p || x.2.waiting.any p)

/-- A request is a context's read. -/
def ctxReq (n : Nat) (q : DramQ) : Bool :=
  !q.write && q.ctx == n && ((q.cls == 1 && q.src == 0) || (q.cls == 2 && q.src == 3) || (q.cls == 3 && q.src == 0))

/-- Context n still has lines to read, or data to come: a replay holds the data of its reads back (R181, R226). -/
def State.ctxReading (s : State) (n : Nat) : Bool := s.asked (ctxReq n) || s.dram.rdOut.any (fun r => r.ctx == some n)

/-- Drop the reads of context n. -/
def State.dropCtxReads (s : State) (n : Nat) : State :=
  { s with dram := { s.dram with rdOut := s.dram.rdOut.filter (fun r => r.ctx != some n), sub := s.dram.sub.map (fun x => (x.1, { x.2 with
      queue := x.2.queue.filter (fun q => !ctxReq n q)
      waiting := x.2.waiting.filter (fun q => !ctxReq n q) })) } }

/-! ### Contexts -/

def State.setCtx (s : State) (n : Nat) (c : Ctx) : State := { s with bur := { s.bur with ctx := mset n c s.bur.ctx } }

/-- A LUN has a context in LOAD; it has a program, or any operation, in its array (R199, R214). -/
def State.lunLoad (s : State) (l : Nat) : Bool := s.bur.ctx.any (fun c => c.2.st == .load && locLun c.2.page == l)
def State.lunProg (s : State) (l : Nat) : Bool := s.bur.ctx.any (fun c => c.2.st == .prog && locLun c.2.page == l)
def State.lunBusy (s : State) (l : Nat) : Bool := s.lunProg l || s.nand.erasing.any (fun b => blockLun b == l)

/-- With an operation in the array of a LUN its channel still has a LUN with an armed context and no operation; a channel with no armed context
is exempt (R199). -/
def State.keepsReady (s : State) (l : Nat) : Bool :=
  let armed := (s.bur.ctx.filter (fun c => c.2.st == .armed && locLun c.2.page / 8 == l / 8)).map (fun c => locLun c.2.page)
  armed.isEmpty || armed.any (fun x => x != l && !s.lunBusy x)

/-- A context has its copy and waits in SETUP for its LUN's turn to load (R214). -/
def Ctx.waits (c : Ctx) : Bool := c.st == .setup && c.kind != .none

/-- A context has its copy and has not confirmed it. -/
def Ctx.loading (c : Ctx) : Bool := c.st == .load || c.waits

/-- A context begins LOAD on its page, or waits in SETUP while another context of its LUN is in LOAD (R214). -/
def State.beginLoad (s : State) (n : Nat) (c : Ctx) : State :=
  let t := s.setCtx n { c with st := .setup }
  if t.lunLoad (locLun c.page) then t else (t.setCtx n { c with st := .load }).askCtx n

/-- A context that waits for its turn begins LOAD when it can, after a stop of the sweep too: R216 lets no context begin LOAD and yet lands the
granules that are taken; a copy that has left SETUP for its LUN's turn, or is re-targeted, lands (DESIGN CHOICE, log entry 117). -/
def State.loadTurn (s : State) (n : Nat) : State :=
  let c := s.ctxOf n
  if c.waits && !s.lunLoad (locLun c.page) && s.lunUp (locLun c.page) then (s.setCtx n { c with st := .load }).askCtx n else s

/-- Each context that waits for its turn, in context order. -/
def State.loadTurns (s : State) : State := (s.bur.ctx.map (·.1)).foldl (fun (a : State) n => a.loadTurn n) s

/-- The reserve can supply a page: outside BURROW the landing need stays covered (R198, Table 1-3). -/
def State.maySupply (s : State) : Bool := s.nand.pErased != 0 && (s.mode == .burrow || decide (landNeed s.cover.nDirty < s.nand.pErased))

/-- Arm a context on the next page the reserve gives it (R198). -/
def State.armCtx (s : State) (n : Nat) : Option State :=
  if !s.maySupply then none
  else (s.pickPage n).map (fun loc =>
    (s.takeLoc loc).setCtx n { Ctx.idle with st := .armed, page := loc, blk := some (locBlock loc) })

/-- Back to ARMED on a new page, or IDLE (R213). -/
def State.rearm (s : State) (n : Nat) : State :=
  (s.armCtx n).getD (s.setCtx n { Ctx.idle with blk := (s.ctxOf n).blk })

/-- Back to ARMED on the page it still holds (R201). -/
def State.keepPage (s : State) (n : Nat) : State :=
  s.setCtx n { Ctx.idle with st := .armed, page := (s.ctxOf n).page, blk := (s.ctxOf n).blk }

/-- The first IDLE context. -/
def State.idleCtx (s : State) : Option Nat := (List.range 256).find? (fun n => (s.ctxOf n).st == .idle)

/-- A context that can take a copy: its page can be programmed. -/
def State.ctxReady (s : State) (c : Ctx) : Bool := (c.st == .armed || (c.st == .setup && c.kind == .none)) && s.lunUp (locLun c.page)

/-- A copy may take a context: in RUN, of the armed contexts that its channel has left one lies on a LUN with no operation in its array; a channel left
without any is exempt (R199). -/
def State.leavesReady (s : State) (n : Nat) (c : Ctx) : Bool :=
  let left := s.bur.ctx.filter (fun x => x.1 != n && x.2.st == .armed && locLun x.2.page / 8 == locLun c.page / 8)
  s.mode != .run || left.isEmpty || left.any (fun x => !s.lunBusy (locLun x.2.page))

/-- The first such context on a LUN where none is in LOAD (R214). -/
def State.readyCtx (s : State) : Option Nat :=
  (s.bur.ctx.find? (fun c => s.ctxReady c.2 && !s.lunLoad (locLun c.2.page) && s.leavesReady c.1 c.2)).map (·.1)

/-- A context with a page for a copy: an armed one, or an idle one armed now. -/
def State.takeCtx (s : State) : Option (Nat × State) :=
  match s.readyCtx with
  | some n => some (n, s)
  | none => s.idleCtx.bind (fun n => (s.armCtx n).bind (fun t => if t.lunLoad (locLun (t.ctxOf n).page) then none else some (n, t)))

/-- Contexts of some kinds in flight. -/
def State.flying (s : State) (p : CopyKind → Bool) : Nat := s.ctxCount (fun c => c.st.inFlight && p c.kind)

/-- An arming may take the next epoch value (R239). -/
def State.epochFree (s : State) : Bool := decide (s.nand.epoch + 1 + 65536 ≤ s.nand.ceil)

/-- The granule that a write-through holds locked (R149 step 2). -/
def State.wtGran (s : State) : Option Nat :=
  match s.host.stage with
  | some ⟨w, .wtWait⟩ => some (granOf w.line)
  | some ⟨w, .wtBusy _⟩ => some (granOf w.line)
  | _ => none

/-- The trickle context limit (R152, R545): MAX_CTX in FULL and for refresh copies, BG_CTX in BACKGROUND; halved at Step 1 and above. -/
def State.ctxLimit (s : State) (full : Bool) : Nat :=
  let m := max 1 (min 128 (s.getF Reg.LG_TRKCTX_MAX_CTX))
  let l := if full then m else min m (s.getF Reg.LG_TRKCTX_BG_CTX)
  if 1 ≤ s.getF Reg.TH_STATUS_LEVEL then (l + 1) / 2 else l

/-- A line of the granule is staged, or waits to be after its ledger update: a write of the host, or a mirrored one. -/
def State.stagedGran (s : State) (g : Nat) : Bool :=
  s.host.staged.any (fun w => granOf w.line == g) || s.twin.mstaged.any (fun w => granOf w.line == g)
    || (match s.host.stage with | some ⟨w, .bufWait⟩ => granOf w.line == g | _ => false)

/-- Arm a copy of a granule that takes an epoch value (R154, R238); `none` when no context, no page or no value is free, or the granule
is locked. A trickle copy, which ignores staged lines (R169), waits until the granule's staged lines are committed: otherwise it would make the
granule CLEAN under them, against R17 (DESIGN CHOICE, log entry 81). -/
def State.armCopy (s : State) (kind : CopyKind) (g age : Nat) : Option State :=
  if !s.epochFree || (s.wtGran == some g && kind != .wt) || s.chanFailed (s.chanOf g) || (kind == .trickle && s.stagedGran g) then none
  else s.takeCtx.map (fun (n, t) =>
    (({ t with nand := { t.nand with epoch := t.nand.epoch + 1 } }).setCtx n
      { t.ctxOf n with st := .load, kind := kind, gran := g, ver := t.nand.epoch + 1, age := age }).askCtx n)

/-- Arm a relocation copy, which keeps the header of its source page (R238, R249). -/
def State.armReloc (s : State) (g src ver : Nat) : Option State :=
  if s.wtGran == some g then none
  else s.takeCtx.map (fun (n, t) =>
    t.setCtx n { t.ctxOf n with st := .load, kind := .reloc, gran := g, ver := ver, src := src })

/-- Failed LUNs. -/
def State.badLuns (s : State) : List Nat := s.luns.filter s.lunFailed

/-- A condition of R257 holds: a changed segment, a short plan, a near ceiling, a LUN failed since the latest root. -/
def State.ckptDue (s : State) : Bool :=
  let root := (mfind (s.getF Reg.NB_ROOTPTR_LOC) s.nand.pages).bind (·.root)
  s.nand.changed.any (fun x => decide (x.2 + 100 * max 1 (s.getF Reg.NB_POLICY_CKPT_100MS) ≤ s.ms)) || decide (s.nand.plan.length < 256)
    || s.goodLuns.any (fun l => decide ((s.nand.plan.filter (fun b => blockLun b == l)).length < 2))
    || decide (s.nand.ceil < s.nand.epoch + 2 ^ 27)
    || (match root with | some r => r.lunFailed != s.badLuns | none => true)

/-- The last erased page above the landing need goes to a checkpoint that is due or under way, and not to a refresh copy (Table 7-9). -/
def State.yieldsPage (s : State) : Bool :=
  s.readyCtx.isNone && decide (s.nand.pErased ≤ landNeed s.cover.nDirty + 1) && (s.nand.ckpt.isSome || s.ckptDue)

/-- A waiting refresh copy is armed while a context is free for it. -/
def State.armOneRefresh (s : State) (g : Nat) : State :=
  if s.ctxLimit true ≤ s.flying (fun k => k == .trickle || k == .refresh) || s.yieldsPage || s.rst.pend.contains g then s
  else match s.armCopy .refresh g 0 with
    | some t => { t with nand := { t.nand with refreshQ := sdel g t.nand.refreshQ } }
    | none => s

/-- Arm waiting refresh copies in RUN while contexts are free (R545). -/
def State.armRefresh (s : State) : State := if s.mode = .run ∧ ¬ s.bur.fenced then s.nand.refreshQ.foldl State.armOneRefresh s else s

/-- The erase-ahead target of P_erased (R248). -/
def State.eaTarget (s : State) : Nat :=
  s.nUser + pMan s.nUser + 64 + s.getF Reg.NB_POLICY_HEADROOM * s.ppb * s.goodLuns.length

/-- The write-through's arming condition (R149 step 1). -/
def State.wtMayArm (s : State) : Bool :=
  decide (s.cover.nDirty + pMan s.cover.nDirty + 65 ≤ s.nand.pErased) && s.epochFree

/-- A waiting write-through arms its context when it can. -/
def State.wtTry (s : State) : State :=
  match s.host.stage with
  | some ⟨w, .wtWait⟩ =>
    if s.wtMayArm && !s.bur.fenced && !s.bur.regroup && !s.lineFailed w.line then
      match s.takeCtx with
      | some (n, t) =>
        (({ t with
            nand := { t.nand with epoch := t.nand.epoch + 1 }
            host := { t.host with stage := some ⟨w, .wtBusy n⟩ } }).setCtx n
          { t.ctxOf n with st := .load, kind := .wt, gran := granOf w.line, ver := t.nand.epoch + 1 }).askCtx n
      | none => s
    else s
  | _ => s

/-! ### Mapping (R252) -/

def State.pageVer (s : State) (loc : Nat) : Nat := match mfind loc s.nand.pages with | some p => p.ver | none => 0

/-- DATA_CRC of a page as programmed (R235). -/
def State.pageCrc (s : State) (loc : Nat) : Nat := match mfind loc s.nand.pages with | some p => p.crc | none => 0

/-- Touch the translation cache: the granule becomes its set's newest entry, at most four a set (R242). -/
def touchCache (g : Nat) (l : List Nat) : List Nat :=
  let rest := l.filter (· != g)
  let same := rest.filter (fun x => x % 1024 == g % 1024)
  g :: rest.filter (fun x => x % 1024 != g % 1024 || (same.take 3).contains x)

/-- A lookup of the granule map (R212, R242): the cache is touched and a miss counted. -/
def State.lookupMap (s : State) (g : Nat) : State :=
  { s with
    nand := { s.nand with tcache := touchCache g s.nand.tcache }
    regs := setRegs [(Reg.NB_TCACHE_MISSES, min 0xFFFF (s.getF Reg.NB_TCACHE_MISSES + b2n (!s.nand.tcache.contains g)))] s.regs }

/-- A copy of this version may be mapped: none of a higher version is. -/
def State.mayMap (s : State) (g ver : Nat) : Bool := s.mapOf g == noLoc || s.pageVer (s.mapOf g) ≤ ver

/-- A listed orphan outlasts the mapping of a copy of granule g and version ver (R253). -/
def State.staysOrphan (s : State) (g ver : Nat) (o : Nat × Nat) : Bool := !(o.2 == g && decide (s.pageVer o.1 < ver))

/-- An orphan joins its list, or stands beside the 16 listed; a refresh copy of its granule is to come (R253). -/
def State.listOrphan (s : State) (page g : Nat) : State :=
  if s.nand.orphans.length < 16 then { s with nand := { s.nand with orphans := s.nand.orphans ++ [(page, g)] } }
  else { s with bur := { s.bur with voidExtra := s.bur.voidExtra ++ [(page, g)] } }

/-- Outside BURROW an orphan's granule waits for its refresh copy at once (R253; log entry 115). -/
def State.orphanBack (s : State) (page g : Nat) : State :=
  { s.listOrphan page g with nand := { (s.listOrphan page g).nand with refreshQ := sadd g s.nand.refreshQ } }

/-- Enter a copy in the granule map: map entry, seal, changed segment, orphans below it (R252, R253, R276). -/
def State.mapCopy (s : State) (g loc ver crc : Nat) : State :=
  { s with
    nand := { s.nand with
      map := mset g loc s.nand.map
      mapUnknown := sdel g s.nand.mapUnknown
      sealTbl := msetD zeroSeal g crc s.nand.sealTbl
      tcache := touchCache g s.nand.tcache
      changed := if (mfind (g / 4096) s.nand.changed).isSome then s.nand.changed else mset (g / 4096) s.ms s.nand.changed
      orphans := s.nand.orphans.filter (s.staysOrphan g ver) }
    bur := { s.bur with voidExtra := s.bur.voidExtra.filter (s.staysOrphan g ver) } }

/-! ### Live pages (R244) -/

/-- Every page that a root lists has landed (R258). -/
def State.rootComplete (s : State) (r : RootPage) : Bool :=
  let at' := fun (kind : Nat) (x : Nat × Nat) => match mfind x.2 s.nand.pages with | some p => p.kind == kind && p.index == x.1 | none => false
  r.segLoc.all (at' 0x11) && r.btLoc.all (at' 0x12)

/-- The pages that the latest committed root and the latest complete root keep: their own, those they list and those their map image names. -/
def State.rootKeeps (s : State) : List Nat :=
  (s.nand.pages.filter (fun p => match p.2.root with
      | some r => p.1 == s.getF Reg.NB_ROOTPTR_LOC || (s.rootComplete r && !s.nand.pages.any (fun q => match q.2.root with
          | some r2 => s.rootComplete r2 && decide (r.rootSeq < r2.rootSeq)
          | none => false))
      | none => false)).flatMap (fun p => p.1 :: (match p.2.root with
          | some r => r.map.map (·.2) ++ r.segLoc.map (·.2) ++ r.btLoc.map (·.2)
          | none => []))

/-- A page is live. -/
def State.livePage (s : State) (loc : Nat) : Bool :=
  s.nand.map.any (fun x => x.2 == loc) || s.rootKeeps.contains loc || s.nand.live.contains loc
    || s.bur.ctx.any (fun c => c.2.st != .idle && c.2.page == loc)

/-- A block is erasable: no live page, neither OPEN nor held by a context, not BAD, not retiring and not erased already (R244, R247). -/
def State.erasable (s : State) (b : Nat) : Bool :=
  let x := s.blkOf b
  (x.st == .full || (x.st == .metaBlk && x.next != 0)) && !x.retiring && !s.lunFailed (blockLun b)
    && !s.bur.ctx.any (fun c => c.2.st != .idle && locBlock c.2.page == b)
    && !(s.nand.pages.any (fun p => locBlock p.1 == b && s.livePage p.1))

/-! ### Plans and roots (R255, R256) -/

/-- Blocks that nothing has touched, on good LUNs in ascending order, outside a list. -/
def State.freshOn (s : State) (not : List Nat) (l : Nat) : Nat → Nat → List Nat → Nat → List Nat
  | 0, _, acc, _ => acc
  | n + 1, b, acc, need =>
    if need ≤ acc.length then acc
    else
      let x := mkBlock l b
      s.freshOn not l n (b + 1) (if (mfind x s.nand.blocks).isNone && !not.contains x then acc ++ [x] else acc) need

/-- The plan of a new root: the unopened blocks of the previous one, then erasable and FREE blocks by erase count, up to 512. -/
def State.newPlan (s : State) : List Nat :=
  let kept := s.nand.plan.filter (fun b => s.lunUp (blockLun b) && (s.blkOf b).st != .bad)
  let need := 512 - kept.length
  let fresh := s.goodLuns.foldl (fun acc l => s.freshOn kept l s.blocksPerLun 0 acc need) []
  let listed := (s.nand.blocks.filter (fun b => s.lunUp (blockLun b.1) && !kept.contains b.1
    && (b.2.st == .free || s.erasable b.1))).map (fun b => (b.1, b.2.erases))
  let all := ksort (fun (x : Nat × Nat) => x.2 * 4194304 + x.1) (fresh.map (fun b => (b, 0)) ++ listed)
  kept ++ (all.take need).map (·.1)

/-- MAN_VERSION of a root written now: the version of the latest committed manifest, whose copies the map holds. -/
def State.manVersion (s : State) : Nat := match mfind (s.getF Reg.NB_MANPTR_LOC) s.nand.pages with | some p => p.ver | none => 0

/-- The highest ROOT_SEQ that any root page holds. -/
def State.lastRootSeq (s : State) : Nat :=
  s.nand.pages.foldl (fun n p => match p.2.root with | some r => max n r.rootSeq | none => n) 0

/-- The segments and block-table pages that the latest committed root lists. -/
def State.rootLists (s : State) : List (Nat × Nat) × List (Nat × Nat) :=
  match (mfind (s.getF Reg.NB_ROOTPTR_LOC) s.nand.pages).bind (·.root) with
  | some r => (r.segLoc, r.btLoc)
  | none => ([], [])

/-- The root page that ties a checkpoint together. -/
def State.mkRoot (s : State) (k : Ckpt) : RootPage :=
  { rootSeq := s.lastRootSeq + 1, ceil := s.nand.epoch + 2 ^ 28, manVer := s.manVersion, map := k.map, mapDflt := k.mapDflt
    opens := (s.nand.blocks.filter (fun b => b.2.st == .opened)).map (·.1), plan := s.newPlan, lunFailed := s.badLuns
    retireBudget := s.retireBudget
    segLoc := k.segs.foldl (fun m x => mset x.1 x.2 m) s.rootLists.1
    btLoc := k.bts.foldl (fun m x => mset x.1 x.2 m) s.rootLists.2 }

/-- A checkpoint of nothing. -/
def State.ckptNone (s : State) : Ckpt := ⟨[], [], [], s.nand.map, s.nand.mapDflt, [], none⟩

/-- A root page as it is programmed (Tables 7-3, 7-6). -/
def State.rootNPage (s : State) (r : RootPage) : NPage :=
  let data := cellsOf 0 r.bytes
  ⟨0x13, r.rootSeq, s.nand.epoch, dataCrc data, [], data, none, some r⟩

/-! ### What a page holds -/

/-- Program a page. -/
def State.putPage (s : State) (loc : Nat) (p : NPage) : State :=
  { s with nand := { s.nand with pages := mset loc p s.nand.pages } }

/-- The page that context n programs: a granule copy of the committed image, poisoned and uncorrectable lines as 0x00 (R211, R235); a
relocation copies its source page. For a write-through the write's bytes are merged (R149 step 3). -/
def State.copyPage (s : State) (c : Ctx) : NPage :=
  match c.kind, mfind c.src s.nand.pages with
  | .reloc, some p => p
  | .metaPage, _ =>
    if c.src = 0x13 then (match s.nand.ckpt with | some k => s.rootNPage (s.mkRoot k) | none => s.rootNPage (s.mkRoot s.ckptNone))
    else
    { kind := c.src, index := c.gran, ver := s.nand.epoch, lp := [], data := [], man := none, root := none
      crc := if c.src = 0x11 then crc32c (s.segBytes c.gran) else (Config.btCrc (s.nand.epoch * 4096 + c.gran + 2 ^ 60 * s.eraseSum)).toNat }
  | _, _ =>
    let img := match c.kind, s.host.stage with
      | .wt, some ⟨w, _⟩ => putLine s.image w.line w.be w.data
      | _, _ => s.image
    let own := match c.kind, s.host.stage with
      | .wt, some ⟨w, _⟩ => if w.full then [w.line % 256] else []
      | _, _ => []
    let lp := ((s.granPoison c.gran ++ c.lp.filter (fun l => !(s.granPoison c.gran).contains l)).filter (fun l => !own.contains l))
    let data := granCells img c.gran lp
    { kind := match c.kind with | .burrow => 2 | .wt => 3 | _ => 1
      index := c.gran, ver := c.ver, crc := dataCrc data, lp := lp, data := data, man := none, root := none }

/-- A page whose program failed or was cut off is unusable. -/
def State.dropPage (s : State) (loc : Nat) : State := { s with nand := { s.nand with pages := mdel loc s.nand.pages } }

/-- Hand a CLEAN granule to the burrow (R209); the queue holds 256, and a source waits while it is full, in order behind it. -/
def State.handoff (s : State) (g : Nat) : State :=
  { s with bur := { s.bur with handoff := s.bur.handoff ++ [g] } }

/-- A granule that the sweep has taken goes back to the handoff queue, to be taken again. -/
def State.handBack (s : State) (g : Nat) : State :=
  (s.handoff g).setF Reg.BE_TAKEN_TAKEN (s.getF Reg.BE_TAKEN_TAKEN - 1)

/-! ### Page reads (R236, R237) -/

/-- Lines of codewords that do not decode. -/
def badLines (rd : NandRead) : List Nat := ((List.range 8).filter rd.badCw.contains).flatMap (fun k => (List.range 32).map (· + 32 * k))

/-- The class of a read result (R237). -/
def pageClass (rd : NandRead) : PageClass :=
  if rd.erased then .erased
  else if rd.cw0Bad || rd.hdrBad then .unusable
  else if rd.badCw.isEmpty && rd.crcBad then .unusable
  else .lines (badLines rd)

/-- The page cannot be used at all. -/
def pageGone (rd : NandRead) : Bool := match pageClass rd with | .lines _ => false | _ => true

/-- The stage a read ended in: with no read-retry level stage 2 has nothing to try, and an undecoded codeword has seen them all (R236). -/
def State.readStage (s : State) (rd : NandRead) : Nat :=
  if rd.cw0Bad || !rd.badCw.isEmpty then 3 else if rd.stage = 2 ∧ s.getF Reg.NB_SLC_RR_LEVELS = 0 then 3 else rd.stage

/-- NB_ECC after a read: reads decoded in stage 2 or 3, and codewords left undecoded (R236). -/
def State.eccCount (s : State) (rd : NandRead) : State :=
  let undec := rd.badCw.length + b2n rd.cw0Bad
  if rd.erased then s
  else ((s.addSat Reg.NB_ECC_STAGE2 (b2n (s.readStage rd == 2))).addSat Reg.NB_ECC_STAGE3 (b2n (s.readStage rd == 3 && undec == 0))).addSat
    Reg.NB_ECC_UNCORR undec

/-- Pages are read: each read counts, and a page that cannot be used is noted. -/
def State.readPages (s : State) (rds : List (Nat × NandRead)) : State :=
  rds.foldl (fun (a : State) x =>
    let t := a.eccCount x.2
    { t with nand := { t.nand with unread := if pageGone x.2 then sadd x.1 t.nand.unread else sdel x.1 t.nand.unread } }) s

/-! ### Abandoned copies -/

/-- A copy in RUN gives up: its entry returns, a refresh waits again, a write-through starts again from step 1 (Table 4-2, R149). -/
def State.copyAbandoned (s : State) (c : Ctx) : State :=
  match c.kind with
  | .trickle => s.trickleBack c.gran c.age
  | .refresh => { s with nand := { s.nand with refreshQ := sadd c.gran s.nand.refreshQ } }
  | .wt => { s with host := { s.host with stage := s.host.stage.map (fun l => ⟨l.w, .wtWait⟩) } }
  | _ => s

/-- The staging table is zeroed (R217). -/
def State.zeroStaging (s : State) : State :=
  { s with
    bur := { s.bur with staging := [] }
    dram := { s.dram with
      cells := s.dram.cells.filter (fun c => !s.isStagingLine (c.1 / 64))
      wbuf := s.dram.wbuf.filter (fun e => !s.isStagingLine e.line) } }

/-- Record a granule LOST in the staging table (R218) and count it. -/
def State.recordLost (s : State) (g : Nat) : State :=
  { (s.lostSlot g) with
    regs := setRegs [(Reg.BE_TAKEN_TAKEN, s.getF Reg.BE_TAKEN_TAKEN + 1), (Reg.BE_LOST_LOST, s.getF Reg.BE_LOST_LOST + 1)] s.regs }

/-- A granule already taken is recorded LOST. -/
def State.takenLost (s : State) (g : Nat) : State :=
  { (s.lostSlot g) with
    regs := setRegs [(Reg.BE_LOST_LOST, s.getF Reg.BE_LOST_LOST + 1)] s.regs }

/-! ### The landing reserve after a loss (R251) -/

/-- RSV_SHORT follows the landing need: set with its ERROR event after a loss, cleared when erase-ahead has restored the need. -/
def State.reserveCheck (s : State) : State :=
  if s.nand.pErased < landNeed s.cover.nDirty then
    (if s.getB Reg.NB_STATUS_RSV_SHORT then s else (s.setF Reg.NB_STATUS_RSV_SHORT 1).raise .lamp 0x29 .error 0)
  else s

/-- After a program failure: the reserve has lost pages when it closed a retiring block (R251). -/
def State.lossCheck (s : State) (closed : Bool) : State := if closed then s.reserveCheck else s

def State.reserveBack (s : State) : State :=
  if landNeed s.cover.nDirty ≤ s.nand.pErased then s.setF Reg.NB_STATUS_RSV_SHORT 0 else s

/-! ### META blocks (R259) -/

/-- Segments, block-table pages, and the size K of a full checkpoint. -/
def State.segs (s : State) : Nat := (s.nUser + 4095) / 4096
def State.btPages (s : State) : Nat := (s.luns.length * s.blocksPerLun + 4095) / 4096
def State.ckptFull (s : State) : Nat := s.segs + s.btPages + 1

/-- F_meta. -/
def State.fMeta (s : State) : Nat := pMan s.nUser + 1 + 2 * s.ckptFull

/-- META blocks on a LUN. -/
def State.metaOn (s : State) (l : Nat) : Nat := (s.nand.blocks.filter (fun b => b.2.st == .metaBlk && blockLun b.1 == l)).length

/-- The lowest FREE block of a LUN from one on, those of the plan only where `planned`. -/
def State.freeFrom (s : State) (planned : Bool) (l : Nat) : Nat → Nat → Option Nat
  | 0, _ => none
  | n + 1, b =>
    if (s.blkOf (mkBlock l b)).st == .free && (planned || !s.nand.plan.contains (mkBlock l b)) then some (mkBlock l b)
    else s.freeFrom planned l n (b + 1)

/-- The lowest FREE block of a LUN: one outside the plan where there is one. -/
def State.freeOn (s : State) (l : Nat) : Option Nat := s.freeFrom false l s.blocksPerLun 0 <|> s.freeFrom true l s.blocksPerLun 0

/-- The FREE block to open as META: on the LUN with the fewest of those that have one, lower LUN index first (log entry 19). -/
def State.metaNew (s : State) : Option Nat :=
  (s.goodLuns.foldl (fun (best : Option (Nat × Nat)) l =>
      match (if s.lunUp l then s.freeOn l else none), best with
      | none, _ => best
      | some b, none => some (s.metaOn l, b)
      | some b, some x => if s.metaOn l < x.1 then some (s.metaOn l, b) else some x) none).map (·.2)

/-- Open FREE blocks as META until a count of erased META pages is passed, while the reserve allows it. -/
def State.openMeta (s : State) (want : Nat) : Nat → State
  | 0 => s
  | n + 1 =>
    if want < s.nand.metaErased ∨ s.nand.pErased < landNeed s.cover.nDirty + 2 * s.ppb then s
    else match s.metaNew with
      | some b =>
        ({ s with nand := { s.nand with
          blocks := mset b { s.blkOf b with st := .metaBlk, next := 0, metaUse := true } s.nand.blocks
          plan := sdel b s.nand.plan
          pErased := s.nand.pErased - s.ppb
          metaErased := s.nand.metaErased + s.ppb } } : State).openMeta want n
      | none => s

/-- Outside BURROW the back end keeps at least F_meta erased META pages (R259). -/
def State.keepMeta (s : State) : State := if s.mode != .burrow && decide (s.nand.metaErased < s.fMeta) then s.openMeta (s.fMeta - 1) 64 else s

/-! ### Meta pages (R246, R257, R259) -/

/-- The lowest erased page of a META block, on a LUN that passes a test. -/
def State.metaPageOn (s : State) (p : Nat → Bool) : Option Nat :=
  (s.nand.blocks.find? (fun b => b.2.st == .metaBlk && decide (b.2.next < s.ppb) && !s.nand.erasing.contains b.1 && s.lunUp (blockLun b.1)
    && p (blockLun b.1))).map
    (fun b => mkLoc b.1 b.2.next)

/-- A META page is taken. -/
def State.takeMeta (s : State) (loc : Nat) : State :=
  let b := locBlock loc
  if (s.blkOf b).st = .metaBlk then
    { s with nand := { s.nand with
        blocks := mset b { s.blkOf b with next := (s.blkOf b).next + 1 } s.nand.blocks
        metaErased := s.nand.metaErased - 1 } }
  else s.takeLoc loc

/-- A context gives its armed copy page, the last one taken of its block, back to P_erased. -/
def State.giveBack (s : State) (n : Nat) : State :=
  let loc := (s.ctxOf n).page
  let x := s.blkOf (locBlock loc)
  if locPage loc + 1 = x.next ∧ (x.st = .opened ∨ x.st = .full) then
    { s with nand := { s.nand with
        blocks := mset (locBlock loc) { x with next := x.next - 1, st := .opened } s.nand.blocks
        pErased := s.nand.pErased + 1 } }
  else s

/-- The context that writes a meta page: an armed one, which gives its copy page back, or an IDLE one (R246). -/
def State.metaCtx (s : State) : Option Nat := s.readyCtx <|> s.idleCtx

/-- A context takes a META page in place of its copy page (R246). -/
def State.metaTake (s : State) (n loc : Nat) : State := (if (s.ctxOf n).st = .idle then s else s.giveBack n).takeMeta loc

/-- A LUN takes the next meta page of the checkpoint: at most one at a time on each good LUN with an erased META page (R257). -/
def State.metaStart (s : State) (l : Nat) : State :=
  match s.nand.ckpt, s.metaPageOn (fun x => x == l) with
  | some k, some loc =>
    (match k.todo with
      | (kind, i) :: rest =>
        if s.lunLoad l || s.bur.ctx.any (fun c => c.2.kind == .metaPage && locLun c.2.page == l) then s
        else match s.metaCtx with
          | none => s
          | some n =>
            let u := (s.metaTake n loc).setCtx n
              { Ctx.idle with st := .load, kind := .metaPage, gran := i, src := kind, page := loc, ver := s.nand.epoch, blk := (s.ctxOf n).blk }
            { u with nand := { u.nand with ckpt := some { k with todo := rest } } }
      | [] => s)
  | _, _ => s

/-- The root is the checkpoint's last wave: it waits until every page that it lists has landed (R257). -/
def State.rootWave (s : State) : State :=
  match s.nand.ckpt with
  | some k =>
    if k.todo.isEmpty && k.root.isNone && !s.bur.ctx.any (fun c => c.2.kind == .metaPage) then
      { s with nand := { s.nand with ckpt := some { k with todo := [(0x13, s.lastRootSeq + 1)] } } }
    else s
  | none => s

/-- A wave of meta pages. -/
def State.metaWave (s : State) : State :=
  if s.nand.ckpt.isSome && s.mode == .run && !s.bur.fenced then s.rootWave.goodLuns.foldl State.metaStart s.rootWave else s

/-- A page of the checkpoint has landed. -/
def Ckpt.landed (k : Ckpt) (kind i page : Nat) : Ckpt :=
  if kind = 0x11 then { k with segs := mset i page k.segs }
  else if kind = 0x12 then { k with bts := mset i page k.bts }
  else { k with root := some page }

/-- A meta page lands; its context returns to its own block (R246). -/
def State.metaLanded (s : State) (n : Nat) : State :=
  let c := s.ctxOf n
  (({ s with nand := { s.nand with ckpt := s.nand.ckpt.map (fun k => k.landed c.src c.gran c.page) } } : State).rearm n).metaWave

/-- The page that the next manifest page goes to, taken: a META page, which a context takes in place of its own; else an armed copy page; else a page of
the reserve (R219, R246, R259). -/
def State.manTake (s : State) : Option (State × Nat) :=
  match s.metaPageOn (fun _ => true), s.readyCtx with
  | some loc, some n => some ((s.metaTake n loc).rearm n, loc)
  | some loc, none => some (s.takeMeta loc, loc)
  | none, some n => some (s.rearm n, (s.ctxOf n).page)
  | none, none => if s.nand.pErased = 0 then none else (s.pickPage 0).map (fun loc => (s.takeLoc loc, loc))

/-- A meta page that did not land waits again; its context returns to its own block. -/
def State.metaBack (s : State) (n : Nat) : State :=
  let c := s.ctxOf n
  (({ s with nand := { s.nand with ckpt := s.nand.ckpt.map (fun k => { k with todo := (c.src, c.gran) :: k.todo }) } } : State).rearm n).metaWave

/-- A checkpoint that ends without its root: the segments it took stay changed. -/
def State.ckptDrop (s : State) : State :=
  match s.nand.ckpt with
  | some k => { s with nand := { s.nand with
      ckpt := none
      changed := k.took.foldl (fun m x => mset x.1 x.2 m) s.nand.changed } }
  | none => s

/-! ### LUN failure (R247, R250, Table 6-5) -/

/-- A copy's granule lies in a failed DRAM channel: it can no longer be read (R184). -/
def State.unreadable (s : State) (c : Ctx) : Bool := c.kind.ofGran && s.chanFailed (s.chanOf c.gran)

/-- A re-target takes its next page, on another LUN where its own has failed; without a page the copy is given up, in BURROW recorded LOST (R247,
Tables 6-5 and 6-6). -/
def State.moveOn (s : State) (n : Nat) (c : Ctx) : State :=
  match (if s.nand.pErased = 0 ∨ s.unreadable c then none else s.pickPage n) with
  | some loc => (s.takeLoc loc).beginLoad n { c with page := loc, blk := some (locBlock loc), retgt := min 7 (c.retgt + 1) }
  | none => (if s.mode = .burrow then s.takenLost c.gran else s.copyAbandoned c).setCtx n Ctx.idle

/-- A burrow copy is being re-targeted: its program failed and the next is not confirmed yet. -/
def State.retargets (s : State) (c : Ctx) : Bool := s.bur.abn == .none && c.retgt != 0 && c.loading

/-- A context that loses its page to a failed LUN. -/
def State.loseCtx (s : State) (n : Nat) : State :=
  let c := s.ctxOf n
  let s0 := s.setCtx n { c with blk := none }
  if c.st = .armed ∨ c.st = .idle ∨ (c.st = .setup ∧ c.kind = .none) then s0.rearm n
  else if c.kind = .metaPage then s0.metaBack n
  else if s.mode = .burrow then
    (match c.kind with
      | .burrow => if s0.retargets c then s0.moveOn n c else (s0.handBack c.gran).rearm n
      | .trickle => ((s0.trickleBack c.gran c.age).handoff c.gran).rearm n
      | .refresh => (if (s0.ledgerOf c.gran).isDirty then s0 else s0.handoff c.gran).rearm n
      | _ => s0.rearm n)
  else
    s0.moveOn n c

/-- User granules mapped on a LUN, less those whose copy is still to be fetched from it. -/
def State.mappedOn (s : State) (l : Nat) : List Nat :=
  ((s.nand.map.filter (fun x => locLun x.2 == l && isPage x.2 && decide (x.1 < s.nUser))).map (·.1)).filter (fun g => !s.rst.pend.contains g)

/-- Declare a LUN failed: its blocks go BAD, its pages leave the count, its mapped granules are copied again, its contexts move. -/
def State.failLun (s : State) (l : Nat) : State :=
  if s.lunFailed l || !s.lunPop l then s
  else
    let f := Reg.NB_LUNFAIL_FAILED (l / 32)
    let mapped := s.mappedOn l
    let inRun := s.mode != .burrow
    let s1 : State := { s with
      nand := { s.nand with
        blocks := s.nand.blocks.map (fun b => if blockLun b.1 = l then (b.1, { b.2 with st := .bad }) else b)
        erasing := s.nand.erasing.filter (fun b => blockLun b != l)
        refreshQ := if inRun then mapped.foldl (fun q g => sadd g q) s.nand.refreshQ else s.nand.refreshQ }
      bur := { s.bur with handoff := if inRun then s.bur.handoff
        else s.bur.handoff ++ mapped.filter (fun g => s.ledgerOf g == .clean) }
      regs := setRegs [(f, s.getF f + 2 ^ (l % 32)),
        (Reg.BE_FAULTS_LUN_FAILED, s.getF Reg.BE_FAULTS_LUN_FAILED + b2n (!inRun))] s.regs }
    let s2 := (s1.raiseIf inRun .lamp 0x28 .error l).recount
    let hit := (s2.bur.ctx.filter (fun c => c.2.st != .idle && locLun c.2.page == l)).map (·.1)
    ((hit.foldl (fun a n => a.loseCtx n) s2).reserveCheck).keepMeta

/-- No program failure is the last on a LUN. -/
def State.lunFine (s : State) (l : Nat) : State := { s with nand := { s.nand with lastProgFail := mdel l s.nand.lastProgFail } }

/-- A failed program marks its block: it retires, or, retiring already, is closed, and its erased pages leave their count; in a burrow BE_FAULTS
counts it (R247). -/
def State.failMarks (s : State) (page : Nat) : State :=
  let b := locBlock page
  let x := s.blkOf b
  let t := ({ s.dropPage page with nand := { (s.dropPage page).nand with
      blocks := mset b { x with retiring := true, st := if x.retiring then .full else x.st } s.nand.blocks
      lastProgFail := mset (locLun page) b s.nand.lastProgFail } } : State).recount
  if s.mode = .burrow then
    t.setFs [(Reg.BE_FAULTS_RETARGETS, min 0xFFFF (t.getF Reg.BE_FAULTS_RETARGETS + 1)),
      (Reg.BE_FAULTS_BLK_RETIRED, min 0xFF (t.getF Reg.BE_FAULTS_BLK_RETIRED + b2n (!x.retiring)))]
  else t

/-- A copy whose program failed ends without another try (R201, R227). -/
def State.failEnds (s : State) (n : Nat) (c : Ctx) : State :=
  match c.kind with
  | .trickle => ((s.trickleBack c.gran c.age).handoff c.gran).rearm n
  | .burrow => (s.handBack c.gran).rearm n
  | _ => s.rearm n

/-- A copy whose program failed is tried on another page; in RUN no page below the landing need goes to it (Table 1-3), and the copy is given up
(R247). -/
def State.failRetry (s : State) (n : Nat) (c : Ctx) : State :=
  if s.maySupply then s.moveOn n c
  else (if s.mode = .burrow then s.takenLost c.gran else s.copyAbandoned c).setCtx n Ctx.idle

/-- The failed page makes two program failures in a row on different blocks of its LUN (R247). -/
def State.twoFails (s : State) (page : Nat) : Bool :=
  match mfind (locLun page) s.nand.lastProgFail with | some y => y != locBlock page | none => false

/-- A program of context n failed (R247): the block retires, a second failure in it closes it, two in a row on different blocks of one LUN
fail the LUN. A copy that the fence, an abandon or a sanitize has ended is not tried again (R201, R227). -/
def State.programFailed (s : State) (n : Nat) : State :=
  let c := s.ctxOf n
  let b := locBlock c.page
  let t := s.failMarks c.page
  if s.twoFails c.page then t.failLun (locLun c.page)
  else if c.kind = .metaPage then ((t.metaBack n).lossCheck (s.blkOf b).retiring).keepMeta
  else if c.kind = .none ∨ (s.mode = .burrow ∧ (c.kind ≠ .burrow ∨ s.bur.abn ≠ .none)) then t.failEnds n c
  else (t.failRetry n c).lossCheck (s.blkOf b).retiring

/-! ### Manifest pages and those of a restore's end -/

/-- A page failed its program: its block is marked, and two failures in a row fail the LUN (R247). -/
def State.pageFailed (s : State) (loc : Nat) : State :=
  let t := s.failMarks loc
  if s.twoFails loc then t.failLun (locLun loc) else (t.lossCheck (s.blkOf (locBlock loc)).retiring).keepMeta

/-- A page for a manifest or meta page whose first `k` programs fail. -/
def State.manPick : Nat → State → Option (State × Nat)
  | 0, s => s.manTake
  | k + 1, s => s.manTake.bind (fun x => State.manPick k (x.1.pageFailed x.2))

/-! ### Erases (R248) -/

/-- An erase may start on a block's LUN: no operation is in its array, and its channel keeps a ready LUN (R199). -/
def State.mayErase (s : State) (b : Nat) : Bool :=
  let l := blockLun b
  s.lunUp l && !s.lunBusy l && s.keepsReady l && !s.nand.erasing.contains b

/-- The erase of one block starts; a context that filled the block owns it no longer. -/
def State.eraseOne (s : State) (b : Nat) : State :=
  if s.mayErase b then { s with
    nand := { s.nand with erasing := s.nand.erasing ++ [b] }
    bur := { s.bur with ctx := s.bur.ctx.map (fun c => if c.2.blk = some b then (c.1, { c.2 with blk := none }) else c) } }
  else s

/-- Erases start in RUN: those of a sanitize or an abandon, and erase-ahead's, in plan order, while the erased pages and those to come are short of
the target (R248). -/
def State.eraseGo (s : State) : State :=
  if s.mode != .run || s.bur.fenced then s
  else
    let t := s.nand.eraseQ.foldl State.eraseOne s
    t.nand.plan.foldl (fun (a : State) b =>
      if a.erasable b && decide (a.nand.pErased + a.ppb * a.nand.erasing.length < a.eaTarget) then a.eraseOne b else a) t

/-- NB_STATUS.EA_MODE: idle at the target or with nothing to erase, full priority while the landing side is short or a write-through waits. -/
def State.eaMode (s : State) : Nat :=
  let busy := s.mode == .run && decide (s.nand.pErased < s.eaTarget) && (s.nand.plan.any s.erasable || !s.nand.erasing.isEmpty)
  let full := !s.landOk || (match s.host.stage with | some ⟨_, .wtWait⟩ => true | _ => false)
  if !busy then 0 else if full then 2 else 1

/-- Erase-ahead goes on. -/
def State.eaCheck (s : State) : State := let t := s.eraseGo; t.setF Reg.NB_STATUS_EA_MODE t.eaMode

/-- A retiring block that holds no live page. -/
def State.deadBlk (s : State) (x : Nat × Blk) : Bool :=
  x.2.retiring && x.2.st != .bad && !(s.nand.pages.any (fun p => locBlock p.1 == x.1 && s.livePage p.1))
    && !s.bur.ctx.any (fun c => c.2.st != .idle && locBlock c.2.page == x.1)

/-- Retiring blocks without a live page become BAD (R247). -/
def State.retireBad (s : State) : State :=
  if s.nand.blocks.any s.deadBlk then
    ({ s with nand := { s.nand with blocks := s.nand.blocks.map (fun x => if s.deadBlk x then (x.1, { x.2 with st := .bad }) else x) } } : State).recount
  else s

end Sys2Proof.Machine
end

