-- ==== Sys2Proof/Machine/HostLink.lean ====
section
/-! DEFINITION. The host link (01, 03, 04): the write path from the ingress buffer to the NDR commit, reads, GPF, PERST_N and the link. -/

namespace Sys2Proof.Machine

/-! ### Reads (R90 to R93) -/

/-- The value a read returns: poison, or the committed image (R91, R98, R184). -/
def State.readValue (s : State) (line : Nat) : LineData × Bool :=
  if s.poisoned line || s.lineFailed line then (0, true) else (s.imageLine line, false)

/-- An earlier write to the line is still in the device and not committed, or the granule waits for its fetch (R90, R288). -/
def State.readBlocked (s : State) (r : Rd) : Bool :=
  s.heldWrites.any (fun w => w.line == r.line && decide (w.seq < r.seq)) || s.rst.pend.contains (granOf r.line)

/-- The line needs no DRAM read: it is poisoned, or a committed entry covers it whole (R169). -/
def State.noDram (s : State) (line : Nat) : Bool :=
  s.poisoned line || s.lineFailed line || s.dram.wbuf.any (fun e => e.line == line && e.be == beAll)

/-- Fix the value of each read that no earlier write holds back. -/
def State.serveReads (s : State) : State :=
  { s with host := { s.host with reads := s.host.reads.map (fun r =>
      if r.value.isSome || s.readBlocked r then r
      else { r with value := some (s.readValue r.line), ready := r.ready || s.noDram r.line }) } }

/-! ### The ledger stage (R144 to R151) -/

/-- CWAIT_US in force (R147, R148). -/
def State.cwaitUs (s : State) : Nat := if s.storeOk then min 200 (s.getF Reg.LG_CFG_CWAIT_US) else 0

/-- The ledger update of a write, when its cover check passes or needs none (Table 4-2, R144, R157). -/
def State.ledgerTake (s : State) (g : Nat) : Option State :=
  match s.ledgerOf g with
  | .dirty _ => some (s.setLedger g (.dirty 0))
  | .cleaning => some (s.setLedger g (.dirtyCleaning 0))
  | .dirtyCleaning _ => some (s.setLedger g (.dirtyCleaning 0))
  | _ =>
    if s.cover.doubtWriter then some ((s.setLedger g (.dirty 0)).mirrorQ g (.dirty 0))
    else if s.energyOk && s.landOk then
      some { s with cover := { s.cover with
        ledger := msetD s.cover.ledDflt g (.dirty 0) s.cover.ledger
        eDebt := s.cover.eDebt + s.cover.eg
        nDirty := s.cover.nDirty + 1
        mirrorPend := s.cover.mirrorPend ++ [(g, .dirty 0)] } }
    else none

/-- Entries and staged lines that a channel's write buffer holds (R168). -/
def State.wbUsed (s : State) (ch : Nat) : Nat :=
  (s.dram.wbuf.filter (fun e => s.chanOf (granOf e.line) == ch)).length
    + (s.host.staged.filter (fun w => s.chanOf (granOf w.line) == ch)).length
    + (s.twin.mstaged.filter (fun w => s.chanOf (granOf w.line) == ch)).length

/-- The next WSN (R41). -/
def State.nextWsn (s : State) : Nat := s.twin.wsn + 1

/-- Length of a mooring frame in bytes (Table 13-4). -/
def frameLen (ty : Nat) : Nat := [0, 112, 32, 128, 32, 32, 64, 32, 96, 32, 64].getD ty 0

/-- The 16 B header of a mooring frame (Table 13-3); this unit's frames carry no NAK (log entry 63). -/
def MFrame.header (f : MFrame) : List Byte :=
  leBytes 1 f.ty ++ leBytes 1 (frameLen f.ty / 16) ++ leBytes 2 f.lseq ++ leBytes 4 f.lack ++ leBytes 8 f.cum

/-- CUM of this unit's frames: from the active the highest committed WSN, from the standby the highest acknowledged (Table 13-3). -/
def State.cum (s : State) : Nat := if s.isStandby then s.twin.apl else s.twin.acc

/-- A frame is sent on the mooring link and enters the replay buffer (R399, R400). -/
def State.frame (s : State) (ty par : Nat) : State :=
  { s with twin := { s.twin with
      txf := (⟨ty, par, s.twin.lseqTx, (s.twin.lseqRx + 4095) % 4096, s.cum⟩ :: s.twin.txf).take 64
      lseqTx := (s.twin.lseqTx + 1) % 4096 } }

/-- A frame of the partner is received in order (R400). -/
def State.got (s : State) : State := { s with twin := { s.twin with lseqRx := (s.twin.lseqRx + 1) % 4096 } }

def State.frameIf (s : State) (b : Bool) (ty par : Nat) : State := if b then s.frame ty par else s

/-- A write to a line enters the write buffer: a read of the line that has issued is older, and so is a write-back that waits (R188). -/
def rdNewer (line : Nat) (l : List RdOut) : List RdOut := l.map (fun r => if r.line = line then { r with newer := true } else r)

/-- A write is staged: it takes its WSN and is framed to the partner; the touch map follows (R41, R404, Resynchronisation). -/
def State.stageWrite (s : State) (w : Wr) : State :=
  let wsn := if s.isActive then s.nextWsn else 0
  let t := s.frameIf s.framing 1 wsn
  { t with
    host := { t.host with staged := t.host.staged ++ [{ w with wsn := wsn }] }
    dram := { t.dram with rdOut := rdNewer w.line t.dram.rdOut, wback := sdel w.line t.dram.wback }
    twin := { t.twin with
      wsn := if s.isActive then wsn else s.twin.wsn
      touch := if s.isActive && s.twin.touchOk then sadd (granOf w.line) s.twin.touch else s.twin.touch } }

/-- The write in the ledger stage takes the next WSN and is framed to the partner (R41, R404). -/
def State.stageWsn (s : State) : State :=
  match s.host.stage with
  | some l =>
    if s.isActive then
      ({ s with
        host := { s.host with stage := some ⟨{ l.w with wsn := s.nextWsn }, l.kind⟩ }
        twin := { s.twin with wsn := s.nextWsn } } : State).frameIf s.framing 1 s.nextWsn
    else s
  | none => s

/-- A write enters write-through: step 1 of R149. -/
def State.startWt (s : State) (w : Wr) : State :=
  (({ s with host := { s.host with stage := some ⟨w, .wtWait⟩, lastDegraded := some s.ms } } : State).stageWsn).wtTry

/-- No credit-wait has been reported in the preceding second (R151). -/
def State.cwaitQuiet (s : State) : Bool :=
  match s.host.cwaitReport with | some t => decide (t + 1000 ≤ s.ms) | none => true

/-- A write's first failed cover check: credit-wait, or write-through at once when the limit is 0 (R147, R148, R151). -/
def State.creditWait (s : State) (w : Wr) : State :=
  let s1 := (({ s with host := { s.host with
      stage := some ⟨w, .cwait⟩
      lastDegraded := some s.ms
      cwaitReport := if s.cwaitQuiet then some s.ms else s.host.cwaitReport } }).addSat Reg.LG_CWAIT_CNT_CWAIT_COUNT 1).raiseIf
    s.cwaitQuiet .lamp 0x01 .info 0
  if s.cwaitUs = 0 then s1.startWt w else s1

/-- The ledger stage moves: media ready, no fence, no lamp-die reset, this unit serves the host (R22, R79, R145). -/
def State.pathOpen (s : State) : Bool :=
  (s.mode == .run || s.mode == .restore) && s.mediaReady && !s.bur.fenced && !s.getB Reg.MD_STATUS_LRST_ACT && !s.isStandby

/-- The pacer of throttle levels 2 and 3 works (R383). -/
def State.paced (s : State) : Bool := decide (2 ≤ s.getF Reg.TH_STATUS_LEVEL)

/-- A line leaves the ingress buffer: it empties its slot of the queue and, while the pacer works, takes one line from its bucket (R383). -/
def State.leaveIngress (s : State) (rest : List Wr) : State :=
  { s with host := { s.host with ingress := rest, pacer := if s.paced then s.host.pacer - 256 else s.host.pacer } }

/-- The head of the ingress buffer cannot move: its channel is failed (R184), its granule is pending (R288), or the pacer holds it (R383). -/
def State.headWaits (s : State) (w : Wr) : Bool :=
  s.lineFailed w.line || (s.paced && decide (s.host.pacer < 256)) || s.rst.pend.contains (granOf w.line)

/-- No write-buffer entry of the line's channel is free (R168). -/
def State.bufFull (s : State) (line : Nat) : Bool := decide (128 ≤ s.wbUsed (s.chanOf (granOf line)))

/-- The write path's write-buffer step: the write is staged, or waits there while no entry is free (R168). -/
def State.bufStep (s : State) (w : Wr) : State :=
  if s.bufFull w.line then { s with host := { s.host with stage := some ⟨w, .bufWait⟩ } } else s.stageWrite w

/-- A write that waits at the write-buffer step is staged once an entry is free. -/
def State.bufLeave (s : State) : State :=
  match s.host.stage with
  | some ⟨w, .bufWait⟩ =>
    if s.bufFull w.line || s.lineFailed w.line then s
    else ({ s with host := { s.host with stage := none } } : State).stageWrite w
  | _ => s

/-- Writes pass the ledger stage in arrival order until one stops it (R145). -/
def ledgerRun : Nat → State → State
  | 0, s => s
  | n + 1, s =>
    match s.host.stage, s.host.ingress with
    | none, w :: t =>
      if s.headWaits w then s
      else match (s.leaveIngress t).ledgerTake (granOf w.line) with
        | some a => ledgerRun n (a.bufStep w)
        | none => (s.leaveIngress t).creditWait w
    | _, _ => s

/-! ### Commits (R17 to R20, R168) -/

/-- The write is the one that the Clear Poison in progress waits for; that of an earlier command, ended by a fence, ends nothing (R101). -/
def State.clears (s : State) (w : Wr) : Bool := w.mbox && s.host.mboxBusy == some 0x4302 && w.seq == s.host.clearSeq

/-- Commit a write: its line is committed, a full line loses its poison, its NDR goes out or its Clear Poison completes, its credit
returns (R17, R20, R81, R101, R168). With the link down, or lost to a PERST_N since, its completion is not delivered (R72). -/
def State.commitWr (s : State) (w : Wr) : State :=
  { s with
    dram := { s.dram with
      wbuf := wbMerge s.dram.wbuf w.line w.be w.data
      rdOut := rdNewer w.line s.dram.rdOut
      wback := sdel w.line s.dram.wback
      poison := if w.full then mdel w.line s.dram.poison else s.dram.poison
      cleared := if w.full && s.wholly (granOf w.line) then sadd w.line s.dram.cleared else s.dram.cleared }
    host := { s.host with
      tx := if w.mbox || !s.getB Reg.HL_STATUS_LINK_UP || s.host.quiet == some w.seq then s.host.tx else s.host.tx ++ [.ndr w.tag]
      mbox := if s.clears w then ⟨0x4302, 0, .none⟩ else s.host.mbox
      mboxBusy := if s.clears w then none else s.host.mboxBusy }
    twin := { s.twin with acc := if s.isActive then max s.twin.acc w.wsn else s.twin.acc } }

/-- The entry of a write-through's write is marked (Table 5-5). -/
def State.markWt (s : State) (line : Nat) : State :=
  { s with dram := { s.dram with wbuf := s.dram.wbuf.map (fun e => if e.line = line ∧ e.admitted = false then { e with wt := true } else e) } }

/-- Commits are allowed: no fence, no lamp-die reset, no grace that stops them and no retrain (R22, R401, R416). -/
def State.mayCommit (s : State) : Bool :=
  !s.bur.fenced && !s.getB Reg.MD_STATUS_LRST_ACT && !s.twin.grace && !(s.isActive && s.getF Reg.TW_STATUS_LINK == 3)

/-- The partner has acknowledged a WSN, where the active waits for it (R41). -/
def State.acked (s : State) (wsn : Nat) : Bool := !s.ackWait || decide (wsn ≤ s.twin.apl)

/-! ### The standby's mirrored lines (R404 to R406, R420, R428) -/

/-- The standby's ledger stage moves: a standby in RUN or RESTORE that has neither fenced nor met its partner's fence. -/
def State.mirrorOpen (s : State) : Bool :=
  s.isStandby && (s.mode == .run || s.mode == .restore) && s.mediaReady && !s.bur.fenced && !s.getB Reg.MD_STATUS_LRST_ACT && !s.twin.noAck

/-- A mirrored line is staged, and by that acknowledged (R404). -/
def State.stageMirror (s : State) (w : Wr) : State :=
  { s with
    dram := { s.dram with rdOut := rdNewer w.line s.dram.rdOut, wback := sdel w.line s.dram.wback }
    twin := { s.twin with mstaged := s.twin.mstaged ++ [w], apl := w.wsn } }

/-- A line is committed on the standby (R405, R428). -/
def State.commitLine (s : State) (line : Nat) (be : ByteEn) (d : LineData) : State :=
  { s with dram := { s.dram with
      wbuf := wbMerge s.dram.wbuf line be d
      rdOut := rdNewer line s.dram.rdOut
      wback := sdel line s.dram.wback
      poison := if be = beAll then mdel line s.dram.poison else s.dram.poison
      cleared := if be = beAll && s.wholly (granOf line) then sadd line s.dram.cleared else s.dram.cleared } }

/-- The write-through copy of a mirrored line is mapped as the standby learns that its WSN is committed (R406). -/
def State.mirrorWt (s : State) : State :=
  match s.host.stage with
  | some ⟨w, .wtBusy n⟩ =>
    let c := s.ctxOf n
    if s.isStandby && c.st == .check && decide (w.wsn ≤ s.twin.apl) && decide (w.wsn ≤ s.twin.acc) && !s.bur.fenced && !s.bufFull w.line then
      let crc := s.pageCrc c.page
      let t := ((((s.lunFine (locLun c.page)).mapCopy c.gran c.page c.ver crc).commitLine w.line w.be w.data).markWt w.line).rearm n
      (({ t with host := { t.host with stage := none, lastDegraded := some s.ms } } : State).addSat Reg.LG_WT_CNT_WT_COUNT 1).raise
        .lamp 0x12 .warning c.gran
    else s
  | _ => s

/-- The standby commits its staged lines up to a WSN (R405, R415). -/
def State.commitTo (s : State) (wsn : Nat) : State :=
  let t := (s.twin.mstaged.filter (fun w => decide (w.wsn ≤ wsn))).foldl (fun (a : State) w => a.commitLine w.line w.be w.data) s
  { t with twin := { t.twin with mstaged := s.twin.mstaged.filter (fun w => !decide (w.wsn ≤ wsn)) } }

/-- The known commit moves up (R405). -/
def State.learnCommit (s : State) (cum : Nat) : State :=
  (({ s with twin := { s.twin with acc := max s.twin.acc cum } } : State).commitTo (max s.twin.acc cum)).mirrorWt

/-- The channel failed, or the granule waits for its fetch. -/
def State.lineWaits (s : State) (line : Nat) : Bool := s.lineFailed line || s.rst.pend.contains (granOf line)

/-- A mirrored line's write-buffer step. -/
def State.mirrorStep (s : State) (w : Wr) : State :=
  if s.bufFull w.line then { s with host := { s.host with stage := some ⟨w, .bufWait⟩ } } else (s.stageMirror w).learnCommit 0

/-- A mirrored line that waits at the write-buffer step is staged once an entry is free. -/
def State.mirrorLeave (s : State) : State :=
  match s.host.stage with
  | some ⟨w, .bufWait⟩ =>
    if s.bufFull w.line || s.lineFailed w.line then s
    else (({ s with host := { s.host with stage := none } } : State).stageMirror w).learnCommit 0
  | _ => s

/-- Mirrored lines pass the ledger stage in WSN order until one stops it (R404, R406). -/
def mirrorRun : Nat → State → State
  | 0, s => s
  | n + 1, s =>
    match s.host.stage, s.twin.mwait with
    | none, w :: t =>
      if s.lineWaits w.line then s
      else
        let r : State := { s with twin := { s.twin with mwait := t } }
        match r.ledgerTake (granOf w.line) with
        | some a => mirrorRun n (a.mirrorStep w)
        | none => r.creditWait w
    | _, _ => s

/-- Both units take one more than the higher of their pair epochs, and the mirror is current (R429). -/
def State.rsyFinish (s : State) : State :=
  { s.setFs [(Reg.TW_EPOCH_EPOCH, max (s.getF Reg.TW_EPOCH_EPOCH) s.twin.learned + 1), (Reg.TW_STATUS_MIRROR, 0), (Reg.TW_RESYNC_RUNNING, 0),
      (Reg.TW_RESYNC_LEFT, 0), (Reg.TW_STALE_EPOCH, 0xFFFFFFFF)] with
    twin := { s.twin with rsyMask := [], rsyTodo := [], rsyPend := [], rsyDone := false, touch := [], touchOk := false } }

/-- The active ends a resynchronisation: the mirror is current once the standby has acknowledged every write committed so far; until then commits
wait for it (R36, R429; log entry 116). -/
def State.rsyLead (s : State) : State :=
  if s.twin.acc ≤ s.twin.apl then s.rsyFinish else { s with twin := { s.twin with rsyDone := true } }

/-- Resynchronised lines are written as committed writes under the standby's own cover check; a failed check waits (R428). -/
def rsyRun : Nat → State → State
  | 0, s => s
  | n + 1, s =>
    match s.twin.rsyPend with
    | (line, d) :: t =>
      if s.lineWaits line || s.bufFull line then s
      else match s.ledgerTake (granOf line) with
        | some a => rsyRun n ({ a with twin := { a.twin with rsyPend := t } }.commitLine line beAll d)
        | none => s
    | [] => if s.twin.rsyDone then s.rsyFinish else s

/-- The standby's ledger stage: mirrored lines, then resynchronised ones. -/
def State.mirrorGo (s : State) : State :=
  let t := mirrorRun s.twin.mwait.length s.mirrorLeave
  rsyRun (t.twin.rsyPend.length + 1) t

/-- The writes staged at an abandon are all committed: the others go on (R24). -/
def State.regrouped (s : State) : State := { s with bur := { s.bur with regroup := false } }

/-- The ledger stage moves as far as it can; after an abandon not before the staged writes are committed (R24). -/
def State.ledgerGo (s : State) : State :=
  if s.pathOpen then
    (if !s.bur.regroup then ledgerRun s.host.ingress.length s.bufLeave
    else if s.host.staged.isEmpty then (ledgerRun s.host.ingress.length s.regrouped.bufLeave).wtTry
    else s)
  else if s.mirrorOpen then s.mirrorGo
  else s

/-! ### Roles (R394, R418, R419, R421, R425) -/

/-- The CDAT's write latency entry follows the twin role (R114). -/
def State.cdatRole (s : State) : State :=
  { s with host := { s.host with cdat := { s.host.cdat with writeNs := if s.isSolo then 110 else 450 } } }

/-- The TWIN_STATE record of a pair, and the CDAT entry that the role moves (R114, R418, R425). -/
def State.twinRec (s : State) : State :=
  if s.twinOn then
    (s.jNow (.twinState s.role (s.getF Reg.TW_STATUS_MIRROR) (s.getB Reg.TW_STATUS_FORCED) (s.getF Reg.TW_EPOCH_EPOCH) s.twStale
      s.twin.fenceWsn)).cdatRole
  else s

/-- A command ends with a return code and output; a vendor command shows in HL_MBOX. -/
def State.mboxEnd (s : State) (op ret : Nat) (out : MOut) : State :=
  { s with
    host := { s.host with mbox := ⟨op, ret, out⟩ }
    regs := if op / 256 = 0xC0 then setRegs [(Reg.HL_MBOX_RET_CODE, ret), (Reg.HL_MBOX_OPCODE, op)] s.regs else s.regs }

/-- A VX_TWIN_SWITCH that waits in the mailbox ends (R122). -/
def State.switchReply (s : State) (ret : Nat) : State :=
  if s.host.mboxBusy = some 0xC004 then
    ({ s with host := { s.host with mboxBusy := none } } : State).mboxEnd 0xC004 ret
      (if ret = 0 then .twin s.role (s.getF Reg.TW_EPOCH_EPOCH) s.twin.acc else .none)
  else s

/-- The credits are withheld. -/
def State.closeCredits (s : State) : State :=
  { s.setF Reg.HL_STATUS_CREDITS_OPEN 0 with host := { s.host with reqCredits := 0 } }

/-- Release every CXL.mem credit (R80). -/
def State.openCredits (s : State) : State :=
  { s.setF Reg.HL_STATUS_CREDITS_OPEN 1 with host := { s.host with reqCredits := 128 - s.host.reads.length } }

/-- Twice the transfer rate of a link speed in GT/s (HL_STATUS.SPEED). -/
def twiceRate (speed : Nat) : Nat := [5, 5, 10, 16, 32, 64].getD speed 64

/-- The CDAT's bandwidth entries follow the trained width and speed: 26 and 24 GB/s at ×8 and 32 GT/s (R114). -/
def State.cdatLink (s : State) : State :=
  let k := s.getF Reg.HL_STATUS_WIDTH * twiceRate (s.getF Reg.HL_STATUS_SPEED)
  { s with host := { s.host with cdat := { s.host.cdat with readBw := 26 * k, writeBw := 24 * k } } }

/-- The CDAT's one DSMAS entry: DPA base, length in units of 256 MiB, non-volatile (R114). -/
def State.dsmas (s : State) : Nat × Nat × Bool := (0, s.cap256M, true)

/-- The CDAT's one DSEMTS entry: the DPA base and length of the memory it describes, and its mark of non-volatile memory (R114). -/
def State.dsemts (s : State) : Nat × Nat × Bool := (s.dsmas.1, s.dsmas.2.1, true)

/-- Media ready, and this unit is the one that serves the host: credits may be released (R79, R80, R421). -/
def State.creditsDue (s : State) : Bool :=
  s.mediaReady && !s.isStandby && !s.bur.fenced && s.host.sanitize == 0 && s.getB Reg.HL_STATUS_LINK_UP && !s.twin.switching

def State.creditsIfDue (s : State) : State := if s.creditsDue then s.openCredits else s

/-- Every write that stood in the old active is committed: it sends its final CUM and becomes the standby with a current mirror (R421). -/
def State.switchEnd (s : State) : State :=
  if s.twin.switching && s.isActive && s.heldWrites.isEmpty then
    let t := (s.frame 0x0A 9).setFs [(Reg.TW_STATUS_ROLE, 2), (Reg.TW_EPOCH_EPOCH, s.getF Reg.TW_EPOCH_EPOCH + 1), (Reg.TW_STATUS_FORCED, 0),
      (Reg.TW_STATUS_MIRROR, 0), (Reg.TW_STATUS_GOVERN, b2n (s.getB Reg.TW_STATUS_FOLLOW))]
    (({ t with twin := { t.twin with switching := false, apl := t.twin.acc, mstaged := [], mwait := [] } } : State).twinRec).switchReply 0
  else s

/-- The touch map starts, cleared, with the last common epoch as its label; it is valid while the unit stays in RUN (R427). -/
def State.startTouch (s : State) : State :=
  { s.setF Reg.TW_STALE_EPOCH (s.getF Reg.TW_EPOCH_EPOCH) with twin := { s.twin with touch := [], touchOk := s.mode == .run } }

/-- The active goes on alone: the mirror is stale, the touch map starts where the mirror was current, and the event names the partner's state
(R419, R427). -/
def State.goSolo (s : State) (partner : Nat) : State :=
  let t := match s.getF Reg.TW_STATUS_MIRROR with
    | 0 => s.startTouch
    | 2 => { s with twin := { s.twin with touchOk := false } }
    | _ => s
  (t.setFs [(Reg.TW_STATUS_MIRROR, 1), (Reg.TW_STATUS_PARTNER, partner), (Reg.TW_STATUS_SPLIT, b2n (partner == 2))]).raise .keeper
    (if partner = 2 then 0x36 else 0x2D) (if partner = 2 then .critical else .error) (if partner = 2 then 0 else partner)

/-- An active that begins to serve without its partner is solo from the start (R403, R419). -/
def State.soloStart (s : State) (partner : Nat) : State :=
  if s.isActive && !s.linkOn && s.getF Reg.TW_STATUS_MIRROR != 1 then s.goSolo partner else s

/-! ### Commands: writes -/

/-- An access to a granule that waits for its fetch asks for it ahead of the background fetches (R288). -/
def State.want (s : State) (line : Nat) : State :=
  if s.rst.pend.contains (granOf line) then { s with rst := { s.rst with prio := sadd (granOf line) s.rst.prio } } else s

/-- A write arrives on a credit the host holds, within the capacity. -/
def State.mayArrive (s : State) (line : Nat) : Bool :=
  s.getB Reg.HL_STATUS_LINK_UP && decide (0 < s.hostRwd) && decide (line < s.nLines) && !s.getB Reg.MD_STATUS_LRST_ACT

/-- A write enters the ingress buffer (R81, R89). A CXL.mem access reaches the device only through a committed HDM decoder or an enabled
DVSEC range (DEDUCED, log entry 82). -/
def State.arrive (s : State) (w : Wr) : State :=
  { s with host := { s.host with
      ingress := s.host.ingress ++ [{ w with seq := s.host.nextSeq }]
      nextSeq := s.host.nextSeq + 1
      decoder := s.host.decoder || !w.mbox } }

/-- MEM_WR: a full-line write arrives and passes the ledger stage, or is held (R17, R23). -/
def execMemWr (tag line : Nat) (data : LineData) (s : State) : Host.Outcome State Fault Refusal :=
  .next (if s.mayArrive line then ((s.want line).arrive ⟨tag, line, true, beAll, data, 0, false, 0⟩).ledgerGo else s)

/-- MEM_WR_PTL: a partial write is accepted like a full one (R170). -/
def execMemWrPtl (tag line : Nat) (be : ByteEn) (data : LineData) (s : State) : Host.Outcome State Fault Refusal :=
  .next (if s.mayArrive line then ((s.want line).arrive ⟨tag, line, false, be, data, 0, false, 0⟩).ledgerGo else s)

/-- CWAIT_PASS: a repeated cover check passes (R147); a standby's mirrored line waits in the same stage (R406). -/
def execCwaitPass (s : State) : Host.Outcome State Fault Refusal :=
  .next (match s.host.stage with
    | some ⟨w, .cwait⟩ =>
      if !(s.pathOpen || s.mirrorOpen) || s.lineFailed w.line || s.bur.regroup then s
      else match ({ s with host := { s.host with stage := none } }).ledgerTake (granOf w.line) with
        | some a => (if s.isStandby then a.mirrorStep w else a.bufStep w).ledgerGo
        | none => s
    | _ => s)

/-- CWAIT_EXPIRY: the limit expires without a passing check, and the write goes write-through (R147, R149). -/
def execCwaitExpiry (s : State) : Host.Outcome State Fault Refusal :=
  .next (match s.host.stage with
    | some ⟨w, .cwait⟩ =>
      if !(s.pathOpen || s.mirrorOpen) || s.lineFailed w.line || s.bur.regroup || (s.ledgerTake (granOf w.line)).isSome then s
      else s.startWt w
    | _ => s)

/-- WRITE_THROUGH_DONE: the page is mapped, the write committed and its line released in one cycle (R149 step 4, R151); a copy that fails the CRC
comparison is a program failure (R252). A standby acknowledges the mirrored line, and maps the copy once it knows the line committed (R406). -/
def execWriteThroughDone (s : State) (crcOk : Bool := true) : Host.Outcome State Fault Refusal :=
  .next (match s.host.stage with
    | some ⟨w, .wtBusy n⟩ =>
      let c := s.ctxOf n
      if !crcOk then (if c.st = .check && c.kind = .wt && !s.bur.fenced then (s.programFailed n).alertScan s.crossed else s)
      else if s.isStandby then
        (if c.st = .check && c.kind = .wt && s.mirrorOpen && !s.lineFailed w.line then
          (({ s with twin := { s.twin with apl := max s.twin.apl w.wsn } } : State).learnCommit 0).ledgerGo
        else s)
      else if c.st = .check && c.kind = .wt && s.host.staged.isEmpty && s.mayCommit && !s.lineFailed w.line && s.acked w.wsn && !s.bufFull w.line then
        let crc := s.pageCrc c.page
        let s1 := ((((s.lunFine (locLun c.page)).mapCopy c.gran c.page c.ver crc).commitWr w).markWt w.line).rearm n
        let s2 : State := { s1 with host := { s1.host with stage := none, lastDegraded := some s.ms } }
        ((((s2.addSat Reg.LG_WT_CNT_WT_COUNT 1).raise .lamp 0x12 .warning c.gran).serveReads).ledgerGo).switchEnd
      else s
    | _ => s)

/-- NDR_COMMIT: the oldest staged write is accepted (R17, R19). -/
def execNdrCommit (s : State) : Host.Outcome State Fault Refusal :=
  .next (match s.host.staged with
    | w :: t =>
      if s.mayCommit && !s.lineFailed w.line && s.acked w.wsn then
        (((({ s with host := { s.host with staged := t } }).commitWr w).serveReads).ledgerGo).switchEnd
      else s
    | [] => s)

/-! ### Commands: reads and GPF -/

/-- MEM_RD: a read takes a request-queue entry (R82, R90, R288); after the fence it is held (R23). -/
def execMemRd (tag line : Nat) (s : State) : Host.Outcome State Fault Refusal :=
  .next (if s.getB Reg.HL_STATUS_LINK_UP && s.getB Reg.HL_STATUS_CREDITS_OPEN && decide (0 < s.host.reqCredits)
      && decide (line < s.nLines) && !s.getB Reg.MD_STATUS_LRST_ACT then
    let s1 : State := { s with host := { s.host with
      reads := s.host.reads ++ [⟨tag, line, s.host.nextSeq, none, false⟩]
      nextSeq := s.host.nextSeq + 1
      decoder := true
      reqCredits := s.host.reqCredits - 1 } }
    (if s.noDram line || s.bur.fenced || s.rst.pend.contains (granOf line) then s1.want line else s1.askHost line).serveReads
    else s)

/-- The first element of a list that satisfies a test, and the rest. -/
def pluck {α : Type} (p : α → Bool) : List α → Option (α × List α)
  | [] => none
  | x :: t => if p x then some (x, t) else (pluck p t).map (fun y => (y.1, x :: y.2))

/-- DRS_COMMIT: the read's data is available and no staged earlier write to its line remains; its Req credit returns (R82, R90). -/
def execDrsCommit (tag : Nat) (s : State) : Host.Outcome State Fault Refusal :=
  .next (match pluck (fun r => r.tag == tag && r.ready && r.value.isSome) s.host.reads with
    | some (r, rest) =>
      if s.bur.fenced || s.getB Reg.MD_STATUS_LRST_ACT then s
      else match r.value with
        | some v => { s with host := { s.host with
            reads := rest
            reqCredits := s.host.reqCredits + 1
            tx := s.host.tx ++ [.drs tag v.1 v.2] } }
        | none => s
    | none => s)

/-- A GPF request gets its response at once unless it arrives after the fence (R94, R95). -/
def State.gpf (s : State) (phase : Nat) : State :=
  if s.getB Reg.HL_STATUS_LINK_UP && !s.bur.fenced then { s with host := { s.host with tx := s.host.tx ++ [.gpf phase] } } else s

/-- GPF_PHASE1. -/
def execGpfPhase1 (s : State) : Host.Outcome State Fault Refusal := .next (s.gpf 1)

/-- GPF_PHASE2. -/
def execGpfPhase2 (s : State) : Host.Outcome State Fault Refusal := .next (s.gpf 2)

/-! ### PERST_N and the link -/

/-- Class LINK is reset (R16, R72, R117, R119): link state, credits, mailbox, challenge, ticket, service mode, HDM decoders; a Set LSA
in progress leaves the old contents (R111). -/
def State.linkReset (s : State) : State :=
  let t := (s.leaveService 3).lsaStop
  { t.resetClass .link with
    host := { t.host with
      tx := []
      reqCredits := 0
      mbox := ⟨0, 0, .none⟩
      mboxBusy := none
      decoder := false
      auth := { s.host.auth with chal := none, ticket := none } } }

/-- A write that the active has framed to its partner is not committed yet. -/
def State.mirroredHeld (s : State) : Bool :=
  !s.host.staged.isEmpty || (match s.host.stage with
    | some ⟨_, .cwait⟩ | some ⟨_, .bufWait⟩ | none => false
    | some _ => true)

/-- Every held write and waiting read is discarded (R25). Where the writes were mirrored, the active tells its partner to discard its copies
too, and no write takes their WSNs again (DESIGN CHOICE, log entry 79). -/
def State.discardAll (s : State) : State :=
  ({ s with host := { s.host with ingress := [], staged := [], reads := [], stage := none } } : State).frameIf
    (s.framing && s.mirroredHeld) 0x0A 2

/-- The ledger stage keeps its write when held traffic is discarded: a write in write-through completes (R72), and a standby's stage holds a
mirrored line, which the host's link does not touch. -/
def State.stageStays (s : State) : Bool :=
  match s.host.stage with
  | some ⟨_, .cwait⟩ | some ⟨_, .bufWait⟩ => s.isStandby
  | some _ => true
  | none => false

/-- Staged and ingress writes and waiting reads are discarded; a write in write-through completes, mirrored anew under a WSN of its own
(R25, R72, log entry 79); its completion is not delivered, even with the link up again. -/
def State.discardHeld (s : State) : State :=
  if s.stageStays then ({ s.discardAll with host := { s.discardAll.host with
      stage := s.host.stage
      quiet := s.host.stage.map (fun l => l.w.seq) } } : State).stageWsn
  else s.discardAll

/-- Drop the DRAM requests of the host's reads. -/
def State.dropHostReads (s : State) : State :=
  { s with dram := { s.dram with sub := s.dram.sub.map (fun x => (x.1, { x.2 with
      queue := x.2.queue.filter (fun q => !(q.cls == 2 && q.src == 0))
      waiting := x.2.waiting.filter (fun q => !(q.cls == 2 && q.src == 0)) })) } }

/-- PERST_N falls: class LINK is reset and, with media ready outside BURROW, held traffic is discarded (R72). -/
def State.perstFell (s : State) : State :=
  match s.mode with
  | .off | .den => s
  | .burrow => s.linkReset
  | .run => s.linkReset.discardHeld.dropHostReads
  | .restore => if s.mediaReady then s.linkReset.discardHeld.dropHostReads else s.linkReset
  | .wake => s.linkReset

/-- PERST_N is high as the device takes it: low while VIO_EXT is below 1.5 V (R519). -/
def State.perstHigh (s : State) : Bool := s.pins.perstN && s.rail.vioOk

/-- PERST_N has risen, as the device takes it: link training starts (Table 3-16). -/
def State.perstRose (s : State) : State :=
  if !s.perstHigh || s.mode == .off || s.mode == .den || !s.pd 0 then s else s.setF Reg.HL_STATUS_LTSSM 0x01

/-- PERST_N_ASSERT (R72). -/
def execPerstNAssert (s : State) : Host.Outcome State Fault Refusal :=
  .next ({ s with pins := { s.pins with perstN := false } } : State).perstFell

/-- PERST_N_RELEASE. -/
def execPerstNRelease (s : State) : Host.Outcome State Fault Refusal :=
  .next ({ s with pins := { s.pins with perstN := true } } : State).perstRose

/-- A limit field of HL_CFG: other values act as the default. -/
def linkLimit (ok : List Nat) (d v : Nat) : Nat := if ok.contains v then v else d

/-- LINK_UP: the link reaches L0 at a width and speed within HL_CFG, and credits are released when media ready holds (R75, R80). -/
def execLinkUp (width speed ver : Nat) (s : State) : Host.Outcome State Fault Refusal :=
  .next (if s.perstHigh && s.pd 0 && !s.getB Reg.HL_STATUS_LINK_UP && !s.getB Reg.MD_STATUS_LRST_ACT
      && [1, 2, 4, 8].contains width && decide (1 ≤ speed) && decide (speed ≤ 5) && decide (ver ≤ 2) then
    let s := s.blockForce 2
    let s1 := s.setFs [(Reg.HL_STATUS_LINK_UP, 1), (Reg.HL_STATUS_LTSSM, 0x10), (Reg.HL_STATUS_CXL_VER, ver),
      (Reg.HL_STATUS_WIDTH, min width (linkLimit [1, 2, 4, 8] 8 (s.getF Reg.HL_CFG_MAX_WIDTH))),
      (Reg.HL_STATUS_SPEED, min speed (linkLimit [1, 2, 3, 4, 5] 5 (s.getF Reg.HL_CFG_MAX_SPEED)))]
    ({ s1 with host := { s1.host with tx := [] } } : State).cdatLink.creditsIfDue
    else s)

/-- HOST_LINK_DOWN: the link is lost without PERST_N: credits are withheld, Busy ends, and held traffic can no longer complete (R80, R85). -/
def execHostLinkDown (s : State) : Host.Outcome State Fault Refusal :=
  .next (if s.getB Reg.HL_STATUS_LINK_UP then
    { (s.setFs [(Reg.HL_STATUS_LINK_UP, 0), (Reg.HL_STATUS_LTSSM, 0x00), (Reg.HL_STATUS_CREDITS_OPEN, 0), (Reg.HL_STATUS_WIDTH, 0),
        (Reg.HL_STATUS_SPEED, 0)]).addSat Reg.HL_ERR_DOWN 1 with
      host := { s.host with reqCredits := 0, tx := [] } }
    else s)

end Sys2Proof.Machine
end

