-- ==== Sys2Proof/WellFormed.lean ====
section
/-! DEFINITION. Which commands are well formed: every operand lies in the range that the spec gives the quantity it stands for. The
meanings do not rest on it; a statement that needs a range names it here. -/

namespace Sys2Proof

/-- A CXL tag is 16 bits. -/
def tagWf (t : Nat) : Bool := decide (t < 65536)

/-- A line address: DPA[51:6] (R77). -/
def lineWf (l : Nat) : Bool := decide (l < 2 ^ 46)

/-- A granule index (R125). -/
def granWf (g : Nat) : Bool := decide (g < 2 ^ 23)

/-- A window offset (Table 0-4). -/
def offWf (o : Nat) : Bool := decide (o < 65536)

/-- A byte, a half word and a word given as a number. -/
def u8 (n : Nat) : Bool := decide (n < 256)
def u16 (n : Nat) : Bool := decide (n < 65536)
def u32 (n : Nat) : Bool := decide (n < 4294967296)

/-- A context (R197), a LUN index (R232), a rail-table entry (Table 11-1), an SPMI slave (R361), a sensor (R376). -/
def ctxWf (n : Nat) : Bool := decide (n < 256)
def lunWf (l : Nat) : Bool := decide (l < 64)
def entWf (n : Nat) : Bool := decide (n < 32) && !(decide (12 ≤ n) && decide (n < 16))
def slaveWf (m : Nat) : Bool := decide (m < 8)
def sensorWf (n : Nat) : Bool := decide (n < 11)

/-- A local output: B0 to B11, L0 to L3, S0 to S3 (Table 10-1). -/
def outWf (n : Nat) : Bool := decide (n < 24) && entWf n

/-- A channel and a subchannel of the DRAM (Table 5-1). -/
def subWf (ch sub : Nat) : Bool := decide (ch < 2) && decide (sub < 2)

/-- A NAND read: decode stages 1 to 3, data codewords 0 to 7 (R236). -/
def NandRead.wf (r : NandRead) : Bool := decide (1 ≤ r.stage) && decide (r.stage ≤ 3) && r.badCw.all (fun c => decide (c < 8))

/-- Page reads: each location is a page's. -/
def readsWf (l : List (Nat × NandRead)) : Bool := l.all (fun x => decide (x.1 < 2 ^ 32) && x.2.wf)

/-- A daymark copy: fields within their widths (Table 16-1). -/
def DmkCopy.wf (c : DmkCopy) : Bool :=
  u8 c.bl && u32 c.fitReq && u32 c.imgVer && u32 c.boardId && u32 c.crc && c.keyHash.length == 4
    && c.regs.all (fun r => offWf r.1 && u32 r.2)

/-- An absent copy is well formed. -/
def copyWf : Option DmkCopy → Bool
  | none => true
  | some c => c.wf

/-- A DRAM read's errors: a codeword has 80 symbols, a subchannel devices 0 to 4 (R185). -/
def DramErr.wf (e : DramErr) : Bool := e.syms.all (fun k => decide (k < 80)) && (match e.diag with | some d => decide (d < 5) | none => true)

/-- An audit measures every cell at its four instants (R314). -/
def AuditMeas.wf (m : AuditMeas) : Bool :=
  m.v0.length == m.v1ms.length && m.v0.length == m.v20.length && m.v0.length == m.v200.length

/-- The requests of two DRAM and eight NAND requesters (R388). -/
def BudgetIn.wf (b : BudgetIn) : Bool := b.dram.length == 2 && b.nand.length == 8

/-- HELLO: roles 0 to 2, mirror states 0 to 2, a 32-bit epoch (Table 13-4). -/
def HelloMsg.wf (m : HelloMsg) : Bool := decide (m.role < 3) && decide (m.mirror < 3) && u32 m.epoch && u32 m.stale

/-- HEARTBEAT likewise. -/
def BeatMsg.wf (m : BeatMsg) : Bool := decide (m.role < 3) && decide (m.mode < 6) && decide (m.mirror < 3) && decide (m.store < 4) && u32 m.epoch

/-- One unit's inputs: a throttle level 0 to 3, a zone 0 to 4 or none (7), eight external rails (Table 13-6). -/
def InputMsg.wf (m : InputMsg) : Bool := decide (m.level < 4) && decide (m.zone < 8) && u8 m.xFault && u8 m.xPg

/-- Life used and temperatures of an alert configuration (R105). -/
def AlertCfg.wf (c : AlertCfg) : Bool := match c.lifeUsed with | some n => decide (n ≤ 100) | none => true

/-- The opcodes of the commands that the device has (Tables 3-9 and 3-10; the standard ones are those of CXL 2.0, log entry 10). -/
def supportedOps : List Nat :=
  [0x0100, 0x0101, 0x0102, 0x0103, 0x0300, 0x0301, 0x4000, 0x4101, 0x4102, 0x4103, 0x4200, 0x4201, 0x4202, 0x4203, 0x4204, 0x4300, 0x4301,
   0x4302, 0x4400, 0xC000, 0xC001, 0xC002, 0xC003, 0xC004, 0xC005, 0xC006]

/-- Every operand of the command lies in its range. -/
def Instr.wf : Instr → Bool
  | .memWr tag line _ => tagWf tag && lineWf line
  | .memWrPtl tag line _ _ => tagWf tag && lineWf line
  | .cwaitPass => true
  | .cwaitExpiry => true
  | .writeThroughDone _ => true
  | .ndrCommit => true
  | .memRd tag line => tagWf tag && lineWf line
  | .drsCommit tag => tagWf tag
  | .gpfPhase1 => true
  | .gpfPhase2 => true
  | .perstNAssert => true
  | .perstNRelease => true
  | .linkUp width speed ver => decide (width < 16) && decide (speed < 16) && decide (ver < 4)
  | .identifyMemoryDevice => true
  | .getShutdownState => true
  | .setShutdownState _ => true
  | .getHealthInfo => true
  | .getAlertConfiguration => true
  | .setAlertConfiguration cfg => cfg.wf
  | .getEventRecords _ => true
  | .clearEventRecords _ handles _ => handles.all u16
  | .getEventInterruptPolicy => true
  | .setEventInterruptPolicy policy => policy.length == 4 && policy.all u8
  | .getLsa off len => u32 off && u32 len
  | .setLsa off _ => u32 off
  | .getPoisonList start len => lineWf start && lineWf len
  | .injectPoison line => lineWf line
  | .clearPoison tag line _ => tagWf tag && lineWf line
  | .getTimestamp => true
  | .setTimestamp ns => decide (ns < 2 ^ 64)
  | .setPartitionInfo => true
  | .sanitize _ => true
  | .sanitizeComplete => true
  | .unsupportedCommand opcode => u16 opcode && !supportedOps.contains opcode
  | .vxAuthChallenge purpose reserved => u8 purpose && u32 reserved
  | .vxAuthResponse nonce purpose reserved _ => decide (nonce < 2 ^ 64) && u8 purpose && u32 reserved
  | .vxHostBurrow confirm target reserved => u16 confirm && u8 target && u8 reserved
  | .vxCoverStatus => true
  | .twinSwitchOver action reserved => u8 action && action != 2 && u32 reserved
  | .forcedPromotion reserved => u32 reserved
  | .serviceModeEnter reserved => u32 reserved
  | .serviceModeLeave reserved => u32 reserved
  | .vxJournalRead start count reserved => u32 start && u8 count && u32 reserved
  | .ticketExpiry => true
  | .challengeExpiry => true
  | .authRefusalEnd => true
  | .serviceTimeout => true
  | .por _ => true
  | .krst _ => true
  | .vkeepGood vioMv => u16 vioMv
  | .lrstRequest => true
  | .drainDone => true
  | .drainTimeout => true
  | .lampRelease parityWord => (match parityWord with | some w => decide (w < 2 ^ 18) | none => true)
  | .writePathOpen => true
  | .wakeReq _ => true
  | .latchClr _ => true
  | .serviceNHold => true
  | .vinComparatorFire _ => true
  | .vinCmpRelease _ => true
  | .vinCmpMismatch => true
  | .predictorFire => true
  | .pfwNFire => true
  | .bridgeClose => true
  | .bridgeExpiry => true
  | .fence => true
  | .shedStep k => decide (k < 4)
  | .p1End => true
  | .p1Late => true
  | .burrowSweepVisit w _ _ => (match w with | some x => decide (x < 262144) | none => true)
  | .programConfirm n => ctxWf n
  | .programStatus n _ => ctxWf n
  | .lunNotReady lun => lunWf lun
  | .p2End => true
  | .p2Timeout => true
  | .p3End fails => fails.all (fun n => decide (n < 4096))
  | .p3Timeout landed => decide (landed < 4096)
  | .journalCommit => true
  | .p4Timeout => true
  | .vinReturnDebounced => true
  | .abandonRecordWritten => true
  | .abandonUpDone => true
  | .abandonWindowExpiry => true
  | .thermalLockoutScan _ => true
  | .denRebase => true
  | .hwCut sensor => sensorWf sensor
  | .daymarkRead copy0 copy1 _ _ => copyWf copy0 && copyWf copy1
  | .dramTrainingDone _ _ reads => readsWf reads
  | .nandScanDone failedLuns ces reads => failedLuns.all lunWf && ces.all (fun c => decide (c < 32)) && readsWf reads
  | .restoreDecision => true
  | .manifestLoad badSegs reads => badSegs.all (fun k => decide (k < 2048)) && readsWf reads
  | .granuleFetchDone g rd rd2 => granWf g && rd.wf && rd2.wf
  | .verifyGranule g ueLines _ rd rd2 ces => granWf g && ueLines.all (fun l => decide (l < 256)) && rd.wf && rd2.wf
      && ces.all (fun c => decide (c.1 < 256) && decide (c.2 < 10))
  | .restoreComplete fails => fails.all (fun n => decide (n < 4096))
  | .rebase => true
  | .rebaseNow _ => true
  | .coverStale => true
  | .coverStaleError => true
  | .ledgerScrub word _ => decide (word < 2 ^ 18)
  | .doubtWriterDone => true
  | .mirrorWrite g => granWf g
  | .trickleMode => true
  | .sweepVisit => true
  | .copyMapped n _ => ctxWf n
  | .calSample _ _ => true
  | .cleanAll _ => true
  | .stopCleanAll _ => true
  | .contextArm => true
  | .schedule ch sub _ readyBanks => subWf ch sub && readyBanks.all (fun b => decide (b < 64))
  | .refresh ch sub rank => subWf ch sub && decide (rank < 2)
  | .retrainPause ch sub _ _ _ => subWf ch sub
  | .caParityAlert ch sub _ _ => subWf ch sub
  | .dramReadDone _ line err _ => lineWf line && err.wf
  | .patrolScrub ch back => decide (ch < 2) && (match back with | some err => err.wf | none => true)
  | .selfRefreshEntry ch => decide (ch < 2)
  | .selfRefreshExit ch => decide (ch < 2)
  | .eraseDone block _ => decide (block < 2 ^ 22)
  | .eraseTimeout block => decide (block < 2 ^ 22)
  | .relocate rd => rd.wf
  | .nandPatrol g rd => granWf g && rd.wf
  | .checkpointStart => true
  | .checkpointCommit => true
  | .infetClose _ => true
  | .infetOpen _ => true
  | .infetReclose => true
  | .infetRst _ => true
  | .inputCurrentLimit => true
  | .storeTakeover vsysMv => u16 vsysMv
  | .storeRelease vsysMv => u16 vsysMv
  | .storeFailed cause => decide (cause < 16)
  | .storeAbsent _ => true
  | .storePresent => true
  | .storeRetry _ => true
  | .chargeTerminate => true
  | .rechargeStart => true
  | .zoneChange _ => true
  | .safetyTimerExpiry => true
  | .tmrClr _ => true
  | .auditStart => true
  | .auditNow _ => true
  | .auditDone m => m.wf
  | .auditDerate => true
  | .accOvercurrent => true
  | .accRetry => true
  | .peerChargeStop => true
  | .vsysLoss => true
  | .vsysRestore => true
  | .railFault n _ also level => outWf n && also.all (fun x => outWf x.1) && (match level with | some v => u16 v | none => true)
  | .adcScan ch iout => ch.length == 48 && iout.all u16
  | .adcOnDemand _ ch => decide (ch < 64)
  | .rearm _ idx => decide (idx < 32)
  | .clrFirst _ => true
  | .w1cWrite _ off _ => offWf off
  | .sequencerTick => true
  | .entryPowerGood n => entWf n
  | .entryUpTimeout n => entWf n
  | .entryRetry n => entWf n
  | .entryOff n => entWf n
  | .entryDownTimeout n => entWf n
  | .spmiCommandSend => true
  | .spmiStatusRead m lastSeq result pg _ flags => slaveWf m && u16 lastSeq && u8 result && u32 pg && u8 flags
  | .spmiAckTimeout m => slaveWf m
  | .slvRescan _ => true
  | .pgPoll n pg => decide (24 ≤ n) && decide (n < 32) && u32 pg
  | .spmiWakeup sid => decide (sid < 16)
  | .spmiSleep => true
  | .spmiIdleOff => true
  | .spmiIgnoredCommand => true
  | .thermalSweep r => r.length == 11
  | .levelChange => true
  | .senRetry _ => true
  | .arbiterTick b => b.wf
  | .hello m => m.wf
  | .mirror wsn line _ _ => decide (wsn < 2 ^ 64) && lineWf line
  | .cumulativeAck cum => decide (cum < 2 ^ 64)
  | .heartbeat m => m.wf
  | .nak lseq => u16 lseq
  | .retrain => true
  | .mooringLinkDown => true
  | .pairTimeout => true
  | .bellSilent => true
  | .bellAlive => true
  | .controlTick own => own.wf
  | .input m => m.wf
  | .decision _ => true
  | .selfTestDone _ _ => true
  | .fenceFrame cum causes => decide (cum < 2 ^ 64) && decide (causes < 1024)
  | .fenceWaitExpiry => true
  | .graceExpiry => true
  | .ctrl _ => true
  | .rsyBegin g => granWf g
  | .rsyData g ln _ => granWf g && decide (ln < 256)
  | .rsyEnd g => granWf g
  | .rsyFull _ => true
  | .efKey _ _ => true
  | .unlockExpiry _ => true
  | .read _ _ => true
  | .program _ => true
  | .erase _ => true
  | .suspend _ => true
  | .resume _ => true
  | .otpRead _ => true
  | .otpProg _ => true
  | .clear _ => true
  | .wordProgramDone pulses _ => decide (1 ≤ pulses) && decide (pulses ≤ 16)
  | .sectorEraseDone _ => true
  | .eraseResume => true
  | .journalRecordWrite => true
  | .eventRaise _ cls _ param => u8 cls && u32 param
  | .eventMove => true
  | .recordClose => true
  | .archiveWrite => true
  | .freeze _ => true
  | .thaw _ => true
  | .freezeExpiry => true
  | .evClear _ _ => true
  | .clearComplete => true
  | .evRdsel _ _ => true
  | .rcRead _ off size => offWf off && decide (1 ≤ size) && decide (size ≤ 8)
  | .captureRead _ off size => offWf off && decide (1 ≤ size) && decide (size ≤ 8)
  | .fitBlWrite _ off _ => decide (off = 0x000C ∨ off = 0xF010)
  | .populationWrite _ off _ => decide (off = 0x4000 ∨ off = 0x7008)
  | .registerWrite _ off size _ _ => offWf off && decide (1 ≤ size) && decide (size ≤ 8)
  | .hostLinkDown => true
  | .mooringLinkUp lanes => decide (lanes < 16)
  | .abandonLinkWaitExpiry => true
  | .aonPowerLoss => true

end Sys2Proof
end

