-- ==== Sys2Proof/Machine/Mailbox.lean ====
section
/-! DEFINITION. The mailbox (03, Mailbox commands): standard and vendor commands, authorisation and service mode. Opcodes of the
standard commands and the return codes are those of CXL 2.0 (log entry 10). -/

namespace Sys2Proof.Machine

/-- Return codes. -/
def rcOk : Nat := 0x0000
def rcBg : Nat := 0x0001
def rcInput : Nat := 0x0002
def rcUnsup : Nat := 0x0003
def rcRetry : Nat := 0x0005
def rcBusy : Nat := 0x0006
def rcMedia : Nat := 0x0007
def rcHandle : Nat := 0x000E
def rcAddr : Nat := 0x000F
def rcSec : Nat := 0x0013

/-- The mailbox takes a new command: no fence stands and no command is in progress (R85). -/
def State.mboxFree (s : State) : Bool := !s.bur.fenced && s.host.mboxBusy.isNone

/-- A command reaches the mailbox: nothing while the link is down, Busy while the mailbox cannot take it, else its meaning. -/
def State.mboxRun (s : State) (op : Nat) (f : State → State) : State :=
  if !s.getB Reg.HL_STATUS_LINK_UP then s
  else if !s.mboxFree then s.hostTouch.mboxEnd op rcBusy .none
  else f s.hostTouch

/-! ### Health and alerts (R103 to R106) -/

/-- Health Status bits: 0 Maintenance Needed, 1 Performance Degraded, 2 Hardware Replacement Needed (Table 3-5). -/
def State.healthBits (s : State) : Nat :=
  b2n (decide (80 ≤ s.flashWear) || decide (90 ≤ s.lifeUsed))
    + 2 * b2n ((match s.host.lastDegraded with | some t => decide (s.ms < t + 1000) | none => false)
        || decide (2 ≤ s.getF Reg.TH_STATUS_LEVEL) || s.getB Reg.TW_STATUS_SPLIT)
    + 4 * b2n (decide (3 ≤ s.keep.state) || decide (s.goodCopyBlocks < s.fullCover))

/-- Media Status (Table 3-6; codes of CXL 2.0): the lowest row that applies; a standby and a unit that hands over are Not Ready (R79, R421). -/
def State.mediaStatus (s : State) : Nat :=
  if s.mode = .wake ∨ s.mode = .off ∨ s.mode = .den ∨ (s.mode = .restore ∧ ¬ s.mediaReady) then 1
  else if s.chanFailed 0 || s.chanFailed 1 then 7
  else if s.isStandby && s.getB Reg.TW_STATUS_SPLIT then 2
  else if s.isStandby || s.twin.switching then 1
  else if !s.storeOk && !s.vinLoss && decide (0 < s.cover.nDirty) then 4
  else 0

/-- The Media Status field of the CXL memory device status register reads Ready (Table 3-2); it lies outside the window, and no row reads it. -/
def State.memDevReady (s : State) : Bool :=
  s.mediaReady && !s.isStandby && !s.twin.switching && !s.bur.fenced && s.host.sanitize == 0 && (s.mode == .run || s.mode == .restore)

/-- ALERT_HOST_N is low (R106); without VIO_EXT it is released (R519). -/
def State.alertLow (s : State) : Bool :=
  s.rail.vioOk && (s.crossed != 0 || s.ev.ring.any (fun r => decide (2 ≤ r.2.sev.code) && !r.2.consumed))

/-! ### Standard commands -/

/-- IDENTIFY_MEMORY_DEVICE (R76, R78, R111, R115). -/
def execIdentifyMemoryDevice (s : State) : Host.Outcome State Fault Refusal :=
  .next (s.mboxRun 0x4000 (fun t => t.mboxEnd 0x4000 rcOk (.identify 0 t.cap256M 131072 1024 127 0 0)))

/-- GET_SHUTDOWN_STATE (R96). -/
def execGetShutdownState (s : State) : Host.Outcome State Fault Refusal :=
  .next (s.mboxRun 0x4203 (fun t => t.mboxEnd 0x4203 rcOk (.shutdown (t.getB Reg.HL_SHUTDOWN_DIRTY))))

/-- SET_SHUTDOWN_STATE: the state is set and journalled; a change logs a Memory Module Event (R96, Table 3-7). -/
def execSetShutdownState (dirty : Bool) (s : State) : Host.Outcome State Fault Refusal :=
  .next (s.mboxRun 0x4204 (fun t =>
    (((t.setFs [(Reg.HL_SHUTDOWN_DIRTY, b2n dirty), (Reg.HL_SHUTDOWN_SELF_CLEAN, 0)]).raiseIf
      (t.getB Reg.HL_SHUTDOWN_DIRTY != dirty) .keeper 0x1D .warning 1).jput (.shutdown dirty)).mboxEnd 0x4204 rcOk .none))

/-- GET_HEALTH_INFO (Table 3-5). -/
def execGetHealthInfo (s : State) : Host.Outcome State Fault Refusal :=
  .next (s.mboxRun 0x4200 (fun t => t.mboxEnd 0x4200 rcOk (.health t.healthBits t.mediaStatus t.lifePct (t.tMax / 10)
    (t.getF Reg.HL_DSC_DSC) 0 (min 0xFFFFFFFF t.host.corrections))))

/-- GET_ALERT_CONFIGURATION. -/
def execGetAlertConfiguration (s : State) : Host.Outcome State Fault Refusal :=
  .next (s.mboxRun 0x4201 (fun t => t.mboxEnd 0x4201 rcOk (.alerts t.host.alert)))

/-- SET_ALERT_CONFIGURATION (R105). -/
def execSetAlertConfiguration (cfg : AlertCfg) (s : State) : Host.Outcome State Fault Refusal :=
  .next (s.mboxRun 0x4202 (fun t =>
    (({ t with host := { t.host with alert := cfg } } : State).alertScan t.crossed).mboxEnd 0x4202 rcOk .none))

/-- The unconsumed ring records of a log in SEQ order (R476). -/
def State.logRecs (s : State) (log : Sev) : List EvRec :=
  ksort (·.seq) ((s.ev.ring.filter (fun r => r.2.sev == log && !r.2.consumed)).map (·.2))

/-- The UUID of a vendor-defined event record: the words of ID_VENDOR_UUIDk, byte 0 least significant. -/
def State.vendorUuid (s : State) : Nat :=
  (List.range 4).foldl (fun n k => n + s.getF (Reg.ID_VENDOR_UUID_UUID k) * 2 ^ (32 * k)) 0

/-- The CXL record format of an event class (Table 15-3). -/
def State.cxlFmt (s : State) (cls : Nat) : CxlFmt :=
  if cls = 0x2B ∨ cls = 0x2E then .generalMedia
  else if cls = 0x1B then .dram
  else if cls = 0x1D then .memoryModule
  else .vendor s.vendorUuid

/-- An event as Get Event Records returns it (R107). -/
def State.cxlRec (s : State) (r : EvRec) : CxlRec := ⟨s.cxlFmt r.cls, r⟩

/-- GET_EVENT_RECORDS: a 4 KiB payload holds 31 records (R476, log entry 10). -/
def execGetEventRecords (log : Sev) (s : State) : Host.Outcome State Fault Refusal :=
  .next (s.mboxRun 0x0100 (fun t =>
    t.mboxEnd 0x0100 rcOk (.records (((t.logRecs log).take 31).map t.cxlRec) (mget false t.ev.ovf log.code))))

/-- Mark a log's records consumed, those with a handle of the list or all; an emptied log loses its overflow flag (R108). -/
def State.consume (s : State) (log : Sev) (p : EvRec → Bool) : State :=
  let ring := s.ev.ring.map (fun r => if r.2.sev == log && p r.2 then (r.1, { r.2 with consumed := true }) else r)
  { s with ev := { s.ev with
      ring := ring
      ovf := if ring.any (fun r => r.2.sev == log && !r.2.consumed) then s.ev.ovf else mset log.code false s.ev.ovf } }

/-- CLEAR_EVENT_RECORDS: a handle that names no unconsumed record of the log is an Invalid Handle. -/
def execClearEventRecords (log : Sev) (handles : List Nat) (clearAll : Bool) (s : State) :
    Host.Outcome State Fault Refusal :=
  .next (s.mboxRun 0x0101 (fun t =>
    if clearAll then (t.consume log (fun _ => true)).mboxEnd 0x0101 rcOk .none
    else if handles.all (fun h => (t.logRecs log).any (fun r => r.handle == h)) then
      (t.consume log (fun r => handles.contains r.handle)).mboxEnd 0x0101 rcOk .none
    else t.mboxEnd 0x0101 rcHandle .none))

/-- GET_EVENT_INTERRUPT_POLICY. -/
def execGetEventInterruptPolicy (s : State) : Host.Outcome State Fault Refusal :=
  .next (s.mboxRun 0x0102 (fun t => t.mboxEnd 0x0102 rcOk (.policy t.host.policy)))

/-- SET_EVENT_INTERRUPT_POLICY: one setting for each of the four logs. -/
def execSetEventInterruptPolicy (policy : List Nat) (s : State) : Host.Outcome State Fault Refusal :=
  .next (s.mboxRun 0x0103 (fun t =>
    if policy.length = 4 then ({ t with host := { t.host with policy := policy } } : State).mboxEnd 0x0103 rcOk .none
    else t.mboxEnd 0x0103 rcInput .none))

/-- GET_LSA: the current copies of the 128 KiB area (R111, R453). -/
def execGetLsa (off len : Nat) (s : State) : Host.Outcome State Fault Refusal :=
  .next (s.mboxRun 0x4102 (fun t =>
    if off + len ≤ 131072 then
      t.mboxEnd 0x4102 rcOk (.bytes ((List.range len).map (fun i => byteAt t.host.lsa (off + i))))
    else t.mboxEnd 0x4102 rcInput .none))

/-- SET_LSA: the alternate copy of every touched sector is programmed; the command stays in progress until the last of them is
(R85, R111, R453, R465). A command that touches no sector ends at once. -/
def execSetLsa (off : Nat) (data : List Byte) (s : State) : Host.Outcome State Fault Refusal :=
  .next (s.mboxRun 0x4103 (fun t =>
    let sec := lsaSectors off data.length
    if 131072 < off + data.length then t.mboxEnd 0x4103 rcInput .none
    else if t.keep.state = 4 || sec.any t.host.lsaDead.contains then t.mboxEnd 0x4103 rcMedia .none
    else if sec.any t.host.lsaDirty.contains then t.mboxEnd 0x4103 rcBusy .none
    else if sec.isEmpty then t.mboxEnd 0x4103 rcOk .none
    else t.lsaStart off data))

/-! ### Poison list (R99, R184) -/

/-- Runs of poisoned lines in a range: first line, length, source; ascending. -/
def State.poisonRuns (s : State) (start len : Nat) : List (Nat × Nat × Nat) :=
  let lines := (s.dram.poison.filter (fun p => decide (start ≤ p.1) && decide (p.1 < start + len) && !s.lineFailed p.1)).map
    (fun p => (p.1, 1, p.2))
  let grans := if s.chanFailed 0 || s.chanFailed 1 then
      ((List.range ((start + len + 255) / 256)).filter (fun g => decide (start / 256 ≤ g) && s.chanFailed (s.chanOf g))).map
        (fun g => (max start (256 * g), min (start + len) (256 * g + 256) - max start (256 * g), 2))
    else []
  let whole := if s.dram.wholeDflt || !s.dram.whole.isEmpty then
      ((List.range ((start + len + 255) / 256)).filter (fun g => decide (start / 256 ≤ g) && s.wholly g && !s.chanFailed (s.chanOf g))).flatMap
        (fun g =>
          let cl := ksort id (s.dram.cleared.filter (fun l => l / 256 == g))
          let cuts := (256 * g) :: cl.map (· + 1)
          let ends := cl ++ [256 * g + 256]
          (cuts.zip ends).map (fun x => (max start x.1, min (start + len) x.2 - max start x.1, 2)))
    else []
  ksort (·.1) (lines ++ whole.filter (fun x => x.2.1 != 0) ++ grans.filter (fun x => x.2.1 != 0))

/-- Merge adjacent runs of the same source. -/
def mergeRuns : List (Nat × Nat × Nat) → List (Nat × Nat × Nat)
  | [] => []
  | x :: t =>
    match mergeRuns t with
    | y :: r => if x.1 + x.2.1 = y.1 ∧ x.2.2 = y.2.2 then (x.1, x.2.1 + y.2.1, x.2.2) :: r else x :: y :: r
    | [] => [x]

/-- GET_POISON_LIST: at most 127 merged records (R99); Busy in RESTORE (R288). -/
def execGetPoisonList (start len : Nat) (s : State) : Host.Outcome State Fault Refusal :=
  .next (s.mboxRun 0x4300 (fun t =>
    if t.mode = .restore then t.mboxEnd 0x4300 rcBusy .none
    else if t.nLines < start + len then t.mboxEnd 0x4300 rcAddr .none
    else
      let r := mergeRuns (t.poisonRuns start len)
      t.mboxEnd 0x4300 rcOk (.poisonList ((r.take 127).map (fun x => (64 * x.1 + x.2.2, x.2.1))) (decide (127 < r.length)))))

/-- INJECT_POISON (R98, R101). -/
def execInjectPoison (line : Nat) (s : State) : Host.Outcome State Fault Refusal :=
  .next (s.mboxRun 0x4301 (fun t =>
    if !t.service then t.mboxEnd 0x4301 rcSec .none
    else if t.nLines ≤ line then t.mboxEnd 0x4301 rcAddr .none
    else (if t.poisoned line then t else t.setPoison line 3).mboxEnd 0x4301 rcOk .none))

/-- CLEAR_POISON: an ordinary full-line write without a credit; the command completes when the write is accepted (R101). -/
def execClearPoison (tag line : Nat) (data : LineData) (s : State) : Host.Outcome State Fault Refusal :=
  .next (s.mboxRun 0x4302 (fun t =>
    if !t.service then t.mboxEnd 0x4302 rcSec .none
    else if t.nLines ≤ line then t.mboxEnd 0x4302 rcAddr .none
    else if !t.pathOpen then t.mboxEnd 0x4302 rcBusy .none
    else ((({ t with host := { t.host with mboxBusy := some 0x4302, clearSeq := t.host.nextSeq } } : State).want line).arrive
      ⟨tag, line, true, beAll, data, 0, true, 0⟩).ledgerGo))

/-- GET_TIMESTAMP (R110). -/
def execGetTimestamp (s : State) : Host.Outcome State Fault Refusal :=
  .next (s.mboxRun 0x0300 (fun t => t.mboxEnd 0x0300 rcOk (.timestamp t.tstamp)))

/-- SET_TIMESTAMP (R110). -/
def execSetTimestamp (ns : Nat) (s : State) : Host.Outcome State Fault Refusal :=
  .next (s.mboxRun 0x0301 (fun t => ({ t with tstamp := ns % 2 ^ 64, tsSet := true } : State).mboxEnd 0x0301 rcOk .none))

/-- SET_PARTITION_INFO: Unsupported (R78). -/
def execSetPartitionInfo (s : State) : Host.Outcome State Fault Refusal :=
  .next (s.mboxRun 0x4101 (fun t => t.mboxEnd 0x4101 rcUnsup .none))

/-- UNSUPPORTED_COMMAND: an opcode that no command of the device has, among them 0xC007 to 0xC0FF (R115, R116). -/
def execUnsupportedCommand (opcode : Nat) (s : State) : Host.Outcome State Fault Refusal :=
  .next (if supportedOps.contains opcode then s else s.mboxRun opcode (fun t => t.mboxEnd opcode rcUnsup .none))

/-! ### Sanitize (R112, R113) -/

/-- Blocks that hold a granule copy or a manifest and can be erased: a retiring block is never erased, nor a BAD one (R247). -/
def State.dataBlocks (s : State) : List Nat :=
  (s.nand.pages.foldl (fun l p => if p.2.kind ≤ 0x10 then sadd (locBlock p.1) l else l) []).filter (fun b =>
    !(s.blkOf b).retiring && (s.blkOf b).st != .bad && !s.lunFailed (blockLun b))

/-- SANITIZE_START is journalled ahead of the steps that follow it (R112); while the keeper's firmware does not run it waits. -/
def State.sanRecord (s : State) : State :=
  if s.keep.up then s.jNow (.sanitizeStart s.nand.epoch) else s.jput (.sanitizeStart s.nand.epoch)

/-- Steps 1 to 3 of a sanitize: SANITIZE_START, a clean ledger, map and poison bitmap, and the erases queued; copies in flight are no
longer mapped. A ledger-doubt writer that still runs goes on over the CLEAN entries (DESIGN CHOICE, log entry 120). -/
def State.startSanitize (s0 : State) : State :=
  let s := s0.sanRecord
  let s1 : State := { s with
    host := { s.host with sanitize := 1, stage := none }
    cover := { s.cover with ledger := [], ledDflt := .clean, mirror := [], mirrorDflt := .clean, mirrorPend := [], nDirty := 0, eDebt := s.debtOf 0 }
    dram := s.dram.noPoison
    nand := { s.nand with map := [], mapDflt := noLoc, mapUnknown := [], tcache := [], refreshQ := [], relocQ := [], orphans := [], live := [],
                          eraseQ := s.dataBlocks, changed := (List.range ((s.nUser + 4095) / 4096)).map (fun k => (k, s.ms)) }
    bur := { s.bur with
      voidExtra := []
      ctx := s.bur.ctx.map (fun c => if c.2.st.inFlight && c.2.kind != .metaPage then (c.1, { c.2 with kind := .none }) else c) }
    regs := setRegs [(Reg.MD_STATUS_MEDIA_READY, 0)] s.regs }
  s1.cleanAllCheck

/-- SANITIZE: Busy unless in RUN, not the standby, with no HDM decoder or DVSEC range in use and none running; the active relays it. `decoders` is
what the host has made of its decoders and ranges since its last access, when it has changed them (log entry 82). -/
def execSanitize (s : State) (decoders : Option Bool := none) : Host.Outcome State Fault Refusal :=
  .next (({ s with host := { s.host with decoder := decoders.getD s.host.decoder } } : State).mboxRun 0x4400 (fun t =>
    if t.mode ≠ .run ∨ t.isStandby ∨ t.host.decoder ∨ t.host.sanitize ≠ 0 then t.mboxEnd 0x4400 rcBusy .none
    else ((t.startSanitize.frameIf t.framing 0x0A 4).mboxEnd 0x4400 rcBg .none)))

/-- The end of this unit's own steps 4 to 6: zeros in user DRAM and in the label area, SANITIZE_DONE, the records of an empty image, and only
then media ready (R112, R273, R276). -/
def State.sanitizeOwn (s : State) : State :=
  let s1 : State := { s with
    dram := { s.dram.noPoison with cells := [], wbuf := [] }
    host := { s.host with lsa := [] }
    nand := { s.nand with sealTbl := [] }
    regs := setRegs [(Reg.NB_MANPTR_LOC, noLoc), (Reg.NB_ROOTPTR_LOC, noLoc)] s.regs }
  (((s1.jNow (.sanitizeDone s.nand.epoch)).jNow
    (.manifestPtr noLoc s.nand.epoch 0 0 0 (s.getF Reg.HL_DSC_DSC) (s.getB Reg.HL_SHUTDOWN_DIRTY) (s.getB Reg.HL_SHUTDOWN_SELF_CLEAN)
      false 0)).jNow (.runOpen s.nand.epoch 0)).setF Reg.MD_STATUS_MEDIA_READY 1

/-- SANITIZE_COMPLETE: once the erases have ended; in a pair the command ends when both units have finished. -/
def execSanitizeComplete (s : State) : Host.Outcome State Fault Refusal :=
  .next (if (s.host.sanitize = 1 ∨ s.host.sanitize = 4) ∧ s.nand.eraseQ = [] ∧ s.mode = .run then
    let t := s.sanitizeOwn
    let t1 := t.frameIf (s.isStandby && s.twinUp) 0x0A 5
    ({ t1 with host := { t1.host with sanitize := if s.framing && s.host.sanitize == 1 then 2 else 0 } } : State).creditsIfDue
    else s)

/-! ### Authorisation (R117, R118) -/

/-- VX_AUTH_CHALLENGE. Where a field and the state are both wrong the spec gives two return codes and no order: the field is looked at first
(DESIGN CHOICE, log entry 123). -/
def execVxAuthChallenge (purpose reserved : Nat) (s : State) : Host.Outcome State Fault Refusal :=
  .next (s.mboxRun 0xC000 (fun t =>
    if reserved ≠ 0 ∨ purpose = 0 ∨ 3 < purpose then t.mboxEnd 0xC000 rcInput .none
    else if t.getB Reg.HL_AUTH_REFUSING then t.mboxEnd 0xC000 rcBusy .none
    else
      let nonce := (Config.entropy t.freeCount).toNat
      ({ t with
        freeCount := t.freeCount + 1
        host := { t.host with auth := { t.host.auth with chal := some (nonce, purpose, t.ms), ticket := none } } } : State).mboxEnd
          0xC000 rcOk (.challenge nonce purpose t.otp.serial 10000)))

/-- The failures still in the 60 s window. -/
def State.failWindow (s : State) : List Nat := s.host.auth.fails.filter (fun t => decide (s.ms < t + 60000))

/-- VX_AUTH_RESPONSE: one check closes the challenge; it grants a ticket or counts a failure. Non-zero reserved bytes are refused before the
check (DESIGN CHOICE, log entry 96). -/
def execVxAuthResponse (nonce purpose reserved : Nat) (sigOk : Bool) (s : State) : Host.Outcome State Fault Refusal :=
  .next (s.mboxRun 0xC001 (fun t =>
    match t.host.auth.chal with
    | none => t.mboxEnd 0xC001 rcInput .none
    | some (n, p, at0) =>
      if reserved ≠ 0 then t.mboxEnd 0xC001 rcInput .none
      else if nonce = n ∧ purpose = p ∧ t.ms ≤ at0 + 10000 ∧ sigOk ∧ t.dmk.svcKey.isSome then
        ({ t with host := { t.host with auth := { t.host.auth with chal := none, ticket := some (p, t.ms + 10000) } } } : State).mboxEnd
          0xC001 rcOk (.ticket 10000)
      else
        let f := t.failWindow ++ [t.ms]
        ((({ t with host := { t.host with auth := { t.host.auth with chal := none, fails := f } } } : State).setF
          Reg.HL_AUTH_REFUSING (if 3 ≤ f.length then 1 else t.getF Reg.HL_AUTH_REFUSING)).raise .keeper 0x16 .warning p).mboxEnd
            0xC001 rcInput .none))

/-- TICKET_EXPIRY. -/
def execTicketExpiry (s : State) : Host.Outcome State Fault Refusal := .next s.useTicket

/-- CHALLENGE_EXPIRY. -/
def execChallengeExpiry (s : State) : Host.Outcome State Fault Refusal :=
  .next { s with host := { s.host with auth := { s.host.auth with chal := none } } }

/-- AUTH_REFUSAL_END: the 60 s refusal ends. -/
def execAuthRefusalEnd (s : State) : Host.Outcome State Fault Refusal :=
  .next (if !s.getB Reg.HL_AUTH_REFUSING then s
    else (({ s with host := { s.host with auth := { s.host.auth with fails := [] } } } : State)).setF Reg.HL_AUTH_REFUSING 0)

/-! ### Vendor commands -/

/-- VX_HOST_BURROW (R120). -/
def execVxHostBurrow (confirm target reserved : Nat) (s : State) : Host.Outcome State Fault Refusal :=
  .next (s.mboxRun 0xC002 (fun t =>
    if confirm ≠ 0x4255 ∨ 1 < target ∨ reserved ≠ 0 then t.mboxEnd 0xC002 rcInput .none
    else if !(t.mode == .run || (t.mode == .restore && t.mediaReady)) then t.mboxEnd 0xC002 rcBusy .none
    else
      let t1 := ({ t.mboxEnd 0xC002 rcOk .none with bur := { t.bur with offReq := t.bur.offReq || target == 1 } } : State)
      (t1.frameIf t.twinUp 0x0A target).trigger .host))

/-- VX_COVER_STATUS (Table 3-14). -/
def execVxCoverStatus (s : State) : Host.Outcome State Fault Refusal :=
  .next (s.mboxRun 0xC003 (fun t => t.mboxEnd 0xC003 rcOk (.cover t.cover.eAvail
    ((t.cover.eDebt * (1000 + t.margin) + 9999) / 10000) t.cover.eBridge t.cover.nDirty t.nand.pErased (landNeed t.cover.nDirty)
    (t.cover.eg * 100) t.margin (t.getF Reg.LG_EAVAIL_HI_AGE_US) t.coverState (t.getF Reg.LG_CWAIT_CNT_CWAIT_COUNT)
    (t.getF Reg.LG_WT_CNT_WT_COUNT))))

/-- SERVICE_MODE_ENTER: consumes a SERVICE ticket (R119); Busy in WAKE (R505). Bytes 1 to 3 of the input are taken as reserved (DESIGN CHOICE,
log entry 97). -/
def execServiceModeEnter (reserved : Nat) (s : State) : Host.Outcome State Fault Refusal :=
  .next (s.mboxRun 0xC006 (fun t =>
    if reserved ≠ 0 then t.mboxEnd 0xC006 rcInput .none
    else if t.mode = .wake then t.mboxEnd 0xC006 rcBusy .none
    else if t.ticketFor 1 then
      ((t.useTicket.setFs [(Reg.MD_STATUS_SERVICE, 1), (Reg.DT_SVC_LEFT_S, 600)]).raise .keeper 0x03 .info 1).mboxEnd 0xC006 rcOk (.service 1)
    else t.mboxEnd 0xC006 rcSec .none))

/-- SERVICE_MODE_LEAVE (R119). -/
def execServiceModeLeave (reserved : Nat) (s : State) : Host.Outcome State Fault Refusal :=
  .next (s.mboxRun 0xC006 (fun t =>
    if reserved ≠ 0 then t.mboxEnd 0xC006 rcInput .none
    else (t.leaveService 1).mboxEnd 0xC006 rcOk (.service 0)))

/-- SERVICE_TIMEOUT: 600 s without a mailbox command or register write (R119). -/
def execServiceTimeout (s : State) : Host.Outcome State Fault Refusal := .next (s.leaveService 5)

/-- VX_JOURNAL_READ (R123). COUNT outside 1 to 63 is Invalid Input (DESIGN CHOICE, log entry 95); FIRST of an empty answer is a free value (log
entry 3). -/
def execVxJournalRead (start count reserved : Nat) (s : State) : Host.Outcome State Fault Refusal :=
  .next (s.mboxRun 0xC005 (fun t =>
    if count = 0 ∨ 63 < count ∨ reserved ≠ 0 then t.mboxEnd 0xC005 rcInput .none
    else
      let recs := if t.jDead then [] else (ksort (·.seq) (t.keep.recs.filter (fun r => decide (start ≤ r.seq)))).take count
      match recs with
      | [] => ({ t with freeCount := t.freeCount + 1 } : State).mboxEnd 0xC005 rcOk
          (.journal (Config.measured t.freeCount % 2 ^ 32) 0 t.jOldest t.jNewest [])
      | r :: _ => t.mboxEnd 0xC005 rcOk (.journal r.seq recs.length t.jOldest t.jNewest (recs.map JRec.bytes))))

end Sys2Proof.Machine
end

