-- ==== Sys2Proof/Machine/Books.lean ====
section
/-! DEFINITION. The store's energy and the cover engine's re-base (04, 09): E_avail, P_store_max, e_g, E_bridge and E_LIMIT. Every
rounding that the spec does not fix is down (log entry 11). -/

namespace Sys2Proof.Machine

/-- The value of a table that is linear between its points and held beyond them; `t` in the points' own unit. -/
def interp : List (Int × Nat) → Int → Nat
  | [], _ => 0
  | [(_, v)], _ => v
  | (a, v) :: (b, w) :: r, t =>
    if t ≤ a then v
    else if t < b then (((v : Int) * (b - t) + (w : Int) * (t - a)) / (b - a)).toNat
    else interp ((b, w) :: r) t

/-- The store temperatures of STORE_T in 0.1 °C (Table 16-3). -/
def storeTemps : List Int := [-400, -200, 0, 250, 450, 600, 850, 1050]

/-- CAP_K and ESR_K at a temperature in 0.1 °C, in 1/1000. -/
def State.capK (s : State) (t : Int) : Nat := interp (storeTemps.zip (s.dmk.storeT.map (·.1))) t
def State.esrK (s : State) (t : Int) : Nat := interp (storeTemps.zip (s.dmk.storeT.map (·.2))) t

/-- NTC_STORE (TS9) has failed: the store's tables use –40 °C (R310). -/
def State.ntcBad (s : State) : Bool := s.getF (Reg.TH_SEN_STATE 9) = 2

/-- Store temperature for the tables in 0.1 °C. -/
def State.tStore (s : State) : Int :=
  if s.ntcBad then -400 else s.rail.adc.getD 37 (10 * s.getS Reg.ES_PMAX_T_STORE)

/-- Cells of the string (ES_CFG.NCELLS). -/
def State.nCells (s : State) : Nat := max 2 (min (if s.isLto then 6 else 8) (s.getF Reg.ES_CFG_NCELLS))

/-- V_floor in mV (R300). -/
def State.vFloor (s : State) : Nat := max 4000 (s.getF Reg.ES_CFG_V_FLOOR)

/-- Cell voltages of the last scan in mV. -/
def State.cellV (s : State) (i : Nat) : Nat := (s.rail.adc.getD (3 + i) 0).toNat
def State.cellsV (s : State) : List Nat := (List.range s.nCells).map s.cellV

/-- Temperature of the last audit in 0.1 °C. -/
def State.tAud (s : State) : Int := 10 * s.getS Reg.ES_AUDIT2_T_AUD

/-- A figure of the audit rescaled to the present store temperature, with the derates of R317 for capacitance. -/
def State.rescale (k : Int → Nat) (x : Nat) (tAud t : Int) : Nat := if k tAud = 0 then 0 else x * k t / k tAud
def derate : Nat → Nat → Nat
  | 0, x => x
  | n + 1, x => derate n (x * 98 / 100)

/-- C_i(T) in mF. -/
def State.capNow (s : State) (i : Nat) : Nat :=
  derate s.store.derates (State.rescale s.capK (s.store.cAud.getD i 0) s.tAud s.tStore)

/-- State of charge of a cell voltage in 1/10000 (LTO_OCV, 5 % steps). -/
def socOf : List Nat → Nat → Nat → Nat
  | [], _, acc => acc
  | [_], _, acc => acc
  | a :: b :: r, v, acc =>
    if v ≤ a then acc else if v < b then acc + 500 * (v - a) / (b - a) else socOf (b :: r) v (acc + 500)

/-- Area under the OCV curve from SoC 0 to s, in mV × 1/10000. -/
def ocvArea : List Nat → Nat → Nat
  | [], _ => 0
  | [_], _ => 0
  | a :: b :: r, s =>
    if s ≤ 500 then s * (2 * a + (b - a) * s / 500) / 2 else 250 * (a + b) + ocvArea (b :: r) (s - 500)

/-- E_avail of a supercapacitor string in µJ (R135). -/
def State.eSuper (s : State) : Nat :=
  let n := s.nCells
  let q := (List.range n).map (fun i => s.capNow i * (n * s.cellV i - s.vFloor) / n)
  let qm := q.foldl min (q.headD 0)
  let sum : Int := (List.range n).foldl (fun (a : Int) i =>
    a + (s.cellV i * qm : Nat) - (if s.capNow i = 0 then 0 else (qm * qm / (2 * s.capNow i) : Nat))) 0
  s.getF Reg.ES_AUDIT2_ETA * sum.toNat / 200000

/-- E_avail of a lithium-titanate string in µJ (R135). -/
def State.eLto (s : State) : Nat :=
  let n := s.nCells
  let q := derate s.store.derates (State.rescale s.capK s.store.qAud s.tAud s.tStore)
  let lo := s.cellsV.foldl min (s.cellV 0)
  let a := ocvArea s.dmk.ltoOcv (socOf s.dmk.ltoOcv lo 0) - ocvArea s.dmk.ltoOcv (socOf s.dmk.ltoOcv (s.vFloor / n) 0)
  s.getF Reg.ES_AUDIT2_ETA * n * q * a * 36 / 2000

/-- E_avail in µJ: 0 unless the store is ready and the cross-check agrees (R135, R306, R343). -/
def State.eAvailNow (s : State) : Nat :=
  if s.getF Reg.ES_STATUS_STORE ≠ 2 ∨ s.getB Reg.PS_STATUS_XCHK_FAIL then 0
  else min (2 ^ 48 - 1) (if s.isLto then s.eLto else s.eSuper)

/-- P_store_max(T) in 10 mW (R316). -/
def State.pStoreMax (s : State) : Nat :=
  let r := State.rescale s.esrK (s.getF Reg.ES_AUDIT_ESR) s.tAud s.tStore
  if r = 0 then 0 else min 3000 (s.vFloor * s.vFloor / (4 * r))

/-- E_bridge in µJ: P_BRIDGE over the window, or over what is left of an open one (R139). P_BRIDGE is in 10 mW. -/
def State.eBridgeNow (s : State) : Nat :=
  let left := if s.getB Reg.MD_STATUS_BRIDGE then s.bridgeMs - (s.ms - s.bur.bridgeAt) else s.bridgeMs
  left * s.getF Reg.LG_BRIDGE_P_BRIDGE * 10

/-- Close the ledger-doubt window when the dirty set lies within the cover (R157). -/
def State.doubtCheck (s : State) : State :=
  if s.getB Reg.LG_STATUS_DOUBT && !s.cover.doubtWriter && decide (s.cover.nDirty ≤ s.nMaxNow) then
    (s.setF Reg.LG_STATUS_DOUBT 0).raise .lamp 0x11 .warning 0
  else s

/-- The balance test of a re-base (R146), in every mode; in BURROW it serves reporting (Table 1-3, log entry 14). -/
def State.shortCheck (s : State) : State :=
  let short := decide (s.cover.eAvail * 10000 < s.cover.eDebt * (1000 + s.margin))
  (s.setB Reg.LG_STATUS_SHORTFALL short).raiseIf (short && !s.getB Reg.LG_STATUS_SHORTFALL) .lamp 0x21 .error 0

/-- The dirty granules that a re-base counts: all of them while the ledger-doubt writer runs (R157); in BURROW those that have not landed, as both
sides of the balance are consumed there (Table 1-3; DEDUCED, log entry 118). -/
def State.owed (s : State) : Nat :=
  let n := if s.cover.doubtWriter then s.nReported else s.cover.nDirty
  if s.mode = .burrow then n - s.getF Reg.BE_LANDED_LANDED else n

/-- What a re-base computes and the fabric takes (R135 to R142); LG_ fields written come into force (R160). While
the ledger-doubt writer runs every granule counts as dirty (R157). -/
def State.rebaseBooks (s : State) : State :=
  let s := s.blockForce 3
  let s1 := s.setFs [(Reg.ES_PMAX_P_STORE_MAX, s.pStoreMax), (Reg.LG_STATUS_STALE, 0), (Reg.LG_EAVAIL_HI_AGE_US, 0)]
  let ea := s1.eAvailNow
  let s2 : State := { s1 with cover := { s1.cover with
    eAvail := ea, eLimit := s1.limitOf ea, eBridge := s1.eBridgeNow, eg := s1.egOf s1.tMax } }
  let s3 : State := { s2 with cover := { s2.cover with
    eDebt := s2.debtOf s2.owed } }
  s3.setF Reg.LG_NMAX_NMAX s3.nMaxNow

/-- A stop of the sweep (R216): no further LOAD, contexts in SETUP return to ARMED. -/
def State.stopSweep (s : State) : State :=
  if s.bur.stopped then s
  else { s with
    bur := { s.bur with
      stopped := true
      ctx := s.bur.ctx.map (fun c => if c.2.st = .setup ∧ c.2.kind = .none then (c.1, { c.2 with st := .armed }) else c) }
    regs := setRegs [(Reg.BE_STATUS_ESTOP, 1)] s.regs }

/-- The energy stop of a re-base in BURROW (R216). -/
def State.energyStop (s : State) : State :=
  if s.mode = .burrow ∧ s.phase = .p2 ∧ s.cover.eAvail * 10 ≤ s.eFixed then s.stopSweep else s

/-- One re-base. -/
def State.rebase (s : State) : State := (s.rebaseBooks.shortCheck.doubtCheck.energyStop).ledgerGo

/-! ### Store loss (R305) -/

/-- Charger and ACC_OUT stop. -/
def State.storeOff (s : State) : State :=
  s.setFs [(Reg.ES_STATUS_CHG, if s.getF Reg.ES_STATUS_CHG = 5 then 5 else 0), (Reg.ES_STATUS_ACC_ON, 0), (Reg.ES_STATUS_BAL_ACTIVE, 0)]

/-- E_den_floor in µJ (R267). -/
def State.denFloor (s : State) : Nat := (1000 + s.margin) * 500

end Sys2Proof.Machine
end

