-- ==== Sys2Proof/Machine/Seq.lean ====
section
/-! DEFINITION. Power domains, the rail table and its sequences, the ways out of each mode (02, 10, 11): what a sequence's end, a VIN
loss, a DEN drop, the P5 decision and a critical fault do. -/

namespace Sys2Proof.Machine

/-! ### The rail table (R349 to R351) -/

/-- Indices that hold an entry, in ascending order. -/
def railEntries : List Nat := List.range 12 ++ (List.range 16).map (· + 16)

def State.entSt (s : State) (n : Nat) : Nat := s.getF (Reg.SQ_ENT_ST_STATE n)
def State.entEn (s : State) (n : Nat) : Bool := railEntries.contains n && s.getB (Reg.SQ_ENT_UP_EN n)

/-- The parents of an entry: bytes with bit 7 set. -/
def State.parents (s : State) (n : Nat) : List Nat :=
  (List.range 4).filterMap (fun i =>
    let b := s.getF (Reg.SQ_ENT_PAR_PARENTS n) / 256 ^ i % 256
    if 128 ≤ b then some (b % 32) else none)

/-- RETRY in force. -/
def State.retryOf (s : State) (n : Nat) : Nat := if s.critical n then 0 else s.getF (Reg.SQ_ENT_UP_RETRY n)

/-- Enabled entries that name an entry as parent. -/
def State.dependants (s : State) (n : Nat) : List Nat := railEntries.filter (fun m => s.entEn m && (s.parents m).contains n)

/-- Close a set of entries under a step relation. -/
def closure (next : Nat → List Nat) : Nat → List Nat → List Nat
  | 0, l => l
  | k + 1, l =>
    let m := l.foldl (fun acc n => (next n).foldl (fun a m => sadd m a) acc) l
    if m.length = l.length then l else closure next k m

/-- Entries that depend on one, directly or not. -/
def State.allDependants (s : State) (n : Nat) : List Nat := closure s.dependants 28 (s.dependants n)

/-- The entry is broken (R351). -/
def State.broken (s : State) (n : Nat) : Bool :=
  s.entEn n && ((s.parents n).any (fun p => p == n || !railEntries.contains p || !s.entEn p)
    || (s.allDependants n).contains n || (decide (24 ≤ n) && s.getF Reg.SQ_SPMI_ROLE != 1))

/-- The entry is switched on. -/
def entLive (st : Nat) : Bool := st == 2 || st == 3

/-- The entry's output is off for the purpose of its parents (R357, R360). -/
def entDown (st : Nat) : Bool := st != 2 && st != 3 && st != 6

/-- An own output: it has PS_ registers. -/
def ownOut (n : Nat) : Bool := decide (n < 24)

/-- Set an entry's state with its ON and PG bits. -/
def State.setEnt (s : State) (n st : Nat) : State :=
  if ownOut n then
    s.setFs [(Reg.SQ_ENT_ST_STATE n, st), (Reg.PS_SET_ON n, b2n (entLive st)), (Reg.PS_SET_PG n, b2n (st == 3))]
  else s.setFs [(Reg.SQ_ENT_ST_STATE n, st)]

/-- Set several entries. -/
def State.setEnts (s : State) (l : List Nat) (st : Nat) : State := l.foldl (fun a n => a.setEnt n st) s

/-! ### Power domains (R331, R332, Table 10-2) -/

/-- The supplies of a domain. -/
def domSupplies (k : Nat) : List Nat :=
  if k = 0 ∨ k = 8 then [0, 7]
  else if k = 1 ∨ k = 2 ∨ k = 5 then [0]
  else if k = 3 ∨ k = 4 then [0, 2, 7]
  else if k = 6 ∨ k = 7 then [0, 6]
  else if k = 12 then [16]
  else if k = 13 then [9, 16]
  else if k = 9 then []
  else [9]

/-- SPMI commands wait or are not acknowledged, or an external entry is still on or going off: PD14 stays on for them (R357, R359). -/
def State.spmiBusy (s : State) : Bool :=
  !s.spmi.queue.isEmpty || !s.spmi.out.isEmpty || (List.range 8).any (fun i => [2, 3, 6].contains (s.entSt (24 + i)))

/-- Shed steps begun in this burrow: 0 none, else one more than BE_STATUS.SHED. -/
def State.shedNo (s : State) : Nat := if s.getF Reg.BE_STATUS_SHED = 15 then 0 else s.getF Reg.BE_STATUS_SHED + 1

/-- The mode and the shed step let the domain be powered. -/
def State.domWanted (s : State) (k : Nat) : Bool :=
  if k = 9 then true
  else if !s.hasPd k then false
  else if s.getB Reg.PS_STATUS_VSYS_LOSS && decide (12 ≤ k) then false
  else match s.mode with
    | .off => k == 14 && s.spmi.awake
    | .den => k == 10 || k == 12 || k == 13 || (k == 11 && !s.keep.jq.isEmpty) || (k == 14 && (s.spmi.awake || s.spmiBusy))
    | .burrow =>
      let sh := s.shedNo
      if k = 8 then decide (sh = 0)
      else if k = 0 then decide (sh = 0) || (decide (sh = 1) && s.getB Reg.BE_CFG_LINK_HOLD)
      else if k ≤ 7 then decide (sh < 3)
      else if sh < 4 then true
      else (k == 14 && s.spmiBusy) || (s.rail.downTo == 2 && (k == 10 || k == 12 || k == 13))
    | _ => true

/-- A domain's state: powered while it is wanted and every supply has power-good; PD2 is in retention during an
LRST, until the lamp logic is released (R332). -/
def State.domState (s : State) (k : Nat) : Nat :=
  if !s.domWanted k || !(domSupplies k).all (fun n => s.entSt n == 3) then 0
  else if k = 2 ∧ s.getB Reg.MD_STATUS_LRST_ACT ∧ s.getB Reg.DC_STATUS_HOLD ∧ ¬ s.bur.released then 2
  else if k = 14 ∧ !s.rail.vioOk then 0
  else 1

/-- What the lamp die loses with its power or its reset: class LRST and LINK, the queues, contexts, books and buffers; the DRAM's cells
and poison bitmap are the DRAM's own. -/
def State.lampLost (s : State) : State :=
  let s1 := s.linkReset.resetClass .lrst
  { s1 with
    host := { s1.host with ingress := [], stage := none, staged := [], reads := [], pacer := 32 * 256, tx := [] }
    cover := { s1.cover with
      ledger := [], ledDflt := .clean, mirrorPend := [], nDirty := 0, eDebt := 0, doubtWriter := false, calCount := 0,
      calCtx := 0, target := none }
    dram := { s1.dram with wbuf := [], sub := [], lfsr := [], trained := false, rdOut := [], scrubAsked := [], wback := [] }
    bur := { s1.bur with ctx := [], handoff := [], voidExtra := [] }
    cxl := { s1.cxl with capEdebt := 0 }
    spmiP := { s1.spmiP with capEdebt := 0 }
    nand := { s1.nand with
      tcache := [], eraseQ := [], erasing := [], superseded := [], orphans := [], refreshQ := [], relocQ := [], changed := [], unread := [], ckpt := none, pErased := 0, metaErased := 0, capOn := false }
    regs := setRegs [(Reg.HL_CREDIT_HELD_LAST, if s.mode = .burrow then s.heldWrites.length + s.twin.mstaged.length
      else s.getF Reg.HL_CREDIT_HELD_LAST)] s1.regs }

/-- What the keeper loses with PD10: it stops, the ring is gone, waiting journal records are gone (R470, R477). -/
def State.keeperLost (s : State) : State :=
  { s with
    keep := { s.keep with up := false, jq := [] }
    ev := { s.ev with ring := [], reload := true, clearing := none }
    regs := setRegs [(Reg.EV_STATUS_FREEZE, 0), (Reg.EV_STATUS_FRZ_MS, 0)] s.regs }

/-- Recompute PS_DOM; a domain that loses power takes its unit's state with it. Completions that were committed have been sent before PD0 is
switched off (R206). -/
def State.repower (s : State) : State :=
  let d := (List.range 16).foldl (fun n k => n + s.domState k * 4 ^ k) 0
  let t := s.setF Reg.PS_DOM_PD d
  let t1 := if s.pdState 1 != 0 && t.pdState 1 == 0 then t.lampLost
    else if s.pdState 0 != 0 && t.pdState 0 == 0 then { t.linkReset with host := { t.linkReset.host with tx := t.host.tx } } else t
  if s.pdState 10 != 0 && t.pdState 10 == 0 then t1.keeperLost else t1

/-- In BURROW, DEN and OFF a domain that waited for work to end is switched off (R268, R359). -/
def State.awayPower (s : State) : State := if s.mode = .burrow ∨ s.mode = .den ∨ s.mode = .off then s.repower else s

/-! ### DRAM and held image -/

/-- The DRAM loses its image: resets driven, supplies off, or training over it (R271, R498). -/
def State.dropDram (s : State) : State :=
  { s with
    dram := { s.dram.noPoison with cells := [], wbuf := [], trained := false }
    cover := { s.cover with mirror := [], mirrorDflt := .clean }
    bur := { s.bur with heldVer := 0, staging := [] }
    nand := { s.nand with sealTbl := [], map := [], mapDflt := noLoc, mapUnknown := [] }
    regs := setRegs [(Reg.MD_STATUS_DRAM_HELD, 0)] s.regs }

/-! ### Mode ends -/

/-- WAKE begins: what the entry sets, before the rails follow. -/
def State.wakeBase (s : State) (cause : Nat) (warm : Bool) : State :=
  let s1 := s.enterMode .wake .none
  { s1 with
    rst := { RestoreSt.reset with wakeAt := s.ms }
    bur := { BurrowSt.reset with heldVer := s.bur.heldVer, abnTimes := s.bur.abnTimes, latchClr := false }
    rail := { s1.rail with downTo := 0, rose := false, back := false, seqStart := s1.rail.tick, tries := [] }
    spmi := { s1.spmi with awake := false }
    store := { s1.store with auditDue := true }
    cover := { s1.cover with calBase := none }
    regs := setRegs ([(Reg.DT_WAKE_CAUSE, cause), (Reg.DT_WAKE_STEP, if warm then 2 else 0), (Reg.DT_WAKE_RUN_MS, 0),
      (Reg.MD_STATUS_MEDIA_READY, 0), (Reg.MD_STATUS_LOCKOUT, 0), (Reg.MD_STATUS_NOABANDON, 0), (Reg.DT_DMK_SVC_DIRTY, 0),
      (Reg.BE_STATUS_SHED, 15), (Reg.BE_STATUS_ACTIVE, 0),
      (Reg.DC_REPLAY_FAILED 0, 0), (Reg.DC_REPLAY_FAILED 1, 0), (Reg.SQ_STATUS_SEQ, 1), (Reg.SQ_STATUS_ELAPSED, 0),
      (Reg.SQ_STATUS_QUEUED, 0), (Reg.SQ_STATUS_LEFT_OFF, 0)] ++ railEntries.map (fun n => (Reg.SQ_ENT_ST_TRIES n, 0))) s1.regs }

/-- Enter WAKE. `warm`: from DEN or from P5, where the keeper runs and the boot stage restarts L1 alone,
with 250 µs soft-start (R352, R497). -/
def State.enterWake (s : State) (cause : Nat) (warm : Bool) : State :=
  (if warm then ((s.wakeBase cause warm).setEnt 17 2).setF (Reg.PS_SET_SS 17) 1 else s.wakeBase cause warm).repower

/-- A pending orderly stop records LOCKOUT 0x06 as the device reaches OFF (R384). -/
def State.pendLock (s : State) : State := if s.getB Reg.TH_STATUS_PEND && !s.lockHas 6 then s.recordLock 6 0 else s

/-- OFF begins: what the entry sets, before the domains follow. -/
def State.offBase (s : State) : State :=
  let s1 := ((s.pendLock.setEnts railEntries 0).enterMode .off .none).dropDram
  { s1 with
    rail := { s1.rail with downTo := 0, rose := false }
    bur := { s1.bur with trig := false, fenced := false, offReq := false, abn := .none }
    spmi := { s1.spmi with queue := [], out := [], awake := false }
    therm := { s1.therm with offAt := s.ms, up := [], upCnt := [], dnCnt := [], lastChange := none, tempOk := false }
    twin := { s1.twin with mstaged := [], mwait := [], switching := false, inOwn := none, inPartner := none, chgCap := none }
    regs := setRegs [(Reg.SQ_STATUS_SEQ, 0), (Reg.SQ_STATUS_QUEUED, 0), (Reg.MD_STATUS_MEDIA_READY, 0), (Reg.MD_STATUS_BRIDGE, 0),
      (Reg.MD_STATUS_LRST_ACT, 0), (Reg.MD_STATUS_LOCKOUT, b2n (s.pendLock.getF Reg.MD_LOCKOUT_ALL != 0)), (Reg.BE_STATUS_ACTIVE, 0),
      (Reg.TH_STATUS_LEVEL, 0), (Reg.TH_STATUS_PEND, 0),
      (Reg.ES_STATUS_ACC_ON, 0), (Reg.ES_STATUS_BAL_ACTIVE, 0), (Reg.ES_STATUS_AUDIT_BUSY, 0), (Reg.ES_STATUS_PATH, 0), (Reg.DC_STATUS_HOLD, 0),
      (Reg.DC_STATUS_CH0_STATE, 0), (Reg.DC_STATUS_CH1_STATE, 0), (Reg.TW_STATUS_LINK, 0), (Reg.TW_STATUS_LANES, 0), (Reg.PS_ADC_SCAN, 0),
      (Reg.ES_STATUS_CHG, if s.getF Reg.ES_STATUS_CHG = 5 then 5 else 0)] s1.regs }

/-- The device reaches OFF: every output is off, the DRAM is gone, the up states and the throttle level clear (R380), a pending orderly stop
records LOCKOUT 0x06 (R384), the LOCKOUT latch stands while a reason is recorded (R46, R62); it wakes again at once when VIN came back
during the down sequence (R68). -/
def State.reachOff (s : State) : State :=
  let s1 := s.offBase.repower
  if s.rail.rose && s.vinRet && s.getB Reg.MD_CFG_WAKE_ON_RET && s.pendLock.getF Reg.MD_LOCKOUT_ALL == 0 then s1.enterWake 1 false else s1

/-- Enter DEN (R267, R268): the hold path owns the DRAM lines. -/
def State.enterDen (s : State) : State :=
  let s1 := s.enterMode .den .none
  ({ s1 with
    rail := { s1.rail with downTo := 0 }
    spmi := { s1.spmi with awake := false }
    bur := { s1.bur with trig := false, fenced := false, abn := .none }
    regs := setRegs [(Reg.SQ_STATUS_SEQ, 0), (Reg.SQ_STATUS_QUEUED, 0), (Reg.DC_STATUS_HOLD, 1), (Reg.BE_STATUS_ACTIVE, 0),
      (Reg.PS_ADC_SCAN, 2)] s1.regs }).repower

/-! ### Commands to slaves (R363, R368, R369) -/

/-- Queue a command to a slave (R363, R368). -/
def State.spmiPut (s : State) (m op target arg cls : Nat) : State :=
  let nx := s.getF (Reg.SQ_SLVSEQ_NEXT m)
  { s with
    spmi := { s.spmi with queue := s.spmi.queue ++ [⟨m, nx, op, target, arg, cls, 0, s.getF Reg.SQ_SPMI_MID⟩] }
    regs := setRegs [(Reg.SQ_SLVSEQ_NEXT m, nx + 1)] s.regs }

/-- Slaves that are ready. -/
def State.slavesReady (s : State) : List Nat :=
  if s.getF Reg.SQ_SPMI_ROLE = 1 then (List.range 8).filter (fun m => s.getF (Reg.SQ_SLV_STATE m) == 2) else []

/-- Send one command to every ready slave (R369). -/
def State.spmiAll (s : State) (op arg cls : Nat) : State := s.slavesReady.foldl (fun a m => a.spmiPut m op 0xFF arg cls) s

/-- The slave and rail of an external entry. -/
def State.xrSlave (s : State) (n : Nat) : Nat := s.getF (Reg.SQ_XR_SLAVE (n - 24))
def State.xrRail (s : State) (n : Nat) : Nat := s.getF (Reg.SQ_XR_RAIL (n - 24))

/-! ### Sequences (R353 to R361) -/

/-- Written SQ_ fields come into force at the start of a sequence, SQ_SPMI at the next WAKE only (R375). -/
def State.seqForce (s : State) : State := s.comeInto (fun k => keyBlock k == 10 && keyOff k != 0xA008)

/-- The outputs that DEN keeps (R268, R358). -/
def denRails : List Nat := [1, 2, 3, 9, 16]

/-- SHED in force: 0 to 3, or none. -/
def State.shedOf (s : State) (n : Nat) : Nat :=
  if s.getF (Reg.SQ_ENT_DN_SHED n) ≤ 3 then s.getF (Reg.SQ_ENT_DN_SHED n) else 15

/-- Entries that the sequence in progress turns off. -/
def State.goers (s : State) : List Nat :=
  let den := s.rail.downTo = 2
  match s.getF Reg.SQ_STATUS_SEQ with
  | 3 => railEntries.filter (fun n => s.shedOf n == s.getF Reg.SQ_STATUS_STEP
      && !(den && denRails.contains n && s.getF Reg.SQ_STATUS_STEP == 3))
  | 4 => railEntries.filter (fun n => !(den && denRails.contains n))
  | _ => []

/-- A local sequence of one entry still waits or ramps. -/
def State.upBusy (s : State) : Bool := railEntries.any (fun n => [1, 2, 4].contains (s.entSt n))

/-- Step 7 begins: the controllers own the DRAM's lines and train every populated channel (R179). -/
def State.trainStart (s : State) : State :=
  s.setFs [(Reg.DT_WAKE_STEP, 6), (Reg.DC_STATUS_HOLD, 0), (Reg.DC_STATUS_CH0_STATE, 1), (Reg.DC_STATUS_CH1_STATE, if s.channels = 2 then 1 else 0)]

/-- Up sequences in WAKE end step 6 of Table 16-5. -/
def State.upEnd (s : State) : State :=
  let s1 := s.setFs [(Reg.SQ_STATUS_SEQ, 0)]
  if s.mode = .wake then s1.trainStart else s1

/-- Begin a down sequence toward a target (R359); a VIN return that a shed step before it has seen stays remembered (R68). At LOCKOUT every ready
slave is sent SAFE_ALL (R369). -/
def State.startDown (s : State) (target : Nat) : State :=
  let s := s.seqForce
  let s1 := s.setFs [(Reg.SQ_STATUS_SEQ, 4), (Reg.SQ_STATUS_ELAPSED, 0), (Reg.SQ_STATUS_QUEUED, 0), (Reg.ES_STATUS_ACC_ON, 0),
    (Reg.ES_STATUS_CHG, if s.getF Reg.ES_STATUS_CHG = 5 then 5 else 0)]
  let waiting := railEntries.filter (fun n => s.entSt n == 1 || s.entSt n == 4)
  let t := ({ s1 with rail := { s1.rail with downTo := target, seqStart := s1.rail.tick } }).setEnts waiting 0
  if target ≠ 2 ∧ (s.getF Reg.MD_LOCKOUT_ALL ≠ 0 ∨ s.getB Reg.TH_STATUS_PEND) ∧ ¬ s.spmi.queue.any (fun q => q.opcode == 4) then t.spmiAll 4 0 1 else t

/-- Shed steps 0 to 2 still run or wait. -/
def State.stepsBusy (s : State) : Bool := s.getF Reg.SQ_STATUS_SEQ == 3 || s.getF Reg.SQ_STATUS_QUEUED % 8 != 0

/-- The P5 decision (Table 2-2, R222, R267): OFF for a LOCKOUT cause or a request, WAKE with VIN, DEN with a held image and the floor, else
OFF. Shed step 3 is queued for OFF and DEN; WAKE waits for the shed steps in progress (R358). -/
def State.p5Decide (s : State) : State :=
  let off := s.getF Reg.MD_LOCKOUT_ALL != 0 || s.bur.offReq
  let q := fun (t : Nat) (a : State) => { (a.setF Reg.SQ_STATUS_QUEUED (a.getF Reg.SQ_STATUS_QUEUED % 8 + 8)) with
    rail := { a.rail with downTo := t } }
  if off then q 1 s
  else if s.vinRet then (if s.stepsBusy then { s with rail := { s.rail with downTo := 4 } } else s.enterWake 1 true)
  else if s.getB Reg.MD_CFG_DEN_EN && s.getB Reg.MD_STATUS_DRAM_HELD && decide (s.denFloor ≤ s.cover.eAvail) then q 2 s
  else q 1 s

/-- P5 begins: held writes and reads are discarded (R25), the abandon window empties (R61), also when nothing was committed (DESIGN CHOICE,
log entry 94), the energy spent is recorded. -/
def State.p5 (s : State) : State :=
  ({ s with
    phase := .p5
    host := { s.host with ingress := [], staged := [], stage := none, reads := [] }
    twin := { s.twin with mstaged := [], mwait := [] }
    bur := { s.bur with abnTimes := [] }
    regs := setRegs [(Reg.MD_ABANDON_FORCE_NEXT, 0),
      (Reg.BE_ENERGY_E_SPENT, min 0xFFFF ((s.bur.eFence - s.cover.eAvail) / 10000))] s.regs } : State).p5Decide

/-- The up sequence of an abandon (R59): entries that its shed steps turned off, or that failed down there, rise again. -/
def State.abnRise (s : State) : State :=
  let s := s.seqForce
  let s0 := s.setFs [(Reg.SQ_STATUS_SEQ, 2), (Reg.SQ_STATUS_ELAPSED, 0), (Reg.BE_STATUS_SHED, 15), (Reg.SQ_STATUS_QUEUED, 0)]
  let s1 : State := { s0 with rail := { s0.rail with seqStart := s0.rail.tick, tries := [], downTo := 0 } }
  let s2 := railEntries.foldl (fun (a : State) n =>
    if a.entEn n && [0, 6, 7].contains (a.entSt n) then a.setEnt n (if s.broken n then 8 else 1) else a) s1
  s2.repower

/-- An entry that the sequence in progress turns off is still on. -/
def State.goersUp (s : State) : Bool := s.goers.any (fun n => !entDown (s.entSt n))

/-- A stop that forbids DEN is pending: a LOCKOUT reason is recorded, or a thermal orderly stop stands (Table 2-2, R384). -/
def State.denBarred (s : State) : Bool := s.getF Reg.MD_LOCKOUT_ALL != 0 || s.getB Reg.TH_STATUS_PEND

/-- The way to DEN ends in OFF instead: a thermal stop acts as a drop (R271, R384, log entry 44), a LOCKOUT reason takes P5 to OFF (R65). -/
def State.denTurned (s : State) : State :=
  if s.getB Reg.TH_STATUS_PEND then ((s.jNow (.denDrop s.bur.heldVer 3)).dropDram).recordLock 6 0 else s

/-- A down sequence from here ends at once when nothing is on. -/
def State.downAgain (s : State) : State :=
  let t := s.startDown 1
  if t.goersUp then t else t.reachOff

/-- A down sequence has turned its outputs off: DEN or OFF (R358, R359); DEN wakes at once when the debounce of a VIN return has ended on the
way (Table 2-2). -/
def State.downLand (s : State) : State :=
  if s.rail.downTo ≠ 2 then s.reachOff
  else if s.denBarred then s.denTurned.downAgain
  else if s.rail.back && s.vinRet then s.enterDen.enterWake 4 true
  else s.enterDen

/-- Shed step 3 has ended: the outputs without a shed step go in a down sequence toward its target; DEN keeps its own (R268, R358, R359). -/
def State.afterShed3 (s : State) : State :=
  let t := s.startDown (if s.rail.downTo = 2 then 2 else 1)
  if t.goersUp then t else t.downLand

/-- End the sequence in progress when nothing of it is left to do. Without VIO_EXT the boot stage ends 10 ms on, with L1 off (R352). -/
def State.seqCheck (s : State) : State :=
  match s.getF Reg.SQ_STATUS_SEQ with
  | 1 => if s.entSt 9 == 3 && s.entSt 16 == 3 && (s.entSt 17 == 3 || (!s.rail.vioOk && decide (1000 ≤ s.getF Reg.SQ_STATUS_ELAPSED))) then
      s.setFs [(Reg.SQ_STATUS_SEQ, 0), (Reg.DT_WAKE_STEP, max 1 (s.getF Reg.DT_WAKE_STEP))] else s
  | 2 => if s.upBusy then s else s.upEnd
  | 3 => if s.goersUp then s
    else if s.getF Reg.SQ_STATUS_STEP = 3 then s.afterShed3
    else
      let t := s.setFs [(Reg.SQ_STATUS_SEQ, 0)]
      if t.stepsBusy then t
      else if t.rail.downTo = 4 then t.p5Decide
      else if t.rail.downTo = 5 then (let u := t.abnRise; if u.upBusy then u else u.upEnd)
      else t
  | 4 => if s.goersUp then s else s.downLand
  | _ => s

/-- A down sequence from now on; with nothing on it ends at once. -/
def State.goDown (s : State) (target : Nat) : State := (s.startDown target).seqCheck

/-- Switch an entry on: an own output is enabled and its latched fault ends; an external one is commanded (R337, R353, R363). Written SS
and COMP, and a VSET written while the fault was latched, come into force (R347, R348). -/
def State.switchOn (s : State) (n : Nat) : State :=
  let s := s.comeInto (fun k => k == (Reg.PS_SET_SS n).key || k == (Reg.PS_SET_COMP n).key || k == (Reg.PS_SET_VSET n).key)
  let s1 := s.setEnt n 2
  let s2 : State := { s1 with rail := { s1.rail with since := mset n s.rail.tick s.rail.since, latched := sdel n s.rail.latched } }
  if ownOut n then s2 else s2.spmiPut (s.xrSlave n) 1 (s.xrRail n) (s.getF (Reg.SQ_XR_VSET_MV (n - 24))) 2

/-- The external entry's slave is lost (R367). -/
def State.slaveGone (s : State) (n : Nat) : Bool := !ownOut n && s.getF (Reg.SQ_SLV_STATE (s.xrSlave n)) == 3

/-- Switch an entry off: an own FLOAT output is off at once (R357); an external one is commanded, and fails down when its slave is lost
(R360, R367). -/
def State.switchOff (s : State) (n : Nat) : State :=
  if s.slaveGone n then (s.setEnt n 7).raise .keeper 0x24 .error (n + 256 * 5) else
  let float := ownOut n && s.getB (Reg.PS_SET_SAFE n) && !s.critical n && s.dmk.inForce
  let s1 := s.setEnt n (if float then 0 else 6)
  let s2 : State := { s1 with rail := { s1.rail with since := mset n s.rail.tick s.rail.since } }
  if ownOut n then s2
  else s2.spmiPut (s.xrSlave n) 2 (s.xrRail n) 0
    (if s.getF Reg.SQ_STATUS_SEQ = 3 ∨ s.getF Reg.SQ_STATUS_SEQ = 4 then 1 else 2)

/-- Every parent has power-good. -/
def State.parentsUp (s : State) (n : Nat) : Bool := (s.parents n).all (fun p => s.entSt p == 3)

/-- A LOCKOUT of the daymark read, 0x01 to 0x03, stands: the way down of R499. -/
def State.dmkDown (s : State) : Bool := s.getF Reg.MD_LOCKOUT_ALL % 8 != 0

/-- L1, L0 and B9 go in that order, without slots or shed steps of their own, B9 after every other output (R499). -/
def State.bootTurn (s : State) (n : Nat) : Bool :=
  if n = 16 then entDown (s.entSt 17)
  else if n = 9 then (s.goers.filter (fun m => m != 9)).all (fun m => entDown (s.entSt m))
  else true

/-- An entry may go off at this tick (R357, R359, R499): its slot has come and every dependant is off; entries without a shed step go
last, and B9 waits for the SPMI queue. -/
def State.mayGo (s : State) (n : Nat) : Bool :=
  let boot := s.dmkDown && [9, 16, 17].contains n
  let slot := s.rail.downTo = 3 || boot || decide (s.rail.seqStart + s.getF (Reg.SQ_ENT_DN_DN_SLOT n) ≤ s.rail.tick)
  let last := boot || s.shedOf n != 15 || s.getF Reg.SQ_STATUS_SEQ != 4
    || (s.goers.filter (fun m => s.shedOf m != 15)).all (fun m => entDown (s.entSt m))
  let bus := n != 9 || (s.spmi.queue.isEmpty && s.spmi.out.isEmpty)
  entLive (s.entSt n) && slot && (s.dependants n).all (fun m => entDown (s.entSt m)) && last && (!boot || s.bootTurn n) && bus

/-- Start an up sequence (R351, R353): enabled entries without power-good wait for their slot; broken ones have failed. -/
def State.startUp (s : State) : State :=
  let s := s.seqForce
  let s0 := s.setFs [(Reg.SQ_STATUS_SEQ, 2), (Reg.SQ_STATUS_ELAPSED, 0), (Reg.SQ_STATUS_LEFT_OFF, 0)]
  let s1 : State := { s0 with rail := { s0.rail with seqStart := s0.rail.tick, tries := [] } }
  railEntries.foldl (fun a n => if a.entEn n && a.entSt n != 3 then a.setEnt n (if s.broken n then 8 else 1) else a) s1

/-! ### Ways out of a mode -/

/-- VIN loss in WAKE, or in RESTORE before media ready (Table 2-2): DEN with a held DRAM and the floor, else OFF. A pending orderly stop acts at
once as in DEN: the DRAM is dropped under R271 (R384). -/
def State.vinLost (s : State) : State :=
  if s.getF Reg.SQ_STATUS_SEQ = 4 then s
  else if s.getB Reg.MD_STATUS_DRAM_HELD && decide (s.denFloor ≤ s.cover.eAvail) then
    (if s.getB Reg.TH_STATUS_PEND then (((s.jNow (.denDrop s.bur.heldVer 3)).dropDram).recordLock 6 0).goDown 1 else s.goDown 2)
  else s.goDown 1

/-- A drop in DEN (R271): DEN_DROP with the held version, DRAM_HELD cleared, then down to OFF. Causes: 0 energy, 1 store, 2 rail, 3 thermal.
T_ORDERLY during the way down of an earlier drop adds its reason (R65). -/
def State.denDrop (s : State) (cause : Nat) : State :=
  if s.mode ≠ .den then s
  else if s.getF Reg.SQ_STATUS_SEQ = 4 then (if cause = 3 then s.recordLock 6 0 else s)
  else
    let s1 := (s.jNow (.denDrop s.bur.heldVer cause)).dropDram
    (if cause = 3 then s1.recordLock 6 0 else s1).goDown 1

/-! ### Faults (R336, R354, R355, Table 6-5, Table 10-3) -/

/-- Record a fault of an own output: PS_FLTBITS, and PS_FIRST when it is empty (R337). -/
def State.markFault (s : State) (n kind : Nat) : State :=
  let first := s.getF Reg.PS_FIRST_KIND = 0
  s.setFs [(Reg.PS_FLTBITS_FLT, s.getF Reg.PS_FLTBITS_FLT ||| 2 ^ n),
    (Reg.PS_FIRST_KIND, if first then kind else s.getF Reg.PS_FIRST_KIND),
    (Reg.PS_FIRST_RAIL, if first then n else s.getF Reg.PS_FIRST_RAIL),
    (Reg.PS_FIRST_MODE, if first then s.mode.code else s.getF Reg.PS_FIRST_MODE)]

/-- Granules of the contexts of a lost NAND group go to the handoff queue; the contexts halt (Table 6-5). -/
def State.haltGroup (s : State) (p : Nat → Bool) : State :=
  let hit := s.bur.ctx.filter (fun c => c.2.st != .idle && p (locLun c.2.page))
  let gs := (hit.filter (fun c => c.2.st.inFlight && c.2.kind == .burrow)).map (·.2.gran)
  let backs := hit.filter (fun c => c.2.st.inFlight && c.2.kind == .trickle)
  let s1 : State := backs.foldl (fun (a : State) (c : Nat × Ctx) => (a.trickleBack c.2.gran c.2.age).handoff c.2.gran) s
  (({ s1 with bur := { s1.bur with
      handoff := s1.bur.handoff ++ gs
      ctx := s1.bur.ctx.map (fun (c : Nat × Ctx) => if c.2.st != .idle && p (locLun c.2.page) then (c.1, { c.2 with st := .halt, kind := .none }) else c) } } : State).setF
        Reg.BE_TAKEN_TAKEN (s.getF Reg.BE_TAKEN_TAKEN - gs.length)).recount

/-- Record LOST every granule whose DRAM read had not finished 2 µs before, even if its page lands, and take no more (Table 6-5). B1 to B3 feed
every populated channel: R225 leaves the channels to the rail table, whose entries have no field for them (DESIGN CHOICE, log entry 124). -/
def State.loseChannels (s : State) : State :=
  let busy := s.bur.ctx.filter (fun c => c.2.st.inFlight && c.2.kind == .burrow && (s.ctxReading c.1 || c.2.waits || decide (s.dram.now < c.2.readAt + 2000)))
  let s1 := busy.foldl (fun (a : State) (c : Nat × Ctx) =>
    if c.2.loading then ((a.dropCtxReads c.1).takenLost c.2.gran).keepPage c.1
    else (a.takenLost c.2.gran).setCtx c.1 { c.2 with kind := .none }) s
  { s1 with bur := { s1.bur with dramBad := (List.range s.channels).foldl (fun l c => sadd c l) s.bur.dramBad } }

/-- The lamp die stops in a burrow (B0, B7): no manifest, no commit; the P5 decision follows with shed steps 1 and 2 still to run. -/
def State.lampStops (s : State) : State :=
  let s1 : State := { s with bur := { s.bur with lampDead := true, noManifest := true, stopped := true, dramBad := [0, 1] } }
  let k := s.shedNo
  let bits := (if k ≤ 1 then 2 else 0) + (if k ≤ 2 then 4 else 0)
  (s1.setF Reg.SQ_STATUS_QUEUED (s1.getF Reg.SQ_STATUS_QUEUED ||| bits)).p5

/-- What a fault of an output does to the burrow's work (Table 6-5). -/
def State.burrowRail (s : State) (n : Nat) : State :=
  if s.phase = .p4 ∧ (n = 0 ∨ n = 7) then s.lampStops
  else if s.phase = .p5 ∨ s.phase = .p4 then (if n = 1 ∨ n = 2 ∨ n = 3 then { s with bur := { s.bur with dramBad := [0, 1] } } else s)
  else if n = 0 ∨ n = 7 then s.lampStops
  else if n = 1 ∨ n = 2 ∨ n = 3 then s.loseChannels
  else if n = 6 then
    { (s.haltGroup (fun _ => true)).stopSweep with bur := { (s.haltGroup (fun _ => true)).stopSweep.bur with noManifest := true } }
  else if n = 4 then s.haltGroup (fun l => decide (l < 32))
  else if n = 5 then s.haltGroup (fun l => decide (32 ≤ l))
  else s

/-- What depends on an output that is off or faulted goes to its safe state at once (R346, R360); in BURROW that costs what Table 6-5 says. -/
def State.shedDeps (s : State) (n : Nat) : State :=
  let deps := s.allDependants n
  let on := deps.filter (fun m => entLive (s.entSt m))
  let t := ((on.foldl (fun (a : State) m => a.switchOff m) s).setEnts (deps.filter (fun m => s.entSt m == 1 || s.entSt m == 4)) 0).repower.recount
  if s.mode = .burrow then on.foldl State.burrowRail t else t

/-- A critical output faults or fails to come up (Table 10-3), and its dependants are shed. An abandon whose up sequence fails ends, and a
burrow with cause RAIL starts (R354). -/
def State.critFault (s : State) (n : Nat) : State :=
  match s.mode with
  | .wake => (s.recordLock 4 n).goDown 3
  | .run => ((s.shedDeps n).recordLock 5 n).trigger .rail
  | .restore => if s.mediaReady then ((s.shedDeps n).recordLock 5 n).trigger .rail else (s.recordLock 5 n).goDown 3
  | .burrow =>
    if s.bur.abn = .powering then
      ({ (s.recordLock 5 n) with bur := { (s.recordLock 5 n).bur with abn := .none, trig := false } }.setFs
        [(Reg.BE_STATUS_ABANDONING, 0), (Reg.SQ_STATUS_SEQ, 0)]).startBurrow .rail
    else (((s.shedDeps n).recordLock 5 n).trigger .rail).burrowRail n
  | .den => if denRails.contains n then s.denDrop 2 else s
  | .off => s

/-- A failure to come up as the registers keep it: PS_FLTBITS and PS_FIRST for an own output, TRIES (R354). -/
def State.countFail (s : State) (n kind : Nat) : State :=
  let s1 := if ownOut n then s.markFault n kind else s
  ({ s1 with rail := { s1.rail with tries := mset n (mget 0 s.rail.tries n + 1) s1.rail.tries } }).addSat (Reg.SQ_ENT_ST_TRIES n) 1

/-- The critical dependants of a local entry that is left off or faulted have failed too, each under its own index; the mode's answer is the
first one's (R355). -/
def State.critDeps (s : State) (l : List Nat) (kind : Nat) : State :=
  let t := (l.foldl (fun (a : State) m => (a.countFail m kind).setEnt m 5) s).repower
  match l with
  | m :: _ => t.critFault m
  | [] => s

/-- A local entry is left off with everything that depends on it; a critical dependant counts as failed under its own index (R354, R355). -/
def State.leaveOff (s : State) (n : Nat) : State :=
  let deps := s.allDependants n
  let loc := deps.filter (fun m => !s.critical m)
  (((s.setEnts (n :: loc) 5).setF Reg.SQ_STATUS_LEFT_OFF 1).repower.recount).critDeps (deps.filter s.critical) 4

/-- An entry fails to come up (R354); `final`: no retry is left whatever RETRY says (a broken entry, a lost slave, BURROW). -/
def State.failUp (s : State) (n : Nat) (final : Bool) : State :=
  let s2 := s.countFail n 4
  let tr := mget 0 s.rail.tries n + 1
  if s.critical n then (s2.setEnt n 5).repower.critFault n
  else
    let s3 := s2.raise .keeper 0x24 .error (n + 256 * 4)
    if final || s.mode == .burrow || decide (s.retryOf n < tr) then s3.leaveOff n
    else (s3.setEnt n 4).repower

/-- An entry fails down (R360): ERROR event, safe state, its dependants go off at once. -/
def State.failDown (s : State) (n : Nat) : State :=
  let deps := (s.allDependants n).filter (fun m => entLive (s.entSt m))
  ((deps.foldl (fun a m => a.switchOff m) ((s.setEnt n 7).raise .keeper 0x24 .error (n + 256 * 5))).repower).seqCheck

/-- An entry's turn to go on has come: with its slave lost it fails to come up without retry (R367). -/
def State.riseEnt (s : State) (n : Nat) : State := if s.slaveGone n then s.failUp n true else s.switchOn n

/-- Switch off every entry of a sequence whose turn has come. -/
def State.goOffNow (s : State) : State := (s.goers.filter s.mayGo).foldl (fun a n => a.switchOff n) s

/-- What the failures of an up sequence's broken entries do; they stand as broken (R351, R353). -/
def State.brokenFail (s : State) : State :=
  let l := railEntries.filter s.broken
  let t := l.foldl (fun (a : State) n => a.failUp n true) s
  t.setEnts (l.filter (fun n => t.entSt n == 5)) 8

/-- An up sequence, with what its broken entries' failures do. -/
def State.beginUp (s : State) : State := s.startUp.brokenFail

end Sys2Proof.Machine
end

