-- ==== Sys2Proof/Machine/Sequencer.lean ====
section
/-! DEFINITION. The sequencer's ticks and entries, and SPMI (11). -/

namespace Sys2Proof.Machine

/-! ### Faults of local outputs (R336) -/

/-- No NAND group is powered: B6 feeds both, B4 the first, B5 the second. -/
def State.groupsGone (s : State) : Bool := s.railBad 6 || (s.railBad 4 && (s.nandCh == 4 || s.railBad 5))

/-- The CRITICAL event of the loss of the last NAND group in RUN (R336). -/
def State.nandLost (s : State) (before : Bool) : State :=
  s.raiseIf (s.mode == .run && s.groupsGone && !before) .keeper 0x33 .critical 0

/-- A local entry faults (Table 10-3): it and its dependants go to their safe states; outside BURROW its entry retries as RETRY allows,
else it is left off. A critical dependant counts as faulted (R355). -/
def State.localFault (s : State) (n kind : Nat) : State :=
  let s1 := s.raise .keeper 0x24 .error (n + 256 * kind)
  (if s.mode = .burrow then (s1.leaveOff n).burrowRail n
    else if s.retryOf n = 0 then s1.leaveOff n
    else
      let deps := s1.allDependants n
      let s3 := ((s1.setEnt n 4).setEnts (deps.filter (fun m => !s1.critical m && entLive (s1.entSt m))) 1).repower.recount
      s3.critDeps (deps.filter s1.critical) kind).nandLost s.groupsGone

/-! ### Ticks and entries -/

/-- UP_SLOT in force: ignored for the boot entries (R352). -/
def State.upSlot (s : State) (n : Nat) : Nat :=
  if n = 9 ∨ n = 16 ∨ n = 17 then 0 else s.getF (Reg.SQ_ENT_UP_UP_SLOT n)

/-- A waiting entry's slot has come and its parents have power-good (R353). -/
def State.mayRise (s : State) (n : Nat) : Bool :=
  s.entSt n == 1 && decide (s.rail.seqStart + s.upSlot n ≤ s.rail.tick) && s.parentsUp n

/-- The tick counter moves on to the next tick. -/
def State.tickOn (s : State) : State := { s with rail := { s.rail with tick := s.rail.tick + 1 } }

/-- SEQUENCER_TICK: a 10 µs tick, the first of a sequence being at its start. Due entries switch on in ascending order, or those of a shed
step or down sequence go off (R353, R357, R359). -/
def execSequencerTick (s : State) : Host.Outcome State Fault Refusal :=
  .next (
    let seq := s.getF Reg.SQ_STATUS_SEQ
    let s1 : State := { s with
      regs := if seq = 0 then s.regs else setRegs [(Reg.SQ_STATUS_ELAPSED, min 0xFFFF (s.getF Reg.SQ_STATUS_ELAPSED + 1))] s.regs }
    if seq = 3 ∨ seq = 4 then s1.goOffNow.tickOn.repower.seqCheck
    else ((railEntries.filter s1.mayRise).foldl (fun (a : State) n => a.riseEnt n) s1).tickOn.repower.seqCheck)

/-- An entry has power-good: its domains can come up, its pages return to the reserve, its sequence may end. -/
def State.gotPg (s : State) (n : Nat) : State :=
  let s1 := (s.setEnt n 3).repower
  let s2 := if n = 4 ∨ n = 5 ∨ n = 6 then (s1.recount.reserveBack).wtTry else s1
  if s.getF Reg.SQ_STATUS_SEQ = 1 ∧ n = 16 ∧ s.rail.vioOk ∧ s.entSt 17 = 0 then s2.switchOn 17 else s2.seqCheck

/-- ENTRY_POWER_GOOD: an own output that ramps has stayed in its window (R333). -/
def execEntryPowerGood (n : Nat) (s : State) : Host.Outcome State Fault Refusal :=
  .next (if ownOut n && s.entSt n == 2 then s.gotPg n else s)

/-- ENTRY_UP_TIMEOUT: no power-good within UP_TMO (R354). -/
def execEntryUpTimeout (n : Nat) (s : State) : Host.Outcome State Fault Refusal :=
  .next (if s.entSt n = 2 then ((s.failUp n false).nandLost s.groupsGone).seqCheck else s)

/-- ENTRY_RETRY: RETRY_MS after its failure a local entry is switched on again, once its parents have power-good (R354). -/
def execEntryRetry (n : Nat) (s : State) : Host.Outcome State Fault Refusal :=
  .next (if s.entSt n = 4 ∧ s.mode ≠ .burrow then (if s.parentsUp n then s.riseEnt n else s.setEnt n 1) else s)

/-- ENTRY_OFF: a switched-off entry is off; its parents may follow (R357). -/
def execEntryOff (n : Nat) (s : State) : Host.Outcome State Fault Refusal :=
  .next (if s.entSt n = 6 then ((s.setEnt n 0).repower).seqCheck else s)

/-- ENTRY_DOWN_TIMEOUT: an entry is not off within DN_TMO (R360). -/
def execEntryDownTimeout (n : Nat) (s : State) : Host.Outcome State Fault Refusal :=
  .next (if s.entSt n = 6 then s.failDown n else s)

/-! ### SPMI as master (R363 to R369) -/

/-- The bus works: role master and PD14 on. -/
def State.spmiMaster (s : State) : Bool := s.getF Reg.SQ_SPMI_ROLE == 1 && s.pd 14

/-- The first slave from one on, cyclically, that a test accepts. -/
def rotate (n start : Nat) (p : Nat → Bool) : Option Nat := (List.range n).find? (fun i => p ((start + i) % n)) |>.map (fun i => (start + i) % n)

/-- No command of a lower class number waits for the bus (R368). -/
def State.spmiTurn (s : State) (cls : Nat) : Bool := !s.spmi.queue.any (fun q => decide (q.cls < cls))

/-- The next command by class, then by the pointer over slaves (R368). -/
def State.spmiNext (s : State) : Option SpmiCmd :=
  let cls := [1, 2, 3].find? (fun c => s.spmi.queue.any (fun q => q.cls == c))
  cls.bind (fun c =>
    (rotate 8 (mget 7 s.spmi.last c + 1) (fun m => s.spmi.queue.any (fun q => q.cls == c && q.slave == m))).bind
      (fun m => s.spmi.queue.find? (fun q => q.cls == c && q.slave == m)))

/-- This unit puts its frames on the bus: a follower sends none, and in split mode a co-master standby sends none (R411, R412). -/
def State.spmiSends (s : State) : Bool :=
  !s.getB Reg.TW_STATUS_FOLLOW && !(s.isStandby && s.getB Reg.SQ_SPMI_COMASTER && s.getF Reg.TW_STATUS_PARTNER == 2)

/-- SPMI_COMMAND_SEND: a unit that sends no frame itself waits for the acknowledgement of its partner's (R370). -/
def execSpmiCommandSend (s : State) : Host.Outcome State Fault Refusal :=
  .next (match s.spmiNext with
    | some q => if s.spmiMaster then { s with spmi := { s.spmi with
        queue := s.spmi.queue.erase q
        out := s.spmi.out ++ [q]
        last := mset q.cls q.slave s.spmi.last
        sent := if s.spmiSends then (q.slave, q.frame) :: s.spmi.sent else s.spmi.sent } } else s
    | none => s)

/-- The external entry that stands on a rail of a slave. -/
def State.xrOf (s : State) (m r : Nat) : Option Nat :=
  ((List.range 8).map (· + 24)).find? (fun n => s.entEn n && s.xrSlave n == m && s.xrRail n == r)

/-- A slave is declared lost (R366, R367): its commands go, and its entries fail up without retry, or fail down. -/
def State.slaveLost (s : State) (m : Nat) : State :=
  let s1 := ({ (s.addSat Reg.SQ_SPMIERR_LOST 1) with spmi := { s.spmi with
      queue := s.spmi.queue.filter (fun q => q.slave != m)
      out := s.spmi.out.filter (fun q => q.slave != m) } }.setF (Reg.SQ_SLV_STATE m) 3).raise .keeper 0x27 .error m
  (((List.range 8).map (· + 24)).filter (fun n => s.entEn n && s.xrSlave n == m)).foldl (fun (a : State) n =>
    if a.entSt n = 1 ∨ a.entSt n = 2 ∨ a.entSt n = 4 then a.failUp n true else if a.entSt n = 6 then a.failDown n else a) s1 |>.awayPower

/-- A command is acknowledged when (LAST_SEQ – s) mod 65,536 is below 32,768 (R366). -/
def ackedBy (last seq : Nat) : Bool := decide ((last + 65536 - seq) % 65536 < 32768)

/-- The outcome of the acknowledged command that RESULT speaks of. -/
def State.spmiResult (s : State) (q : SpmiCmd) (result : Nat) : State :=
  if result = 0 then s
  else if q.opcode = 1 then
    (match s.xrOf q.slave q.target with
      | some n => if s.entSt n = 2 then (s.failUp n false).seqCheck else s
      | none => s)
  else s.raise .keeper 0x27 .error q.slave

/-- The class of a slave's status read: that of its oldest unacknowledged command (R368). -/
def State.readCls (s : State) (m : Nat) : Nat := ((s.spmi.out.find? (fun q => q.slave == m)).map (·.cls)).getD 3

/-- An external entry sees its power-good bit (R366): one that comes up has power-good, a rail that loses it faults, one that was switched off
is off. -/
def State.pgSeen (s : State) (n : Nat) (up : Bool) : State :=
  if s.entSt n = 2 ∧ up then s.gotPg n
  else if s.entSt n = 3 ∧ !up then s.localFault n 1
  else if s.entSt n = 6 ∧ !up then ((s.setEnt n 0).repower).seqCheck
  else s

/-- Every external entry of a slave sees its bit of the status block. -/
def State.pgAll (s : State) (m pg : Nat) : State :=
  (((List.range 8).map (· + 24)).filter (fun n => s.entEn n && s.xrSlave n == m)).foldl (fun (a : State) n => a.pgSeen n (pg.testBit (s.xrRail n))) s

/-- SPMI_STATUS_READ: the probe of a slave, or the acknowledgement of its commands (R365, R366); `flags` and `pg` are the block's FLAGS and
PG (Table 11-5). A read for a command waits behind queued commands of a lower class number (R368). -/
def execSpmiStatusRead (m lastSeq result pg : Nat) (parityErr : Bool) (s : State) (flags : Nat := 0) : Host.Outcome State Fault Refusal :=
  .next (
    let probing := s.getF (Reg.SQ_SLV_STATE m) = 1
    if 8 ≤ m ∨ !s.spmiMaster ∨ (¬ probing ∧ !s.spmiTurn (s.readCls m)) then s
    else if parityErr then
      let f := mget 0 s.spmi.probeFails m + 1
      let s1 : State := { (s.addSat Reg.SQ_SPMIERR_PAR_ERR 1) with
        spmi := { s.spmi with probeFails := if probing then mset m f s.spmi.probeFails else s.spmi.probeFails } }
      if probing ∧ 4 ≤ f then s1.slaveLost m else s1
    else
      let s1 : State := { s.setFs [(Reg.SQ_SLV_RESULT m, result), (Reg.SQ_SLVSEQ_LAST_ACK m, lastSeq)] with
        spmi := { s.spmi with flags := mset m flags s.spmi.flags, pg := mset m pg s.spmi.pg } }
      if probing then
        { (s1.setFs [(Reg.SQ_SLVSEQ_NEXT m, lastSeq + 1), (Reg.SQ_SLV_STATE m, 2)]) with
          spmi := { s1.spmi with probeFails := mset m 0 s1.spmi.probeFails } }
      else
        let done := s1.spmi.out.filter (fun q => q.slave == m && ackedBy (lastSeq % 65536) q.seq)
        let s2 : State := { s1 with spmi := { s1.spmi with
          out := s1.spmi.out.filter (fun q => !(q.slave == m && ackedBy (lastSeq % 65536) q.seq)) } }
        let s3 : State := match done.find? (fun q => q.seq == lastSeq % 65536) with
          | some q => s2.spmiResult q result
          | none => s2
        (s3.pgAll m pg).awayPower)

/-- SPMI_ACK_TIMEOUT: the oldest unacknowledged command of a slave waits for the bus again, in its class and with its SEQ, at most three
times; then the slave is lost (R365, R366, R368). -/
def execSpmiAckTimeout (m : Nat) (s : State) : Host.Outcome State Fault Refusal :=
  .next (match s.spmi.out.find? (fun q => q.slave == m) with
    | some q =>
      if q.resends < 3 then
        { (s.addSat Reg.SQ_SPMIERR_RESENDS 1) with spmi := { s.spmi with
            out := s.spmi.out.erase q
            queue := { q with resends := q.resends + 1 } :: s.spmi.queue } }
      else s.slaveLost m
    | none => s)

/-- Probe every enabled slave (R365). -/
def State.probeAll (s : State) : State :=
  if s.getF Reg.SQ_SPMI_ROLE = 1 then
    { (s.setFs (((List.range 8).filter (fun m => s.getB (Reg.SQ_SLV_EN m))).map (fun m => (Reg.SQ_SLV_STATE m, 1)))) with
      spmi := { s.spmi with probeFails := [] } }
  else s

/-- SQ_CTRL.SLV_RESCAN acts in service mode only (R365). -/
def State.doRescan (s : State) : State := if s.service then s.probeAll else s

/-- SLV_RESCAN. -/
def execSlvRescan (p : Path) (s : State) : Host.Outcome State Fault Refusal :=
  .next (if s.reach p 0xA010 then (s.wrote p).doRescan else s)

/-- PG_POLL: the power-good bits of an external entry's slave (R366); polls are of class 3 (R368). -/
def execPgPoll (n : Nat) (pg : Nat) (s : State) : Host.Outcome State Fault Refusal :=
  .next (if n < 24 ∨ 32 ≤ n ∨ !s.spmiMaster ∨ !s.spmiTurn 3 then s
    else ({ s with spmi := { s.spmi with pg := mset (s.xrSlave n) pg s.spmi.pg } } : State).pgSeen n (pg.testBit (s.xrRail n)))

/-! ### SPMI as slave (R371 to R373) -/

/-- SPMI_WAKEUP: in OFF and DEN, B9 and PD14 come up for the responder when the command names this unit. -/
def execSpmiWakeup (sid : Nat) (s : State) : Host.Outcome State Fault Refusal :=
  .next (if (s.mode = .off ∨ s.mode = .den) ∧ s.getF Reg.SQ_SPMI_ROLE = 2 ∧ sid = s.getF Reg.SQ_SPMI_SID then
    (({ s with spmi := { s.spmi with awake := true } } : State).setEnt 9 3).repower
    else s)

/-- The responder goes to sleep: PD14, and in OFF B9, go off again. -/
def State.responderOff (s : State) : State :=
  if s.spmi.awake then
    (if s.mode = .off then (({ s with spmi := { s.spmi with awake := false } } : State).setEnt 9 0)
     else ({ s with spmi := { s.spmi with awake := false } } : State)).repower
  else s

/-- SPMI_SLEEP; only a responder answers it (R372). -/
def execSpmiSleep (s : State) : Host.Outcome State Fault Refusal := .next (if s.getF Reg.SQ_SPMI_ROLE = 2 then s.responderOff else s)

/-- SPMI_IDLE_OFF: 1 s without an access. -/
def execSpmiIdleOff (s : State) : Host.Outcome State Fault Refusal := .next s.responderOff

/-- SPMI_IGNORED_COMMAND: Reset, Shutdown and Register 0 Write are ignored (R372). -/
def execSpmiIgnoredCommand (s : State) : Host.Outcome State Fault Refusal := .next s

end Sys2Proof.Machine
end

