-- ==== Sys2Proof/Machine/Store.lean ====
section
/-! DEFINITION. The energy store, the charger, the audit, ACC_OUT, the input FETs and VSYS (09, and R323 and R344 of 10). -/

namespace Sys2Proof.Machine

/-! ### Charge zones and currents (R307 to R309) -/

/-- Zone boundaries in 0.1 °C; one out of ascending order acts as the preceding boundary. -/
def State.zoneBounds (s : State) : List Int :=
  let b0 := 10 * s.getS Reg.ES_ZTEMP_B01
  let b1 := max b0 (10 * s.getS Reg.ES_ZTEMP_B12)
  let b2 := max b1 (10 * s.getS Reg.ES_ZTEMP_B23)
  [b0, b1, b2, max b2 (10 * s.getS Reg.ES_ZTEMP_B34)]

/-- The zone of a temperature: Z0 lies below its boundary and Z4 above its own (Table 9-2); at a boundary between two others the zone above it
is taken (DESIGN CHOICE, log entry 109). -/
def State.zoneOf (s : State) (t : Int) : Nat :=
  ((s.zoneBounds.take 3).filter (fun b => decide (b ≤ t))).length + ((s.zoneBounds.drop 3).filter (fun b => decide (b < t))).length

/-- The zone that follows the present one: upward at a boundary, downward 2 °C below it. R309 does not say on which side of a boundary its
2 °C of hysteresis lie (DESIGN CHOICE, log entry 109). -/
def State.zoneNext (s : State) (t : Int) : Nat :=
  let cur := s.getF Reg.ES_STATUS_ZONE
  if cur = 7 then s.zoneOf t
  else if cur < s.zoneOf t then s.zoneOf t
  else min cur (s.zoneOf (t + 20))

/-- The CV target per cell of a zone in mV, at most the cell's absolute limit (R302). -/
def State.vCell (s : State) (z : Nat) : Nat := min (if s.isLto then 2900 else 3050) (s.zoneV z)

/-- Programmed current in 10 mA: the zone current, at most 5 A (R307, R309). -/
def State.iProg (s : State) : Nat :=
  let r := s.zoneRate (s.getF Reg.ES_STATUS_ZONE)
  min 500 (if s.isLto then r * s.getF Reg.ES_RATED_CAP_RATED / 20 else 5 * r)

/-- Stack voltage in mV. -/
def State.stackMv (s : State) : Nat := s.cellsV.foldl (· + ·) 0

/-- The charger may run: WAKE or RUN, a present or ready store, VIN carrying VSYS, PD13 on, no audit, a zone that allows it, and a throttle
level below 3 (Table 12-3). -/
def State.mayCharge (s : State) : Bool :=
  (s.mode == .wake || s.mode == .run) && s.storeOk && !s.getB Reg.ES_STATUS_PATH && s.pd 13 && !s.getB Reg.ES_STATUS_AUDIT_BUSY
    && s.getF Reg.ES_STATUS_ZONE != 7 && s.iProg != 0 && s.getF Reg.TH_STATUS_LEVEL != 3

/-- The charger's state by the cells: PRECHARGE below V_floor, CV once the stack or a cell is at its target, else CC (R308). -/
def State.chargeState (s : State) : Nat :=
  let v := s.vCell (s.getF Reg.ES_STATUS_ZONE)
  if s.stackMv < s.vFloor then 1
  else if s.nCells * v ≤ s.stackMv ∨ s.cellsV.any (fun c => decide (v ≤ c)) ∨ s.getF Reg.ES_STATUS_CHG = 3 then 3
  else 2

/-- The charger follows its conditions: it pauses, resumes, or moves on. Without a charge cycle under way it stays IDLE (R308); a cycle that a
mode ended goes on when the charger may run again, with its counts as they were (R312). -/
def State.chargeStep (s : State) : State :=
  let c := s.getF Reg.ES_STATUS_CHG
  if c = 5 then s
  else if s.mayCharge then (if c = 0 ∧ ¬ s.store.cycle then s else s.setF Reg.ES_STATUS_CHG s.chargeState)
  else if s.storeOk && (s.mode == .wake || s.mode == .run) then (if c = 0 then s else s.setF Reg.ES_STATUS_CHG 4)
  else s.setF Reg.ES_STATUS_CHG 0

/-- A new charge cycle clears both counts of the safety timer (R312). -/
def State.newCycle (s : State) : State := { s with store := { s.store with cycle := true, progUs := 0, wallMs := 0 } }

/-- A cycle reaches IDLE: both counts clear (R312). -/
def State.endCycle (s : State) : State := { s with store := { s.store with cycle := false, progUs := 0, wallMs := 0 } }

/-- The safety timer counts: a cycle is under way, and neither Z4, an audit, a mode outside RUN and WAKE, VIN's loss nor the latch stands
against it (R312, Table 9-3). -/
def State.timerRuns (s : State) : Bool :=
  s.store.cycle && (s.mode == .wake || s.mode == .run) && !s.getB Reg.ES_STATUS_AUDIT_BUSY && !s.getB Reg.ES_STATUS_PATH
    && s.storeOk && s.getF Reg.ES_STATUS_CHG != 5 && !(s.getF Reg.ES_STATUS_ZONE == 4 && s.iProg == 0)

/-- One millisecond of the safety timer: wall time at real time, progress at I_actual / I_prog in CC and PRECHARGE and at real time in CV
(R312). -/
def State.timerStep (s : State) : State :=
  let c := s.getF Reg.ES_STATUS_CHG
  let i := (s.rail.adc.getD 35 0).toNat
  if s.timerRuns then
    { s with store := { s.store with
        wallMs := s.store.wallMs + 1
        progUs := s.store.progUs + (if c = 3 then 1000 else if (c = 1 ∨ c = 2) ∧ s.iProg ≠ 0 then 1000 * i / s.iProg else 0) } }
  else s

/-- Progress has reached TMR_MIN minutes, or wall time twice that (R312). -/
def State.timerOut (s : State) : Bool :=
  let m := max 1 (s.getF Reg.ES_CHG_TMR_MIN)
  s.store.cycle && (decide (m * 60000000 ≤ s.store.progUs) || decide (m * 120000 ≤ s.store.wallMs))

/-! ### ACC_OUT (R318 to R320) -/

/-- ACC_OUT may run: enabled in its mode, in RUN, or in BURROW until its shed step in accessory mode, no over-current pause, a store that is neither absent nor failed; peer-charge also needs VIN
carrying VSYS, a ready store and cover left, and in a pair a peer cap (R431). -/
def State.mayAcc (s : State) : Bool :=
  let m := s.getF Reg.ES_ACC_MODE
  s.hasAcc && (s.mode == .run || (s.mode == .burrow && m == 1 && s.getB Reg.ES_STATUS_ACC_ON)) && s.getB Reg.ES_ACC_ACC_EN && s.store.accOff.isNone && s.storeOk
    && (m == 1 || (m == 2 && (!s.twinOn || s.getF Reg.TW_PEER_CAP_OUT != 0) && !s.getB Reg.ES_STATUS_PATH && s.getF Reg.ES_STATUS_STORE == 2 && s.coverOk))

def State.accEval (s : State) : State := s.setB Reg.ES_STATUS_ACC_ON s.mayAcc

/-! ### Zones -/

/-- A zone takes effect: a zone that leaves a cell more than 100 mV above its V_CELL starts the discharge of R311, and one that runs goes on
until every cell is at or below V_CELL; a higher target starts a new charge cycle (R308). -/
def State.takeZone (s : State) (z : Nat) : State :=
  let old := s.getF Reg.ES_STATUS_ZONE
  let t := s.setF Reg.ES_STATUS_ZONE z
  let rises := decide (old ≠ 7) && decide (s.vCell old < s.vCell z) && s.getF Reg.ES_STATUS_CHG == 0 && !s.store.cycle && t.mayCharge
  let u : State := { t with store := { t.store with
    discharging := s.storeOk && (s.cellsV.any (fun c => decide (s.vCell z + 100 < c))
      || (s.store.discharging && s.cellsV.any (fun c => decide (s.vCell z < c)))) } }
  if rises then (u.newCycle).setF Reg.ES_STATUS_CHG u.chargeState else u.chargeStep

/-- The balance current in force in mA (R301). -/
def State.balMa (s : State) : Nat := min 300 (s.getF Reg.ES_BAL_BAL_MA)

/-- The balancer at a scan: in WAKE and RUN, of any store that is there, never during an audit (R301). -/
def State.balanceStep (s : State) : State :=
  let spread := s.cellsV.foldl max 0 - s.cellsV.foldl min (s.cellV 0)
  let mv := max 1 (s.getF Reg.ES_BAL_BAL_MV)
  let may := s.getB Reg.ES_BAL_BAL_EN && (s.mode == .wake || s.mode == .run) && s.getF Reg.ES_STATUS_STORE != 0
    && !s.getB Reg.ES_STATUS_AUDIT_BUSY
  let on := may && (decide (mv < spread) || (s.getB Reg.ES_STATUS_BAL_ACTIVE && decide (mv ≤ 2 * spread)))
  { s.setB Reg.ES_STATUS_BAL_ACTIVE on with store := { s.store with balMa := if on then s.balMa else 0 } }

/-- NTC_STORE reads shorted or implausible: a WARNING, once for each failure, and Z4 for charging (R310). -/
def State.ntcStep (s : State) : State :=
  let bad := s.ntcBad && s.storeOk
  let t := s.raiseIf (bad && !s.store.ntcSaid) .keeper 0x17 .warning 0
  let u : State := { t with store := { t.store with ntcSaid := bad } }
  if bad && u.getF Reg.ES_STATUS_ZONE != 4 then u.takeZone 4 else u

/-- The store's part of a 1 ms scan: a bad NTC puts the charger into Z4 (R310), the discharge of R311 ends, charger, timer, balancer and
ACC_OUT follow, and a passed audit falls due again after AUDIT_H (R313). -/
def State.storeScan (s : State) : State :=
  let s1 := s.ntcStep
  let v := s1.vCell (s1.getF Reg.ES_STATUS_ZONE)
  let due := s1.getF Reg.ES_STATUS_STORE = 2 ∧ s1.store.lastPass + max 1 (s1.getF Reg.ES_AUDCFG_AUDIT_H) * 3600000 ≤ s1.ms
  let s2 : State := { s1 with store := { s1.store with
    discharging := s1.store.discharging && s1.cellsV.any (fun c => decide (v < c))
    auditDue := s1.store.auditDue || decide due } }
  (((s2.timerStep).chargeStep).balanceStep).accEval

/-! ### Input FETs (R293 to R295) -/

/-- The over-current latch of the input FETs releases (R294). The spec does not say what INFET_TRIP shows then, nor whether the 10 s window of
openings goes on: the model shows an over-current opening and forgets the past ones (DESIGN CHOICE, log entry 110). -/
def State.infRelease (s : State) : State :=
  if s.store.infLatched then
    { s.setF Reg.ES_STATUS_INFET_TRIP 2 with store := { s.store with infLatched := false, ocTimes := [] } }
  else s

/-- INFET_CLOSE: the source has been in range for 1 ms; an over-current opening waits for INFET_RECLOSE. `fell`: since the FETs opened the
source has been below 4.0 V, which releases the latch (R294). -/
def execInfetClose (s : State) (fell : Bool := false) : Host.Outcome State Fault Refusal :=
  let s := if fell && !s.getB Reg.ES_STATUS_INFET_ON then s.infRelease else s
  .next (if s.getB Reg.ES_STATUS_INFET_ON || s.store.ocOpen || s.store.infLatched then s else s.setF Reg.ES_STATUS_INFET_ON 1)

/-- INFET_OPEN: over-voltage, reverse current or over-current. A third over-current opening within 10 s latches. The spec gives a
reverse-current opening no INFET_TRIP code: its value is free (log entry 3). -/
def execInfetOpen (cause : InfetCause) (s : State) : Host.Outcome State Fault Refusal :=
  .next (if !s.getB Reg.ES_STATUS_INFET_ON then s
    else
      let t := s.setF Reg.ES_STATUS_INFET_ON 0
      match cause with
      | .overVoltage => { t.setF Reg.ES_STATUS_INFET_TRIP 1 with store := { t.store with openAt := s.ms, ocOpen := false } }
      | .reverse =>
        { t.setF Reg.ES_STATUS_INFET_TRIP (Config.measured s.freeCount) with
          freeCount := s.freeCount + 1
          store := { t.store with openAt := s.ms, ocOpen := false } }
      | .overCurrent =>
        let times := s.store.ocTimes.filter (fun x => decide (s.ms < x + 10000)) ++ [s.ms]
        let latch := decide (3 ≤ times.length)
        { t.setF Reg.ES_STATUS_INFET_TRIP (if latch then 3 else 2) with
          store := { t.store with openAt := s.ms, ocOpen := true, infLatched := latch, ocTimes := times } })

/-- INFET_RECLOSE: 100 ms or more after an over-current opening, unless it latched. -/
def execInfetReclose (s : State) : Host.Outcome State Fault Refusal :=
  .next (if s.store.ocOpen && !s.store.infLatched && !s.getB Reg.ES_STATUS_INFET_ON && decide (s.store.openAt + 100 ≤ s.ms) then
    { s.setF Reg.ES_STATUS_INFET_ON 1 with store := { s.store with ocOpen := false } }
    else s)

/-- ES_CTRL.INFET_RST (R294). -/
def State.doInfetRst (s : State) : State := s.infRelease

/-- INFET_RST. -/
def execInfetRst (p : Path) (s : State) : Host.Outcome State Fault Refusal :=
  .next (if s.reach p 0x8060 then (s.wrote p).doInfetRst else s)

/-- INPUT_CURRENT_LIMIT: the charger and ACC_OUT reduce their current; by how much is not stated (log entry 3). -/
def execInputCurrentLimit (s : State) : Host.Outcome State Fault Refusal :=
  .next { s with
    freeCount := s.freeCount + 2
    therm := { s.therm with
      grantChg := min s.therm.grantChg (Config.measured s.freeCount)
      grantAcc := min s.therm.grantAcc (Config.measured (s.freeCount + 1)) } }

/-! ### VSYS (R296 to R298, R323, R344) -/

/-- PF_LEVEL, RET_LEVEL and PF_WARN in force, in 0.1 V (R338). -/
def State.pfLevel (s : State) : Nat := max 60 (min 200 (s.getF Reg.PS_VIN_PF_LEVEL))
def State.retLevel (s : State) : Nat := max (s.pfLevel + 5) (s.getF Reg.PS_VIN_RET_LEVEL)
def State.pfWarn (s : State) : Nat := max s.retLevel (s.getF Reg.PS_VIN_PF_WARN)

/-- The take-over level in mV: the lower of VSYS_HOLD and PF_LEVEL − 0.5 V (R297). -/
def State.takeLevel (s : State) : Nat := min (s.getF Reg.ES_IN_VSYS_HOLD) (s.pfLevel - 5) * 100

/-- STORE_TAKEOVER: a VSYS sample, in mV, at or below the take-over level: the store carries VSYS, and charging ends in the same cycle. In OFF
the store converter is off (R298). -/
def execStoreTakeover (s : State) (vsys : Nat := 0) : Host.Outcome State Fault Refusal :=
  .next (if s.mode != .off && decide (vsys ≤ s.takeLevel) && s.storeOk && !s.getB Reg.ES_STATUS_PATH then (s.setF Reg.ES_STATUS_PATH 1).chargeStep else s)

/-- STORE_RELEASE: VIN carries VSYS again; `vsys`, in mV, is the lowest sample of the last 100 µs (R298). -/
def execStoreRelease (s : State) (vsys : Nat := 0xFFFF) : Host.Outcome State Fault Refusal :=
  .next (if decide (s.getF Reg.ES_IN_VSYS_HOLD * 100 + 500 < vsys) && s.getB Reg.ES_STATUS_PATH then (s.setF Reg.ES_STATUS_PATH 0).chargeStep else s)

/-- The keeper at VSYS_LOSS: erases in progress are abandoned, and one record is left to it, the one in progress, the first of those that wait
(log entry 114), or in DEN the DEN_DROP; with none it stops (R344). -/
def State.keeperHold (s : State) : State :=
  let one := match s.keep.jq with
    | p :: _ => [p]
    | [] => if s.mode = .den ∧ s.getF Reg.SQ_STATUS_SEQ ≠ 4 then [.denDrop s.bur.heldVer 1] else []
  { s with keep := { s.keep with
      erasing := []
      jq := if s.keep.up then one else []
      hold := if s.keep.up && !one.isEmpty then 3 else 2
      stopped := s.keep.up && one.isEmpty
      up := s.keep.up && !one.isEmpty } }

/-- VSYS_LOSS: C_KEEP alone supplies the keeper; PD12 to PD15 are shed, the ADC does not scan, and DEN drops its image (R342, R344). -/
def execVsysLoss (s : State) : Host.Outcome State Fault Refusal :=
  .next (if s.getB Reg.PS_STATUS_VSYS_LOSS then s
    else ((s.keeperHold.setFs [(Reg.PS_STATUS_VSYS_LOSS, 1), (Reg.PS_STATUS_HOLDUP, 1), (Reg.PS_ADC_SCAN, 0)]).repower).denDrop 1)

/-- The one record of a hold-up is complete: the keeper stops (R344). -/
def State.holdDone (s : State) : State :=
  let lost := s.getB Reg.PS_STATUS_VSYS_LOSS
  { s with keep := { s.keep with
      hold := if s.keep.hold = 3 then 1 else s.keep.hold
      up := s.keep.up && !lost
      stopped := s.keep.stopped || lost } }

/-- JOURNAL_RECORD_WRITE: the oldest waiting record is written (R455, R459); in a hold-up it is the one in progress, and the last (R344). In
DEN PD11 goes off with the last one (R268). -/
def execJournalRecordWrite (s : State) : Host.Outcome State Fault Refusal :=
  .next (match s.keep.jq with
    | [] => s
    | p :: t => if !s.keep.up then s else ((({ s with keep := { s.keep with jq := t } } : State).jWrite p).holdDone).awayPower)

/-- VSYS_RESTORE: VSYS supplies the keeper again, which goes on when it had stopped and is still powered (DESIGN CHOICE, log entry 114). -/
def execVsysRestore (s : State) : Host.Outcome State Fault Refusal :=
  .next (if s.getB Reg.PS_STATUS_VSYS_LOSS then
    (({ s with keep := { s.keep with up := s.keep.up || (s.keep.stopped && s.pd 10), stopped := false } } : State).setFs
      [(Reg.PS_STATUS_VSYS_LOSS, 0), (Reg.PS_STATUS_HOLDUP, 0)]).repower
    else s)

/-! ### Loss and return of the store (R302 to R306) -/

/-- What an absence or a failure does: charger, ACC_OUT and E_avail stop, an ERROR event, the drop in DEN, and a burrow with cause STORE
while VIN is away or a bridge window is open (R305, Table 2-3, Table 2-6); a burrow that a trigger of the same re-base has begun takes
the cause as well (Table 9-3). -/
def State.storeLoss (s : State) (kind : Nat) : State :=
  let t := (s.storeOff).abortAudit.raise .keeper 0x22 .error kind
  let u : State := { t with store := { t.store with lossReported := true, discharging := false } }
  let v := u.rebase
  if v.mode = .den then v.denDrop 1
  else if v.vinLoss || v.getB Reg.MD_STATUS_BRIDGE || v.bur.trig then v.trigger .store else v

/-- STORE_FAILED: a cell or audit criterion (1 capacitance, 2 ESR, 3 cell under 0.3 V, 4 cell over its limit). -/
def execStoreFailed (cause : Nat) (s : State) : Host.Outcome State Fault Refusal :=
  .next (if s.storeOk && decide (1 ≤ cause) && decide (cause ≤ 4) then
    (s.setFs [(Reg.ES_STATUS_STORE, 3), (Reg.ES_STATUS_FAIL_CAUSE, cause)]).storeLoss 1
    else s)

/-- STORE_ABSENT: a removal; a failed store that is removed stays failed until it is inserted again (R303, R304). The current criterion
needs the charger to run. -/
def execStoreAbsent (cause : AbsentCause) (s : State) : Host.Outcome State Fault Refusal :=
  .next (
    let bit := match cause with | .ntcOpen => 1 | .tapStep => 2 | .collapse => 4
    let charging := [1, 2, 3].contains (s.getF Reg.ES_STATUS_CHG)
    let t : State := { s.setF Reg.ES_STATUS_ABS_CAUSE bit with store := { s.store with removed := true } }
    if cause = .collapse ∧ ¬ charging then s
    else if s.storeOk then (t.setF Reg.ES_STATUS_STORE 0).storeLoss 0
    else if s.getF Reg.ES_STATUS_STORE = 3 then t
    else s)

/-- The store is present: its first charge cycle begins (R306). -/
def State.present (s : State) : State :=
  let t := (s.setFs [(Reg.ES_STATUS_STORE, 1), (Reg.ES_STATUS_FAIL_CAUSE, 0)])
  (({ t with store := { t.store with firstCycle := false, removed := false } } : State).newCycle).chargeStep

/-- Release the latch of the safety timer (R312). -/
def State.tmrRelease (s : State) : State :=
  if s.getB Reg.ES_STATUS_TMR_FAULT || s.getF Reg.ES_STATUS_CHG == 5 then
    ((s.setFs [(Reg.ES_STATUS_TMR_FAULT, 0), (Reg.ES_STATUS_CHG, if s.getF Reg.ES_STATUS_CHG = 5 then 4 else s.getF Reg.ES_STATUS_CHG)]).newCycle).chargeStep
  else s

/-- STORE_PRESENT: NTC and taps plausible for 1 s; a reinsertion ends a failure and releases the timer latch (R303, R306, R312). -/
def execStorePresent (s : State) : Host.Outcome State Fault Refusal :=
  .next (if s.getF Reg.ES_STATUS_STORE = 0 ∨ (s.getF Reg.ES_STATUS_STORE = 3 ∧ s.store.removed = true) then
    (if s.store.removed then s.present.tmrRelease else s.present)
    else s)

/-- ES_CTRL.STORE_RETRY: in service mode a failed store is present again (R303), unless it has been removed (Table 9-3). -/
def State.doStoreRetry (s : State) : State :=
  if s.service && s.getF Reg.ES_STATUS_STORE == 3 && !s.store.removed then s.present else s

/-- STORE_RETRY. -/
def execStoreRetry (p : Path) (s : State) : Host.Outcome State Fault Refusal :=
  .next (if s.reach p 0x8060 then (s.wrote p).doStoreRetry else s)

/-! ### Charge cycles -/

/-- CHARGE_TERMINATE: IDLE clears the timer; the end of the first cycle makes an audit due (R306, R308, R312). -/
def execChargeTerminate (s : State) : Host.Outcome State Fault Refusal :=
  .next (if s.getF Reg.ES_STATUS_CHG = 3 then
    { ((s.setF Reg.ES_STATUS_CHG 0).endCycle) with store := { s.endCycle.store with
        firstCycle := true
        auditDue := s.store.auditDue || !s.store.firstCycle } }
    else s)

/-- RECHARGE_START: from IDLE, the stack has fallen below the recharge level. -/
def execRechargeStart (s : State) : Host.Outcome State Fault Refusal :=
  .next (if s.getF Reg.ES_STATUS_CHG = 0 ∧ s.store.cycle = false ∧ s.mayCharge then (s.newCycle).setF Reg.ES_STATUS_CHG s.chargeState else s)

/-- ZONE_CHANGE: the dwell at a store temperature (0.1 °C) is over (R309). A failed NTC holds Z4 (R310). -/
def execZoneChange (tStore : Int) (s : State) : Host.Outcome State Fault Refusal :=
  .next (
    let z := if s.ntcBad then 4 else s.zoneNext tStore
    if z = s.getF Reg.ES_STATUS_ZONE then s else s.takeZone z)

/-- SAFETY_TIMER_EXPIRY: the charger latches off once a count has reached its end (R312), a store just removed included (Table 9-3). -/
def execSafetyTimerExpiry (s : State) : Host.Outcome State Fault Refusal :=
  .next (if s.timerOut && s.getF Reg.ES_STATUS_CHG != 5 then
    (s.setFs [(Reg.ES_STATUS_CHG, 5), (Reg.ES_STATUS_TMR_FAULT, 1)]).raise .keeper 0x23 .error 0
    else s)

/-- TMR_CLR. -/
def execTmrClr (p : Path) (s : State) : Host.Outcome State Fault Refusal :=
  .next (if s.reach p 0x8060 then (s.wrote p).tmrRelease else s)

/-! ### The audit (R313 to R317) -/

/-- Audit current in mA. -/
def State.iAud (s : State) : Nat := 100 * max 5 (min 50 (s.getF Reg.ES_AUDCFG_I_AUD))

/-- The energy that the audit's step takes, in µJ: 200 ms of I_AUD at the stack voltage. -/
def State.auditStep (s : State) : Nat := s.iAud * s.stackMv / 5

/-- A due audit may start (R313). In RUN the cover must bear the step, whatever the store's state: a store that is not ready has no E_avail,
so its audit waits for WAKE (log entry 17). -/
def State.mayAudit (s : State) : Bool :=
  s.store.auditDue && (s.mode == .wake || s.mode == .run) && s.vinRet && !s.getB Reg.MD_STATUS_BRIDGE && s.storeOk
    && !s.getB Reg.ES_STATUS_AUDIT_BUSY
    && (s.mode == .wake || decide (s.cover.eDebt * (1000 + s.margin) + s.auditStep * 10000 ≤ s.cover.eAvail * 10000))

/-- AUDIT_START: charger and balancer pause; written ES_CFG and ES_RATED come into force (R322). -/
def execAuditStart (s : State) : Host.Outcome State Fault Refusal :=
  .next (if s.mayAudit then
    let s := s.comeInto (fun k => Reg.esAudit.contains (keyOff k))
    let t := (s.setFs [(Reg.ES_STATUS_AUDIT_BUSY, 1), (Reg.ES_STATUS_BAL_ACTIVE, 0)]).chargeStep
    { t with store := { t.store with auditDue := false } }
    else s)

/-- ES_CTRL.AUDIT_NOW. -/
def State.doAuditNow (s : State) : State := { s with store := { s.store with auditDue := true } }

/-- AUDIT_NOW. -/
def execAuditNow (p : Path) (s : State) : Host.Outcome State Fault Refusal :=
  .next (if s.reach p 0x8060 then (s.wrote p).doAuditNow else s)

/-- The audited ESR in 0.1 mΩ (R314 step 3). -/
def State.audEsr (s : State) (m : AuditMeas) : Nat := (m.v0.foldl (· + ·) 0 - m.v1ms.foldl (· + ·) 0) * 10000 / s.iAud

/-- Audited capacitances in mF (R314 step 4). A cell whose samples do not differ has no quotient: the model takes 0, which fails the store
(DESIGN CHOICE, log entry 111). -/
def State.audCap (s : State) (m : AuditMeas) : List Nat :=
  (m.v20.zip m.v200).map (fun x => if x.1 - x.2 = 0 then 0 else s.iAud * 180 / (x.1 - x.2))

/-- The held Q_aud in 10 mAh after a new sample: weight 1/8, from a SoC difference of 0.5 % on; the first sample stands as it is (log
entry 17), and before it the held value is 0 (DESIGN CHOICE, log entry 99). -/
def State.audQ (s : State) (m : AuditMeas) : Nat :=
  if m.socDiff < 50 then s.store.qAud
  else if s.store.qAud = 0 then m.qDrawn / m.socDiff
  else (7 * s.store.qAud + m.qDrawn / m.socDiff) / 8

/-- η in 0.5 % (R314 step 5). -/
def audEta (m : AuditMeas) : Nat := if m.eIn = 0 then 0 else min 200 (m.eOut * 200 / m.eIn)

/-- Two equal stack capacitances in series and so on: 1 / Σ (1 / C), in mF. -/
def seriesCap (l : List Nat) : Nat :=
  let inv := l.foldl (fun n c => n + (if c = 0 then 0 else 1000000000 / c)) 0
  if inv = 0 then 0 else 1000000000 / inv

/-- A cell's capacitance or capacity is below C_MIN_PCT of the rated value at the store temperature (R302). -/
def State.capFails (s : State) (m : AuditMeas) : Bool :=
  let k := s.capK s.tStore
  if s.isLto then decide (s.audQ m * 100000 < s.getF Reg.ES_AUDCFG_C_MIN_PCT * s.getF Reg.ES_RATED_CAP_RATED * k)
  else (s.audCap m).any (fun c => decide (c * 1000 < s.getF Reg.ES_AUDCFG_C_MIN_PCT * s.getF Reg.ES_RATED_CAP_RATED * k))

/-- The stack ESR at 25 °C is above ESR_MAX_PCT × 10 % of the rated value (R302). -/
def State.esrFails (s : State) (m : AuditMeas) : Bool :=
  let k := s.esrK s.tStore
  k != 0 && decide (s.getF Reg.ES_AUDCFG_ESR_MAX_PCT * s.getF Reg.ES_RATED_ESR_RATED * k < s.audEsr m * 10000)

/-- A WAKE has its audit result: step 9 of Table 16-5 follows step 7. -/
def State.wakeAudited (s : State) : State :=
  if s.mode = .wake ∧ s.getF Reg.DT_WAKE_STEP = 7 then s.setF Reg.DT_WAKE_STEP 9 else s

/-- The figures of an audit that passed; R314 does not say that ES_AUDIT, ETA and T_AUD show a failed one's (DESIGN CHOICE, log entry 112). -/
def State.auditPass (s : State) (m : AuditMeas) (t : State) : State :=
  let cap := if s.isLto then s.audQ m else seriesCap (s.audCap m)
  let t := t.setFs [(Reg.ES_AUDIT_CAP, min 0xFFFF cap), (Reg.ES_AUDIT_ESR, min 0xFFFF (s.audEsr m)), (Reg.ES_AUDIT2_ETA, audEta m),
    (Reg.ES_AUDIT2_T_AUD, toField 8 (s.tStore / 10)), (Reg.ES_AUDIT2_RESULT, 1), (Reg.ES_STATUS_STORE, 2)]
  let ready := s.store.lossReported
  let u : State := { t with store := { t.store with
    cAud := if s.isLto then t.store.cAud else s.audCap m
    derates := 0, lastPass := s.ms, lossReported := false } }
  (u.raiseIf ready .keeper 0x06 .info 0).rebase

/-- The Q_aud sample of step 4 is averaged into the held value, whatever the tests of step 6 say (R314). -/
def State.keepQ (s : State) (q : Nat) : State := if s.isLto then { s with store := { s.store with qAud := q } } else s

/-- AUDIT_DONE: the results are tested; a pass makes the store ready, a failure declares it failed (R302, R306, R314, R316). -/
def execAuditDone (m : AuditMeas) (s : State) : Host.Outcome State Fault Refusal :=
  .next (if s.getB Reg.ES_STATUS_AUDIT_BUSY then
    let t := (s.setF Reg.ES_STATUS_AUDIT_BUSY 0).keepQ (s.audQ m)
    (if s.capFails m then
      (t.setFs [(Reg.ES_AUDIT2_RESULT, 2), (Reg.ES_STATUS_STORE, 3), (Reg.ES_STATUS_FAIL_CAUSE, 1)]).storeLoss 1
    else if s.esrFails m then
      (t.setFs [(Reg.ES_AUDIT2_RESULT, 3), (Reg.ES_STATUS_STORE, 3), (Reg.ES_STATUS_FAIL_CAUSE, 2)]).storeLoss 1
    else (s.auditPass m t).chargeStep).wakeAudited
    else s)

/-- AUDIT_DERATE: an audit overdue for more than AUDIT_H + 2 hours, and each further AUDIT_H, costs 2 % (R317). -/
def execAuditDerate (s : State) : Host.Outcome State Fault Refusal :=
  .next (if s.storeOk then
    ({ s with store := { s.store with derates := s.store.derates + 1 } } : State).raiseIf (s.store.derates == 0) .keeper 0x18 .warning
      ((s.ms - s.store.lastPass) / 3600000)
    else s)

/-! ### ACC_OUT commands -/

/-- ACC_OVERCURRENT: off for 100 ms. -/
def execAccOvercurrent (s : State) : Host.Outcome State Fault Refusal :=
  .next (if s.getB Reg.ES_STATUS_ACC_ON then
    { s.setF Reg.ES_STATUS_ACC_ON 0 with store := { s.store with accOff := some (s.ms + 100) } }
    else s)

/-- The 100 ms of an ACC_OUT over-current are over (R318). -/
def State.accWaited (s : State) : Bool := match s.store.accOff with | some e => decide (e ≤ s.ms) | none => false

/-- ACC_RETRY: 100 ms after the over-current. -/
def execAccRetry (s : State) : Host.Outcome State Fault Refusal :=
  .next (if s.accWaited then ({ s with store := { s.store with accOff := none } } : State).accEval else s)

/-- PEER_CHARGE_STOP: VSYS has passed to the store, or the partner's store or the link is gone (R319, R431). -/
def execPeerChargeStop (s : State) : Host.Outcome State Fault Refusal :=
  .next (if s.getF Reg.ES_ACC_MODE = 2 then s.setF Reg.ES_STATUS_ACC_ON 0 else s)

end Sys2Proof.Machine
end

