-- ==== Sys2Proof/Machine/Supervision.lean ====
section
/-! DEFINITION. Supervision (10): declared faults, the ADC scan with its warnings, and the PS_ actions. -/

namespace Sys2Proof.Machine

/-! ### Levels (PSn_LVL, PSn_OC) -/

/-- An output's range and step in mV (Table 10-1); a load switch takes any nominal voltage of its range. -/
def outRange (n : Nat) : Nat × Nat × Nat :=
  match n with
  | 0 => (650, 850, 5) | 1 => (1050, 1150, 5) | 2 => (1050, 1150, 5) | 3 => (1700, 1900, 10) | 4 => (2400, 2700, 10)
  | 5 => (2400, 2700, 10) | 6 => (1140, 1260, 10) | 7 => (800, 900, 5) | 8 => (1700, 1900, 10) | 9 => (950, 1050, 5)
  | 10 => (600, 3300, 10) | 11 => (600, 3300, 10) | 18 => (800, 3300, 10) | 19 => (800, 3300, 10)
  | _ => (800, 5000, 1)

/-- A VSET value as it acts: within the range, rounded down to the step (R325, R348); L0 is fixed, L1 has two values (R329). -/
def vsetActs (n v : Nat) : Nat :=
  let r := outRange n
  if n = 16 then 1800 else if n = 17 then (if v < 2550 then 1800 else 3300) else max r.1 (min r.2.1 v) / r.2.2 * r.2.2

/-- VSET in force in mV. -/
def State.vset (s : State) (n : Nat) : Nat := vsetActs n (s.getF (Reg.PS_SET_VSET n))

/-- The old VSET of a change that still slews or has ended less than 20 µs ago; otherwise the VSET (R327). -/
def State.vsetOld (s : State) (n : Nat) : Nat :=
  match mfind n s.rail.slew with
  | some (v, t) => if s.rail.tick < t then v else s.vset n
  | none => s.vset n

/-- OV levels are taken from the higher, UV levels from the lower of the two (R327). -/
def State.vHigh (s : State) (n : Nat) : Nat := max (s.vset n) (s.vsetOld n)
def State.vLow (s : State) (n : Nat) : Nat := min (s.vset n) (s.vsetOld n)

/-- VSET changes on an output that is on: the slew of 2.5 mV/µs and 20 µs, in whole ticks of 10 µs (R327). -/
def State.putVset (s : State) (n v : Nat) : State :=
  let old := s.vset n
  let t := s.setF (Reg.PS_SET_VSET n) v
  if entLive (s.entSt n) then
    { t with rail := { t.rail with slew := mset n (old, s.rail.tick + 2 + (max old (t.vset n) - min old (t.vset n) + 24) / 25) t.rail.slew } }
  else t

/-- Codes in force: a warning code is at least 1, a fault code at least two above it and at most 60 (PSn_LVL). A warning code above 58 makes
the last two meet: 60 is taken (DESIGN CHOICE, log entry 113). -/
def State.ovWarn (s : State) (n : Nat) : Nat := max 1 (s.getF (Reg.PS_LVL_OV_WARN n))
def State.uvWarn (s : State) (n : Nat) : Nat := max 1 (s.getF (Reg.PS_LVL_UV_WARN n))
def State.ovFault (s : State) (n : Nat) : Nat := min 60 (max (s.getF (Reg.PS_LVL_OV_FAULT n)) (s.ovWarn n + 2))
def State.uvFault (s : State) (n : Nat) : Nat := min 60 (max (s.getF (Reg.PS_LVL_UV_FAULT n)) (s.uvWarn n + 2))

/-- Rated currents of Table 10-1 in 10 mA, and the current levels in force: OC_FAULT is at most 1.5 times the rated current, OC_WARN at most
OC_FAULT (PSn_OC). -/
def ratedI (n : Nat) : Nat := ([1800, 800, 600, 200, 300, 300, 500, 500, 200, 100, 1200, 600, 0, 0, 0, 0, 20, 10, 50, 50] : List Nat).getD n 300
def State.ocFault (s : State) (n : Nat) : Nat := min (ratedI n * 3 / 2) (s.getF (Reg.PS_OC_OC_FAULT n))
def State.ocWarn (s : State) (n : Nat) : Nat := min (s.ocFault n) (s.getF (Reg.PS_OC_OC_WARN n))

/-- PS_SW.SSC_PCT in force, in %. -/
def State.sscPct (s : State) : Nat := max 1 (min 8 (s.getF Reg.PS_SW_SSC_PCT))

/-- A level that a comparator held, in mV or 10 mA, lies beyond the fault level in force (R334). -/
def State.beyond (s : State) (n : Nat) (kind : FaultKind) (v : Nat) : Bool :=
  match kind with
  | .ov => decide (s.vHigh n * (200 + s.ovFault n) < v * 200)
  | .uv => decide (v * 200 < s.vLow n * (200 - s.uvFault n))
  | .oc => decide (s.ocFault n < v)

/-! ### Declared faults (R333 to R337, R347) -/

/-- A fault of an own output counts: OV and OC comparators are armed while the output is enabled, UV from its power-good (R333); while it goes
off any fault is recorded (R347). -/
def State.armedFor (s : State) (n : Nat) (kind : FaultKind) : Bool :=
  ownOut n && railEntries.contains n && (s.entSt n == 6 || s.entSt n == 3 || (s.entSt n == 2 && kind != .uv))

/-- The order in which faults of one cycle are taken: critical outputs first, then the lower index, over-voltage first on one output
(Table 10-7). -/
def State.faultKey (s : State) (x : Nat × FaultKind) : Nat :=
  (if s.critical x.1 then 0 else 1000) + 4 * x.1 + (match x.2 with | .ov => 0 | .uv => 1 | .oc => 2)

/-- The faults of one cycle that are handled, in their order: a dependant's under-voltage beside its parent's fault is the parent's alone
(Table 10-7). -/
def State.cycleFaults (s : State) (l : List (Nat × FaultKind)) : List (Nat × FaultKind) :=
  let l1 := l.filter (fun x => s.armedFor x.1 x.2)
  ksort s.faultKey (l1.filter (fun x => !(x.2 == .uv && l1.any (fun y => y.1 != x.1 && (s.allDependants y.1).contains x.1))))

/-- The output's fault is latched until it is next enabled (R337), and the scan under way has seen it (R347). -/
def State.latchFault (s : State) (n : Nat) : State :=
  { s with rail := { s.rail with latched := sadd n s.rail.latched, fresh := sadd n s.rail.fresh } }

/-- What a fault does, by its output's state, class and mode (Table 10-3). While VSYS_LOSS stands an under-voltage of a VSYS-fed output is
recorded and nothing else; a fault while going off is a failure to go down (R347, R360). -/
def State.oneFault (s : State) (st n : Nat) (kind : FaultKind) : State :=
  if st = 6 then s.failDown n
  else if s.getB Reg.PS_STATUS_VSYS_LOSS && kind == .uv && decide (n < 12) && n != 9 then s
  else
    let t := (s.setEnt n 0).repower
    if s.critical n then t.critFault n else t.localFault n kind.code

/-- RAIL_FAULT: a declared fault of an own output. `also` are the other faults declared in the same cycle, `level` what the comparator held,
in mV or 10 mA, where the sender gives it. -/
def execRailFault (n : Nat) (kind : FaultKind) (s : State) (also : List (Nat × FaultKind) := []) (level : Option Nat := none) :
    Host.Outcome State Fault Refusal :=
  .next (
    if !(match level with | some v => s.beyond n kind v | none => true) then s
    else
      let l := s.cycleFaults ((n, kind) :: also)
      let t := l.foldl (fun (a : State) x => (a.markFault x.1 x.2.code).latchFault x.1) s
      let one := l.filter (fun x => (l.find? (fun y => y.1 == x.1)) == some x)
      one.foldl (fun (a : State) x => a.oneFault (s.entSt x.1) x.1 x.2) t)

/-! ### Warnings (R335) -/

/-- An output's voltage or current crosses a warning level: 0 UV, 1 OV, 2 OC; or lies inside it by 1 % (R335). -/
def State.warnAt (s : State) (n lvl v i : Nat) : Bool :=
  if lvl = 0 then decide (v * 200 < s.vLow n * (200 - s.uvWarn n))
  else if lvl = 1 then decide (s.vHigh n * (200 + s.ovWarn n) < v * 200)
  else decide (s.ocWarn n < i)
def State.warnInside (s : State) (n lvl v i : Nat) : Bool :=
  if lvl = 0 then decide (s.vLow n * (200 - s.uvWarn n) + 2 * s.vset n ≤ v * 200)
  else if lvl = 1 then decide (v * 200 + 2 * s.vset n ≤ s.vHigh n * (200 + s.ovWarn n))
  else decide (i * 100 ≤ s.ocWarn n * 99)

/-- The ADC channel of an output's voltage (Table 10-4). -/
def outChan (n : Nat) : Nat := if n < 12 then 13 + n else if n < 20 then 25 + (n - 16) else 29 + (n - 20)

/-- One warning level's counts over scans: crossed, inside (R335). -/
def State.warnLevel (s : State) (n lvl v i : Nat) : State :=
  let k := 4 * n + lvl
  let c := mget (0, 0) s.rail.warnCnt k
  let up := if s.warnAt n lvl v i then min 4 (c.1 + 1) else 0
  let dn := if s.warnInside n lvl v i then min 4 (c.2 + 1) else 0
  let on := s.rail.warned.contains k
  let s1 : State := { s with rail := { s.rail with
    warnCnt := mset k (up, dn) s.rail.warnCnt
    warned := if !on && up == 4 then s.rail.warned ++ [k] else if on && dn == 4 then sdel k s.rail.warned else s.rail.warned } }
  if !on && up == 4 then
    (s1.setF Reg.PS_WRNBITS_WRN (s1.getF Reg.PS_WRNBITS_WRN ||| 2 ^ n)).raise .keeper 0x14 .warning n
  else s1

/-- One output's warnings at a scan: of an output with power-good, or of one that a fault has taken off since the last scan (R335, R347). -/
def State.warnStep (s : State) (n : Nat) : State :=
  if s.entSt n ≠ 3 ∧ ¬ s.rail.fresh.contains n then s
  else
    let v := (s.rail.adc.getD (outChan n) 0).toNat
    let i := s.getF (Reg.PS_MEAS_I_10MA n)
    (List.range 3).foldl (fun (a : State) lvl => a.warnLevel n lvl v i) s

/-! ### VIN levels (R338 to R340) -/

/-- VIN_LOW_WARN over scans (R340); while XCHK_FAIL stands no warning is raised or cleared (R343). -/
def State.vinLow (s : State) (vin : Nat) : State :=
  if s.getB Reg.PS_STATUS_XCHK_FAIL then s else
  let up := if vin < s.pfWarn * 100 then min 4 (s.rail.vinLowCnt.1 + 1) else 0
  let dn := if s.pfWarn * 100 + 200 ≤ vin then min 4 (s.rail.vinLowCnt.2 + 1) else 0
  let on := s.getB Reg.PS_STATUS_VIN_LOW_WARN
  let s1 : State := { s with rail := { s.rail with vinLowCnt := (up, dn) } }
  if !on && up == 4 then (s1.setF Reg.PS_STATUS_VIN_LOW_WARN 1).raise .keeper 0x15 .warning 0
  else if on && dn == 4 then s1.setF Reg.PS_STATUS_VIN_LOW_WARN 0
  else s1

/-- The cross-check of channel 43 against the ADC's own reference as this scan reads it: the mid-scale reference (R343, log entry 15). -/
def State.xchkStep (s : State) (r : Int) : State :=
  let a := s.rail.adc.getD 43 0
  let bad := decide (r < 100 * (a - r)) || decide (r < 100 * (r - a))
  let up := if bad then min 2 (s.rail.xchk.1 + 1) else 0
  let dn := if bad then 0 else min 16 (s.rail.xchk.2 + 1)
  let on := s.getB Reg.PS_STATUS_XCHK_FAIL
  let s1 : State := { s with rail := { s.rail with xchk := (up, dn) } }
  if !on && up == 2 then (s1.setF Reg.PS_STATUS_XCHK_FAIL 1).raise .keeper 0x25 .error 0
  else if on && dn == 16 then s1.setF Reg.PS_STATUS_XCHK_FAIL 0
  else s1

/-! ### VIO_EXT in the boot stage (R352) -/

/-- A reading of VIO_EXT in mV: from 1.5 V on it is there, and L1's value follows it. -/
def State.vioSeen (s : State) (mv : Nat) : State :=
  let t : State := { s with rail := { s.rail with vioOk := decide (1500 ≤ mv) } }
  if 1500 ≤ mv then t.setF (Reg.PS_SET_VSET 17) (if mv ≤ 2500 then 1800 else 3300) else t

/-- The boot stage's scans look for VIO_EXT until it comes: L1 then starts. -/
def State.vioStep (s : State) (mv : Nat) : State :=
  if s.mode = .wake ∧ s.getF Reg.SQ_STATUS_SEQ = 1 ∧ s.rail.vioOk = false ∧ s.entSt 16 = 3 ∧ s.entSt 17 = 0 ∧ 1500 ≤ mv then
    ((s.vioSeen mv).switchOn 17).repower
  else s

/-! ### The scan (R342) -/

/-- Channels of the DEN scan (Table 10-5). -/
def denChannel (c : Nat) : Bool :=
  (1 ≤ c && c ≤ 11) || (14 ≤ c && c ≤ 16) || c == 22 || c == 25 || c == 35 || c == 37 || (39 ≤ c && c ≤ 43)

/-- The results of a scan as the registers show them. -/
def State.scanRegs (s : State) (iout : List Nat) (den : Bool) : State :=
  let v := fun c => (s.rail.adc.getD c 0).toNat
  let outs := railEntries.filter ownOut
  s.setFs ([(Reg.PS_VMEAS_VIN_MV, v 0), (Reg.PS_VMEAS_VSYS_MV, v 1), (Reg.PS_KEEP_VKEEP_MV, v 11),
    (Reg.ES_MEAS_IIN, v 34), (Reg.ES_MEAS_ISTORE, toField 16 (s.rail.adc.getD 35 0)),
    (Reg.ES_ACCSTAT_V_ACC, v 33), (Reg.ES_ACCSTAT_I_ACC, 10 * v 36),
    (Reg.ES_PMAX_T_STORE, toField 8 (s.rail.adc.getD 37 0 / 10)),
    (Reg.PS_ADC_SCANS, s.getF Reg.PS_ADC_SCANS + 1), (Reg.PS_ADC_LAST_US, if den then 92 else 192),
    (Reg.PS_ADC_SCAN, if den then 2 else 1)]
    ++ (List.range 4).map (fun n => (Reg.ES_CELLV_V_EVEN n, if 2 * n < s.nCells then v (3 + 2 * n) else 0))
    ++ (List.range 4).map (fun n => (Reg.ES_CELLV_V_ODD n, if 2 * n + 1 < s.nCells then v (4 + 2 * n) else 0))
    ++ outs.map (fun n => (Reg.PS_MEAS_V_MV n, v (outChan n)))
    ++ (outs.zip iout).map (fun x => (Reg.PS_MEAS_I_10MA x.1, x.2)))

/-- An on-demand conversion that waited ends, of any channel, in a scan's period (R342). -/
def State.adcDemand (s : State) (ch : List Int) : State :=
  if s.rail.adcReq then
    { (s.setFs [(Reg.PS_ADCCH_RESULT, toField 16 (ch.getD (min 47 (s.getF Reg.PS_ADCCH_CH)) 0)), (Reg.PS_ADCCH_DONE, 1)]) with
      rail := { s.rail with adcReq := false } }
  else s

/-- A scan brings written ES_ and PS_ fields into force, but for ES_CFG and ES_RATED (R322), and VSET, SS and COMP of PSn_SET (R347, R348). -/
def State.scanForce (s : State) : State :=
  s.comeInto (fun k => (keyBlock k == 8 && !Reg.esAudit.contains (keyOff k))
    || (keyBlock k == 9 && !(decide (0x9100 ≤ keyOff k) && keyOff k % 16 == 0 && (k % 128 == 0 || k % 128 == 4 * 23 || k % 128 == 4 * 25))))

/-- A scan of the mode ends and its results take effect together; the DEN scan leaves the other channels as they were. -/
def State.adcScan (s : State) (ch : List Int) (iout : List Nat) : State :=
  let s := s.scanForce
  let den := s.mode == .den
  let adc := (List.range 48).map (fun c => if den && !denChannel c then s.rail.adc.getD c 0 else ch.getD c 0)
  let s1 := (({ s with rail := { s.rail with adc := adc } } : State).scanRegs iout den)|>.adcDemand ch |>.xchkStep (ch.getD 47 0)
  let s2 := if s1.getB Reg.PS_STATUS_XCHK_FAIL then s1 else (railEntries.filter ownOut).foldl (fun (a : State) n => a.warnStep n) s1
  let s2 : State := { s2 with rail := { s2.rail with fresh := [] } }
  let vin := (adc.getD 0 0).toNat
  if den then s2.ntcStep
  else ((s2.vinLow vin).raiseIf (decide (vin + 300 < s2.pfLevel * 100) && !s2.vinLoss && !s2.getB Reg.PS_STATUS_XCHK_FAIL)
    .keeper 0x10 .warning 2).storeScan.vioStep (adc.getD 12 0).toNat

/-- A write to PS_ADCCH.CH (R342). -/
def State.doAdcCh (s : State) (ch : Nat) : State :=
  { (s.setFs [(Reg.PS_ADCCH_CH, ch), (Reg.PS_ADCCH_DONE, 0)]) with rail := { s.rail with adcReq := true } }

/-- ADC_ON_DEMAND. -/
def execAdcOnDemand (p : Path) (ch : Nat) (s : State) : Host.Outcome State Fault Refusal :=
  .next (if s.reach p 0x9024 then (s.wrote p).doAdcCh ch else s)

/-! ### Actions -/

/-- PS_CTRL.REARM: in service mode in RUN, a local output left off starts afresh in an up sequence of its own, where a broken entry fails
(R351, R353, R354); ignored otherwise. -/
def State.doRearm (s : State) (n : Nat) : State :=
  if s.service && s.mode == .run && ownOut n && !s.critical n && (s.entSt n == 5 || s.entSt n == 8) then
    let s := s.seqForce
    if s.broken n then (s.failUp n true).setEnt n 8 else
    let s1 : State := { (s.setEnt n 1) with rail := { s.rail with tries := mset n 0 s.rail.tries, seqStart := s.rail.tick } }
    let s2 := s1.setEnts ((s.allDependants n).filter (fun m => s.entSt m == 5)) 1
    s2.setB Reg.SQ_STATUS_LEFT_OFF (railEntries.any (fun m => s2.entEn m && s2.entSt m == 5))
  else s

/-- REARM. -/
def execRearm (p : Path) (idx : Nat) (s : State) : Host.Outcome State Fault Refusal :=
  .next (if s.reach p 0x9028 then (s.wrote p).doRearm idx else s)

/-- PS_CTRL.CLR_FIRST (R337). -/
def State.doClrFirst (s : State) : State :=
  s.setFs [(Reg.PS_FIRST_KIND, 0), (Reg.PS_FIRST_RAIL, 0), (Reg.PS_FIRST_MODE, 0)]

/-- CLR_FIRST. -/
def execClrFirst (p : Path) (s : State) : Host.Outcome State Fault Refusal :=
  .next (if s.reach p 0x9028 then (s.wrote p).doClrFirst else s)

/-- Write 1 to clear: every bit written with 1 clears (R14). -/
def State.doW1c (s : State) (f : Fld) (v : Nat) : State := s.setF f (s.getF f &&& ((2 ^ f.w - 1) ^^^ (v % 2 ^ f.w)))

/-- W1C_WRITE: a write to PS_FLTBITS or PS_WRNBITS. -/
def execW1cWrite (p : Path) (off : Nat) (value : Word) (s : State) : Host.Outcome State Fault Refusal :=
  .next (if !s.reach p off then s
    else if off = 0x9018 then (s.wrote p).doW1c Reg.PS_FLTBITS_FLT value.toNat
    else if off = 0x901C then (s.wrote p).doW1c Reg.PS_WRNBITS_WRN value.toNat
    else s)

end Sys2Proof.Machine
end

