-- ==== Sys2Proof/Machine/Resets.lean ====
section
/-! DEFINITION. Resets (00, 02): POR, KRST, the boot stage, the lamp-die reset in RUN and the loss of PD9. -/

namespace Sys2Proof.Machine

/-! ### Power-on -/

/-- The keeper flash as a loss of power or a KRST leaves it: a word whose program was cut holds bits that the spec leaves open (R439), an
erase cut short leaves its sector pending (R451), waiting records are gone, a Set LSA leaves the old contents (R111). -/
def State.flashCut (s : State) : State :=
  let s := s.lsaStop
  { s with
    freeCount := s.freeCount + 1
    otp := { s.otp with moorKey := s.keep.progs.foldl (fun m g =>
      if g.otp then m.set (g.word - 12) (some (Config.cutWord s.freeCount).toNat) else m) s.otp.moorKey }
    keep := { s.keep with
      words := s.keep.progs.foldl (fun m g => if g.otp then m else mset g.word (Config.cutWord s.freeCount) m) s.keep.words
      progs := []
      erasing := []
      jq := [] } }

/-- What survives a loss of PD9: OTP, NAND, keeper flash and what lies in it (label storage, archive), and the queue of commands. A page
whose program was cut off is unusable. -/
def State.dark (s : State) : State :=
  let t := s.flashCut
  let cut := (s.bur.ctx.filter (fun c => c.2.st == .prog)).map (·.2.page)
  { State.reset with
    otp := t.otp
    pins := t.pins
    freeCount := t.freeCount
    pending := t.pending
    host := { HostSt.reset with lsa := t.host.lsa, lsaDirty := t.host.lsaDirty, lsaDead := t.host.lsaDead, lsaOdd := t.host.lsaOdd }
    nand := { NandSt.reset with
      pages := t.nand.pages.filter (fun p => !cut.contains p.1)
      blocks := t.nand.blocks
      badAtFirst := t.nand.badAtFirst
      budget := t.nand.budget }
    keep := { t.keep with up := false, lastPath := .spmi }
    ev := { EventSt.reset with arch := t.ev.arch, head := t.ev.head } }

/-- POR: the whole device is reset; with VIN at or above RET_LEVEL it enters WAKE (R16, R47). -/
def execPor (vinRet : Bool) (s : State) : Host.Outcome State Fault Refusal :=
  .next (let t := s.dark.setB Reg.PS_STATUS_VIN_RET vinRet
    if vinRet then t.enterWake 0 false else t)

/-- AON_POWER_LOSS: with neither VSYS nor a store PD9 loses power; nothing volatile is left until the next POR (R305). -/
def execAonPowerLoss (s : State) : Host.Outcome State Fault Refusal :=
  .next (if s.storeOk then s else s.dark)

/-! ### The keeper (R352, R445, R451) -/

/-- One path's class KRST state after a KRST; its captures stay (R442, R482). -/
def PathSt.krst (x : PathSt) : PathSt :=
  { PathSt.reset with capEavail := x.capEavail, capAge := x.capAge, capEdebt := x.capEdebt, capEpoch := x.capEpoch, capAcc := x.capAcc,
                      capApl := x.capApl }

/-- A firmware bank is valid: its signature verifies, none of its sectors is pending and no program of it was cut (R445, R446). -/
def State.bankOk (s : State) (b : Nat) (ok : Bool) : Bool :=
  ok && s.sectCount (128 * b) (128 * b + 128) (·.pending) == 0 && !s.keep.progs.any (fun g => !g.otp && g.word / 65536 == b)

/-- Every pending sector is queued for another erase (R451). -/
def State.reErase (s : State) : State :=
  { s with keep := { s.keep with erasing := (s.keep.sectors.filter (fun x => x.2.pending)).map (fun x => ⟨x.1, .keeper, false⟩) } }

/-- Clear records that the ring or the archive holds, with their severities; each one's archive deletion is applied again (R481). -/
def State.reClear (s : State) : State :=
  let cl := (s.ev.ring ++ s.ev.arch).filter (fun x => x.2.noClear)
  cl.foldl (fun (a : State) c => a.clearArch c.2.seq (c.2.param % 4)) s

/-- The effect of a KRST on the mode's work: RESTORE starts again at the restore decision (R292), an early service after media ready with what it has
fetched (log entry 41); WAKE goes on at step 3 (R497, R506); DEN and the sequences go on (R272, R374). -/
def State.krstMode (s : State) : State :=
  match s.mode with
  | .wake => if s.keep.up && decide (s.getF Reg.SQ_STATUS_SEQ != 1) && decide (s.getF Reg.DT_WAKE_STEP ≤ 5) then s.setF Reg.DT_WAKE_STEP 2 else s
  | .restore => { s with rst := if s.mediaReady then { s.rst with decided := false } else { RestoreSt.reset with wakeAt := s.rst.wakeAt } }
  | _ => s

/-- A keeper reset with what the boot ROM finds. -/
def State.krst (s : State) (b : BootInfo) : State :=
  let v0 := s.bankOk 0 b.ok0
  let v1 := s.bankOk 1 b.ok1
  let frozen := s.getB Reg.EV_STATUS_FREEZE
  let setLsa := s.host.mboxBusy == some 0x4103
  let s1 := ((s.leaveService 4).flashCut).resetClass .krst
  let s2 : State := { s1 with
    cxl := s1.cxl.krst
    spmiP := s1.spmiP.krst
    host := { s1.host with
      auth := ⟨none, none, []⟩
      mbox := if setLsa then ⟨0x4103, rcRetry, .none⟩ else s1.host.mbox
      mboxBusy := if setLsa then none else s1.host.mboxBusy }
    ev := { s1.ev with frzEnd := if frozen then some s.ms else s1.ev.frzEnd }
    keep := { s1.keep with
      up := v0 || v1
      fwVer0 := b.ver0
      fwVer1 := b.ver1
      lastPath := .spmi
      unusable := !b.controlOk || !b.plane1Ok }
    regs := setRegs [(Reg.EF_FW_B0_VALID, b2n v0), (Reg.EF_FW_B1_VALID, b2n v1),
      (Reg.EF_FW_BANK, b2n (v1 && (!v0 || decide (b.ver0 < b.ver1))))] s1.regs }
  ((s2.reErase.reClear).flashHealth).krstMode

/-- KRST: needs PD10. -/
def execKrst (boot : BootInfo) (s : State) : Host.Outcome State Fault Refusal :=
  .next (if s.pd 10 then s.krst boot else s)

/-- The fields that the boot stage sets, by key. -/
def bootKeys : List Nat :=
  [Reg.PS_SET_VSET 9, Reg.PS_SET_SS 9, Reg.PS_SET_SS 16, Reg.PS_SET_VSET 17, Reg.PS_SET_SS 17].map (·.key)

/-- VKEEP_GOOD: the boot stage starts B9 and L0 at their defaults with 250 µs soft-start; L1's value follows VIO_EXT, and without VIO_EXT L1
waits for it (R352). -/
def execVkeepGood (vioMv : Nat) (s : State) : Host.Outcome State Fault Refusal :=
  .next (if s.mode = .wake ∧ s.getF Reg.SQ_STATUS_SEQ = 1 ∧ s.entSt 16 = 0 then
    let s1 := (({ s with written := s.written.filter (fun x => !bootKeys.contains x.1) } : State).vioSeen vioMv).setFs
      [(Reg.PS_SET_VSET 9, 1000), (Reg.PS_SET_SS 9, 1), (Reg.PS_SET_SS 16, 1), (Reg.PS_SET_SS 17, 1)]
    ((if entLive (s.entSt 9) then s1 else s1.switchOn 9).switchOn 16).repower
    else s)

/-! ### The lamp-die reset (Table 2-9, R44, R69 to R71) -/

/-- The lamp logic loses its state with the ledger kept in PD2. Copies in flight are given up (Table 4-2); a context whose page is still
erased keeps it. A write-through copy that is confirmed and not mapped holds a write that the reset discards: it is an orphan (R25, R253; log entry
115). -/
def State.lampReset (s : State) : State :=
  let t0 := (s.bur.ctx.filter (fun c => c.2.st.inFlight && c.2.kind == .trickle)).foldl
    (fun (a : State) (c : Nat × Ctx) => a.trickleBack c.2.gran c.2.age) s
  let t := (s.bur.ctx.filter (fun c => (c.2.st == .prog || c.2.st == .check) && c.2.kind == .wt)).foldl
    (fun (a : State) (c : Nat × Ctx) => a.orphanBack c.2.page c.2.gran) t0
  let u := t.lampLost
  let held : Ctx → Ctx := fun c =>
    if c.st == .armed || c.st == .setup || c.st == .load then { Ctx.idle with st := .armed, page := c.page, blk := c.blk }
    else { Ctx.idle with blk := c.blk }
  { u with
    cover := { u.cover with ledger := t.cover.ledger, ledDflt := t.cover.ledDflt, mirrorPend := t.cover.mirrorPend }
    bur := { u.bur with ctx := t.bur.ctx.map (fun c => (c.1, held c.2)), voidExtra := t.bur.voidExtra }
    nand := { u.nand with
      eraseQ := t.nand.eraseQ
      erasing := t.nand.erasing
      refreshQ := (t.bur.ctx.filter (fun c => c.2.st.inFlight && c.2.kind == .refresh)).foldl (fun q c => sadd c.2.gran q) t.nand.refreshQ
      orphans := t.nand.orphans
      unread := t.nand.unread
      changed := t.ckptDrop.nand.changed } }

/-- Mirrored lines that a standby holds, in its ledger stage too, are lost with its write buffers: its mirror is no longer known to be current (R34,
log entry 16). -/
def State.mirrorLost (s : State) (stage : Option LStage) : State :=
  if s.twin.mstaged.isEmpty && s.twin.mwait.isEmpty && !(s.isStandby && stage.isSome) then s
  else { s.setF Reg.TW_STATUS_MIRROR 1 with twin := { s.twin with mstaged := [], mwait := [] } }

/-- LRST_REQUEST: in RUN the write path fences and the drains start; in WAKE the lamp die is reset at once and WAKE resumes at step 6;
ignored in BURROW and RESTORE (Table 2-6). -/
def execLrstRequest (s : State) : Host.Outcome State Fault Refusal :=
  .next (match s.mode with
    | .run => if s.bur.trig then s else s.setF Reg.MD_STATUS_LRST_ACT 1
    | .wake => if s.pd 1 then
        (let t := s.lampLost
         if 6 ≤ t.getF Reg.DT_WAKE_STEP then t.trainStart else t)
      else s
    | _ => s)

/-- An LRST in RUN has fenced and not yet reset. -/
def State.draining (s : State) : Bool := s.mode == .run && s.getB Reg.MD_STATUS_LRST_ACT && !s.getB Reg.DC_STATUS_HOLD

/-- A channel's state under the hold path: self-refresh, but for a failed channel, which issues no SRE (R184, R191). -/
def State.heldState (s : State) (ch : Nat) : Nat := if s.channels ≤ ch then 0 else if s.chanFailed ch then 6 else 3

/-- The keeper owns the DRAM's lines (R191). -/
def State.takeHold (s : State) : State :=
  s.setFs [(Reg.DC_STATUS_HOLD, 1), (Reg.DC_STATUS_CH0_STATE, s.heldState 0), (Reg.DC_STATUS_CH1_STATE, s.heldState 1)]

/-- DRAIN_DONE: committed lines are in DRAM and no replay runs, the DRAM is in self-refresh under the hold path, the LRST is applied (R44, R191,
R192). -/
def execDrainDone (s : State) : Host.Outcome State Fault Refusal :=
  .next (if s.draining && !s.dram.wbuf.any (fun e => s.lineFailed e.line) && !s.dram.sub.any (fun x => x.2.replay.isSome) then
    let t := (({ s.discardAll with dram := { s.dram with cells := s.image, wbuf := [] } } : State).lampReset).mirrorLost s.host.stage
    ({ t.takeHold with
      bur := { t.bur with released := false } }).repower
    else s)

/-- Triggers that were latched act in their order (R60, R71). Each acts as it would have at its own instant: with a bridge window configured a
bridgeable one opens the window (DESIGN CHOICE, log entry 80). -/
def State.fireLatched (s : State) : State :=
  s.bur.latched.foldl (fun (a : State) c => a.trigger c) { s with bur := { s.bur with latched := [] } }

/-- DRAIN_TIMEOUT: the reset is cancelled and a burrow with cause LAMP starts, which the latched triggers join; OFF with LOCKOUT 0x09 follows
it (R65, R69). -/
def execDrainTimeout (s : State) : Host.Outcome State Fault Refusal :=
  .next (if s.draining then
    ((((s.setF Reg.MD_STATUS_LRST_ACT 0).raise .keeper 0x31 .critical 0).recordLock 9 0).trigger .lamp).fireLatched
    else s)

/-- The lamp die is in reset under the hold path. -/
def State.inLrst (s : State) : Bool := s.mode == .run && s.getB Reg.MD_STATUS_LRST_ACT && s.getB Reg.DC_STATUS_HOLD

/-- LAMP_RELEASE: the lamp logic is released; a parity error in the retained ledger opens a ledger-doubt window (R70). -/
def execLampRelease (parityWord : Option Nat) (s : State) : Host.Outcome State Fault Refusal :=
  .next (if s.inLrst then
    let t := ({ s with bur := { s.bur with released := true } } : State).repower
    match parityWord with
    | some w => t.openDoubt w
    | none => t
    else s)

/-- An IDLE context takes a page while the reserve has one. -/
def State.armIdle (s : State) (n : Nat) : State := if (s.ctxOf n).st == .idle then (s.armCtx n).getD s else s

/-- Every IDLE context takes a page while the reserve has one (R198). -/
def State.armAll (s : State) : State := (List.range 256).foldl State.armIdle s

/-- The end of a lamp-die reset: the DRAM controllers are restored, the contexts re-armed, the books rebuilt from the retained ledger, and the
latched triggers act (R71, Table 2-9). -/
def State.lampBack (s : State) : State :=
  let s1 := s.setFs [(Reg.DC_STATUS_HOLD, 0), (Reg.MD_STATUS_LRST_ACT, 0),
    (Reg.DC_STATUS_CH0_STATE, if s.chanFailed 0 then 6 else 2),
    (Reg.DC_STATUS_CH1_STATE, if s.channels = 2 then (if s.chanFailed 1 then 6 else 2) else 0)]
  let s2 : State := { s1 with dram := { s1.dram with trained := true }, bur := { s1.bur with released := false }, nand := { s1.nand with capOn := true } }
  ((s2.recount.rebuildBooks).armAll.repower).fireLatched

end Sys2Proof.Machine
end

