-- ==== Sys2Proof/Machine/ModeCtl.lean ====
section
/-! DEFINITION. The mode controller (02, and the LOCKOUT and hardware-cut rules of 12): wake events, LOCKOUT release, VIN, the predictor,
PFW_N and the bridge window. -/

namespace Sys2Proof.Machine

/-! ### LOCKOUT and wake events (R47, R62 to R64) -/

/-- The bits of MD_LOCKOUT.ALL that WAKE_REQ and SERVICE_N release: codes 0x01, 0x04, 0x05 and 0x09 (Table 2-5). -/
def wakeReleases : Nat := 0x119

/-- Release recorded reasons: the latch stands, and REASON chooses anew, while any is left; with none left REASON keeps the last (R62). -/
def State.releaseLock (s : State) (bits : Nat) : State :=
  let left := s.getF Reg.MD_LOCKOUT_ALL - (s.getF Reg.MD_LOCKOUT_ALL &&& bits)
  s.setFs [(Reg.MD_LOCKOUT_ALL, left), (Reg.MD_STATUS_LOCKOUT, if s.mode = .off then b2n (left != 0) else s.getF Reg.MD_STATUS_LOCKOUT),
    (Reg.MD_LOCKOUT_REASON, if left = 0 then s.getF Reg.MD_LOCKOUT_REASON else lockPick left),
    (Reg.MD_LOCKOUT_RAIL, if left = 0 ∨ left.testBit 3 ∨ left.testBit 4 then s.getF Reg.MD_LOCKOUT_RAIL else 0)]

/-- No reason is recorded. -/
def State.lockFree (s : State) : Bool := s.getF Reg.MD_LOCKOUT_ALL == 0

/-- WAKE_REQ or SERVICE_N in OFF: releases what it may, and wakes when nothing is left and VIN is there (Table 2-2, R62). -/
def State.wakeAct (s : State) (cause : Nat) : State :=
  if s.mode = .off then
    (let t := s.releaseLock wakeReleases
     if t.lockFree && t.vinRet then t.enterWake cause false else t)
  else s

/-- A thermal LOCKOUT is released once the temperature condition holds with 60 s in OFF or a latch clear; WAKE follows with VIN and no
other reason (R62 to R64). -/
def State.thermRelease (s : State) : State :=
  if s.mode == .off && (s.lockHas 6 || s.lockHas 7) && s.therm.tempOk && (s.bur.latchClr || decide (s.therm.offAt + 60000 ≤ s.ms)) then
    let t := (({ s with bur := { s.bur with latchClr := false } } : State).releaseLock 0x60).setF Reg.MD_STATUS_THERM_LATCH 0
    if t.lockFree && t.vinRet then t.enterWake 5 false else t
  else s

/-- A latch clear: remembered until the temperature condition holds; without code 0x06 or 0x07 it does nothing (R63). -/
def State.latchClear (s : State) : State :=
  if s.lockHas 6 || s.lockHas 7 then (({ s with bur := { s.bur with latchClr := true } } : State)).thermRelease else s

/-- WAKE_REQ. -/
def execWakeReq (p : Path) (s : State) : Host.Outcome State Fault Refusal :=
  .next (if s.reach p 0x1010 && p == .spmi then (s.wrote p).wakeAct 2 else s)

/-- LATCH_CLR. -/
def execLatchClr (p : Path) (s : State) : Host.Outcome State Fault Refusal :=
  .next (if s.reach p 0x1010 then (s.wrote p).latchClear else s)

/-- SERVICE_N_HOLD: a latch clear and a wake request (R63); outside OFF, where no scan reads VIO_EXT, SERVICE_N counts as high without it
(R519). -/
def execServiceNHold (s : State) : Host.Outcome State Fault Refusal :=
  .next (if s.rail.vioOk || s.mode == .off then s.latchClear.wakeAct 3 else s)

/-- THERMAL_LOCKOUT_SCAN: one scan in a thermal LOCKOUT; `temps` are TS5 to TS8 and the enabled external sensors; T_ORDERLY
is the threshold in force (R380, R385). -/
def execThermalLockoutScan (temps : List Int) (s : State) : Host.Outcome State Fault Refusal :=
  .next (if s.mode == .off && (s.lockHas 6 || s.lockHas 7) then
    let limit : Int := 10 * ((s.thresholds.getD 3 0 : Int) - s.thHyst)
    ({ s with therm := { s.therm with tempOk := temps.all (fun t => decide (t < limit)) } } : State).thermRelease
    else s)

/-- HW_CUT: a T_CRIT comparator turns every output off; OFF with LOCKOUT 0x07, no burrow, nothing journalled (R386). -/
def execHwCut (sensor : Nat) (s : State) : Host.Outcome State Fault Refusal :=
  .next (if s.mode == .off || decide (8 < sensor) then s
    else
      let s1 := ((s.abortAudit.addSat Reg.TH_LOG_CUTS 1).raise .keeper 0x34 .critical sensor).recordLock 7 0
      let s2 := s1.setFs [(Reg.ES_STATUS_PATH, 0), (Reg.ES_STATUS_ACC_ON, 0), (Reg.MD_STATUS_BRIDGE, 0)]
      let s3 : State := { s2 with keep := { s2.keep with jq := [] } }
      (s3.flashCut).reachOff)

/-! ### VIN (R50, R51, R338, R339) -/

/-- A FULL restore that is cut short leaves the DRAM partly filled, and the device drops it (R47, Table 8-3). -/
def State.partFilled (s : State) : State :=
  if s.getF Reg.MD_STATUS_RSTR_FORM = 1 then s else { s.setF Reg.MD_STATUS_DRAM_HELD 0 with bur := { s.bur with heldVer := 0 } }

/-- VIN is lost before the device serves the host (Table 2-2). -/
def State.vinGone (s : State) : State :=
  match s.mode with
  | .wake => s.vinLost
  | .restore => if s.mediaReady then s else s.partFilled.vinLost
  | _ => s

/-- VIN_COMPARATOR_FIRE: comparator A, or B, sees VIN below PF_LEVEL. -/
def execVinComparatorFire (b : Bool) (s : State) : Host.Outcome State Fault Refusal :=
  .next (
    let f := if b then Reg.PS_STATUS_CMP_B else Reg.PS_STATUS_CMP_A
    if s.getB f then s
    else
      let t := ({ s with rail := { s.rail with rose := false, back := false } } : State).setFs [(f, 1), (Reg.PS_STATUS_VIN_RET, 0)]
      (t.vinGone).trigger (if b then .vinB else .vinA))

/-- A down sequence, or the shed step that precedes it, goes on (R68). -/
def State.goingDown (s : State) : Bool := s.getF Reg.SQ_STATUS_SEQ == 4 || (s.mode == .burrow && s.phase == .p5)

/-- VIN_CMP_RELEASE: a fired comparator sees VIN at RET_LEVEL; with neither fired VIN has returned (R339). -/
def execVinCmpRelease (b : Bool) (s : State) : Host.Outcome State Fault Refusal :=
  .next (
    let f := if b then Reg.PS_STATUS_CMP_B else Reg.PS_STATUS_CMP_A
    if !s.getB f then s
    else
      let t := s.setF f 0
      if t.vinLoss then t
      else { t.setF Reg.PS_STATUS_VIN_RET 1 with rail := { t.rail with rose := t.rail.rose || s.goingDown } })

/-- VIN_CMP_MISMATCH: one comparator fired and the other has not within 1 µs (R50). -/
def execVinCmpMismatch (s : State) : Host.Outcome State Fault Refusal :=
  .next (if s.getB Reg.PS_STATUS_CMP_A != s.getB Reg.PS_STATUS_CMP_B then
    s.raise .keeper 0x10 .warning (b2n (s.getB Reg.PS_STATUS_CMP_B))
    else s)

/-- PREDICTOR_FIRE: the forecast crosses PF_LEVEL on two samples (R52). -/
def execPredictorFire (s : State) : Host.Outcome State Fault Refusal :=
  .next (if s.getB Reg.MD_CFG_PRED_EN then s.trigger .pred else s)

/-- PFW_N_FIRE: PFW_N is low for 50 ns (R53); without VIO_EXT it counts as high (R519). -/
def execPfwNFire (s : State) : Host.Outcome State Fault Refusal :=
  .next (
    let t : State := { s with pins := { s.pins with pfwN := false } }
    if s.getB Reg.MD_CFG_PFW_EN && s.rail.vioOk then t.trigger .pfw else t)

/-! ### The bridge window (R54 to R56) -/

/-- VIN at or above RET_LEVEL as the agreed input set has it: with a shared supply both units of a pair report it (Table 13-6). -/
def State.vinAgreed (s : State) : Bool :=
  s.vinRet && (!(s.twinOn && s.getB Reg.TW_CFG_SH_VIN && s.twinUp)
    || (match s.twin.inPartner with | some m => m.vinRet | none => true))

/-- BRIDGE_CLOSE: VIN has stayed at or above RET_LEVEL for 1 ms. -/
def execBridgeClose (s : State) : Host.Outcome State Fault Refusal :=
  .next (if s.getB Reg.MD_STATUS_BRIDGE && s.vinAgreed then (s.setF Reg.MD_STATUS_BRIDGE 0).raise .keeper 0x02 .info 0 else s)

/-- BRIDGE_EXPIRY: the window ends in a burrow with cause BRIDGE. -/
def execBridgeExpiry (s : State) : Host.Outcome State Fault Refusal :=
  .next (if s.getB Reg.MD_STATUS_BRIDGE then s.trigger .bridge else s)

end Sys2Proof.Machine
end

