-- ==== Sys2Proof/Machine/Burrow.lean ====
section
/-! DEFINITION. The burrow (06, and the abandon of 02): the fence, shed steps, the sweep, programs, the manifest, the commit and the abandon. -/

namespace Sys2Proof.Machine

/-! ### The fence (R194, R200 to R202) -/

/-- A granule whose entry is CLEAN goes to the handoff queue. -/
def State.handoffClean (s : State) (g : Nat) : State := if s.ledgerOf g = .clean then s.handoff g else s

/-- An orphan joins its list; a seventeenth stands beside it and makes the burrow run to completion (R253). -/
def State.addOrphan (s : State) (page g : Nat) : State :=
  if s.nand.orphans.length < 16 then s.listOrphan page g else (s.listOrphan page g).setF Reg.MD_STATUS_NOABANDON 1

/-- What the fence does to one context: an unconfirmed copy stops and its context keeps the erased page; a confirmed one runs on, and a copy
already programmed is settled (R150, R201). -/
def State.fenceCtx (s : State) (n : Nat) : State :=
  let c := s.ctxOf n
  match c.st with
  | .setup | .load =>
    let t := (s.dropCtxReads n).keepPage n
    (match c.kind with
      | .trickle => t.trickleBack c.gran c.age
      | .refresh => t.handoffClean c.gran
      | _ => t)
  | .prog =>
    (match c.kind with
      | .refresh => s.handoffClean c.gran
      | .wt => s.addOrphan c.page c.gran
      | _ => s)
  | .check =>
    (match c.kind with
      | .trickle => ((s.trickleBack c.gran c.age).handoff c.gran).rearm n
      | .refresh => (s.handoffClean c.gran).rearm n
      | .wt => (s.addOrphan c.page c.gran).rearm n
      | _ => s.rearm n)
  | _ => s

/-- The CLEAN granules mapped on a LUN that failed before the fence and still not copied again go to the handoff queue (R250). -/
def State.strand (s : State) : State :=
  ((s.luns.filter s.lunFailed).flatMap s.mappedOn).foldl (fun (a : State) g => if a.bur.handoff.contains g then a else a.handoffClean g) s

/-- Program setup on a NAND channel: its first armed context on a ready LUN (R202). -/
def State.setupCh (s : State) (ch : Nat) : State :=
  match s.bur.ctx.find? (fun c => c.2.st == .armed && locLun c.2.page / 8 == ch && !s.lunBusy (locLun c.2.page) && s.lunUp (locLun c.2.page)) with
  | some (n, c) => s.setCtx n { c with st := .setup }
  | none => s

/-- Program setup on each NAND channel. -/
def State.setupAll (s : State) : State := (List.range 8).foldl State.setupCh s

/-- The write that a write-through holds waits again: its copy can no longer be mapped (R150). -/
def wtHeld : Option LStage → Option LStage
  | some ⟨w, .wtBusy _⟩ => some ⟨w, .wtWait⟩
  | x => x

/-- The engine's own state at a fence. -/
def State.fenceBur (s : State) : State :=
  { s with
    phase := .p0
    nand := { s.ckptDrop.nand with epoch := s.nand.epoch + 1 }
    cover := { s.cover with target := none, calCount := 0 }
    bur := { s.bur with
      version := s.nand.epoch + 1
      doubt := s.getB Reg.LG_STATUS_DOUBT
      inSanitize := s.host.sanitize != 0
      pos := 0
      pass := 0
      stopped := false
      handoff := []
      slotsBad := []
      faultTake := []
      drained := false
      dramBad := (List.range s.channels).filter s.chanFailed
      noManifest := false
      lampDead := false
      manLoc := none
      manPages := []
      committed := false
      trig := false
      fenced := true
      abn := .none
      eFence := s.cover.eAvail }
    host := { s.host with
      stage := wtHeld s.host.stage
      mbox := match s.host.mboxBusy with | some op => ⟨op, rcRetry, .none⟩ | none => s.host.mbox
      mboxBusy := none }
    rail := { s.rail with downTo := 0, rose := false } }

/-- BE_ at a fence; the two times are measured, within the bounds of Table 6-2 (log entry 3). -/
def State.fenceRegs (s : State) : State :=
  ({ s with freeCount := s.freeCount + 2 } : State).setFs [(Reg.BE_STATUS_ESTOP, 0), (Reg.BE_STATUS_P1_LATE, 0), (Reg.BE_STATUS_DEFERRED, 0),
    (Reg.BE_STATUS_MAN_CLOSED, 0), (Reg.BE_STATUS_ABANDONING, 0), (Reg.BE_STATUS_HANDOFF, 0), (Reg.BE_STATUS_ACTIVE, 1),
    (Reg.BE_STATUS_SHED, 15), (Reg.BE_TAKEN_TAKEN, 0), (Reg.BE_LANDED_LANDED, 0), (Reg.BE_LOST_LOST, 0), (Reg.BE_POISONED_POISONED, 0),
    (Reg.BE_FAULTS_RETARGETS, 0), (Reg.BE_FAULTS_BLK_RETIRED, 0), (Reg.BE_FAULTS_LUN_FAILED, 0), (Reg.BE_DUR_P2_MS, 0),
    (Reg.BE_DUR_P3_MS, 0), (Reg.BE_DUR_P4_MS, 0), (Reg.BE_ENERGY_E_FENCE, min 0xFFFF (s.cover.eAvail / 10000)), (Reg.BE_ENERGY_E_SPENT, 0),
    (Reg.BE_TIME_T_FENCE_NS, Config.measured s.freeCount % 151), (Reg.BE_TIME_T_FIRST_NS, Config.measured (s.freeCount + 1) % 901),
    (Reg.LG_STATUS_TRK_MODE, 0), (Reg.NB_STATUS_CKPT_BUSY, 0), (Reg.SQ_STATUS_QUEUED, 1),
    (Reg.MD_STATUS_NOABANDON, if s.bur.voidExtra.isEmpty then s.getF Reg.MD_STATUS_NOABANDON else 1)]

/-- The mirrored line in the ledger stage, a write-through, has been acknowledged. -/
def State.stageAcked (s : State) : Bool :=
  match s.host.stage with | some l => decide (l.w.wsn ≤ s.twin.apl) | none => false

/-- The fence exchange as this unit starts it: its FENCE frame, no more acknowledgements, a standby's wait, an active's grace over
(R414 to R416). Mirrored lines that a standby has not acknowledged are dropped: its partner sends them again after an abandon. -/
def State.fenceTwin (s : State) : State :=
  if s.isSolo then s
  else
    let t := s.frameIf s.twinUp 5 (if s.isStandby then s.twin.apl else s.twin.acc)
    { (t.setF Reg.TW_HELD_FX (b2n s.twin.partnerFence)) with
      host := { t.host with stage := if s.isStandby && !s.stageAcked then none else t.host.stage }
      twin := { t.twin with
        noAck := true
        mwait := []
        fenceWsn := s.twin.acc
        grace := false
        burrowed := s.isActive
        fenceWait := s.isStandby && !s.twin.partnerFence } }

/-- Local entries that wait for a retry are left off, and the dependants that wait with them: nothing is retried in BURROW (R336, R354,
R374). -/
def State.noRetry (s : State) : State :=
  let l := railEntries.filter (fun n => s.entSt n == 4)
  let deps := (l.flatMap s.allDependants).filter (fun m => s.entSt m == 1)
  if l.isEmpty then s else (s.setEnts (l ++ deps) 5).setF Reg.SQ_STATUS_LEFT_OFF 1

/-- The fence of a burrow; the critical rail whose fault began it acts on it as Table 6-5 says (R336). A Set LSA in progress ends with Retry Required and the old contents (R85), and calibration stops (R137). -/
def State.fence (s : State) : State :=
  let t := ((((s.blockForce 5).enterMode .burrow .p0).lsaStop.zeroStaging.fenceBur).fenceRegs).noRetry
  let u : State := { t with bur := { t.bur with inRestore := s.mode == Mode.restore } }
  let v := (((u.bur.ctx.map (·.1)).foldl (fun (a : State) n => a.fenceCtx n) u).strand.setupAll).fenceTwin
  (([0, 7, 1, 2, 3] : List Nat).filter (fun n => s.rail.latched.contains n)).foldl State.burrowRail v

/-- FENCE: within 150 ns of a trigger (R49); a burrow that an abandon's failed power-up starts fences from BURROW (R354). A switch-over that
the trigger met in progress completes first (Table 13-11). -/
def execFence (s : State) : Host.Outcome State Fault Refusal :=
  .next (if s.bur.trig && !s.twin.switching && (s.mode == .run || (s.mode == .restore && s.mediaReady) || s.mode == .burrow) && !s.getB Reg.MD_STATUS_LRST_ACT
    then s.fence else s)

/-- WRITE_PATH_OPEN: the write path opens, or a latched trigger starts its burrow with the fence in this same cycle and the path still
closed (R71, Table 2-9). -/
def execWritePathOpen (s : State) : Host.Outcome State Fault Refusal :=
  .next (if s.inLrst && s.bur.released then
    (if s.lampBack.bur.trig then s.lampBack.fence else s.lampBack.ledgerGo)
    else s)

/-! ### Shed steps (R204, R206, R222, R357) -/

/-- The hold path takes the DRAM at shed step 2; a complete image is held under the burrow's version (R191, R222, R271); a drain
that missed BE_TMO.P1_US has left none, however soon after it ended (R207). -/
def State.holdDram (s : State) : State :=
  let drained := s.dram.wbuf.isEmpty
  let held := drained && !s.getB Reg.BE_STATUS_P1_LATE && s.bur.dramBad.isEmpty && !s.bur.lampDead
  { (s.takeHold.setF Reg.MD_STATUS_DRAM_HELD (b2n held)) with
    bur := { s.bur with drained := drained, heldVer := if held then s.bur.version else 0 } }

/-- Shed step k begins. -/
def State.shed (s : State) (k : Nat) : State :=
  let s := s.seqForce
  let acc := min 2 (s.getF Reg.SQ_CFG_ACC_SHED) = k
  let s1 := s.setFs [(Reg.SQ_STATUS_QUEUED, s.getF Reg.SQ_STATUS_QUEUED - 2 ^ k), (Reg.SQ_STATUS_SEQ, 3), (Reg.SQ_STATUS_STEP, k),
    (Reg.SQ_STATUS_ELAPSED, 0), (Reg.BE_STATUS_SHED, k), (Reg.ES_STATUS_ACC_ON, if acc then 0 else s.getF Reg.ES_STATUS_ACC_ON),
    (Reg.ES_STATUS_CHG, if k = 0 ∧ s.getF Reg.ES_STATUS_CHG ≠ 5 then 0 else s.getF Reg.ES_STATUS_CHG),
    (Reg.ES_STATUS_BAL_ACTIVE, if k = 0 then 0 else s.getF Reg.ES_STATUS_BAL_ACTIVE)]
  let s2 : State := { s1 with
    phase := if s.phase = .p0 then .p1 else s.phase
    rail := { s1.rail with seqStart := s1.rail.tick } }
  let s3 := s2.setEnts (railEntries.filter (fun n => s2.shedOf n == k && (s2.entSt n == 1 || s2.entSt n == 4))) 0
  ((if k = 2 then s3.holdDram else s3).repower).seqCheck

/-- SHED_STEP: the lowest queued step begins when none runs. With no closed manifest P4 ends as shed step 2 begins (R221). -/
def execShedStep (k : Nat) (s : State) : Host.Outcome State Fault Refusal :=
  .next (if s.mode == .burrow && s.bur.abn == .none && s.getF Reg.SQ_STATUS_SEQ == 0 && decide (k < 4)
      && (s.getF Reg.SQ_STATUS_QUEUED).testBit k && s.getF Reg.SQ_STATUS_QUEUED % 2 ^ k == 0 then
    let t := s.shed k
    if k = 2 ∧ s.phase = .p4 ∧ s.bur.manLoc = none then t.p5 else t
    else s)

/-! ### P1 (R207) -/

/-- Every pending mirror update is written (R133). -/
def State.mirrorFlush (s : State) : State :=
  { s with cover := { s.cover with
      mirror := s.cover.mirrorPend.foldl (fun m x => msetD s.cover.mirrorDflt x.1 x.2 m) s.cover.mirror
      mirrorPend := [] } }

/-- P1_END: the mirror is flushed and P2 begins; a standby waits for the fence exchange (R415). -/
def execP1End (s : State) : Host.Outcome State Fault Refusal :=
  .next (if s.mode == .burrow && (s.phase == .p0 || s.phase == .p1) && !s.twin.fenceWait then
    { s.mirrorFlush with phase := .p2, bur := { s.bur with t2 := s.ms } }
    else s)

/-- P1_LATE: P1_US after the fence a drain has not ended. -/
def execP1Late (s : State) : Host.Outcome State Fault Refusal :=
  .next (if s.mode == .burrow && s.getB Reg.BE_STATUS_ACTIVE && decide (s.shedNo < 3) && !s.dram.wbuf.isEmpty then
    s.setF Reg.BE_STATUS_P1_LATE 1 else s)

/-! ### The sweep (R208 to R210, R214 to R216) -/

/-- Passes of the sweep: two inside a ledger-doubt window (R35), none in a sanitize (R113). -/
def State.passes (s : State) : Nat := if s.bur.inSanitize then 0 else if s.bur.doubt then 2 else 1

/-- The mirror marks a granule other than CLEAN. -/
def State.mirrorDirty (s : State) (g : Nat) : Bool := mget s.cover.mirrorDflt s.cover.mirror g != .clean

/-- The pass takes a granule: it is DIRTY at its visit, and its mirror entry belongs to the pass. -/
def State.sweepable (s : State) (g : Nat) : Bool :=
  (match s.ledgerOf g with | .dirty _ => true | _ => false) && (!s.bur.doubt || s.mirrorDirty g == (s.bur.pass == 0))

/-- The next granule of the pass. -/
def State.nextDirty (s : State) : Option Nat :=
  if s.cover.ledDflt = .clean then (s.cover.ledger.find? (fun x => decide (s.bur.pos ≤ x.1) && s.sweepable x.1)).map (·.1)
  else (List.range s.nReported).find? (fun g => decide (s.bur.pos ≤ g) && s.sweepable g)

/-- A granule has been taken: its slot is recorded, or a burrow context holds it. -/
def State.isTaken (s : State) (g : Nat) : Bool :=
  (mfind g s.bur.staging).isSome || s.bur.ctx.any (fun c => c.2.st.inFlight && c.2.kind == .burrow && c.2.gran == g)

/-- The sweep reads a ledger word with a parity error: of its granules not yet taken, those that the mirror does not mark CLEAN are taken, all of
them when the mirror line is uncorrectable (R134, R210). -/
def State.wordFault (s : State) (w : Nat) (mirrorUe : Bool) : State :=
  let gs := ((List.range 16).map (fun i => 16 * w + i)).filter (fun g =>
    decide (s.bur.pos ≤ g) && decide (g < s.nReported) && (mirrorUe || s.mirrorDirty g) && !s.isTaken g)
  ({ s with bur := { s.bur with faultTake := gs, pos := 16 * (w + 1) } } : State).setFs
    [(Reg.LG_PARITY_ADDR, w), (Reg.LG_PARITY_COUNT, min 0xFF (s.getF Reg.LG_PARITY_COUNT + 1))]

/-- The sweep's read comes to a word: nothing it would take lies before it. -/
def State.wordNext (s : State) (w : Nat) : Bool :=
  decide (s.bur.pass < s.passes) && s.bur.faultTake.isEmpty && decide (s.bur.pos < 16 * (w + 1)) && decide (16 * w < s.nReported)
    && (match s.nextDirty with | some g => decide (16 * w ≤ g) | none => true)

/-- The granule's map entry is fetched from DRAM for a context (R212). In a failed channel it cannot be read. -/
def State.fetchMap (s : State) (n g : Nat) : State :=
  let line := s.mapLineOf g
  if s.lineFailed line then s.setCtx n { s.ctxOf n with sup := none } else s.ask ⟨line, false, 2, 3, n⟩

/-- A parity error of the translation cache drops the entry, which is fetched again (R242). -/
def State.cacheParity (s : State) (fault : Bool) (g : Nat) : State :=
  if fault && s.nand.tcache.contains g then
    ({ s with nand := { s.nand with tcache := sdel g s.nand.tcache } } : State).addSat Reg.NB_TCACHE_PAR_ERR 1
  else s

/-- Assign a granule to a context: its lines are read, its map entry looked up (R211, R212). -/
def State.assign (s : State) (n g : Nat) : State :=
  let c := s.ctxOf n
  let t := (s.setCtx n { Ctx.idle with
      st := .load, kind := .burrow, gran := g, page := c.page, ver := s.bur.version, blk := c.blk
      sup := if s.nand.mapUnknown.contains g then none else some (s.mapOf g) }).lookupMap g
  ((if s.nand.tcache.contains g then t else t.fetchMap n g).askCtx n).setF Reg.BE_TAKEN_TAKEN (s.getF Reg.BE_TAKEN_TAKEN + 1)

/-- land(g): `none` while the sweep waits for a context (R208, R214). -/
def State.land (s : State) (g : Nat) : Option State :=
  if s.bur.stopped || s.chanFailed (s.chanOf g) || s.bur.dramBad.contains (s.chanOf g) then some (s.recordLost g)
  else match s.takeCtx with
    | some (n, t) => some (t.assign n g)
    | none =>
      if s.bur.ctx.any (fun c => s.ctxReady c.2) || (s.nand.pErased != 0 && (List.range 256).any (fun n => (s.pickPage n).isSome)) then none
      else some (s.recordLost g)

/-- Take the oldest handoff granule. -/
def State.sweepHandoff (s : State) : State :=
  match s.bur.handoff with
  | [] => s
  | g :: t => (({ s with bur := { s.bur with handoff := t } } : State).land g).getD s

/-- One visit of the sweep. A burrow within a Sanitize takes no granule (R113, R215). -/
def State.burrowVisit (s : State) : State :=
  if s.bur.inSanitize then { s with bur := { s.bur with handoff := [] } }
  else match s.bur.faultTake with
    | g :: t => (({ s with bur := { s.bur with faultTake := t } } : State).land g).getD s
    | [] =>
      if 256 < s.bur.handoff.length then s.sweepHandoff
      else if s.bur.pass < s.passes then
        match s.nextDirty with
        | some g => (s.land g).elim s (fun t => { t with bur := { t.bur with pos := g + 1 } })
        | none => { s with bur := { s.bur with pass := s.bur.pass + 1, pos := 0 } }
      else ({ s with regs := setRegs [(Reg.BE_STATUS_HANDOFF, 1)] s.regs } : State).sweepHandoff

/-- What the sweep's ledger read finds: a faulted word is taken as the mirror says. -/
def State.sweepRead (s : State) (faultWord : Option Nat) (mirrorUe : Bool) : State :=
  match faultWord with
  | some w => if s.wordNext w then s.wordFault w mirrorUe else s
  | none => s

/-- The granule that a visit would take, whose cached map entry the lookup reads. -/
def State.visitGran (s : State) : Option Nat :=
  s.bur.faultTake.head? <|> (if 256 < s.bur.handoff.length then s.bur.handoff.head?
    else if s.bur.pass < s.passes then s.nextDirty else s.bur.handoff.head?)

/-- BURROW_SWEEP_VISIT: `faultWord` is a ledger word that the sweep reads with a fault, `mirrorUe` an uncorrectable mirror line of it, `cacheFault` a
parity error of the translation-cache entry that the visit reads. -/
def execBurrowSweepVisit (faultWord : Option Nat) (mirrorUe : Bool) (s : State) (cacheFault : Bool := false) : Host.Outcome State Fault Refusal :=
  .next (if s.mode == .burrow && s.phase == .p2 && s.bur.abn == .none then
    let t := s.loadTurns.sweepRead faultWord mirrorUe
    (match t.visitGran with | some g => t.cacheParity cacheFault g | none => t).burrowVisit
    else s)

/-! ### Programs (R213, R214, R223 to R225) -/

/-- EP(T) in nJ (R223). -/
def State.epNow (s : State) : Nat :=
  (if s.getF Reg.BE_CFG_EP_NJ = 0 then 1000 else s.getF Reg.BE_CFG_EP_NJ) * s.kOf s.tMax / 100000

/-- Confirmed programs spend EP(T) each (R223). -/
def State.spend (s : State) (n : Nat) : State := { s with bur := { s.bur with account := s.bur.account - n * s.epNow } }

/-- PROGRAM_CONFIRM: a context whose data has all been delivered confirms while the account is positive and its LUN's array is free; in RUN its
channel keeps a ready LUN (R199). -/
def execProgramConfirm (n : Nat) (s : State) : Host.Outcome State Fault Refusal :=
  .next (
    let c := s.ctxOf n
    if c.st == .load && !s.ctxReading n && decide (0 < s.bur.account) && !s.lunBusy (locLun c.page) && s.bur.abn == .none
        && s.lunUp (locLun c.page) && (s.mode != .run || s.keepsReady (locLun c.page)) then
      let p := s.copyPage c
      let t := (s.putPage c.page p).setCtx n { c with st := .prog, poison := !p.lp.isEmpty }
      (t.spend 1).loadTurns
    else s)

/-- A burrow copy lands: staging slot, seal and counts; its context takes a new page (R213, R218, R276). -/
def State.landed (s : State) (n : Nat) : State :=
  let c := s.ctxOf n
  let crc := s.pageCrc c.page
  (({ (s.recordSlot c.gran ⟨c.page, false, c.poison, c.newUe⟩) with
    nand := { s.nand with
      sealTbl := msetD zeroSeal c.gran crc s.nand.sealTbl
      superseded := match c.sup with | some x => sadd x s.nand.superseded | none => s.nand.superseded }
    regs := setRegs [(Reg.BE_LANDED_LANDED, s.getF Reg.BE_LANDED_LANDED + 1),
      (Reg.BE_POISONED_POISONED, s.getF Reg.BE_POISONED_POISONED + b2n c.poison)] s.regs } : State)).rearm n

/-- A status pass ends a run of failures on the LUN; in RUN a granule copy has its CRC comparison still before it (R247, R252). -/
def State.programFine (s : State) (c : Ctx) : State :=
  if s.mode = .burrow ∨ c.kind = .none ∨ c.kind = .metaPage then s.lunFine (locLun c.page) else s

/-- PROGRAM_STATUS: pass or fail of context n's program. -/
def execProgramStatus (n : Nat) (pass : Bool) (s : State) : Host.Outcome State Fault Refusal :=
  .next (
    let c := s.ctxOf n
    if c.st ≠ .prog then s
    else
      let t := s.programFine c
      if !pass then (s.programFailed n).alertScan s.crossed
      else if s.mode = .burrow then
        (match c.kind with
          | .burrow => t.landed n
          | .trickle => ((t.trickleBack c.gran c.age).handoff c.gran).rearm n
          | _ => t.rearm n)
      else if c.kind = .none then t.rearm n
      else if c.kind = .metaPage then t.metaLanded n
      else t.setCtx n { c with st := .check })

/-- LUN_NOT_READY: 2 ms after a confirm the LUN is not ready, and is declared failed. -/
def execLunNotReady (lun : Nat) (s : State) : Host.Outcome State Fault Refusal :=
  .next (if s.lunProg lun then ((s.failLun lun).loadTurns).alertScan s.crossed else s)

/-! ### The ends of P2 and P3 (R216, R219, R260) -/

/-- A phase line event of the next shed step. -/
def State.queueShed (s : State) (k : Nat) : State := s.setF Reg.SQ_STATUS_QUEUED (s.getF Reg.SQ_STATUS_QUEUED ||| 2 ^ k)

/-- Nothing of the sweep is left. -/
def State.sweepDone (s : State) : Bool :=
  decide (s.passes ≤ s.bur.pass) && s.bur.faultTake.isEmpty && s.bur.handoff.isEmpty
    && s.ctxCount (fun c => c.loading || c.st == .prog || c.st == .check) == 0

/-- P2_END. -/
def execP2End (s : State) : Host.Outcome State Fault Refusal :=
  .next (if s.mode == .burrow && s.phase == .p2 && s.bur.abn == .none && s.sweepDone then
    ({ (s.setF Reg.BE_DUR_P2_MS (min 0xFFFF (s.ms - s.bur.t2))) with phase := .p3, bur := { s.bur with t3 := s.ms } }).queueShed 1
    else s)

/-- P2_TIMEOUT stops the sweep like an energy stop. -/
def execP2Timeout (s : State) : Host.Outcome State Fault Refusal :=
  .next (if s.mode == .burrow && s.phase == .p2 && s.bur.abn == .none then s.stopSweep else s)

/-- The channel's slots cannot be read. A channel whose DRAM rail faulted counts as a failed one here: its slots lie in the same DRAM (DESIGN CHOICE,
log entry 125). -/
def State.slotsGone (s : State) (ch : Nat) : Bool := s.bur.dramBad.contains ch || s.chanFailed ch

/-- The first granule of a staging line: the line holds the slots of eight granules of one parity (R217). -/
def slotFirst (line : Nat) : Nat := 4096 * (line / 512) + 16 * (line % 256) + line / 256 % 2

/-- The granule's slot lies in a staging line that P3 could not read. -/
def State.slotBad (s : State) (g : Nat) : Bool := s.bur.slotsBad.contains (s.stagingLineOf g - s.stagingBase)

/-- The unknown ranges: a failed channel's granules, and those of each uncorrectable staging line (R219). -/
def State.manRanges (s : State) : List MEnt :=
  let two := s.channels = 2
  (((List.range s.channels).filter s.slotsGone).map (fun ch =>
    (⟨ch, if two then s.nUser - 2 + ch else s.nUser - 1, two, .range⟩ : MEnt)))
    ++ (s.bur.slotsBad.filter (fun l => decide (slotFirst l < s.nUser) && !s.slotsGone (s.chanOf (slotFirst l)))).map (fun l =>
      (⟨slotFirst l, slotFirst l + 14, true, .range⟩ : MEnt))

/-- Manifest entries in ascending granule order (R219). -/
def State.manEntries (s : State) : List MEnt :=
  let slots := (s.bur.staging.filter (fun x => !s.slotsGone (s.chanOf x.1) && !s.slotBad x.1)).map (fun x =>
    if x.2.lost then ⟨x.1, 0, false, .lost⟩ else ⟨x.1, x.2.page, false, if x.2.poison then .landedP else .landed⟩)
  ksort (·.gran) (s.manRanges ++ slots)

/-- VOID entries: every orphan on the list and the one beside it (R253). -/
def State.voidEntries (s : State) : List MEnt :=
  (s.nand.orphans ++ s.bur.voidExtra).map (fun o => ⟨o.2, o.1, false, .void⟩)

/-- Cut a list into pieces of k. -/
def chunks {α : Type} (k : Nat) : Nat → List α → List (List α)
  | 0, _ => []
  | n + 1, l => if l.length ≤ k then [l] else l.take k :: chunks k n (l.drop k)

/-- The entries of each manifest page; the VOID entries end the closing page. -/
def manPieces (e v : List MEnt) : List (List MEnt) :=
  let p := chunks 2040 (e.length / 2040 + 1) e
  let last := p.getLast?.getD []
  if last.length + v.length ≤ 2040 then p.dropLast ++ [last ++ v] else p ++ [v]

/-- ROOT_SEQ of the latest committed root; 0 when none. -/
def State.rootSeq (s : State) : Nat :=
  match (mfind (s.getF Reg.NB_ROOTPTR_LOC) s.nand.pages).bind (·.root) with
  | some r => r.rootSeq
  | none => 0

/-- One page of the manifest (Table 7-7). -/
def State.manPage (s : State) (total no prev : Nat) (e : List MEnt) (closing : Bool) : ManPage :=
  { pageNo := no, entries := e, closing := closing, prevPage := prev, prevMan := s.getF Reg.NB_MANPTR_LOC, rootSeq := s.rootSeq
    nLanded := if closing then s.getF Reg.BE_LANDED_LANDED else 0
    nLost := if closing then s.getF Reg.BE_LOST_LOST else 0
    nPoisoned := if closing then s.getF Reg.BE_POISONED_POISONED else 0
    pages := if closing then total else 0
    nNewUe := if closing then (s.bur.staging.filter (fun x => x.2.newUe)).length else 0 }

/-- Program pages of a manifest of `total` pages in order, each after as many failed programs as `fails` lists its number; the pages programmed, first to last,
when every one found a place. -/
def State.putManifest (s : State) (total : Nat) (fails : List Nat) : List (List MEnt) → Nat → Nat → List Nat → Option (State × List Nat)
  | [], _, _, done => some (s, done)
  | e :: t, no, prev, done =>
    match s.manPick (fails.count no) with
    | none => none
    | some (a, loc) =>
      let m := s.manPage total no prev e (no + 1 == total)
      let data := cellsOf 0 (m.bytes s.bur.version)
      (((a.putPage loc ⟨0x10, no, s.bur.version, dataCrc data, [], data, some m, none⟩).lunFine (locLun loc)).spend
        (fails.count no + 1)).putManifest total fails t (no + 1) loc (done ++ [loc])

/-- P4 begins: the ledger marks every granule recorded LOST, shed step 2 is signalled (R220). -/
def State.beginP4 (s : State) : State :=
  let t := ((s.bur.staging.filter (fun x => x.2.lost)).foldl (fun (a : State) x => a.setLedger x.1 .lost) s).rebuildBooks
  ({ (t.setF Reg.BE_DUR_P3_MS (min 0xFF (s.ms - s.bur.t3))) with phase := .p4, bur := { t.bur with t4 := s.ms } }).queueShed 2

/-- P3 can run: the manifest is not barred by a fault (Table 6-5). -/
def State.inP3 (s : State) : Bool := s.mode == .burrow && s.phase == .p3 && s.bur.abn == .none

/-- P3_END: the closing manifest page has landed, its program confirmed on a positive account (R223); `fails` lists a manifest page once for each program of it that failed
(R219). -/
def execP3End (s : State) (fails : List Nat := []) : Host.Outcome State Fault Refusal :=
  .next (if s.inP3 && !s.bur.noManifest && decide (0 < s.bur.account) then
    let pieces := manPieces s.manEntries s.voidEntries
    match s.putManifest pieces.length fails pieces 0 noLoc [] with
    | some (t, pages) =>
      ({ (t.setF Reg.BE_STATUS_MAN_CLOSED 1) with bur := { t.bur with manLoc := pages.getLast?, manPages := pages } }).beginP4
    | none => s
    else s)

/-- P3_TIMEOUT: the manifest stays unclosed, with the pages landed so far, `landed` of them, before it (R219). -/
def execP3Timeout (s : State) (landed : Nat := 0) : Host.Outcome State Fault Refusal :=
  .next (if s.inP3 then
    let pieces := manPieces s.manEntries s.voidEntries
    (match s.putManifest pieces.length [] (if s.bur.noManifest then [] else (pieces.take landed).take (pieces.length - 1)) 0 noLoc [] with
      | some (t, pages) => { t with bur := { t.bur with manPages := pages } }
      | none => s).beginP4
    else s)

/-! ### P4 (R31, R96, R220, R221) -/

/-- P4 waits for its commit record: the manifest is closed and shed step 2 has begun. -/
def State.inP4 (s : State) : Bool :=
  s.mode == .burrow && s.phase == .p4 && s.bur.manLoc.isSome && !s.bur.committed && decide (3 ≤ s.shedNo)

/-- The burrow ends with loss: a LOST granule, or a line its own read found uncorrectable (R31). -/
def State.burrowLoss (s : State) : Bool := s.getF Reg.BE_LOST_LOST != 0 || s.bur.staging.any (fun x => x.2.newUe)

/-- A burrow with loss moves the dirty-shutdown count; one without sets the shutdown state to Clean (R31, R96, Table 3-7). -/
def State.shutdownEnd (s : State) (loss : Bool) : State :=
  if loss then
    (s.setF Reg.HL_DSC_DSC (s.getF Reg.HL_DSC_DSC + 1)).raise .keeper 0x1D .warning 2
  else
    (s.setFs [(Reg.HL_SHUTDOWN_DIRTY, 0), (Reg.HL_SHUTDOWN_SELF_CLEAN, 1)]).raiseIf (s.getB Reg.HL_SHUTDOWN_DIRTY) .keeper 0x1D .warning 1

/-- The commit record of a closed manifest. -/
def State.manRecord (s : State) (loc ver nl no np : Nat) (deferred : Bool) : JPay :=
  .manifestPtr loc ver nl no np (s.getF Reg.HL_DSC_DSC) (s.getB Reg.HL_SHUTDOWN_DIRTY) (s.getB Reg.HL_SHUTDOWN_SELF_CLEAN) deferred
    (s.getF Reg.DT_DMKCRC_CRC)

/-- P4 ends. -/
def State.endP4 (s : State) : State := (s.setF Reg.BE_DUR_P4_MS (min 0xFF (s.ms - s.bur.t4))).p5

/-- JOURNAL_COMMIT: the keeper has recorded the commit; the manifest's pages and the burrow's copies become live (R244). -/
def execJournalCommit (s : State) : Host.Outcome State Fault Refusal :=
  .next (if s.inP4 && s.keep.up && !s.jDead then
    let loc := s.bur.manLoc.getD noLoc
    let t := s.shutdownEnd s.burrowLoss
    let u := (t.jNow (t.manRecord loc s.bur.version (s.getF Reg.BE_LANDED_LANDED) (s.getF Reg.BE_LOST_LOST)
      (s.getF Reg.BE_POISONED_POISONED) false)).twinRec
    ({ (u.setF Reg.NB_MANPTR_LOC loc) with
      bur := { u.bur with committed := true }
      nand := { u.nand with
        live := s.nand.live ++ s.bur.manPages ++ (s.bur.staging.filter (fun x => !x.2.lost)).map (·.2.page) } } : State).endP4
    else s)

/-- P4_TIMEOUT: the commit is deferred to the next WAKE, whatever shed step still runs (R221). -/
def execP4Timeout (s : State) : Host.Outcome State Fault Refusal :=
  .next (if s.mode == .burrow && s.phase == .p4 && s.bur.manLoc.isSome && !s.bur.committed then (s.setF Reg.BE_STATUS_DEFERRED 1).endP4 else s)

/-! ### VIN return and abandon (R57 to R61, R227) -/

/-- The conditions of R57 beside the debounce. -/
def State.mayAbandon (s : State) : Bool :=
  s.mode == .burrow && (s.phase == .p0 || s.phase == .p1 || s.phase == .p2 || s.phase == .p3) && s.bur.abn == .none
    && allAbandonable s.causes && !s.getB Reg.MD_ABANDON_FORCE_NEXT && !s.getB Reg.MD_STATUS_NOABANDON && !s.bur.lampDead && !s.bur.trig

/-- A context at the abandon: an unconfirmed one keeps its erased page, and its granule can be taken again if the abandon is cancelled. -/
def State.abandonCtx (s : State) (n : Nat) : State :=
  let c := s.ctxOf n
  if c.st = .setup ∨ c.st = .load then
    let t := (s.dropCtxReads n).keepPage n
    if c.kind = .burrow then t.handBack c.gran else t
  else s

/-- The abandon is decided (R61, R227 steps 1 to 4). It counts here, and a later cancel takes nothing back (DESIGN CHOICE, log entry 93). -/
def State.abandon (s : State) : State :=
  let lost := (s.bur.staging.filter (fun x => x.2.lost)).map (·.1)
  let times := s.bur.abnTimes.filter (fun t => decide (s.ms < t + 60000)) ++ [s.ms]
  let t := (s.bur.ctx.map (·.1)).foldl (fun (a : State) n => a.abandonCtx n) s
  let u : State := { t with bur := { t.bur with
    abn := .finishing
    stopped := true
    staging := t.bur.staging.filter (fun x => !x.2.lost)
    handoff := t.bur.handoff ++ lost
    abnTimes := times } }
  u.setFs [(Reg.BE_STATUS_ABANDONING, 1), (Reg.BE_TAKEN_TAKEN, u.getF Reg.BE_TAKEN_TAKEN - lost.length),
    (Reg.BE_LOST_LOST, u.getF Reg.BE_LOST_LOST - lost.length),
    (Reg.MD_ABANDON_ABN_TOTAL, min 0xFFFF (s.getF Reg.MD_ABANDON_ABN_TOTAL + 1)),
    (Reg.MD_ABANDON_FORCE_NEXT, if 3 ≤ times.length then 1 else s.getF Reg.MD_ABANDON_FORCE_NEXT)]

/-- VIN has stayed at or above RET_LEVEL for the debounce: VIN_RET shows it, a down sequence in progress remembers it (R68), and PFW_N, where it
is used, has been high for the whole time (R58, log entry 36). -/
def State.vinBack (s : State) : State :=
  { s.setF Reg.PS_STATUS_VIN_RET 1 with
    pins := { s.pins with pfwN := s.pins.pfwN || s.getB Reg.MD_CFG_PFW_EN }
    rail := { s.rail with rose := s.rail.rose || s.goingDown, back := s.rail.back || s.goingDown } }

/-- VIN_RETURN_DEBOUNCED: wake-on-return in OFF, the end of DEN, or an abandon (Table 2-2, R57, R68). A comparator that still sees VIN low
has not let it return. -/
def execVinReturnDebounced (s : State) : Host.Outcome State Fault Refusal :=
  .next (if s.vinLoss then s
    else
      let t := s.vinBack
      match s.mode with
      | .off => if s.getB Reg.MD_CFG_WAKE_ON_RET && s.lockFree then t.enterWake 1 false else t
      | .den => if s.getF Reg.SQ_STATUS_SEQ = 4 then t else t.enterWake 4 true
      | .burrow => if s.mayAbandon then t.abandon else t
      | _ => t)

/-- ABANDON_RECORD_WRITTEN: the programs in flight have ended and the ABANDON record is written; the partial image's pages leave, and the shed
rails come up once a running shed step has ended (R59, R227, R374). -/
def execAbandonRecordWritten (s : State) : Host.Outcome State Fault Refusal :=
  .next (if s.mode == .burrow && s.bur.abn == .finishing && s.ctxCount (fun c => c.st == .prog || c.st == .check) == 0 then
    let t := s.jNow (.abandon s.bur.version s.bur.staging.length)
    let u := ({ t with bur := { t.bur with abn := .powering, manPages := [] } } : State).brokenFail
    if u.bur.abn ≠ .powering then u
    else if s.getF Reg.SQ_STATUS_SEQ = 3 then
      { (u.setF Reg.SQ_STATUS_QUEUED 0) with rail := { u.rail with downTo := 5 } }
    else (u.abnRise).seqCheck
    else s)

/-- Reads that no DRAM request serves are asked for again, in arrival order. -/
def State.askReads (s : State) : State :=
  s.host.reads.foldl (fun (a : State) r => if r.ready || a.noDram r.line || a.rst.pend.contains (granOf r.line) then a else a.askHost r.line)
    s.dropHostReads

/-- Steps 5 and 6 of R59: held writes are taken up or discarded, the books re-based, the contexts re-armed, RUN_OPEN journalled, and the device
is in RUN; latched triggers then act (R24, R25, R60, R253, R273). -/
def State.abandonEnd (s : State) : State :=
  let n := s.heldWrites.length + s.twin.mstaged.length
  let clean := s.bur.handoff.filter (fun g => s.ledgerOf g == .clean)
  let t := ((s.zeroStaging).jNow (.runOpen s.nand.epoch 1)).enterMode .run .none
  let u : State := { t with
    bur := { t.bur with
      handoff := [], fenced := false, abn := .none, stopped := false, trig := false, regroup := !s.host.staged.isEmpty
      ctx := t.bur.ctx.map (fun c => if c.2.st = .halt then (c.1, { Ctx.idle with blk := c.2.blk }) else c) }
    nand := { t.nand with superseded := [], refreshQ := (clean ++ t.nand.orphans.map (·.2)).foldl (fun q g => sadd g q) t.nand.refreshQ }
    twin := { t.twin with
      noAck := false
      fenceWait := false
      outcome := t.isStandby && !t.twin.mstaged.isEmpty
      ownAbandon := !t.isSolo && !(t.isActive && t.twinUp)
      burrowed := t.twin.burrowed && !t.twinUp }
    regs := setRegs [(Reg.BE_STATUS_ABANDONING, 0), (Reg.BE_STATUS_ACTIVE, 0), (Reg.HL_CREDIT_HELD_LAST, n),
      (Reg.MD_STATUS_MEDIA_READY, b2n (t.host.sanitize != 1 && t.host.sanitize != 4))] t.regs }
  let v := if u.getB Reg.HL_STATUS_LINK_UP && u.pd 0 then u
    else if u.isStandby then u.discardHeld else u.discardAll
  ((((((v.frameIf (v.isActive && v.twinUp) 0x0A 3).recount.keepMeta.armAll).rebaseBooks).creditsIfDue.askReads.serveReads).fireLatched).ledgerGo.wtTry).armRefresh

/-- The shed rails are up again. -/
def State.abnPowered (s : State) : Bool := s.mode == .burrow && s.bur.abn == .powering && s.getF Reg.SQ_STATUS_SEQ == 0 && s.rail.downTo != 5

/-- The active waits for its mooring link before it takes up held writes that wait for acknowledgements (Table 13-11). -/
def State.linkAwaited (s : State) : Bool :=
  s.isActive && !s.twinUp && s.getF Reg.TW_STATUS_MIRROR == 0 && s.getF Reg.TW_STATUS_PARTNER != 3

/-- ABANDON_UP_DONE. -/
def execAbandonUpDone (s : State) : Host.Outcome State Fault Refusal :=
  .next (if s.abnPowered then
    (if s.linkAwaited then { s with bur := { s.bur with abn := .settling } }
    else (s.soloStart (s.getF Reg.TW_STATUS_PARTNER)).abandonEnd)
    else s)

/-- ABANDON_LINK_WAIT_EXPIRY: 20 ms without the mooring link; the active goes on solo and the mirror is stale. -/
def execAbandonLinkWaitExpiry (s : State) : Host.Outcome State Fault Refusal :=
  .next (if s.mode == .burrow && s.bur.abn == .settling then (s.goSolo (s.getF Reg.TW_STATUS_PARTNER)).abandonEnd else s)

/-- ABANDON_WINDOW_EXPIRY: the oldest abandon leaves the 60 s window. -/
def execAbandonWindowExpiry (s : State) : Host.Outcome State Fault Refusal :=
  .next { s with bur := { s.bur with abnTimes := s.bur.abnTimes.drop 1 } }

/-- DEN_REBASE: every 10 ms in DEN; at the floor the image is dropped (R270). -/
def execDenRebase (s : State) : Host.Outcome State Fault Refusal :=
  .next (if s.mode = .den ∧ s.getF Reg.SQ_STATUS_SEQ ≠ 4 then
    let t := s.rebaseBooks
    if t.cover.eAvail ≤ t.denFloor then t.denDrop 0 else t
    else s)

end Sys2Proof.Machine
end

