-- ==== Sys2Proof/Machine/Thermal.lean ====
section
/-! DEFINITION. Thermal control and the power budget arbiter (12): sweeps, sensor failures, up states, the throttle level, the orderly stop
and the arbitration of a tick. -/

namespace Sys2Proof.Machine

/-! ### Thresholds (R380, Table 12-2) -/

/-- T_fail in 0.1 °C (R378). -/
def State.tFail (s : State) : Int :=
  let c := s.thresholds.getD 2 0
  10 * ((if s.getF Reg.TH_THR2_T_FAIL ≤ c then c + 1 else s.getF Reg.TH_THR2_T_FAIL : Nat) : Int)

/-! ### Sensors (R376 to R378) -/

/-- The sensor zone: LAMP 0, KEEPER 1, BOARD 2 (Table 12-1). -/
def senZone (i : Nat) : Nat := if i < 5 then 0 else if i < 9 then 1 else 2

/-- TH_SENn.STATE of a sensor that stands failed or not: 0 counted, 1 unpowered, 2 failed, 3 absent or not enabled (R377). -/
def State.senState (s : State) (i : Nat) (failed : Bool) : Nat :=
  if i = 9 ∧ s.getF Reg.ES_STATUS_STORE = 0 then 3
  else if i = 10 ∧ ¬ s.getB Reg.TH_CFG_TS10_EN then 3
  else if i < 5 then
    (if !s.lampUp || (i == 3 && s.is8430) then 1 else if failed then 2 else 0)
  else if !s.pd 12 || (i == 10 && s.mode == .den) then 1
  else if failed then 2 else 0

/-- The failure condition that a reading meets: 1 range, 2 step, 3 NTC open or shorted (TH_SENn.CAUSE); 0 none. -/
def senBad (i : Nat) (prev : Option Int) : SenReading → Nat
  | .ntcOpen | .ntcShort => if 9 ≤ i then 3 else 1
  | .temp t =>
    if t < -500 ∨ 1900 < t then 1
    else match prev with
      | some p => if 100 < t - p ∨ 100 < p - t then 2 else 0
      | none => 0

/-- One sensor's part of a sweep; TS9 open is removal, not failure. Two consecutive failing sweeps fail the sensor, and it stays failed. -/
def State.senStep (s : State) (i : Nat) (r : SenReading) : State :=
  let bad0 := mget 0 s.therm.bad i
  let st0 := s.senState i false
  if st0 ≠ 0 then
    { s with
      therm := { s.therm with
        prev := mdel i s.therm.prev
        bad := if bad0 < 2 then mdel i s.therm.bad else s.therm.bad }
      regs := setRegs [(Reg.TH_SEN_STATE i, st0)] s.regs }
  else if i = 9 ∧ r = .ntcOpen then s
  else
    let why := senBad i (mfind i s.therm.prev) r
    let bad := if 2 ≤ bad0 then 2 else if why = 0 then 0 else bad0 + 1
    let t : State := { s with therm := { s.therm with
      prev := match r with | .temp v => mset i v s.therm.prev | _ => mdel i s.therm.prev
      good := match r with | .temp v => (if why = 0 then mset i v s.therm.good else s.therm.good) | _ => s.therm.good
      bad := mset i bad s.therm.bad } }
    let failed := decide (2 ≤ bad)
    let shown := if failed then max s.tFail (mget s.tFail t.therm.good i)
      else match r with | .temp v => v | _ => mget 0 s.therm.good i
    (t.setFs [(Reg.TH_SEN_STATE i, if failed then 2 else 0), (Reg.TH_SEN_TEMP i, toField 16 shown),
      (Reg.TH_SEN_CAUSE i, if failed && decide (bad0 < 2) then why else s.getF (Reg.TH_SEN_CAUSE i))]).raiseIf
      (failed && decide (bad0 < 2)) .keeper 0x26 .error i

/-- The sensors that are counted: read, or failed and standing for their contribution. -/
def State.counted (s : State) : List Nat :=
  (List.range 11).filter (fun i => s.getF (Reg.TH_SEN_STATE i) = 0 || s.getF (Reg.TH_SEN_STATE i) = 2)

/-- T_max and the sensor that sets it: the largest contribution of the counted sensors. -/
def State.hottest (s : State) : Option (Nat × Int) :=
  s.counted.foldl (fun (b : Option (Nat × Int)) i =>
    let t := s.getS (Reg.TH_SEN_TEMP i)
    match b with
    | none => some (i, t)
    | some x => if x.2 < t then some (i, t) else some x) none

/-- TH_STATUS after the sensors. -/
def State.senRegs (s : State) : State :=
  let n := ((List.range 11).filter (fun i => s.getF (Reg.TH_SEN_STATE i) = 2)).length
  let t := s.setF Reg.TH_STATUS_FAILED_N n
  match s.hottest with
  | some x => t.setFs [(Reg.TH_STATUS_T_MAX, toField 16 x.2), (Reg.TH_STATUS_MAX_SRC, x.1)]
  | none => t

/-- Two counted sensors of one zone stand failed (R379). -/
def State.twoFailed (s : State) : Bool :=
  (List.range 3).any (fun z => decide (2 ≤ ((List.range 11).filter (fun i => senZone i == z && s.getF (Reg.TH_SEN_STATE i) == 2)).length))

/-- The up state of threshold k with its dwell counts at one sweep (R380). -/
def State.upStep (s : State) (k : Nat) : State :=
  let th : Int := 10 * (s.thresholds.getD k 0 : Nat)
  let up := mget false s.therm.up k
  let a := if th ≤ s.tMax then mget 0 s.therm.upCnt k + 1 else 0
  let b := if s.tMax < th - 10 * (s.thHyst : Nat) then mget 0 s.therm.dnCnt k + 1 else 0
  { s with therm := { s.therm with
    up := mset k (if up then decide (b < 8) else decide (8 ≤ a)) s.therm.up
    upCnt := mset k (min 8 a) s.therm.upCnt
    dnCnt := mset k (min 8 b) s.therm.dnCnt } }

/-! ### The throttle level (R381, R382) -/

/-- With shared thermal inputs a pair combines what its units report (Table 13-6). -/
def State.thermPeer (s : State) : Option InputMsg :=
  if s.twinOn && s.getB Reg.TW_CFG_SH_THERM && s.twinUp then s.twin.inPartner else none

/-- The highest step whose own up state is set. -/
def State.ownLevel (s : State) : Nat :=
  if mget false s.therm.up 2 then 3 else if mget false s.therm.up 1 then 2 else if mget false s.therm.up 0 then 1 else 0

/-- The target level: 3 while an orderly stop is pending (R384), the level of the word that a follower executes (R411),
else the highest up state, own or the partner's. -/
def State.targetLevel (s : State) : Nat :=
  if s.getB Reg.TH_STATUS_PEND then 3
  else if s.getB Reg.TW_STATUS_FOLLOW && s.twinUp then (s.twin.wordAgreed.toNat / 16) % 4
  else max s.ownLevel (match s.thermPeer with | some m => min 3 m.level | none => 0)

/-- The throttle level moves: event, count, and THERM_WARN to the slaves at entry to and exit from level 3 (R369, R382). -/
def State.setLevel (s : State) (n : Nat) : State :=
  let cur := s.getF Reg.TH_STATUS_LEVEL
  if cur = n then s
  else
    let t := ((s.setF Reg.TH_STATUS_LEVEL n).addSat Reg.TH_LOG_CHANGES 1).raise .keeper 0x04 (if cur < n then .warning else .info) n
    let u : State := { t with therm := { t.therm with lastChange := some s.ms } }
    (if cur = 3 ∨ n = 3 then u.spmiAll 5 n 3 else u).chargeStep

/-! ### The orderly stop (R384) -/

/-- An orderly stop, according to the mode; while THERM_LATCH stands nothing further happens. -/
def State.orderlyStop (s : State) : State :=
  if s.getB Reg.MD_STATUS_THERM_LATCH then s
  else
    let t := (s.setF Reg.MD_STATUS_THERM_LATCH 1).addSat Reg.TH_LOG_STOPS 1
    match s.mode with
    | .off => s
    | .den => t.denDrop 3
    | .run | .burrow => (t.recordLock 6 0).trigger .therm
    | .restore => if s.mediaReady then (t.recordLock 6 0).trigger .therm else (t.setF Reg.TH_STATUS_PEND 1).setLevel 3
    | .wake => (t.setF Reg.TH_STATUS_PEND 1).setLevel 3

/-- A pending stop becomes a trigger with cause THERM as the device enters RUN or reports media ready (R384). -/
def State.pendStop (s : State) : State :=
  if s.getB Reg.TH_STATUS_PEND then ((s.setF Reg.TH_STATUS_PEND 0).recordLock 6 0).trigger .therm else s

/-- Written TH_ fields come into force at the next sweep. -/
def State.sweepForce (s : State) : State := s.comeInto (fun k => keyBlock k == 11 && decide (keyOff k < 0xB800))

/-- THERMAL_SWEEP: one sweep; `r` lists the readings of TS0 to TS10. -/
def execThermalSweep (r : List SenReading) (s : State) : Host.Outcome State Fault Refusal :=
  .next (if s.mode == .off then s
    else
      let s := s.sweepForce
      let before := s.crossed
      let was := mget false s.therm.up 3
      let t := (((List.range 11).foldl (fun (a : State) i => a.senStep i (r.getD i .ntcOpen)) s).senRegs)
      let u := ((List.range 4).foldl (fun (a : State) k => a.upStep k) t).alertScan before
      if (mget false u.therm.up 3 && !was) || u.twoFailed then u.orderlyStop else u)

/-- LEVEL_CHANGE: at most once in 100 ms the level moves to the target level. -/
def execLevelChange (s : State) : Host.Outcome State Fault Refusal :=
  .next (if s.mode == .off || (match s.therm.lastChange with | some t => decide (s.ms < t + 100) | none => false) then s
    else (s.setLevel s.targetLevel).ledgerGo)

/-- SEN_RETRY clears every sensor failure (service mode only). -/
def State.doSenRetry (s : State) : State :=
  if s.service then
    ({ s with
      therm := { s.therm with bad := [], prev := [] }
      regs := setRegs ((Reg.TH_STATUS_FAILED_N, 0) :: (List.range 11).flatMap (fun i =>
        [(Reg.TH_SEN_STATE i, s.senState i false), (Reg.TH_SEN_CAUSE i, 0)])) s.regs })
  else s

/-- SEN_RETRY. -/
def execSenRetry (p : Path) (s : State) : Host.Outcome State Fault Refusal :=
  .next (if s.reach p 0xB03C then (s.wrote p).doSenRetry else s)

/-! ### The budget arbiter (R387 to R389) -/

/-- What a tick leaves of one class: grants by requester, what is left, a shortage, and the last requester granted in full before it. -/
structure ArbOut where
  grants : List (Nat × Nat)
  left : Nat
  short : Bool
  full : Option Nat
deriving DecidableEq, Repr

/-- Serve one requester. -/
def arbOne (req : List Nat) (a : ArbOut) (r : Nat) : ArbOut :=
  let q := req.getD r 0
  let g := min q a.left
  if g = q ∧ a.short = false then ⟨mset r g a.grants, a.left - g, false, some r⟩
  else ⟨mset r g a.grants, a.left - g, true, a.full⟩

/-- Serve one class, starting just after its last winner. -/
def arbClass (req : List Nat) (last left : Nat) : ArbOut :=
  let n := req.length
  ((List.range n).map (fun k => (last + 1 + k) % n)).foldl (arbOne req) ⟨[], left, false, none⟩

/-- The grants of a class in requester order. -/
def ArbOut.list (a : ArbOut) (n : Nat) : List Nat := (List.range n).map (mget 0 a.grants)

def sumList (l : List Nat) : Nat := l.foldl (· + ·) 0

/-- The source limit in 10 mW and BA_SRC.SOURCE (R387); ILIM is in 100 mA. -/
def State.srcLimit (s : State) : Nat × Nat :=
  if s.mode = .den ∨ s.mode = .off then (0, 0)
  else if s.getB Reg.ES_STATUS_PATH then (s.getF Reg.ES_PMAX_P_STORE_MAX, 2)
  else (min (s.getF Reg.PS_VMEAS_VIN_MV * min 150 (s.getF Reg.ES_IN_ILIM) / 100) (s.getF Reg.BA_CFG_P_IN_MAX), 1)

/-- ACC_OUT's current limit and voltage in force, as power in 10 mW, with the cap of levels 2 and 3. -/
def State.accCap (s : State) : Nat :=
  let peer := if s.getF Reg.ES_ACC_MODE = 2 ∧ s.twinOn then 50 * s.getF Reg.TW_PEER_CAP_OUT else 3000
  let lim := min (if s.getF Reg.ES_ACC_MODE = 2 then 3000 else 2000) (s.getF Reg.ES_ACC_I_LIM)
  let v := max 50 (min 150 (s.getF Reg.ES_ACC_V_SET))
  if s.getF Reg.TH_STATUS_LEVEL < 2 then min lim peer * v / 100 else min lim (2 * peer) * v / 200

/-- The current R307 lets the charger set, in 10 mA: I_prog, in PRECHARGE at most PRE_MA (R308). -/
def State.chgSet (s : State) : Nat :=
  if s.getF Reg.ES_STATUS_CHG = 1 then min s.iProg (s.getF Reg.ES_CHG_PRE_MA) else s.iProg

/-- What R307 allows the charger, at most 60 W, in 10 mW, with the caps of Table 12-3 and of the decision word (R409); nothing unless VIN feeds VSYS. -/
def State.chgCap (s : State) : Nat :=
  let p := min 6000 ((match s.twin.chgCap with | some c => min s.chgSet c | none => s.chgSet) * s.stackMv / 1000)
  if s.getB Reg.ES_STATUS_PATH ∨ s.getF Reg.TH_STATUS_LEVEL = 3 ∨ (s.mode ≠ .wake ∧ s.mode ≠ .run) then 0
  else if s.getF Reg.TH_STATUS_LEVEL = 0 then p else p / 2

/-- The power that the programs of a NAND channel's waiting contexts could use in a tick, in 10 mW (R223). -/
def State.nandUse (s : State) (ch : Nat) : Nat :=
  (s.ctxCount (fun c => c.loading && locLun c.page / 8 == ch) * s.epNow + 19) / 20

/-- Cut a list of requests to a total, in order. -/
def cutTo : Nat → List Nat → List Nat
  | _, [] => []
  | n, x :: t => min n x :: cutTo (n - min n x) t

/-- The lamp and NAND baseline that a scan measured, without what has been granted, in 10 mW (R387). -/
def State.baseNow (s : State) (b : BudgetIn) : Nat :=
  b.vsysLoad - b.chgDraw - b.accDraw - (sumList s.therm.grantDram + sumList s.therm.grantNand)

/-- The NAND requests: in BURROW what the waiting contexts could use, never above P_BMAX less the measured baseline (R223). -/
def State.nandReqs (s : State) (b : BudgetIn) : List Nat :=
  if s.mode = .burrow then cutTo (s.pBmax - s.baseNow b) ((List.range 8).map s.nandUse) else (List.range 8).map (fun i => b.nand.getD i 0)

/-- The requests of the four classes as the arbiter takes them. -/
def State.arbReqs (s : State) (b : BudgetIn) : List (List Nat) :=
  if s.mode = .den ∨ s.mode = .off then [[0, 0], [0, 0, 0, 0, 0, 0, 0, 0], [0], [0]]
  else
    let acc := if !s.hasAcc || (s.mode == .burrow && !s.getB Reg.ES_STATUS_ACC_ON) then 0 else min b.acc s.accCap
    [(List.range 2).map (fun i => b.dram.getD i 0), s.nandReqs b, [acc], [min b.chg s.chgCap]]

/-- The pacer's share of the write bandwidth is credited to its bucket, which holds 32 lines (R383): in 1/256 line for 2 µs. -/
def State.pacerTick (s : State) : State :=
  let rate := ([25, 50, 80, 160, 320] : List Nat).getD (s.getF Reg.HL_STATUS_SPEED - 1) 0
  let share := if s.getF Reg.TH_STATUS_LEVEL = 3 then 25 else 50
  { s with host := { s.host with pacer := min 8192 (s.host.pacer + share * 75 * s.getF Reg.HL_STATUS_WIDTH * rate / 100) } }

/-- The burrow engine's pacing account takes the tick's grant over 2 µs, and never holds more than one grant and one EP(T) (R223). -/
def State.paceTick (s : State) (grant : Nat) : State :=
  { s with bur := { s.bur with account := min (s.bur.account + (grant * 20 : Nat)) ((grant * 20 + s.epNow : Nat) : Int) } }

/-- The grants take effect. -/
def State.applyGrants (s : State) (dram nand : List Nat) (acc chg : Nat) : State :=
  let t : State := { s with therm := { s.therm with grantDram := dram, grantNand := nand, grantAcc := acc, grantChg := chg } }
  ((t.setFs [(Reg.BA_GRANTA_ACC, acc), (Reg.BA_GRANTA_CHG, chg), (Reg.BA_GRANTB_NAND, sumList nand), (Reg.BA_GRANTB_DRAM, sumList dram),
    (Reg.BE_GRANT_GRANT, if s.mode = .burrow then sumList nand else 0)]).paceTick (sumList nand)).accEval

/-- The short classes of a tick, as BA_STATUS.SHORT shows them. -/
def shortBits (reqs grants : List (List Nat)) : Nat :=
  (List.range 4).foldl (fun n c =>
    let q := reqs.getD c []
    let g := grants.getD c []
    n + b2n ((List.range q.length).any (fun i => g.getD i 0 != q.getD i 0)) * 2 ^ c) 0

/-- One tick: a budget cut keeps the inherited grants for this tick, any other tick arbitrates. -/
def State.arbitrate (s : State) (b : BudgetIn) : State :=
  let src := s.srcLimit
  let h := s.therm
  let lent := sumList h.grantDram + sumList h.grantNand
  let unc := b.vsysLoad + s.getF Reg.BA_CFG_UNC_MARGIN - b.chgDraw - b.accDraw - lent
  let budget := src.1 - unc
  let reqs := s.arbReqs b
  let cut := decide (budget < lent + h.grantAcc + h.grantChg) && !s.getB Reg.BA_SRC_OVER && src.2 != 0
  let c1 := arbClass (reqs.getD 0 []) (mget 1 h.winner 1) budget
  let c2 := arbClass (reqs.getD 1 []) (mget 7 h.winner 2) c1.left
  let c3 := arbClass (reqs.getD 2 []) 0 c2.left
  let c4 := arbClass (reqs.getD 3 []) 0 c3.left
  let win := fun (c : Nat) (a : ArbOut) (m : List (Nat × Nat)) => match a.short, a.full with
    | true, some r => mset c r m
    | _, _ => m
  let gs := if cut then [h.grantDram, h.grantNand, [h.grantAcc], [h.grantChg]] else [c1.list 2, c2.list 8, c3.list 1, c4.list 1]
  let short := shortBits reqs gs
  let t := s.setFs [(Reg.BA_STATUS_BUDGET, min 0xFFFF budget), (Reg.BA_STATUS_SHORT, short), (Reg.BA_SRC_P_UNC, min 0xFFFF unc),
    (Reg.BA_SRC_OVER, b2n cut), (Reg.BA_SRC_SOURCE, src.2), (Reg.BA_CNT_CUTS, min 0xFFFF (s.getF Reg.BA_CNT_CUTS + b2n cut)),
    (Reg.BA_CNT_SHORT_TICKS, min 0xFFFF (s.getF Reg.BA_CNT_SHORT_TICKS + b2n (short != 0)))]
  let u : State := { t with therm := { t.therm with winner := if cut then h.winner else win 2 c2 (win 1 c1 h.winner) } }
  u.applyGrants (gs.getD 0 []) (gs.getD 1 []) ((gs.getD 2 []).getD 0 0) ((gs.getD 3 []).getD 0 0)

/-- Written BA_ fields come into force at the next tick of the arbiter. -/
def State.arbForce (s : State) : State := s.comeInto (fun k => keyBlock k == 11 && decide (0xB800 ≤ keyOff k))

/-- ARBITER_TICK: every 2 µs. -/
def execArbiterTick (b : BudgetIn) (s : State) : Host.Outcome State Fault Refusal :=
  .next ((s.arbForce.arbitrate b).pacerTick).ledgerGo

end Sys2Proof.Machine
end

