-- ==== Sys2Proof/Machine/Cover.lean ====
section
/-! DEFINITION. Ledger, cover and trickle (04, R252): re-bases, staleness, the ledger-doubt writer, the mirror, the trickle mode and sweep, mapped
copies and calibration. -/

namespace Sys2Proof.Machine

/-! ### Re-bases (R141, R142) -/

/-- The cover engine and the fabric both run. -/
def State.coverRuns (s : State) : Bool := s.lampUp && s.pd 11

/-- REBASE: the 1 ms re-base. -/
def execRebase (s : State) : Host.Outcome State Fault Refusal := .next (if s.coverRuns then s.rebase else s)

/-- LG_CTRL.REBASE. -/
def State.doRebaseNow (s : State) : State := if s.coverRuns then s.rebase else s

/-- REBASE_NOW: a write of 1 to LG_CTRL.REBASE. -/
def execRebaseNow (p : Path) (s : State) : Host.Outcome State Fault Refusal :=
  .next (if s.reach p 0x3058 then (s.wrote p).doRebaseNow else s)

/-- COVER_STALE: 1.05 ms without a re-base. -/
def execCoverStale (s : State) : Host.Outcome State Fault Refusal :=
  .next (if s.lampUp then
    { s.setF Reg.LG_STATUS_STALE 1 with cover := { s.cover with eLimit := 0 } }
    else s)

/-- COVER_STALE_ERROR: 3 ms without a re-base. -/
def execCoverStaleError (s : State) : Host.Outcome State Fault Refusal :=
  .next (s.raiseIf (s.lampUp && s.getB Reg.LG_STATUS_STALE) .lamp 0x20 .error 0)

/-! ### The ledger and its mirror (R131, R133, R157) -/

/-- LEDGER_SCRUB: a ledger word is read; a parity error or an invalid code opens a ledger-doubt window, again inside one (R131, R157). -/
def execLedgerScrub (word : Nat) (fault : Bool) (s : State) : Host.Outcome State Fault Refusal :=
  .next (if fault && s.lampUp && decide (word < 262144) && (s.mode == .run || (s.mode == .restore && s.mediaReady)) then s.openDoubt word else s)

/-- DOUBT_WRITER_DONE: E_DEBT is rebuilt with N_dirty = N_user (R157), the granules that the writer made DIRTY: those below the reported
capacity (R77, R125; log entry 83). What becomes of the writer when a Sanitize or a channel failure rewrites entries meanwhile the spec does not
say: it ends as ever, and N_dirty is taken as N_user over those entries too (DESIGN CHOICE, log entry 120). -/
def execDoubtWriterDone (s : State) : Host.Outcome State Fault Refusal :=
  .next (if s.cover.doubtWriter then
    { s with cover := { s.cover with doubtWriter := false, nDirty := s.nReported, eDebt := s.debtOf s.nReported } }
    else s)

/-- MIRROR_WRITE: the queued updates of a granule's mirror entry are written. -/
def execMirrorWrite (g : Nat) (s : State) : Host.Outcome State Fault Refusal :=
  .next (
    let mine := s.cover.mirrorPend.filter (fun x => x.1 == g)
    { s with cover := { s.cover with
      mirror := mine.foldl (fun m x => msetD s.cover.mirrorDflt x.1 x.2 m) s.cover.mirror
      mirrorPend := s.cover.mirrorPend.filter (fun x => x.1 != g) } })

/-! ### Trickle (R152, R153) -/

/-- TRK_ON, TRK_OFF and TRK_FULL in force: values above 100 act as 100 (LG_TRICKLE). -/
def State.trkOn (s : State) : Nat := min 100 (s.getF Reg.LG_TRICKLE_TRK_ON)
def State.trkOff (s : State) : Nat := min (s.getF Reg.LG_TRICKLE_TRK_OFF) (s.trkOn - 1)
def State.trkFull (s : State) : Nat := max (min 100 (s.getF Reg.LG_TRICKLE_TRK_FULL)) s.trkOn

/-- u is at or above a percentage; u is infinite when N_max is 0. -/
def State.uAtLeast (s : State) (pct : Nat) : Bool := s.nMaxNow == 0 || decide (pct * s.nMaxNow ≤ 100 * s.cover.nDirty)

/-- u is at or below a percentage. -/
def State.uAtMost (s : State) (pct : Nat) : Bool := s.nMaxNow != 0 && decide (100 * s.cover.nDirty ≤ pct * s.nMaxNow)

/-- A write stands in credit-wait or write-through, the host's or a mirrored one. -/
def State.waiting (s : State) : Bool := match s.host.stage with | none | some ⟨_, .bufWait⟩ => false | some _ => true

/-- choose_mode of R152: 0 OFF, 1 BACKGROUND, 2 FULL. -/
def State.chooseTrickle (s : State) : Nat :=
  if s.getB Reg.LG_STATUS_DOUBT || s.getF Reg.ES_STATUS_STORE == 0 || s.getB Reg.LG_STATUS_SHORTFALL || s.getB Reg.LG_STATUS_STALE
      || s.waiting || s.getB Reg.LG_STATUS_CLEAN_ALL then 2
  else if s.nUser ≤ s.nMaxNow then 0
  else if s.uAtLeast s.trkFull then 2
  else if s.uAtLeast s.trkOn then 1
  else if s.uAtMost s.trkOff then 0
  else if s.trkMode = 2 then 1
  else s.trkMode

/-- Some granule is DIRTY with an age: count[a] > 0. -/
def State.hasAge (s : State) (a : Nat) : Bool :=
  s.cover.ledger.any (fun x => x.2 == .dirty a) || (s.cover.ledDflt == .dirty a && decide (s.cover.ledger.length < s.nReported))

/-- MIN_AGE in force. -/
def State.minAge (s : State) : Nat := max 1 (s.getF Reg.LG_TRKCTX_MIN_AGE)

/-- The sweep's target: the highest age at or above MIN_AGE that a DIRTY granule has. -/
def State.trkTarget (s : State) : Option Nat := [3, 2, 1].find? (fun a => decide (s.minAge ≤ a) && s.hasAge a)

/-- TRICKLE_MODE: every 1 µs in RUN; waiting refresh copies are armed whatever the mode (R545), and waiting loads and erases start. -/
def execTrickleMode (s : State) : Host.Outcome State Fault Refusal :=
  .next (if s.mode == .run && s.lampUp && !s.bur.fenced then
    let t := s.chooseTrickle
    let u := (s.loadTurns.retireBad.eaCheck.metaWave).setF Reg.LG_STATUS_TRK_MODE t
    ({ u with cover := { u.cover with target :=
      if t = 0 then none else if s.trkMode = 0 then s.trkTarget else s.cover.target } } : State).armRefresh.alertScan s.crossed
    else s)

/-- A trickle context is free: the limit of the mode leaves one beside the refresh copies (R152, R545). -/
def State.trickleFree (s : State) : Bool :=
  decide (s.flying (fun k => k == .trickle || k == .refresh) < s.ctxLimit (s.trkMode == 2))

/-- The hand moves on, and the target is chosen again where R153 says so. -/
def State.handOn (s : State) : State :=
  let h := s.getF Reg.LG_TRKSTAT_HAND + 1
  let wrapped := decide (s.nUser ≤ h)
  let t := s.setF Reg.LG_TRKSTAT_HAND (if wrapped then 0 else h)
  let again := wrapped || (match s.cover.target with | none => true | some a => !t.hasAge a)
  { t with cover := { t.cover with target := if again then t.trkTarget else s.cover.target } }

/-- One visit of the sweep: the entry at the hand is armed, aged or passed; it waits while a granule is selectable and no context free. While
the ledger-doubt writer runs it wins every port cycle over the sweep, which drops its update (R129, R157; log entry 84). -/
def State.sweepVisit (s : State) : State :=
  let g := s.getF Reg.LG_TRKSTAT_HAND
  if s.cover.target.isSome && !s.trickleFree then s
  else if s.cover.doubtWriter then s.handOn
  else match s.ledgerOf g with
    | .dirty a =>
      if s.cover.target = some a then
        (match s.armCopy .trickle g a with
          | some t => (t.setLedger g .cleaning).handOn
          | none => s)
      else (if a < 3 then s.setLedger g (.dirty (a + 1)) else s).handOn
    | _ => s.handOn

/-- SWEEP_VISIT. -/
def execSweepVisit (s : State) : Host.Outcome State Fault Refusal :=
  .next (if s.mode == .run && s.lampUp && !s.bur.fenced && s.trkMode != 0 then s.armRefresh.sweepVisit else s)

/-! ### Mapped copies (R37, R38, R252) -/

/-- A trickle copy lands: its entry's row of Table 4-2. -/
def State.trickleDone (s : State) (g : Nat) : State :=
  match s.ledgerOf g with
  | .cleaning => ((s.setLedger g .clean).credit).mirrorQ g .clean
  | .dirtyCleaning a => s.setLedger g (.dirty a)
  | _ => s

/-- A completion in the calibration interval (R137). -/
def State.calStep (s : State) : State :=
  let n := s.ctxCount (fun c => c.st.inFlight)
  if !s.getB Reg.LG_CFG_CAL_EN || s.mode != .run || s.cover.calBase.isNone then s
  else if s.cover.calCount = 0 ∨ 1024 ≤ s.cover.calCount then { s with cover := { s.cover with calCount := 1, calCtx := n } }
  else if n ≠ s.cover.calCtx then { s with cover := { s.cover with calCount := 0 } }
  else { s with cover := { s.cover with calCount := s.cover.calCount + 1 } }

/-- A copy passes both checks of R252: it is mapped unless a higher version is, a trickle copy settles its entry, and its context takes a
new page. -/
def State.copyDone (s : State) (n : Nat) : State :=
  let c := s.ctxOf n
  let crc := s.pageCrc c.page
  let s := s.lunFine (locLun c.page)
  let t := if s.mayMap c.gran c.ver then s.mapCopy c.gran c.page c.ver crc else s
  let u := if c.kind = .trickle then (t.calStep.trickleDone c.gran).cleanAllCheck else t
  ((u.rearm n).armRefresh).wtTry

/-- COPY_MAPPED: a copy that passed its program status passes or fails the CRC comparison. -/
def execCopyMapped (n : Nat) (crcOk : Bool) (s : State) : Host.Outcome State Fault Refusal :=
  .next (
    let c := s.ctxOf n
    if c.st == .check && (c.kind == .trickle || c.kind == .refresh || c.kind == .reloc) && !s.bur.fenced then
      (if crcOk then s.copyDone n else s.programFailed n).alertScan s.crossed
    else s)

/-- CAL_SAMPLE: the interval of `lenUs` and its 1,024 granules took `energyNj` at VSYS; the baseline's share is taken off (R137). -/
def execCalSample (energyNj : Nat) (s : State) (lenUs : Nat := 0) : Host.Outcome State Fault Refusal :=
  .next (if s.cover.calCount = 1024 ∧ s.mode = .run ∧ s.getB Reg.LG_CFG_CAL_EN then
    let sample := (energyNj - s.cover.calBase.getD 0 * lenUs) * 100000 / (1024 * s.kOf s.tMax)
    let cur := s.getF Reg.LG_EG_EG_INC25
    let v := if cur < sample then min 0xFFFF sample else cur - (cur - sample) / 64
    { (s.setF Reg.LG_EG_EG_INC25 (max v (s.getF Reg.LG_EGCFG_EG_INC_MIN))) with cover := { s.cover with calCount := 0 } }
    else s)

/-! ### Clean-all (R156) -/

/-- LG_CTRL.CLEAN_ALL: in service mode trickle runs at FULL until nothing is dirty. -/
def State.doCleanAll (s : State) : State :=
  if s.service && s.mode == .run then (s.setF Reg.LG_STATUS_CLEAN_ALL 1).cleanAllCheck else s

/-- CLEAN_ALL. -/
def execCleanAll (p : Path) (s : State) : Host.Outcome State Fault Refusal :=
  .next (if s.reach p 0x3058 && s.lampUp then (s.wrote p).doCleanAll else s)

/-- LG_CTRL.STOP_CLEAN_ALL. -/
def State.doStopCleanAll (s : State) : State := s.setF Reg.LG_STATUS_CLEAN_ALL 0

/-- STOP_CLEAN_ALL. -/
def execStopCleanAll (p : Path) (s : State) : Host.Outcome State Fault Refusal :=
  .next (if s.reach p 0x3058 && s.lampUp then (s.wrote p).doStopCleanAll else s)

/-! ### Arming (R198) -/

/-- CONTEXT_ARM: the first IDLE context takes a page of the reserve; a waiting write-through takes the next (R149). -/
def execContextArm (s : State) : Host.Outcome State Fault Refusal :=
  .next (if s.lampUp && (s.mode == .run || s.mode == .restore) && !s.bur.fenced then
    (match s.idleCtx with
      | some n => (s.armCtx n).getD s
      | none => s).wtTry
    else s)

end Sys2Proof.Machine
end

