-- ==== Sys2Proof/Machine/DramCtl.lean ====
section
/-! DEFINITION. The cache DRAM controller (05): the address map, admission, scheduling, refresh, retraining, CA parity replay, failed channels,
line ECC outcomes, the patrol scrubber and self-refresh. -/

namespace Sys2Proof.Machine

/-! ### The address map (R164 to R166, Table 5-3) -/

/-- Base position of bank bit k. -/
def State.bankBase (s : State) (k : Nat) : Nat := if k = 0 then 7 else if s.channels = 2 then 8 + k else 7 + k

/-- Lowest row position. -/
def State.rowBase (s : State) : Nat := (if s.channels = 2 then 13 else 12) + b2n (s.getB Reg.DC_CFG_RANKS)

/-- A mask sanitised: the base position and row positions stay, and the base bit is set (R165); 0 selects the default mask (R166). -/
def State.cleanMask (s : State) (k m : Nat) : Nat :=
  let top := s.rowBase + (if s.getF Reg.DC_CFG_DENSITY = 0 then 16 else 17)
  if m = 0 then 0 else m % 2 ^ top / 2 ^ s.rowBase * 2 ^ s.rowBase + 2 ^ s.bankBase k

/-- Mask in force of bank bit k. -/
def State.maskOf (s : State) (k : Nat) : Nat :=
  if s.getF (Reg.DC_XOR_MASK k) = 0 then s.defaultMask k else s.getF (Reg.DC_XOR_MASK k)

/-- Bank of a line: bits BA0, BA1, BG0, BG1, BG2. -/
def State.bankOf (s : State) (line : Nat) : Nat :=
  (List.range 5).foldl (fun n k => n + popcount 32 (line &&& s.maskOf k) % 2 * 2 ^ k) 0

def State.rankOf (s : State) (line : Nat) : Nat := if s.getB Reg.DC_CFG_RANKS then line / 2 ^ (s.rowBase - 1) % 2 else 0
def State.rowOf (s : State) (line : Nat) : Nat := line / 2 ^ s.rowBase

/-- Rank and bank as one index. -/
def State.flatBank (s : State) (line : Nat) : Nat := 32 * s.rankOf line + s.bankOf line

/-- Rows of a bank. -/
def State.rowCount (s : State) : Nat := s.chanGib * 4096 / (1 + b2n (s.getB Reg.DC_CFG_RANKS))

/-- Logical to physical row and back: the map is its own inverse (R177). -/
def State.adjRow (s : State) (row : Nat) : Nat :=
  let src := min 16 (s.getF Reg.DC_ADJ_ADJ_SRC)
  let m := s.getF Reg.DC_ADJ_ADJ_MASK
  if s.getB Reg.DC_ADJ_ADJ_EN && row.testBit src then row ^^^ (if m.testBit src then m - 2 ^ src else m) else row

/-- The rows next to one in the array. -/
def State.neighbours (s : State) (row : Nat) : List Nat :=
  let p := s.adjRow row
  ((if p = 0 then [] else [p - 1]) ++ (if p + 1 < s.rowCount then [p + 1] else [])).map s.adjRow

/-! ### Channel states -/

/-- DC_STATUS.CHn_STATE. -/
def chState (ch : Nat) : Fld := if ch = 0 then Reg.DC_STATUS_CH0_STATE else Reg.DC_STATUS_CH1_STATE

/-- The channel is in service, operating or in a replay, and the controller owns its lines: up to the hold of an LRST it drains (R44, R191). -/
def State.chRuns (s : State) (ch : Nat) : Bool :=
  (s.lampUp || s.draining) && decide (ch < s.channels) && (s.getF (chState ch) == 2 || s.getF (chState ch) == 5) && !s.chanFailed ch
    && !s.getB Reg.DC_STATUS_HOLD

/-- A subchannel replays its window and issues nothing else (R182). -/
def State.replaying (s : State) (k : Nat) : Bool := (s.subCh k).replay.isSome

/-- The subchannel of a line replays: data of its reads is held back (R181, R182). -/
def State.lineReplays (s : State) (line : Nat) : Bool := s.replaying (s.subOf line)

/-- PAR_WIN_NS in force. -/
def State.parWin (s : State) : Nat := max 20 (min 64 (s.getF Reg.DC_TIMING_PAR_WIN_NS))

/-- The hold on read data in ns: PAR_WIN_NS and two cycles of CLK_DFI, which runs at one eighth of the data rate (R181). -/
def State.readHold (s : State) : Nat :=
  let rate := 3200 + 400 * min 8 (s.getF Reg.DC_CFG_SPEED)
  s.parWin + (16000 + rate - 1) / rate

/-! ### Write-buffer entries (R168) -/

/-- A line lies in subchannel k. -/
def State.inSub (s : State) (k line : Nat) : Bool := s.subOf line == k

/-- Entries whose write command has left the replay window are freed. -/
def State.freeEntries (s : State) (k nowNs : Nat) : State :=
  { s with dram := { s.dram with wbuf := s.dram.wbuf.filter (fun e =>
      !(s.inSub k e.line && (match e.issued with | some t => decide (t + s.parWin < nowNs) | none => false))) } }

/-- A corrected line is written back as a committed entry; while none is free it waits (R188; DESIGN CHOICE, log entry 89). -/
def State.backLine (s : State) (line : Nat) : State :=
  if s.bufFull line then { s with dram := { s.dram with wback := sadd line s.dram.wback } }
  else { s with dram := { s.dram with
    wbuf := wbMerge s.dram.wbuf line beAll (s.imageLine line)
    wback := sdel line s.dram.wback } }

/-- Write-backs that wait take the entries that have come free. -/
def State.backWaiting (s : State) : State := s.dram.wback.foldl State.backLine s

/-- Entries that may be admitted: the oldest of its line that has not been issued, oldest entry first (R168, R174). -/
def drainable (p : Nat → Bool) : List WbEntry → List Nat → List WbEntry
  | [], _ => []
  | e :: t, seen =>
    if e.issued.isSome || !p e.line then drainable p t seen
    else if e.admitted || seen.contains e.line then drainable p t (e.line :: seen)
    else e :: drainable p t (e.line :: seen)

/-- The drain's class and source: class 1 in BURROW, for the hold path and at 112 lines or more, else class 2 (Table 5-5). -/
def State.drainClass (s : State) (ch : Nat) : Nat × Nat :=
  if s.mode = .burrow then (1, 1) else if s.draining then (1, 2) else if 112 ≤ s.wbUsed ch then (1, 1) else (2, 1)

/-- The class and source of an entry's drain: a write-through's write goes as class 1, source 0 (Table 5-5). -/
def State.entryClass (s : State) (ch : Nat) (e : WbEntry) : Nat × Nat := if e.wt && s.mode != .burrow then (1, 0) else s.drainClass ch

/-- The drain's request, when it has one: a full entry is written, a partial one is read first (R170). -/
def State.drainReq (s : State) (k : Nat) : Option DramQ :=
  match drainable (s.inSub k) s.dram.wbuf [] with
  | [] => none
  | e :: _ => let c := s.entryClass (k / 2) e; some ⟨e.line, e.be == beAll, c.1, c.2, 0⟩

/-- The oldest entry of a line that waits for admission becomes admitted. -/
def admitEntry (line : Nat) : List WbEntry → List WbEntry
  | [] => []
  | e :: t => if e.line = line ∧ e.admitted = false then { e with admitted := true } :: t else e :: admitEntry line t

/-! ### Admission (R171, R172) -/

/-- The requests that compete for admission to a subchannel: in BURROW the drain and the contexts only (Table 5-5). -/
def State.candidates (s : State) (k : Nat) : List DramQ :=
  (s.subCh k).waiting.filter (fun q => s.mode != .burrow || !(q.cls == 3 || (q.cls == 2 && q.src == 0))) ++ (s.drainReq k).toList

/-- The source of a class that the rotating pointer reaches first, from one after the last winner. -/
def pickSrc (l : List DramQ) (last : Nat) : Option Nat :=
  ((List.range 4).map (fun i => (last + 1 + i) % 4)).find? (fun s => l.any (fun q => q.src == s))

/-- The context whose read the pointer over BC0 to BC255 reaches first. -/
def pickCtx (l : List DramQ) (last : Nat) : Option Nat :=
  ((List.range 256).map (fun i => (last + 1 + i) % 256)).find? (fun c => l.any (fun q => q.ctx == c))

/-- A source whose requests are context reads. -/
def ctxSource (cls src : Nat) : Bool := (cls == 2 && src == 3) || (cls == 3 && src == 0)

/-- The request that this cycle admits. -/
def State.admitPick (s : State) (k : Nat) : Option DramQ :=
  let x := s.subCh k
  let l := s.candidates k
  let c3 := decide ((x.queue.filter (fun q => q.cls == 3)).length < 16)
  if 64 ≤ x.queue.length then none
  else
    let cls := if l.any (fun q => q.cls == 1) then 1 else if l.any (fun q => q.cls == 2) then 2 else 3
    let m := l.filter (fun q => q.cls == cls)
    if cls = 3 && !c3 then none
    else match pickSrc m (mget 3 x.lastSrc cls) with
      | none => none
      | some src =>
        let of := m.filter (fun q => q.src == src)
        if ctxSource cls src then (pickCtx of (mget 255 x.lastCtx cls)).bind (fun c => of.find? (fun q => q.ctx == c)) else of.head?

/-- Drop the first element equal to one. -/
def dropFirst {α : Type} [DecidableEq α] (q : α) : List α → List α
  | [] => []
  | x :: t => if x = q then t else x :: dropFirst q t

/-- Admit one request. -/
def State.takeIn (s : State) (k : Nat) : State :=
  match s.admitPick k with
  | none => s
  | some q =>
    let x := s.subCh k
    let own := s.drainReq k == some q && !x.waiting.contains q
    let y := { x with
      queue := x.queue ++ [q]
      waiting := if own then x.waiting else dropFirst q x.waiting
      lastSrc := mset q.cls q.src x.lastSrc
      lastCtx := if ctxSource q.cls q.src then mset q.cls q.ctx x.lastCtx else x.lastCtx }
    let t := s.setSub k y
    if own then { t with dram := { t.dram with wbuf := admitEntry q.line t.dram.wbuf } } else t

/-! ### Scheduling (R173, R174, R176, R178) -/

/-- A request is blocked by an earlier one to its line. -/
def blockedAt : List DramQ → List Nat → List (DramQ × Bool)
  | [], _ => []
  | q :: t, seen => (q, seen.contains q.line) :: blockedAt t (q.line :: seen)

/-- inorder(b): a write of the bank and a later request to its row. -/
def State.inorder (s : State) (b : Nat) : List DramQ → Bool
  | [] => false
  | q :: t => (q.write && s.flatBank q.line == b && t.any (fun r => s.flatBank r.line == b && s.rowOf r.line == s.rowOf q.line)) || s.inorder b t

/-- The group gathered behind a request: what joins it, and what is left of the queue. -/
def State.gather (s : State) (b row : Nat) (ord : Bool) : List DramQ → Nat → Bool → List DramQ × List DramQ
  | [], _, _ => ([], [])
  | q :: t, n, skipped =>
    if n = 0 then ([], q :: t)
    else if s.flatBank q.line = b then
      (if s.rowOf q.line = row ∧ ¬ (ord ∧ skipped) then
        let r := s.gather b row ord t (n - 1) skipped
        (q :: r.1, r.2)
      else
        let r := s.gather b row ord t n true
        (r.1, q :: r.2))
    else
      let r := s.gather b row ord t n skipped
      (r.1, q :: r.2)

/-- One step of the 32-bit LFSR x^32 + x^22 + x^2 + x + 1. -/
def lfsrNext (v : Nat) : Nat :=
  (2 * v + (v / 2 ^ 31 + v / 2 ^ 21 + v / 2 + v) % 2) % 2 ^ 32

/-- NREF_K in force. -/
def State.nrefK (s : State) : Nat := max 6 (min 16 (s.getF Reg.DC_NREF_NREF_K))

/-- The last 32 commands (R181). -/
def last32 {α : Type} (l : List α) : List α := l.drop (l.length - 32)

/-- Commands of the replay window of an alert seen at a time (R181, R182). -/
def State.inWindow (s : State) (k nowNs : Nat) : Nat := ((s.subCh k).retry.filter (fun c => decide (nowNs ≤ c.1 + s.parWin))).length

/-- n more commands keep the window within 32 (R181). -/
def State.room (s : State) (k nowNs n : Nat) : Bool := decide (s.inWindow k nowNs + n ≤ 32)

/-- A command issues and enters the retry buffer (R181). -/
def State.issue (s : State) (k nowNs : Nat) (c : DramCmd) : State :=
  s.setSub k { s.subCh k with retry := last32 ((s.subCh k).retry ++ [(nowNs, c)]) }

/-- Commands that issue in order. -/
def State.issueAll (s : State) (k nowNs : Nat) (l : List DramCmd) : State := l.foldl (fun (a : State) c => a.issue k nowNs c) s

/-- An ACT: the retry buffer, the bank's count (R178), and the LFSR's draw, which selects when its low k bits are 0 (log
entry 18); after an LRST it starts from 1 (DESIGN CHOICE, log entry 98). -/
def State.act (s : State) (ch sub nowNs b row : Nat) : State :=
  let k := 2 * ch + sub
  let t := s.issue k nowNs (.act (b / 32) (b % 32) row)
  let x := t.subCh k
  let y := { x with raa := if s.getB Reg.DC_CFG_RFM_EN then mset b (mget 0 x.raa b + 1) x.raa else x.raa }
  if s.getB Reg.DC_NREF_NREF_EN then
    let v := lfsrNext (mget 1 s.dram.lfsr ch)
    let hit := v % 2 ^ s.nrefK == 0
    let z := if hit then { y with nref := mset b (mget [] y.nref b ++ s.neighbours row) y.nref } else y
    let u := (t.setSub k z).addSat (Reg.DC_MAINT_NREF_COUNT ch) (b2n hit)
    { u with dram := { u.dram with lfsr := mset ch v u.dram.lfsr } }
  else t.setSub k y

/-- A bank's count has not reached the maximum management threshold, so it admits an ACT (R178). -/
def State.rfmAllows (s : State) (k b : Nat) : Bool := !s.getB Reg.DC_CFG_RFM_EN || decide (mget 0 (s.subCh k).raa b < Config.raammt 0)

/-- The neighbour rows pending on a bank, those that they select in turn included, are activated and precharged (R176). -/
def State.actPending (ch sub nowNs b : Nat) : Nat → State → State
  | 0, s => s
  | n + 1, s =>
    let k := 2 * ch + sub
    match mget [] (s.subCh k).nref b with
    | [] => s
    | row :: rest =>
      if s.room k nowNs 2 && s.rfmAllows k b then
        let x := s.subCh k
        let t := s.setSub k { x with nref := if rest.isEmpty then mdel b x.nref else mset b rest x.nref }
        State.actPending ch sub nowNs b n ((t.act ch sub nowNs b row).issue k nowNs (.pre (b / 32) (b % 32)))
      else s

/-- The read of a request issues: its data is to come, and a context's read asks for its next line (log entry 13). -/
def State.readIssued (s : State) (nowNs : Nat) (q : DramQ) : State :=
  let own := ctxReq q.ctx q
  let t : State := { s with dram := { s.dram with rdOut := s.dram.rdOut ++ [⟨q.line, if own then some q.ctx else none, false, nowNs⟩] } }
  if own then
    if granOf (q.line + 2) = granOf q.line ∧ granOf q.line = (s.ctxOf q.ctx).gran then t.ask { q with line := q.line + 2 } else t
  else t

/-- A column command issues, the last of its group with auto-precharge (R173); a write stores its line. -/
def State.column (s : State) (k nowNs : Nat) (q : DramQ) (ap : Bool) : State :=
  let s1 := s.issue k nowNs (if q.write then .wr q.line ap else .rd q.line ap)
  if q.write then
    match s1.dram.wbuf.find? (fun e => e.line == q.line && e.admitted && e.issued.isNone) with
    | some e =>
      { s1 with dram := { s1.dram with
        cells := putLine s1.dram.cells e.line e.be e.data
        wbuf := s1.dram.wbuf.map (fun x => if x.line == q.line && x.admitted && x.issued.isNone then { x with issued := some nowNs } else x) } }
    | none => s1
  else s1.readIssued nowNs q

/-- The column commands of a group. -/
def State.columns (k nowNs : Nat) : List DramQ → State → State
  | [], s => s
  | q :: t, s => State.columns k nowNs t (s.column k nowNs q t.isEmpty)

/-! ### Maintenance (R175, R178) -/

/-- A bank whose activation count calls for RFM (R178). -/
def State.rfmDue (s : State) (k : Nat) : Option Nat :=
  if s.getB Reg.DC_CFG_RFM_EN then ((s.subCh k).raa.find? (fun x => decide (Config.raaimt 0 ≤ x.2))).map (·.1) else none

/-- RFM issues, and the bank's count falls. -/
def State.rfm (s : State) (k nowNs b : Nat) : State :=
  let t := s.issue k nowNs (.rfm (b / 32) (b % 32))
  t.setSub k { t.subCh k with raa := mset b (mget 0 (t.subCh k).raa b - Config.raaimt 0) (t.subCh k).raa }

/-- The commands of one refresh of a rank: REFab, or REFsb for each of the four banks of the bank groups (R175, log entry 86). -/
def State.refCmds (s : State) (rank : Nat) : List DramCmd :=
  if s.getB Reg.DC_CFG_REFSB_EN then (List.range 4).map (fun ba => .refsb rank ba) else [.refab rank]

/-- A refresh lowers the activation counts of the rank's banks under the DDR5 RFM rules (R178). -/
def refLowers (rank : Nat) (raa : List (Nat × Nat)) : List (Nat × Nat) :=
  raa.map (fun x => if x.1 / 32 = rank then (x.1, x.2 - Config.raaRef 0) else x)

/-- The refreshes due for a rank issue, the postponed ones with them. -/
def State.refreshNow (s : State) (k nowNs rank : Nat) : State :=
  let n := mget 0 (s.subCh k).postponed rank
  let l := (List.range n).flatMap (fun _ => s.refCmds rank)
  if s.room k nowNs l.length && !s.replaying k then
    let t := s.issueAll k nowNs l
    let x := t.subCh k
    t.setSub k { x with postponed := mdel rank x.postponed, raa := (List.range n).foldl (fun m _ => refLowers rank m) x.raa }
  else s

/-- The rank whose refreshes are due: up to four wait while requests do (R175). -/
def State.refreshDue (s : State) (k : Nat) : Option Nat :=
  ((s.subCh k).postponed.find? (fun x => decide (4 ≤ x.2) || (decide (0 < x.2) && (s.subCh k).queue.isEmpty))).map (·.1)

/-! ### The scheduler (R173) -/

/-- A request may issue: it is not blocked, its bank is ready for an ACT, and RFM does not hold the bank. -/
def State.mayIssue (s : State) (k : Nat) (ready : List Nat) (x : DramQ × Bool) : Bool :=
  !x.2 && ready.contains (s.flatBank x.1.line) && s.rfmAllows k (s.flatBank x.1.line)

/-- A request's group issues once the neighbour rows pending on its bank have been served. -/
def State.serveGroup (s : State) (ch sub nowNs : Nat) (r : DramQ) : State :=
  let k := 2 * ch + sub
  let b := s.flatBank r.line
  let q := (s.subCh k).queue
  let g := s.gather b (s.rowOf r.line) (s.inorder b q) ((q.dropWhile (fun x => x != r)).drop 1) 3 false
  let t := State.actPending ch sub nowNs b 16 s
  if (mget [] (t.subCh k).nref b).isEmpty && t.room k nowNs (2 + g.1.length) && t.rfmAllows k b then
    let u := t.setSub k { t.subCh k with queue := q.takeWhile (fun x => x != r) ++ g.2 }
    State.columns k nowNs (r :: g.1) (u.act ch sub nowNs b (s.rowOf r.line))
  else t

/-- One cycle of a subchannel's scheduler: maintenance that is due, then the oldest request that may issue. -/
def State.scheduleOne (s : State) (ch sub nowNs : Nat) (ready : List Nat) : State :=
  let k := 2 * ch + sub
  match s.refreshDue k, s.rfmDue k with
  | some rank, _ => s.refreshNow k nowNs rank
  | none, some b => if s.room k nowNs 1 then s.rfm k nowNs b else s
  | none, none =>
    match (blockedAt (s.subCh k).queue []).find? (s.mayIssue k ready) with
    | none => s
    | some (r, _) => s.serveGroup ch sub nowNs r

/-! ### CA parity replay (R182, R183) -/

/-- The ACTs that a replay issues first: those of column commands whose ACT lies outside the window. -/
def State.lostActs (s : State) : List DramCmd → List Nat → List DramCmd
  | [], _ => []
  | .act r b _ :: t, seen => s.lostActs t ((32 * r + b) :: seen)
  | .rd l _ :: t, seen | .wr l _ :: t, seen =>
    if seen.contains (s.flatBank l) then s.lostActs t seen
    else .act (s.rankOf l) (s.bankOf l) (s.rowOf l) :: s.lostActs t (s.flatBank l :: seen)
  | _ :: t, seen => s.lostActs t seen

/-- A command of a replayed window issues again: an ACT draws and counts like every other (R176, R178), a write's entry and a read that is out
take the new time (R181). -/
def State.reissue (s : State) (ch sub nowNs first : Nat) (c : DramCmd) : State :=
  let k := 2 * ch + sub
  match c with
  | .act r b row => s.act ch sub nowNs (32 * r + b) row
  | .wr l _ =>
    let t := s.issue k nowNs c
    { t with dram := { t.dram with wbuf := t.dram.wbuf.map (fun e =>
        if e.line == l && (match e.issued with | some at' => decide (first ≤ at' + s.parWin) | none => false)
        then { e with issued := some nowNs } else e) } }
  | .rd l _ =>
    let t := s.issue k nowNs c
    { t with dram := { t.dram with rdOut := t.dram.rdOut.map (fun r => if r.line = l then { r with issuedAt := nowNs } else r) } }
  | _ => s.issue k nowNs c

/-- The commands of a replay issue in order while the window has room (R181); those left over. -/
def State.reissueAll (ch sub nowNs first : Nat) : List DramCmd → State → State × List DramCmd
  | [], s => (s, [])
  | c :: t, s =>
    if s.room (2 * ch + sub) nowNs 1 then State.reissueAll ch sub nowNs first t (s.reissue ch sub nowNs first c) else (s, c :: t)

/-- What a replay issues: MRW, the precharge of all banks, the ACTs outside the window and the window's commands, in order (R182). -/
def State.replayCmds (s : State) (r : Replay) : List DramCmd := r.left.getD (.mrw :: .prea :: s.lostActs r.win [] ++ r.win)

/-- The replay of a subchannel goes on once the wait on its latest alert is over. It ends when its commands have issued and no alert has come in
the window after the last (R183); the channel operates again when the other subchannel replays nothing. -/
def State.replayGo (s : State) (ch sub nowNs : Nat) (r : Replay) : State :=
  let k := 2 * ch + sub
  if nowNs < r.ready then s
  else match s.replayCmds r with
    | [] =>
      if nowNs ≤ r.last + s.parWin then s
      else
        let t := s.setSub k { s.subCh k with replay := none }
        if t.replaying (2 * ch + (1 - sub)) then t else t.setF (chState ch) 2
    | c :: l =>
      let x := State.reissueAll ch sub nowNs r.first (c :: l) s
      x.1.setSub k { x.1.subCh k with replay := some { r with left := some x.2, last := nowNs } }

/-- A subchannel's cycle: issued writes leave the window, one request is admitted and the oldest that may issue is served. -/
def State.cycle (s : State) (ch sub nowNs : Nat) (ready : List Nat) : State :=
  let t : State := { s with dram := { s.dram with now := max s.dram.now nowNs } }
  match (t.subCh (2 * ch + sub)).replay with
  | some r => t.replayGo ch sub nowNs r
  | none => ((((t.freeEntries (2 * ch + sub) nowNs).backWaiting).takeIn (2 * ch + sub)).scheduleOne ch sub nowNs ready).ledgerGo

/-- SCHEDULE: a cycle of a subchannel's scheduler; `readyBanks` meet every timing for an ACT. -/
def execSchedule (ch sub nowNs : Nat) (readyBanks : List Nat) (s : State) : Host.Outcome State Fault Refusal :=
  .next (if s.chRuns ch && decide (sub < 2) then s.cycle ch sub nowNs readyBanks else s)

/-! ### Refresh and retraining (R175, R180) -/

/-- REFRESH: tREFI expires for a rank; up to four refreshes are postponed while requests wait. -/
def execRefresh (ch sub rank : Nat) (s : State) : Host.Outcome State Fault Refusal :=
  .next (if s.chRuns ch && decide (sub < 2) && decide (rank ≤ b2n (s.getB Reg.DC_CFG_RANKS)) then
    let k := 2 * ch + sub
    let x := s.subCh k
    let t := s.setSub k { x with postponed := mset rank (mget 0 x.postponed rank + 1) x.postponed }
    if x.queue.isEmpty || decide (4 ≤ mget 0 x.postponed rank) then t.refreshNow k s.dram.now rank else t
    else s)

/-- Fields of DC_ that come into force at a cold training only: SPEED, DENSITY, RANKS, CH_EN and DC_XORn (R193). -/
def coldKey (k : Nat) : Bool := (keyOff k == 0x4000 && decide (k % 128 < 4 * 10)) || (decide (0x4008 ≤ keyOff k) && decide (keyOff k ≤ 0x4018))

/-- Written DC_ fields come into force at a retrain pause, but for those that wait for the next WAKE. -/
def State.pauseForce (s : State) : State := s.comeInto (fun x => keyBlock x == 4 && !coldKey x)

/-- RETRAIN_PAUSE: with an empty command queue, or forced; MR4 is read (R175, R180). -/
def execRetrainPause (ch sub : Nat) (forced mr4Double mr4Over : Bool) (s : State) : Host.Outcome State Fault Refusal :=
  .next (
    let k := 2 * ch + sub
    if s.chRuns ch && decide (sub < 2) && !s.replaying k && (forced || (s.subCh k).queue.isEmpty)
        && (s.mode == .run || s.mode == .restore || s.mode == .burrow) then
      let s := s.pauseForce
      ((((s.setSub k { s.subCh k with doubled := mr4Double || mr4Over }).addSat (Reg.DC_MAINT_RETRAIN_COUNT ch) 1).addSat
        (Reg.DC_MAINT_FORCED ch) (b2n forced)).raiseIf mr4Over .lamp 0x2A .error ch)
    else s)

/-! ### A failed channel (R163, R183, R184) -/

/-- A context that reads a granule of the failed channel gives its copy up. -/
def State.dropLoad (s : State) (ch n : Nat) : State :=
  let c := s.ctxOf n
  if c.loading ∧ c.kind.ofGran ∧ s.chanOf c.gran = ch then
    (if s.mode = .burrow && c.kind == .burrow then ((s.dropCtxReads n).takenLost c.gran).keepPage n
     else (((s.dropCtxReads n).copyAbandoned c).keepPage n))
  else s

/-- Entries of a channel's dirty granules become LOST, and their credits return. -/
def State.loseLedger (s : State) (ch : Nat) : State :=
  let hit := s.ledgerAll.filter (fun x => x.2.isDirty && s.chanOf x.1 == ch)
  let t := s.mapLedger (fun g e => if e.isDirty && s.chanOf g == ch then .lost else e)
  ({ t with cover := { t.cover with
    nDirty := s.cover.nDirty - hit.length, eDebt := s.cover.eDebt - hit.length * s.cover.eg } } : State).cleanAllCheck

/-- Reads of a failed channel return poison. -/
def State.failReads (s : State) (ch : Nat) : State :=
  { s with host := { s.host with reads := s.host.reads.map (fun r =>
      if s.chanOf (granOf r.line) == ch && !r.ready then { r with value := some (0, true), ready := true } else r) } }

/-- In BURROW the channel's dirty granules that are not landed and not taken yet are recorded LOST, and its contexts have given theirs up
(R184, R225). -/
def State.burrowLosesChannel (s : State) (ch : Nat) : State :=
  let left := (s.ledgerAll.filter (fun x => x.2.isDirty && s.chanOf x.1 == ch && (mfind x.1 s.bur.staging).isNone
    && !s.bur.ctx.any (fun c => c.2.st.inFlight && c.2.kind == .burrow && c.2.gran == x.1))).map (·.1)
  left.foldl (fun (a : State) g => a.recordLost g) { s with bur := { s.bur with
    dramBad := sadd ch s.bur.dramBad
    handoff := s.bur.handoff.filter (fun g => s.chanOf g != ch || s.ledgerOf g == .clean) } }

/-- A restore neither fetches nor checks a failed channel's granules; the access that waited for one is served with poison (R543). -/
def State.restoreLoses (s : State) (ch : Nat) : State :=
  let keep := fun (l : List Nat) => l.filter (fun g => s.chanOf g != ch)
  { s with rst := { s.rst with todo := keep s.rst.todo, pend := keep s.rst.pend, prio := keep s.rst.prio } }

/-- A channel is declared failed. -/
def State.failChannel (s : State) (ch : Nat) : State :=
  if s.chanFailed ch || decide (s.channels ≤ ch) then s
  else
    let s1 := ((s.setFs [(Reg.DC_REPLAY_FAILED ch, 1), (chState ch, 6)]).raise .lamp 0x32 .critical ch)
    let s2 := ((s1.bur.ctx.map (·.1)).foldl (fun (a : State) n => a.dropLoad ch n) s1)
    let s3 := if s.mode = .burrow then s2.burrowLosesChannel ch else s2
    ((((s3.loseLedger ch).setSub (2 * ch) SubCh.reset).setSub (2 * ch + 1) SubCh.reset).restoreLoses ch).failReads ch

/-- The wait on an alert (R182 step 2): 120 ns from when it was seen, and until ALERT_N is high. -/
def alertWait (nowNs highNs : Nat) : Nat := max (nowNs + 120) highNs

/-- An alert begins a replay of the window, or fails the one that runs, which then begins again on the same window; the third failed replay of a
window fails the channel (R182, R183). -/
def State.alertSeen (s : State) (ch sub nowNs highNs : Nat) : State :=
  let k := 2 * ch + sub
  let x := s.subCh k
  let begun (r : Replay) : State :=
    ((s.setSub k { x with replay := some r }).addSat (Reg.DC_REPLAY_REPLAYS ch) 1).setFs
      [(Reg.DC_REPLAY_LAST_LEN ch, min 32 r.win.length), (chState ch, 5)]
  match x.replay with
  | none =>
    begun ⟨nowNs, alertWait nowNs highNs, 0, (x.retry.filter (fun c => decide (nowNs ≤ c.1 + s.parWin))).map (·.2), none, nowNs⟩
  | some r => if r.fails = 2 then s.failChannel ch else begun { r with ready := alertWait nowNs highNs, fails := r.fails + 1, left := none }

/-- CA_PARITY_ALERT: a subchannel's ALERT_N is seen low, and is high again at `highNs`. -/
def execCaParityAlert (ch sub nowNs highNs : Nat) (s : State) : Host.Outcome State Fault Refusal :=
  .next (if s.chRuns ch && decide (sub < 2) then s.alertSeen ch sub nowNs highNs else s)

/-! ### Line ECC (R185 to R187) -/

/-- The nibble of DCn_DEVFAIL for a line's subchannel and rank. -/
def State.devNibble (s : State) (line : Nat) : Nat := line % 2 * 2 + s.rankOf line

/-- The nibble itself. -/
def State.devMark (s : State) (line : Nat) : Nat := s.getF (Reg.DC_DEVFAIL_DEVICES (s.chanOf (granOf line))) / 16 ^ s.devNibble line % 16

/-- A device is marked for a line's rank and subchannel. -/
def State.marked (s : State) (line : Nat) : Bool := decide (8 ≤ s.devMark line)

/-- The line decoder: a codeword is corrected only when every symbol in error lies in one device, at most 8 of them, or all in the marked device,
whose symbols are erasures (R185, R186; log entry 88). A read of a marked rank with no symbol in error is clean and not counted (DESIGN CHOICE, log
entry 122). -/
def State.eccOut (s : State) (line : Nat) (e : DramErr) : DramOut :=
  match e.syms.dedup with
  | [] => .clean
  | k :: t =>
    if t.all (fun x => x / 16 == k / 16) && (if s.marked line then decide (s.devMark line = 8 + k / 16) else decide (t.length < 8))
    then .corrected (k / 16) else .ue

/-- Mark a device: at most one per rank and subchannel; journalled, and a DRAM Event logged. -/
def State.markDev (s : State) (line dev : Nat) : State :=
  if s.marked line then s
  else
    let ch := s.chanOf (granOf line)
    let f := Reg.DC_DEVFAIL_DEVICES ch
    ((s.setF f (s.getF f + (8 + dev % 8) * 16 ^ s.devNibble line)).jput (.devMark ch (line % 2) (s.rankOf line) dev)).raise
      .lamp 0x1B .warning (ch + 256 * (line % 2) + 65536 * s.rankOf line + 16777216 * dev)

/-- DEV_THRESH in force. -/
def State.devThresh (s : State) : Nat := max 1 (s.getF Reg.DC_ECCCFG_DEV_THRESH)

/-- A corrected read is counted, in DC_ERRn and since POR, and may cross the host's threshold (R103, R105). -/
def State.countCe (s : State) (ch : Nat) : State :=
  let t := s.addSat (Reg.DC_ERR_CE_COUNT ch) 1
  ({ t with host := { t.host with corrections := t.host.corrections + 1 } } : State).alertScan s.crossed

/-- A corrected read: counted, and its device marked at the threshold of the scrub pass. -/
def State.corrected (s : State) (line dev : Nat) : State :=
  let ch := s.chanOf (granOf line)
  let k := s.subOf line
  let key := 8 * s.rankOf line + dev
  let n := mget 0 (s.subCh k).corr key + 1
  let u := (s.setSub k { s.subCh k with corr := mset key n (s.subCh k).corr }).countCe ch
  if s.devThresh ≤ n then u.markDev line dev else u

/-- A corrected codeword is written back, unless a write to its line entered the buffer after the read had issued (R188). -/
def State.writeBack (s : State) (line : Nat) (newer : Bool) : State := if newer then s else s.backLine line

/-- An uncorrectable read that erasure did not cure. -/
def State.countUe (s : State) (line : Nat) : State :=
  let ch := s.chanOf (granOf line)
  (s.addSat (Reg.DC_ERR_UE_COUNT ch) 1).setF (Reg.DC_UEADDR_LA ch) line

/-- What the decoder makes of a read. After an uncorrectable one a single failing device that the diagnostic shows is marked, and the read
retried with erasure (R186). -/
def State.decodeRead (s : State) (line : Nat) (e : DramErr) : State × DramOut :=
  match s.eccOut line e with
  | .clean => (s, .clean)
  | .corrected dev => (s.corrected line dev, .corrected dev)
  | .ue =>
    match (if s.marked line then none else e.diag) with
    | none => (s.countUe line, .ue)
    | some dev =>
      let t := s.markDev line dev
      match t.eccOut line e with
      | .ue => (t.countUe line, .ue)
      | o => (t.countCe (s.chanOf (granOf line)), o)

/-- A corrected host or scrub read is written back. -/
def State.afterRead (s : State) (line : Nat) (newer : Bool) (out : DramOut) : State :=
  match out with | .corrected _ => s.writeBack line newer | _ => s

/-- A host read's data arrives: good, or poison (R187). -/
def State.hostData (s : State) (tag line : Nat) (lost : Bool) : State :=
  let t := if lost then s.poisonRun line else s
  { t with host := { t.host with reads := t.host.reads.map (fun r =>
      if r.tag == tag && r.line == line && r.value.isSome && !r.ready then
        { r with ready := true, value := if lost then some (0, true) else r.value } else r) } }

/-- The read of a read-modify-write arrives: the entry becomes a whole line, which waits for its write (R170). -/
def State.rmwData (s : State) (line : Nat) (lost : Bool) : State :=
  let t := if lost then s.poisonRun line else s
  let u : State := { t with dram := { t.dram with wbuf := t.dram.wbuf.map (fun e =>
      if e.line == line && e.admitted && e.issued.isNone && e.be != beAll then
        { e with be := beAll, data := mergeLine e.be e.data (lineAt t.dram.cells line) } else e) } }
  let c := match s.dram.wbuf.find? (fun e => e.line == line && e.admitted && e.issued.isNone && e.be != beAll) with
    | some e => s.entryClass (s.chanOf (granOf line)) e
    | none => s.drainClass (s.chanOf (granOf line))
  u.ask ⟨line, true, c.1, c.2, 0⟩

/-- A context's read comes back uncorrectable (R187). -/
def State.ctxUe (s : State) (n line : Nat) : State :=
  let c := s.ctxOf n
  let flag := s.setCtx n { c with lp := sadd (line % 256) c.lp, newUe := c.newUe || !s.poisoned line }
  match c.kind with
  | .burrow => flag
  | .wt =>
    (match s.host.stage with
      | some ⟨w, _⟩ => if w.line == line && w.full then s else flag.poisonRun line
      | none => flag)
  | .trickle | .refresh => (((s.dropCtxReads n).copyAbandoned c).keepPage n).poisonRun line
  | _ => s

/-- A map line is uncorrectable. In RUN its 16 entries become unknown and each user granule is copied again (R243); in BURROW the superseded
locations of the copies that wait for it are unknown (R212). -/
def State.mapUe (s : State) (line : Nat) : State :=
  let gs := ((List.range 16).map (fun i => 16 * (line - s.mapBase) + i)).filter (fun g => decide (g < s.nUser))
  if s.mode = .burrow then
    { s with bur := { s.bur with ctx := s.bur.ctx.map (fun c => if gs.contains c.2.gran then (c.1, { c.2 with sup := none }) else c) } }
  else if s.mode = .run then
    { s with nand := { s.nand with
      mapUnknown := gs.foldl (fun l g => sadd g l) s.nand.mapUnknown
      refreshQ := gs.foldl (fun l g => sadd g l) s.nand.refreshQ } }
  else s

/-- Another content of the mirror. -/
def State.setMirror (s : State) (m : List (Nat × LState)) : State := { s with cover := { s.cover with mirror := m } }

/-- A mirror line is rewritten from the ledger (R134). -/
def State.mirrorRewrite (s : State) (line : Nat) : State :=
  let gs := ((List.range 128).map (fun i => 128 * (line - s.mirrorBase) + i)).filter (fun g => decide (g < s.nUser))
  s.setMirror (gs.foldl (fun l g => msetD s.cover.mirrorDflt g (s.ledgerOf g) l) s.cover.mirror)

/-- P3 finds a staging line uncorrectable: its eight slots become an unknown range (R219). -/
def State.stagingUe (s : State) (line : Nat) : State :=
  { s with bur := { s.bur with slotsBad := sadd (line - s.stagingBase) s.bur.slotsBad } }

/-- A host or RMW read is served outside BURROW only. -/
def State.hostTime (s : State) : Bool := s.mode == .run || s.mode == .restore

/-- Take the oldest read out that satisfies a test. -/
def takeRd (p : RdOut → Bool) : List RdOut → List RdOut
  | [] => []
  | r :: t => if p r then t else r :: takeRd p t

/-- The read out that a return answers. -/
def isRd (line : Nat) (req : DramReq) (r : RdOut) : Bool :=
  r.line == line && (match req with | .ctx n => r.ctx == some n | .mapLine => true | _ => r.ctx == none)

/-- The scrub read of a channel waits for its data: it has been asked for and has issued. -/
def State.scrubOut (s : State) (ch line : Nat) : Bool :=
  s.dram.scrubAsked.contains ch && mget (256 * ch) s.dram.scrub ch == line && !s.asked (fun q => !q.write && q.line == line && q.cls == 3 && q.src == 1)

/-- The line after one in a channel's order; the pass starts again at the channel's first line. -/
def State.nextScrub (s : State) (ch line : Nat) : Nat :=
  let n := if line % 256 = 255 then (if s.channels = 2 then line + 257 else line + 1) else line + 1
  if s.capGib * 16777216 ≤ n then 256 * ch else n

/-- The scrubber moves to its next line; a new pass clears the pass's correction counts (R186). -/
def State.scrubMove (s : State) (ch : Nat) : State :=
  let next := s.nextScrub ch (mget (256 * ch) s.dram.scrub ch)
  let u : State := { s with dram := { s.dram with scrub := mset ch next s.dram.scrub, scrubAsked := sdel ch s.dram.scrubAsked } }
  if next = 256 * ch then
    ((u.setSub (2 * ch) { u.subCh (2 * ch) with corr := [] }).setSub (2 * ch + 1) { u.subCh (2 * ch + 1) with corr := [] })
  else u

/-- A poison-bitmap line is uncorrectable: which of its lines are poisoned is not known, so every user line among them is (R34; DEDUCED, log entry
121). -/
def State.bitmapUe (s : State) (line : Nat) : State :=
  s.setPoisons (((List.range 512).map (fun i => 512 * (line - s.poisonBase) + i)).filter (fun l => decide (l < s.nLines) && !s.poisoned l))

/-- The scrubber finds a line uncorrectable: a user line is poisoned, a map line's entries are unknown, a mirror line is rewritten, a bitmap line
poisons what it covers (R98, R134, R243). -/
def State.scrubUe (s : State) (line : Nat) : State :=
  if granOf line < s.nUser then s.poisonRun line
  else if s.isMapLine line then s.mapUe line
  else if s.isMirrorLine line then s.mirrorRewrite line
  else if s.isPoisonLine line then s.bitmapUe line
  else s

/-- Context n's read has its data now (the look-back of Table 6-5). -/
def State.ctxRead (s : State) (n : Nat) : State :=
  if (s.ctxOf n).st == .idle then s else s.setCtx n { s.ctxOf n with readAt := s.dram.now }

/-- What a requester makes of its read; `t` is the state after the decoder's, `out` its outcome (R187, R188, R134, R212, R219, R243). -/
def State.delivered (s t : State) (req : DramReq) (line : Nat) (newer : Bool) (out : DramOut) : State :=
  let lost := out == .ue
  match req with
  | .host tag =>
    if s.hostTime && s.host.reads.any (fun r => r.tag == tag && r.line == line && r.value.isSome && !r.ready)
        && !s.asked (fun q => !q.write && q.line == line && q.cls == 2 && q.src == 0) then
      (t.hostData tag line lost).afterRead line newer out
    else s
  | .rmw =>
    if s.dram.wbuf.any (fun e => e.line == line && e.admitted && e.issued.isNone && e.be != beAll)
        && !s.asked (fun q => q.line == line && (q.src == 1 || q.src == 2) && q.ctx == 0 && q.cls ≤ 2) then
      t.rmwData line lost
    else s
  | .ctx n =>
    if s.isMapLine line then (if lost then t.mapUe line else t)
    else if (s.ctxOf n).st == .load && (s.ctxOf n).kind.ofGran && granOf line == (s.ctxOf n).gran && !s.noDram line then
      (if lost then t.ctxUe n line else t).ctxRead n
    else s.ctxRead n
  | .scrub =>
    if s.mode == .run && s.scrubOut (s.chanOf (granOf line)) line then
      (if s.noDram line then t else (if lost then t.scrubUe line else t).afterRead line newer out).scrubMove (s.chanOf (granOf line))
    else s
  | .mapLine => if s.isMapLine line then (if lost then t.mapUe line else t) else s
  | .mirrorLine => if s.isMirrorLine line then (if lost then t.mirrorRewrite line else t) else s
  | .staging => if s.isStagingLine line && s.phase == .p3 then (if lost then t.stagingUe line else t) else s
  | .poisonLine => if s.isPoisonLine line then (if lost then t.bitmapUe line else t) else s
  | .resync =>
    if s.isActive && s.mode == .run && (mfind (granOf line) s.twin.rsyMask).isSome && !s.noDram line then
      (if lost then t.poisonRun line else t)
    else s

/-- The time at which a read's data reaches its requester: never before the hold on it is over (R181); `none` where `atNs` falls short of that. -/
def State.readDue (s : State) (r : Option RdOut) (atNs : Option Nat) : Option Nat :=
  let due := match r with | some x => x.issuedAt + s.readHold | none => 0
  let t := atNs.getD due
  if t < due then none else some t

/-- A read returns: the decoder corrects it or not, and its requester takes it. -/
def State.readBack (s : State) (req : DramReq) (line : Nat) (err : DramErr) (atNs : Option Nat) : State :=
  if !(s.lampUp || s.draining) || s.lineFailed line || s.lineReplays line then s
  else
    let r := s.dram.rdOut.find? (isRd line req)
    match s.readDue r atNs with
    | none => s
    | some t =>
      let s0 : State := { s with dram := { s.dram with rdOut := takeRd (isRd line req) s.dram.rdOut, now := max s.dram.now t } }
      let d := s0.decodeRead line err
      s0.delivered d.1 req line (match r with | some x => x.newer | none => false) d.2

/-- DRAM_READ_DONE: a read returns to its requester, at `atNs` or, without it, as soon as the hold of R181 lets it. -/
def execDramReadDone (req : DramReq) (line : Nat) (err : DramErr) (s : State) (atNs : Option Nat := none) : Host.Outcome State Fault Refusal :=
  .next (s.readBack req line err atNs)

/-! ### The patrol scrubber (R188) -/

/-- The scrubber asks for the next line of a channel as class 3 traffic: every line is read (R188). -/
def State.scrubAsk (s : State) (ch : Nat) : State :=
  let t : State := { s with dram := { s.dram with scrubAsked := sadd ch s.dram.scrubAsked } }
  t.ask ⟨mget (256 * ch) s.dram.scrub ch, false, 3, 1, 0⟩

/-- PATROL_SCRUB: the scrubber's turn on a channel comes, or, with `back`, the read it asked for returns with those symbols in error. -/
def execPatrolScrub (ch : Nat) (back : Option DramErr) (s : State) : Host.Outcome State Fault Refusal :=
  .next (match back with
    | none =>
      if s.mode == .run && s.lampUp && s.chRuns ch && s.getF Reg.DC_ECCCFG_SCRUB_H != 0 && !s.dram.scrubAsked.contains ch then s.scrubAsk ch
      else s
    | some err => if s.dram.scrubAsked.contains ch then s.readBack .scrub (mget (256 * ch) s.dram.scrub ch) err none else s)

/-! ### Self-refresh (R189, R190) -/

/-- Nothing waits for a channel. -/
def State.chIdle (s : State) (ch : Nat) : Bool :=
  [2 * ch, 2 * ch + 1].all (fun k => (s.subCh k).queue.isEmpty && (s.subCh k).waiting.isEmpty)
    && decide (s.wbUsed ch = 0)
    && !s.bur.ctx.any (fun c => c.2.st == .load && c.2.kind.ofGran && s.chanOf c.2.gran == ch && s.ctxReading c.1)

/-- SELF_REFRESH_ENTRY. -/
def execSelfRefreshEntry (ch : Nat) (s : State) : Host.Outcome State Fault Refusal :=
  .next (if s.mode == .run && s.lampUp && s.chRuns ch && s.getF (chState ch) == 2 && s.getB Reg.DC_CFG_SR_IDLE_EN && s.chIdle ch then s.setF (chState ch) 3 else s)

/-- SELF_REFRESH_EXIT: a request for the channel has arrived. -/
def execSelfRefreshExit (ch : Nat) (s : State) : Host.Outcome State Fault Refusal :=
  .next (if s.lampUp && decide (ch < s.channels) && s.getF (chState ch) == 3 && !s.getB Reg.DC_STATUS_HOLD then s.setF (chState ch) 2 else s)

end Sys2Proof.Machine
end

