-- ==== Sys2Proof/Machine/NandOps.lean ====
section
/-! DEFINITION. The NAND back end in RUN (07): erase-ahead, relocation, the patrol, META blocks, plans and checkpoints. -/

namespace Sys2Proof.Machine

/-! ### Erase-ahead (R248) -/

/-- A block has been erased: it is FREE, and its pages join P_erased, after the fence too (Table 7-9). -/
def State.erased (s : State) (b : Nat) : State :=
  let x := s.blkOf b
  { s with nand := { s.nand with
    blocks := mset b { x with st := .free, erases := x.erases + 1, next := 0, metaUse := false } s.nand.blocks
    pages := s.nand.pages.filter (fun p => locBlock p.1 != b)
    eraseQ := sdel b s.nand.eraseQ
    erasing := sdel b s.nand.erasing
    pErased := s.nand.pErased + s.ppb
    metaErased := if x.st = .metaBlk then s.nand.metaErased - (s.ppb - x.next) else s.nand.metaErased } }

/-! ### Relocation and the patrol (R249, R254) -/

/-- Mapped pages of a block, with their granules. -/
def State.mappedIn (s : State) (b : Nat) : List (Nat × Nat) := s.nand.map.filter (fun x => isPage x.2 && locBlock x.2 == b)

/-- Blocks that erase-ahead still needs. -/
def State.eaNeed (s : State) : Nat := if s.ppb = 0 then 0 else (s.eaTarget - s.nand.pErased + s.ppb - 1) / s.ppb

/-- Live pages of a block. -/
def State.liveCount (s : State) (b : Nat) : Nat := (s.nand.pages.filter (fun p => locBlock p.1 == b && s.livePage p.1)).length

/-- FULL blocks with a live page, mapped or not. -/
def State.fullBlocks (s : State) : List (Nat × Blk) :=
  s.nand.blocks.filter (fun b => b.2.st == .full && s.lunUp (blockLun b.1) && s.liveCount b.1 != 0)

/-- The FULL block with the fewest live pages, ties to the lower erase count. -/
def State.sparsest (s : State) : Option Nat :=
  (s.fullBlocks.foldl (fun (best : Option (Nat × Nat × Nat)) b =>
    let n := s.liveCount b.1
    match best with
    | none => some (b.1, n, b.2.erases)
    | some x => if n < x.2.1 ∨ (n = x.2.1 ∧ b.2.erases < x.2.2) then some (b.1, n, b.2.erases) else some x) none).map (·.1)

/-- WL_DELTA × 100 in force. -/
def State.wlGap (s : State) : Nat := 100 * max 1 (s.getF Reg.NB_POLICY_WL_DELTA)

/-- A FULL block with mapped pages whose erase count lies more than the gap below the mean of good copy blocks; of several the first listed (DESIGN
CHOICE, log entry 92). -/
def State.worn (s : State) : Option Nat :=
  (s.fullBlocks.find? (fun b => !(s.mappedIn b.1).isEmpty && decide ((b.2.erases + s.wlGap) * s.goodCopyBlocks < s.eraseSum))).map (·.1)

/-- The block to relocate: for lack of erasable blocks, or for wear. -/
def State.relocPick (s : State) : Option Nat :=
  if (s.nand.blocks.filter (fun b => s.erasable b.1)).length < s.eaNeed then s.sparsest else s.worn

/-- The oldest waiting relocation takes a context; one whose page is no longer mapped is dropped. A page that its read, `rd`, finds unreadable is
copied again from DRAM instead, as the patrol has it (R254; DESIGN CHOICE, log entry 100). -/
def State.relocNext (s : State) (rd : NandRead) : State :=
  match s.nand.relocQ with
  | [] => s
  | (g, src) :: t =>
    let u : State := { s with nand := { s.nand with relocQ := t } }
    if s.mapOf g != src then u
    else if pageClass rd != .lines [] then ({ u with nand := { u.nand with refreshQ := sadd g u.nand.refreshQ } } : State).armRefresh
    else (u.armReloc g src (s.pageVer src)).getD s

/-- RELOCATE: a block's mapped pages are listed when none waits, and the next one is read, `rd`, and copied (R249, R236). -/
def execRelocate (s : State) (rd : NandRead := NandRead.clean) : Host.Outcome State Fault Refusal :=
  .next (if s.mode == .run && s.lampUp && !s.bur.fenced then
    let t : State := if s.nand.relocQ.isEmpty then
        (match s.relocPick with
          | some b => { s with nand := { s.nand with relocQ := s.mappedIn b } }
          | none => s)
      else s
    if t.nand.relocQ.isEmpty then t else (t.eccCount rd).relocNext rd
    else s)

/-- NAND_PATROL: a mapped page is read; it is relocated after stage 2 or 3, and copied again from DRAM when a line of it cannot be read. -/
def execNandPatrol (g : Nat) (rd : NandRead) (s : State) : Host.Outcome State Fault Refusal :=
  .next (if s.mode == .run && s.lampUp && !s.bur.fenced && s.getF Reg.NB_POLICY_PATROL_D != 0 && isPage (s.mapOf g) && s.lunUp (locLun (s.mapOf g)) then
    let t := s.eccCount rd
    if pageClass rd != .lines [] then
      (({ t with nand := { t.nand with refreshQ := sadd g t.nand.refreshQ } } : State).raise .lamp 0x19 .warning g).armRefresh
    else if 2 ≤ s.readStage rd ∧ ¬ t.nand.relocQ.contains (g, s.mapOf g) then
      { t with nand := { t.nand with relocQ := t.nand.relocQ ++ [(g, s.mapOf g)] } }
    else t
    else s)

/-! ### Erases that end (R248, R265) -/

/-- What waits for pages goes on. -/
def State.pagesCame (s : State) : State :=
  if s.mode = .run ∧ ¬ s.bur.fenced then ((s.keepMeta.reserveBack.eaCheck).wtTry).armRefresh else s.reserveBack

/-- An erase that failed leaves its block BAD (R248). -/
def State.eraseFailed (s : State) (b : Nat) : State :=
  ({ s with nand := { s.nand with
    blocks := mset b { s.blkOf b with st := .bad } s.nand.blocks
    eraseQ := sdel b s.nand.eraseQ
    erasing := sdel b s.nand.erasing } } : State).recount.eaCheck

/-- ERASE_DONE: the status of an erase that runs; one confirmed before a fence runs on (R202, Table 7-9). -/
def execEraseDone (block : Nat) (pass : Bool) (s : State) : Host.Outcome State Fault Refusal :=
  .next (if s.nand.erasing.contains block && s.lunUp (blockLun block) then
    (if pass then (s.erased block).pagesCame else s.eraseFailed block).alertScan s.crossed
    else s)

/-- ERASE_TIMEOUT: not ready within 4 × TBERS_MS; the LUN is failed. -/
def execEraseTimeout (block : Nat) (s : State) : Host.Outcome State Fault Refusal :=
  .next (if s.nand.erasing.contains block && s.lunUp (blockLun block) then
    let l := blockLun block
    let t := s.failLun l
    ({ t with nand := { t.nand with
      eraseQ := t.nand.eraseQ.filter (fun b => blockLun b != l)
      erasing := t.nand.erasing.filter (fun b => blockLun b != l) } } : State).alertScan s.crossed
    else s)

/-! ### Roots (R257, R258) -/

/-- The meta pages of a checkpoint land in one piece (at the end of a restore), the n-th of them after as many failed programs as `fails` lists n;
`none` when a page finds no place. -/
def State.landMeta (fails : List Nat) : List (Nat × Nat) → Nat → Ckpt → State → Option (State × Ckpt)
  | [], _, k, s => some (s, k)
  | (kind, i) :: rest, no, k, s =>
    (s.manPick (fails.count no)).bind (fun x =>
      let c : Ctx := { Ctx.idle with kind := .metaPage, gran := i, src := kind, page := x.2 }
      let t : State := { x.1 with nand := { x.1.nand with ckpt := some k } }
      let u := (t.putPage x.2 (t.copyPage c)).lunFine (locLun x.2)
      State.landMeta fails rest (no + 1) (k.landed kind i x.2) { u with nand := { u.nand with ckpt := none } })

/-- The root is committed: the ceiling and the plan are in force, but for plan blocks opened since; superseded burrow pages leave the live set, and
retiring blocks without a live page become BAD (R244, R247, R258). -/
def State.rootCommits (s : State) (loc : Nat) (r : RootPage) : State :=
  let t := (s.jNow (.mapRootPtr loc r.rootSeq r.ceil r.manVer)).setF Reg.NB_ROOTPTR_LOC loc
  let u : State := { t with nand := { t.nand with
    ceil := r.ceil, plan := r.plan.filter (fun b => (t.blkOf b).st == .free || t.erasable b), live := [], superseded := [] } }
  u.retireBad.eaCheck

/-- In EOL a root is committed only near the ceiling; while the journal cannot be used, none is (R464, R465). -/
def State.mayCommitRoot (s : State) (restoring : Bool) : Bool :=
  s.keep.up && !s.jDead && (decide (s.keep.state < 3) || restoring || decide (s.nand.ceil < s.nand.epoch + 2 ^ 27))

/-- The checkpoint's root has landed: it is committed, or, where it may not be, the segments it took stay changed (R258, R464). -/
def State.ckptRoot (s : State) (k : Ckpt) (restoring : Bool) : State :=
  match k.root.bind (fun loc => (mfind loc s.nand.pages).bind (fun p => p.root.map (fun r => (loc, r)))) with
  | some (loc, r) =>
    let t := ({ s with nand := { s.nand with ckpt := none } } : State).setF Reg.NB_STATUS_CKPT_BUSY 0
    if s.mayCommitRoot restoring then t.rootCommits loc r
    else ({ t with nand := { t.nand with ckpt := some k } } : State).ckptDrop
  | none => s

/-- The meta pages of a checkpoint of some segments. -/
def State.ckptPages (s : State) (segs : List Nat) : List (Nat × Nat) := segs.map (fun k => (0x11, k)) ++ (List.range s.btPages).map (fun k => (0x12, k))

/-- The segments of a checkpoint: those changed, and every one where no committed root lists them yet (Table 7-6). -/
def State.ckptSegs (s : State) : List Nat := if s.rootLists.1.isEmpty then List.range s.segs else s.nand.changed.map (·.1)

/-- A checkpoint before its first page. -/
def State.ckptNew (s : State) (todo : List (Nat × Nat)) : Ckpt := { s.ckptNone with todo := todo, took := s.nand.changed }

/-- NB_ fields written come into force at a checkpoint, but for the interface and the population, which a WAKE takes (R266). -/
def State.nbForce (s : State) : State :=
  s.comeInto (fun k => keyBlock k == 7 && !(decide (0x7004 ≤ keyOff k) && decide (keyOff k ≤ 0x7010) && keyOff k != 0x700C))

/-- The full checkpoint at the end of a restore; with too few erased META pages every segment stays changed, and RUN writes it (R257, R259). -/
def State.fullCheckpoint (s0 : State) (fails : List Nat) : State :=
  let s := s0.nbForce
  let todo := s.ckptPages (List.range s.segs) ++ [(0x13, s.lastRootSeq + 1)]
  match (if s.fMeta + s.ckptFull < s.nand.metaErased then State.landMeta fails todo 0 { s.ckptNew [] with took := (List.range s.segs).map (fun k => (k, 0)) } s
    else none) with
  | some (t, k) => ({ t with nand := { t.nand with changed := [] } } : State).ckptRoot k true
  | none => { s with nand := { s.nand with changed := (List.range s.segs).map (fun k => (k, 0)) } }

/-! ### Checkpoints in RUN (R257, R258) -/

/-- CHECKPOINT_START: META blocks are opened as needed, and the checkpoint starts while enough erased META pages are left (R259). -/
def execCheckpointStart (s : State) : Host.Outcome State Fault Refusal :=
  .next (if s.mode == .run && s.lampUp && !s.bur.fenced && s.nand.ckpt.isNone && s.ckptDue then
    let t := s.openMeta (s.fMeta + s.ckptFull) 64
    if s.fMeta + s.ckptFull < t.nand.metaErased then
      let t := t.nbForce
      ({ t.setF Reg.NB_STATUS_CKPT_BUSY 1 with nand := { t.nand with ckpt := some (t.ckptNew (t.ckptPages t.ckptSegs)), changed := [] } } : State).metaWave
    else t
    else s)

/-- Every page of the checkpoint has landed, its root last. -/
def Ckpt.ready (k : Ckpt) : Bool := k.todo.isEmpty && k.root.isSome

/-- CHECKPOINT_COMMIT: the root has landed, after every page it lists, and MAP_ROOT_PTR is journalled (R257, R258). -/
def execCheckpointCommit (s : State) : Host.Outcome State Fault Refusal :=
  .next (match s.nand.ckpt with
    | some k => if s.mode == .run && !s.bur.fenced && k.ready then ((((s.ckptRoot k false).keepMeta).wtTry).armRefresh).alertScan s.crossed else s
    | none => s)

end Sys2Proof.Machine
end

