-- ==== Sys2Proof/Machine/Wake.lean ====
section
/-! DEFINITION. WAKE (16): the daymark copies, the fit check, binding, the REGS entries, the loads from the journal, DRAM training and
the NAND scan. -/

namespace Sys2Proof.Machine

/-! ### A copy's checks (R490 to R492, R542) -/

/-- The register at an offset holds a CL field. -/
def clFields (off : Nat) : List Fld := (Reg.fieldsAt off).filter (fun f => f.acc == .cl)

/-- The value that REGS give a field over its reset value: a later entry for the offset replaces an earlier one. -/
def regsVal (regs : List (Nat × Nat)) (f : Fld) : Nat :=
  match (regs.filter (fun x => x.1 == f.off)).getLast? with
  | some x => x.2 / 2 ^ f.lo % 2 ^ f.w
  | none => f.rst

/-- REGS name the register at an offset. -/
def regsName (regs : List (Nat × Nat)) (off : Nat) : Bool := regs.any (fun x => x.1 == off)

/-- Table 5-1 lists the density and rank pair. -/
def dramPairOk (density ranks : Nat) : Bool := [(0, 0), (0, 1), (1, 0), (2, 0)].contains (density, ranks)

/-- NB_GEOM describes a usable geometry. -/
def geomOk (blocks ppb : Nat) : Bool := decide (64 ≤ blocks) && decide (blocks ≤ 65534) && decide (64 ≤ ppb) && decide (ppb ≤ 1024)

/-- Every entry names a register with a CL field, and the population is one the device can use (R492, R542). -/
def regsOk (regs : List (Nat × Nat)) : Bool :=
  regs.all (fun x => x.1 % 4 == 0 && !(clFields x.1).isEmpty)
    && dramPairOk (regsVal regs Reg.DC_CFG_DENSITY) (regsVal regs Reg.DC_CFG_RANKS)
    && regsVal regs Reg.DC_CFG_CH_EN % 2 == 1
    && geomOk (regsVal regs Reg.NB_GEOM_BLOCKS) (regsVal regs Reg.NB_GEOM_PPB)

/-- Strictly ascending. -/
def ascending : List Nat → Bool
  | a :: b :: t => decide (a < b) && ascending (b :: t)
  | _ => true

/-- The tables are well formed: STORE_T with its 8 points, LTO_OCV when the store type asks for it (Table 16-3). -/
def tablesOk (c : DmkCopy) : Bool :=
  c.storeT.length == 8
    && (regsVal c.regs Reg.ES_CFG_STORE_TYPE == 0 || (c.ltoOcv.length == 21 && ascending c.ltoOcv))

/-- The key agrees with every programmed word of DMK_HASH (R491). -/
def hashOk (otp : List (Option Nat)) (key : List Nat) : Bool :=
  (List.range 4).all (fun i => match otp.getD i none with | some v => v == key.getD i 0 | none => true)

/-- The cause of a copy (R490); `bus` is false when the reader has no NOR supply (R352). -/
def dmkCause (otp : List (Option Nat)) (bus : Bool) : Option DmkCopy → Nat
  | none => 1
  | some c =>
    if !bus || !c.readOk then 1
    else if !c.hdrOk then 2
    else if !c.crcOk then 3
    else if !hashOk otp c.keyHash then 4
    else if !c.sigOk then 5
    else if !c.sectOk || !regsOk c.regs || !tablesOk c then 6
    else 0

/-! ### The fit check (R493 to R496) -/

/-- The comparisons of Table 16-4. -/
def fitCompare (chip req : Nat) : Bool :=
  chip / 2 ^ 24 % 256 == req / 2 ^ 24 % 256
    && decide (req / 2 ^ 16 % 16 ≤ chip / 2 ^ 16 % 16)
    && decide (req / 2 ^ 12 % 16 ≤ chip / 2 ^ 12 % 16)
    && decide (req / 2 ^ 8 % 16 ≤ chip / 2 ^ 8 % 16)
    && (chip % 256 &&& req % 256) == req % 256

/-- The register values use nothing that the chip's fit code lacks (R494); `v` gives the value of a field. -/
def usesFit (chip : Nat) (v : Fld → Nat) : Bool :=
  let cap := fun i => chip.testBit i
  let nand := min (v Reg.NB_CFG_SPEED) (if v Reg.NB_CFG_IFACE = 0 then 16 else 24)
  (cap 0 || v Reg.DC_CFG_CH_EN / 2 == 0)
    && (cap 1 || v Reg.NB_CFG_CH_EN / 16 == 0)
    && (cap 2 || v Reg.ES_ACC_MODE == 0)
    && (cap 3 || (v Reg.TW_CFG_TWIN_EN == 0 && v Reg.SQ_SPMI_COMASTER == 0))
    && decide (min 8 (v Reg.DC_CFG_SPEED) ≤ chip / 2 ^ 12 % 16)
    && decide (nand ≤ 2 * (chip / 2 ^ 16 % 16))

/-- A field of the daymark for the fit check: bits of absent channels that REGS do not set read 0. -/
def State.dmkVal (s : State) (regs : List (Nat × Nat)) (f : Fld) : Nat :=
  if s.is8430 && !regsName regs f.off && f.off == 0x4000 && f.lo == 8 then 1
  else if s.is8430 && !regsName regs f.off && f.off == 0x7004 && f.lo == 0 then 15
  else regsVal regs f

/-- The chip honours a copy's fit code. -/
def State.fitHonoured (s : State) (c : DmkCopy) : Bool := fitCompare s.otp.fit c.fitReq && usesFit s.otp.fit (s.dmkVal c.regs)

/-- The chip honours a behaviour level (R495). -/
def State.blHonoured (s : State) (bl : Nat) : Bool := decide (1 ≤ bl) && decide (bl ≤ s.otp.blMax)

/-! ### LOCKOUT at the end of step 4 (R499) -/

/-- The daymark read ends in LOCKOUT: the image is lost without a journal record and the outputs go down. -/
def State.dmkLockout (s : State) (code : Nat) : State :=
  let t := s.setFs [(Reg.DT_DMKVER_IMG_VER, 0), (Reg.DT_DMKCRC_CRC, 0), (Reg.DT_BOARD_BOARD_ID, 0), (Reg.DT_DMK_BOUND_NOW, 0),
    (Reg.DT_DMK_PREV_LOCK, b2n s.dmk.lockedLast), (Reg.DT_WAKE_STEP, 4)]
  (((({ t with dmk := { DmkSt.reset with lockedLast := true } } : State).recordLock code 0).dropDram)).goDown 1

/-! ### REGS (R492, R503) -/

/-- Every CL field takes its reset value. -/
def State.dropCl (s : State) : State :=
  { s with
    written := []
    regs := s.regs.filter (fun p => !(clFields (keyOff p.1)).any (fun f => f.key == p.1)) }

/-- One entry: only the CL fields are written. -/
def State.applyReg (s : State) (e : Nat × Nat) : State := s.setFs ((clFields e.1).map (fun f => (f, e.2 / 2 ^ f.lo)))

/-- The DC_XORn masks are sanitised, and a change recorded (R165); bit ADJ_SRC of ADJ_MASK is cleared (R177). -/
def State.sanitiseMasks (s : State) : State :=
  let t := (List.range 5).foldl (fun (a : State) k =>
    let m := a.getF (Reg.DC_XOR_MASK k)
    if a.cleanMask k m = m then a else (a.setF (Reg.DC_XOR_MASK k) (a.cleanMask k m)).raise .keeper 0x13 .warning k) s
  let src := min 16 (t.getF Reg.DC_ADJ_ADJ_SRC)
  let m := t.getF Reg.DC_ADJ_ADJ_MASK
  if m.testBit src then t.setF Reg.DC_ADJ_ADJ_MASK (m - 2 ^ src) else t

/-! ### Loads from the journal (R457, R394, R465) -/

/-- Records that can be read. -/
def State.jRecs (s : State) : List JRec := if s.jDead then [] else s.keep.recs

/-- The dirty-shutdown count and the shutdown state. -/
def JPay.dsc : JPay → Option Nat
  | .manifestPtr _ _ _ _ _ d _ _ _ _ => some d
  | .dscInc d => some d
  | _ => none
def JPay.shut : JPay → Option (Bool × Bool)
  | .manifestPtr _ _ _ _ _ _ d c _ _ => some (d, c)
  | .shutdown d => some (d, false)
  | _ => none
def JPay.dmk : JPay → Nat | .manifestPtr _ _ _ _ _ _ _ _ _ c => c | _ => 0
def JPay.manLoc : JPay → Nat | .manifestPtr l .. => l | _ => noLoc
def JPay.manVer : JPay → Nat | .manifestPtr _ v .. => v | _ => 0
def JPay.rootLoc : JPay → Nat | .mapRootPtr l .. => l | _ => noLoc
def JPay.rootCeil : JPay → Nat | .mapRootPtr _ _ c _ => c | _ => 0
def JPay.device : JPay → Nat | .devMark _ _ _ d => d | _ => 0
def isDevMark (ch sub rank : Nat) : JPay → Bool | .devMark c b r _ => c == ch && b == sub && r == rank | _ => false
def JPay.hold : JPay → Option Nat | .counters h => some h | _ => none
def isTwinState : JPay → Bool | .twinState .. => true | _ => false
def isSanStart : JPay → Bool | .sanitizeStart _ => true | _ => false
def isSanDone : JPay → Bool | .sanitizeDone _ => true | _ => false
def isDscInc : JPay → Bool | .dscInc _ => true | _ => false

/-- Journal records after the last SANITIZE_DONE (R274). -/
def State.recsNow (s : State) : List JRec :=
  match latestRec s.jRecs isSanDone with
  | some r => s.jRecs.filter (fun x => decide (r.origSeq < x.origSeq))
  | none => s.jRecs

/-- The payload of the latest record of a kind. -/
def lastPay (l : List JRec) (p : JPay → Bool) : Option JPay := (latestRec l p).map (·.pay)

/-- The device marks of a channel. -/
def State.devMarks (s : State) (ch : Nat) : Nat :=
  (List.range 4).foldl (fun n k => match lastPay s.jRecs (isDevMark ch (k / 2) (k % 2)) with
    | some p => n + (8 + p.device % 8) * 16 ^ k
    | none => n) 0

/-- The role at WAKE: the last TWIN_STATE's, at the first WAKE ROLE_INIT; solo without twin operation (R393, R394). -/
def State.loadTwin (s : State) : State :=
  if !s.hasTwin || !s.getB Reg.TW_CFG_TWIN_EN then s.setFs [(Reg.TW_STATUS_ROLE, 0), (Reg.TW_STATUS_MIRROR, 1)]
  else match lastPay s.jRecs isTwinState with
    | some (.twinState r m f e st w) =>
      { s.setFs [(Reg.TW_STATUS_ROLE, r), (Reg.TW_STATUS_MIRROR, m), (Reg.TW_STATUS_FORCED, b2n f), (Reg.TW_EPOCH_EPOCH, e),
          (Reg.TW_STALE_EPOCH, st)] with
        twin := { s.twin with fenceWsn := w } }
    | _ => s.setFs [(Reg.TW_STATUS_ROLE, 1 + s.getF Reg.TW_CFG_ROLE_INIT), (Reg.TW_STATUS_MIRROR, 1)]

/-- Twin state of one waking: lockstep, following and governing start over (R411). -/
def State.wakeTwin (s : State) : State :=
  let t := s.loadTwin.cdatRole
  { t.setFs [(Reg.TW_STATUS_FOLLOW, 0), (Reg.TW_STATUS_LS_ON, 0), (Reg.TW_STATUS_GOVERN, b2n (t.isActive)),
      (Reg.TW_STATUS_ST_FAIL, b2n (t.lockHas 8))] with
    twin := { t.twin with
      paired := false, partnerFence := false, grace := false, fenceWait := false, noAck := false, mism := 0, selfTest := false
      switching := false, rsyMask := [], rsyTodo := [], rsyPend := [], rsyDone := false, touch := [], touchOk := false, sawHello := false
      ownAbandon := false, outcome := false, heldDown := false, beat := none, inOwn := none, inPartner := none, wordPartner := none, chgCap := none } }

/-- The loads of step 6. A hold-up since the last WAKE is counted and shown (PS_KEEP); each WAKE writes COUNTERS (Table 14-9). -/
def State.loadJournal (s : State) : State :=
  let l := s.jRecs
  let dsc := if s.jDead then 0xFFFFFFFF else ((lastPay l (fun p => p.dsc.isSome)).bind (·.dsc)).getD 0
  let sh := if s.jDead then (true, false) else ((lastPay l (fun p => p.shut.isSome)).bind (·.shut)).getD (false, false)
  let man := ((lastPay s.recsNow isManPtr).map (·.manLoc)).getD noLoc
  let root := ((lastPay s.recsNow isRootPtr).map (·.rootLoc)).getD noLoc
  let held := ((lastPay l (fun p => p.hold.isSome)).bind (·.hold)).getD (s.getF Reg.PS_KEEP_HOLD_COUNT)
  let hold := min 0xFFFF (held + b2n (s.keep.hold != 0))
  ((({ s with keep := { s.keep with hold := 0 } } : State).setFs [(Reg.HL_DSC_DSC, dsc), (Reg.PS_KEEP_LAST, s.keep.hold), (Reg.HL_SHUTDOWN_DIRTY, b2n sh.1), (Reg.HL_SHUTDOWN_SELF_CLEAN, b2n sh.2),
    (Reg.DC_DEVFAIL_DEVICES 0, s.devMarks 0), (Reg.DC_DEVFAIL_DEVICES 1, if s.is8430 then 0 else s.devMarks 1),
    (Reg.PS_KEEP_HOLD_COUNT, hold),
    (Reg.NB_MANPTR_LOC, man), (Reg.NB_ROOTPTR_LOC, root)]).jput (.counters hold)).wakeTwin

/-! ### The event ring (R477) -/

/-- The 1,024 newest archive records by SEQ. -/
def newest1024 (m : List (Nat × EvRec)) : List EvRec :=
  let l := ksort (·.seq) (m.map (·.2))
  l.drop (l.length - 1024)

/-- The ring is reloaded after PD10 has been off; host consumption marks are cleared. -/
def State.ringReload (s : State) : State :=
  if !s.ev.reload then s
  else
    let l := newest1024 s.ev.arch
    { s with ev := { s.ev with
      reload := false
      ring := (List.range l.length).zip (l.map (fun e => { e with reloaded := true, consumed := false, flushed := true, opened := false }))
      ovf := []
      seq := max s.ev.seq (l.foldl (fun n e => max n (e.seq + 1)) 0) } }

/-! ### DAYMARK_READ -/

/-- The valid copy with the higher image version; copy 0 on a tie. -/
def pickCopy (v0 v1 : Option DmkCopy) : Option (Nat × DmkCopy) :=
  match v0, v1 with
  | some a, some b => if a.imgVer < b.imgVer then some (1, b) else some (0, a)
  | some a, none => some (0, a)
  | none, some b => some (1, b)
  | none, none => none

/-- Blank words of DMK_HASH are programmed from a key (R491). -/
def bindHash (otp : List (Option Nat)) (key : List Nat) : List (Option Nat) :=
  (List.range 4).map (fun i => match otp.getD i none with | some v => some v | none => some (key.getD i 0))

/-- DMK_HASH is fully programmed. -/
def State.bound (s : State) : Bool := (List.range 4).all (fun i => (s.otp.dmkHash.getD i none).isSome)

/-- A copy is put in force: binding, REGS, tables and DT_ registers (R491, R492, R508). -/
def State.dmkApply (s : State) (k : Nat) (c : DmkCopy) : State :=
  let fresh := !s.bound
  let s1 : State := { s with otp := { s.otp with dmkHash := bindHash s.otp.dmkHash c.keyHash } }
  let s2 := (c.regs.foldl (fun (a : State) e => a.applyReg e) s1.dropCl).setFs [(Reg.ID_BL_BL, c.bl), (Reg.DT_FITREQ_FIT_REQ, c.fitReq)]
  let s3 := s2.sanitiseMasks
  { s3.setFs [(Reg.LG_EG_EG_INC25, s3.getF Reg.LG_EGCFG_EG_INC25_INIT), (Reg.DT_DMK_COPY, k), (Reg.DT_DMK_BOUND, 1),
      (Reg.DT_DMK_BOUND_NOW, b2n fresh), (Reg.DT_DMK_PREV_LOCK, b2n s.dmk.lockedLast), (Reg.DT_DMK_SVC_REJ, 0),
      (Reg.DT_DMKVER_IMG_VER, c.imgVer), (Reg.DT_DMKCRC_CRC, c.crc), (Reg.DT_BOARD_BOARD_ID, c.boardId), (Reg.DT_WAKE_STEP, 5)] with
    dmk := { inForce := true, svcKey := c.svcKey, storeT := c.storeT, ltoOcv := c.ltoOcv, lockedLast := false } }

/-- Steps 3 and 4 may run: the keeper core runs in WAKE and the boot stage has ended. -/
def State.dmkReady (s : State) : Bool :=
  s.mode == .wake && s.keep.up && s.getF Reg.SQ_STATUS_SEQ != 1 && s.getF Reg.SQ_STATUS_SEQ != 4 && decide (s.getF Reg.DT_WAKE_STEP < 5)

/-- CHART_SCK, CHART_CS_N and CHART_IO are driven in steps 3 and 4 of Table 16-5 only, while DAYMARK_READ may run; otherwise they are at high
impedance (R488). -/
def State.chartDriven (s : State) : Bool := s.dmkReady

/-- DAYMARK_READ: steps 3 to 5 of Table 16-5 and the start of step 6. -/
def execDaymarkRead (copy0 copy1 : Option DmkCopy) (sfdp x4 : Bool) (s : State) : Host.Outcome State Fault Refusal :=
  .next (if s.dmkReady then
    let bus := s.rail.vioOk && s.entSt 17 == 3
    let c0 := dmkCause s.otp.dmkHash bus copy0
    let c1 := dmkCause s.otp.dmkHash bus copy1
    let s1 := s.setFs [(Reg.DT_DMK_C0_CAUSE, c0), (Reg.DT_DMK_C1_CAUSE, c1), (Reg.DT_DMK_SFDP, b2n (bus && sfdp)),
      (Reg.DT_DMK_X4, b2n (bus && sfdp && x4)), (Reg.DT_DMK_BOUND, b2n s.bound)]
    match pickCopy (if c0 = 0 then copy0 else none) (if c1 = 0 then copy1 else none) with
    | none => s1.dmkLockout 1
    | some (k, c) =>
      if !s.fitHonoured c then s1.dmkLockout 2
      else if !s.blHonoured c.bl then s1.dmkLockout 3
      else
        let s2 := s1.dmkApply k c
        let other := if k = 0 then copy1 else copy0
        let oc := dmkCause s2.otp.dmkHash bus other
        let s3 := s2.setF (if k = 0 then Reg.DT_DMK_C1_CAUSE else Reg.DT_DMK_C0_CAUSE) oc
        ((s3.ringReload.loadJournal).beginUp).probeAll
    else s)

/-! ### NAND pages as the back end reads them (R262, R263) -/

/-- A page that can be read: its LUN is in service, and no read has found it unusable (R237). -/
def State.readPage (s : State) (loc : Nat) : Option NPage :=
  if s.lunUp (locLun loc) && !s.nand.unread.contains loc then mfind loc s.nand.pages else none

/-- A readable manifest page of a version. -/
def State.manPageAt (s : State) (ver loc : Nat) : Option ManPage := (s.readPage loc).bind (fun p => if p.ver = ver then p.man else none)

/-- The pages of a manifest of a version from its closing page down through PREV_PAGE, page 0 first. -/
def State.manPagesOf (s : State) (ver : Nat) : Nat → Nat → List ManPage → List ManPage
  | 0, _, acc => acc
  | n + 1, loc, acc =>
    match s.manPageAt ver loc with
    | some m => s.manPagesOf ver n m.prevPage (m :: acc)
    | none => acc

/-- The manifest whose closing page lies at a location. -/
def State.manifest (s : State) (loc : Nat) : List ManPage :=
  match s.readPage loc with
  | some p => (match p.man with | some m => s.manPagesOf p.ver m.pages loc [] | none => [])
  | none => []

/-- A manifest is complete (R262). -/
def State.manComplete (s : State) (loc : Nat) : Bool :=
  match s.readPage loc with
  | some p =>
    (match p.man with
      | some m => m.closing && decide (0 < m.pages) && (s.manifest loc).length == m.pages
          && ((s.manifest loc).map (·.pageNo)) == List.range m.pages
      | none => false)
  | none => false

/-- A page in a META block as a scan knows one: the block's page 0 reads with KIND 0x10 to 0x13 (R263 steps 1 and 2). -/
def State.inMeta (s : State) (loc : Nat) : Bool :=
  match s.readPage (mkLoc (locBlock loc) 0) with
  | some p => decide (0x10 ≤ p.kind) && decide (p.kind ≤ 0x13)
  | none => false

/-- The complete manifest of the highest version that passes a test. -/
def State.topManifest (s : State) (ok : Nat → Bool) : Option (Nat × NPage) :=
  s.nand.pages.foldl (fun best p =>
    if s.inMeta p.1 && s.manComplete p.1 && ok p.2.ver then
      (match best with | some b => if b.2.ver < p.2.ver then some p else best | none => some p)
    else best) none

/-- The complete root of the highest ROOT_SEQ. -/
def State.topRoot (s : State) : Option (Nat × RootPage) :=
  s.nand.pages.foldl (fun best p => match p.2.root with
    | some r =>
      if s.inMeta p.1 && s.rootComplete r && (s.readPage p.1).isSome then
        (match best with | some b => if b.2.rootSeq < r.rootSeq then some (p.1, r) else best | none => some (p.1, r))
      else best
    | none => best) none

/-- A pointer names a page of the expected kind that can be read, or is null. -/
def State.ptrOk (s : State) (loc kind : Nat) : Bool :=
  loc == noLoc || (match s.readPage loc with | some p => p.kind == kind | none => false)

/-- The latest RUN_OPEN has no later MANIFEST_PTR (R274). -/
def State.runOpenJ (s : State) : Bool :=
  match latestRec s.recsNow isRunOpen with
  | some r => !s.recsNow.any (fun x => isManPtr x.pay && decide (r.origSeq < x.origSeq))
  | none => false

/-- A NAND scan runs: the journal cannot be used, a pointer's page cannot be read, or a manifest without a commit record is sought
(R221, R263). -/
def State.scanNeeded (s : State) : Bool :=
  s.jDead || !s.ptrOk (s.getF Reg.NB_MANPTR_LOC) 0x10 || !s.ptrOk (s.getF Reg.NB_ROOTPTR_LOC) 0x13 || s.runOpenJ

/-! ### DRAM_TRAINING_DONE (R163, R179, R498) -/

/-- An audit still has to give its result before step 9 (R66). -/
def State.auditWaits (s : State) : Bool := s.getB Reg.ES_STATUS_AUDIT_BUSY || (s.mode == .wake && s.storeOk && s.store.auditDue)

/-- The daymark has changed since the held image's commit record. -/
def State.dmkChanged (s : State) : Bool :=
  match lastPay s.recsNow isManPtr with
  | some p => p.dmk != s.getF Reg.DT_DMKCRC_CRC
  | none => true

/-- The training that ends: a short retrain leaves a held DRAM as it is; the full sequence, at a cold WAKE and when the daymark has changed since
the held image's commit, initialises the DRAM (R179, R498). -/
def State.trained (s : State) : State := if s.getB Reg.MD_STATUS_DRAM_HELD && !s.dmkChanged then s else s.dropDram

/-- The LUNs that the latest committed root has as failed are failed (R255). -/
def State.rootLuns (s : State) : State :=
  match (mfind (s.getF Reg.NB_ROOTPTR_LOC) s.nand.pages).bind (·.root) with
  | some r =>
    s.setFs [(Reg.NB_LUNFAIL_FAILED 0, s.getF (Reg.NB_LUNFAIL_FAILED 0) ||| lunBits r.lunFailed % 2 ^ 32),
      (Reg.NB_LUNFAIL_FAILED 1, s.getF (Reg.NB_LUNFAIL_FAILED 1) ||| lunBits r.lunFailed / 2 ^ 32)]
  | none => s

/-- DRAM_TRAINING_DONE: step 7 ends; a channel that fails training is declared failed. `reads` are the reads of the pointers' pages that were not
plain: each is counted, and an unusable page makes a NAND scan run (R236, R237, R263). -/
def execDramTrainingDone (ok0 ok1 : Bool) (s : State) (reads : List (Nat × NandRead) := []) : Host.Outcome State Fault Refusal :=
  .next (if s.mode == .wake && s.getF Reg.DT_WAKE_STEP == 6 && s.getF Reg.SQ_STATUS_SEQ != 4 && s.lampUp && s.dmk.inForce then
    let s1 := (s.trained.rootLuns).readPages reads
    let two := s1.channels = 2
    let s2 := s1.setFs [(Reg.DC_STATUS_HOLD, 0), (Reg.DC_STATUS_CH0_STATE, 2), (Reg.DC_STATUS_CH1_STATE, if two then 2 else 0),
      (Reg.NB_STATUS_SCAN, b2n s1.scanNeeded), (Reg.DT_WAKE_STEP, 7)]
    let s3 : State := { s2 with
      freeCount := s2.freeCount + 2
      dram := { s2.dram with
        trained := true
        lfsr := [(0, (Config.lfsrSeed s2.freeCount).toNat), (1, (Config.lfsrSeed (s2.freeCount + 1)).toNat)] } }
    let s4 := if ok0 then s3 else s3.failChannel 0
    let s5 := if ok1 || !two then s4 else s4.failChannel 1
    if s5.auditWaits then s5 else s5.setF Reg.DT_WAKE_STEP 9
    else s)

/-! ### NAND_SCAN_DONE (R233, R263) -/

/-- The scan's root and manifest (R263 step 3). -/
def State.scanTakes (s : State) : State :=
  s.setFs [(Reg.NB_STATUS_SCAN, 0), (Reg.NB_MANPTR_LOC, ((s.topManifest (fun _ => true)).map (·.1)).getD noLoc),
    (Reg.NB_ROOTPTR_LOC, (s.topRoot.map (·.1)).getD noLoc)]

/-- The scan was made for a pointer that the journal could not give; otherwise it only sought a manifest without its commit record (R221). -/
def State.scanForPtr (s : State) : Bool :=
  s.jDead || !s.ptrOk (s.getF Reg.NB_MANPTR_LOC) 0x10 || !s.ptrOk (s.getF Reg.NB_ROOTPTR_LOC) 0x13

/-- NAND_SCAN_DONE: LUNs that failed reset, identification or training are declared failed, both LUNs of a failed CE too (R233, R250), and the
scan's root and manifest replace the pointers (R263). A pointer whose page turns out unreadable here starts a scan, which a further command ends.
`reads` are the page reads that were not plain. -/
def execNandScanDone (failedLuns : List Nat) (s : State) (failedCes : List Nat := []) (reads : List (Nat × NandRead) := []) : Host.Outcome State Fault Refusal :=
  .next (if s.mode == .wake && decide (6 ≤ s.getF Reg.DT_WAKE_STEP) && s.lampUp && s.dmk.inForce then
    let t := ((failedLuns ++ failedCes.flatMap (fun c => [2 * c, 2 * c + 1])).foldl (fun (a : State) l => a.failLun l) s).readPages reads
    (if t.getB Reg.NB_STATUS_SCAN then (if t.scanForPtr then t.scanTakes.rootLuns else t.setF Reg.NB_STATUS_SCAN 0) else t.setB Reg.NB_STATUS_SCAN t.scanForPtr).alertScan s.crossed
    else s)

end Sys2Proof.Machine
end

