-- ==== Sys2Proof/Machine/Restore.lean ====
section
/-! DEFINITION. The restore decision and the restore (08): the facts from the journal or the NAND scan, selection, VERIFY, FULL and early
service, and the close. -/

namespace Sys2Proof.Machine

/-! ### Facts (R263, R274, R275) -/

/-- A granule copy. -/
def dataKind (k : Nat) : Bool := decide (1 ≤ k) && decide (k ≤ 3)

/-- Pages whose header can be read (R237). -/
def State.goodPages (s : State) : List (Nat × NPage) := s.nand.pages.filter (fun p => s.lunUp (locLun p.1) && !s.nand.unread.contains p.1)

/-- VERSION of the latest committed manifest; 0 when none. -/
def State.manNow (s : State) : Nat :=
  if s.jDead then (match s.readPage (s.getF Reg.NB_MANPTR_LOC) with | some p => p.ver | none => 0)
  else ((lastPay s.recsNow isManPtr).map (·.manVer)).getD 0

/-- An ABANDON record names the version. -/
def State.abandoned (s : State) (ver : Nat) : Bool := s.recsNow.any (fun r => match r.pay with | .abandon v _ => v == ver | _ => false)

/-- Open run as a NAND scan shows it (R274). -/
def State.runOpenScan (s : State) : Bool :=
  if s.getF Reg.NB_MANPTR_LOC = noLoc then s.goodPages.any (fun p => dataKind p.2.kind)
  else s.goodPages.any (fun p => (dataKind p.2.kind || p.2.kind == 0x13) && decide (s.manNow < p.2.ver))

/-- The run is open. -/
def State.openRun (s : State) : Bool := if s.jDead then s.runOpenScan else s.runOpenJ

/-- There is an image. -/
def State.imageNow (s : State) : Bool :=
  s.openRun || (if s.jDead then s.getF Reg.NB_MANPTR_LOC != noLoc
    else ((lastPay s.recsNow isManPtr).map (·.manLoc)).getD noLoc != noLoc)

/-- The DRAM holds the latest committed image. -/
def State.heldNow (s : State) : Bool :=
  !s.jDead && s.getB Reg.MD_STATUS_DRAM_HELD && s.bur.heldVer == s.manNow && !s.openRun

/-- The latest committed root. -/
def State.rootNow (s : State) : Option RootPage := (s.readPage (s.getF Reg.NB_ROOTPTR_LOC)).bind (·.root)

/-- A SANITIZE_START without a later SANITIZE_DONE (R113). -/
def State.sanPending (s : State) : Bool :=
  match latestRec s.jRecs isSanStart with
  | some a => !s.jRecs.any (fun r => isSanDone r.pay && decide (a.origSeq < r.origSeq))
  | none => false

/-! ### The image in DRAM -/

/-- No image: map, seals, poison and user data are those of a cache never written (R67, R276). -/
def State.emptyImage (s : State) : State :=
  { s with
    dram := { s.dram.noPoison with cells := [], wbuf := [] }
    cover := { s.cover with ledger := [], ledDflt := .clean, mirror := [], mirrorDflt := .clean, mirrorPend := [] }
    nand := { s.nand with map := [], mapDflt := noLoc, mapUnknown := [], sealTbl := [], tcache := [] } }

/-- The held image is given up (R275, R285). -/
def State.unhold (s : State) : State :=
  { s.setF Reg.MD_STATUS_DRAM_HELD 0 with bur := { s.bur with heldVer := 0 } }

/-- An interrupted sanitize is completed (R113). -/
def State.sanResume (s : State) : State :=
  if s.sanPending then
    let t := ((s.dataBlocks.foldl (fun (a : State) b => a.erased b) s).emptyImage).unhold
    let u : State := { t with host := { t.host with lsa := [] }, nand := { t.nand with live := [] } }
    (u.jNow (.sanitizeDone u.nand.epoch)).setFs [(Reg.NB_MANPTR_LOC, noLoc), (Reg.NB_ROOTPTR_LOC, noLoc)]
  else s

/-- A closed manifest without its commit record is committed (R221). -/
def State.deferCommit (s : State) : State :=
  if !s.jDead && s.runOpenJ then
    match s.topManifest (fun v => decide (s.manNow < v) && !s.abandoned v) with
    | some (loc, p) =>
      (match p.man with
        | some m =>
          let t := s.shutdownEnd (m.nLost != 0 || m.nNewUe != 0)
          (t.jNow (t.manRecord loc p.ver m.nLanded m.nLost m.nPoisoned true)).setF Reg.NB_MANPTR_LOC loc
        | none => s)
    | none => s
  else s

/-- An open run was counted already: a DSC_INC follows its RUN_OPEN. -/
def State.counted1 (s : State) : Bool :=
  match latestRec s.recsNow isRunOpen with
  | some r => s.recsNow.any (fun x => isDscInc x.pay && decide (r.origSeq < x.origSeq))
  | none => false

/-- An open run moves the dirty-shutdown count once and drops the DRAM (R32, R275). -/
def State.countOpen (s : State) : State :=
  if s.openRun then
    let t := if s.jDead || s.counted1 || s.getF Reg.HL_DSC_DSC == 0xFFFFFFFF then s
      else
        let n := s.getF Reg.HL_DSC_DSC + 1
        ((s.setF Reg.HL_DSC_DSC n).jNow (.dscInc (n % 2 ^ 32))).raise .keeper 0x1D .warning 2
    t.emptyImage.unhold
  else s

/-- V_bar of an open run (R275). -/
def State.barrier (s : State) : Option (Option Nat) :=
  if !s.openRun then none
  else
    let vs := (s.goodPages.filter (fun p => p.2.kind == 2 && decide (s.manNow < p.2.ver) && !s.abandoned p.2.ver)).map (·.2.ver)
    if s.jDead || vs.isEmpty then some none else some (some (vs.foldl max 0))

/-- The epoch and the ceiling resume (R239). -/
def State.resumeEpoch (s : State) : State :=
  let top := s.topRoot
  let root := latestRec s.jRecs isRootPtr
  let ceil := if s.jDead then (match top with | some r => r.2.ceil | none => 0) else ((root.map (·.pay)).map (·.rootCeil)).getD 0
  let from0 := match root with | some r => r.origSeq | none => 0
  let vers := if s.jDead then s.goodPages.map (·.2.ver)
    else s.jRecs.filterMap (fun r => if from0 < r.origSeq ∨ root.isNone then
      (match r.pay with | .manifestPtr _ v .. => some v | .abandon v _ => some v | _ => none) else none)
  { s with nand := { s.nand with ceil := ceil, epoch := vers.foldl max ceil + 1 } }

/-- The chain: closing pages of the committed manifests above the root, oldest first. -/
def State.chainOf (s : State) (above : Nat) : Nat → Nat → List Nat → List Nat
  | 0, _, acc => acc
  | n + 1, loc, acc =>
    match s.readPage loc with
    | some p => (match p.man with
      | some m => if above < p.ver then s.chainOf above n m.prevMan (loc :: acc) else acc
      | none => acc)
    | none => acc

/-! ### Selection (R277 to R281) -/

/-- Versions and entries of the chain, oldest first. -/
def State.chainEnts (s : State) : List (Nat × List MEnt) :=
  s.rst.chain.map (fun loc => (s.pageVer loc, (s.manifest loc).flatMap (·.entries)))

/-- A RANGE entry takes in a granule. -/
def MEnt.covers (e : MEnt) (g : Nat) : Bool :=
  e.ty == .range && decide (e.gran ≤ g) && decide (g ≤ e.loc) && (!e.stride || (g - e.gran) % 2 == 0)

/-- Pages whose headers the restore reads for a granule: those of the root's OPEN and PLAN blocks, and every page of a good non-META block for a
segment that could not be read (R256, R281). -/
def State.scanned (s : State) (g : Nat) : List (Nat × NPage) :=
  if s.rst.badSegs.contains (g / 4096) then
    s.goodPages.filter (fun p => dataKind p.2.kind && p.2.index == g && (s.blkOf (locBlock p.1)).st != .metaBlk
      && (s.blkOf (locBlock p.1)).st != .bad)
  else match s.rootNow with
    | some r => s.goodPages.filter (fun p => dataKind p.2.kind && p.2.index == g
        && (r.opens.contains (locBlock p.1) || r.plan.contains (locBlock p.1)))
    | none => []

/-- The root's map entry of a granule. -/
def State.rootMap (s : State) (g : Nat) : Nat :=
  if s.rst.badSegs.contains (g / 4096) then noLoc
  else match s.rootNow with | some r => mget r.mapDflt r.map g | none => noLoc

/-- The candidates of a granule, with their versions (R277). A map-image copy whose header cannot be read counts at its root's epoch, below
every later copy and above every earlier one, so that nothing older is taken for it (R280). -/
def State.copyCands (s : State) (ents : List (Nat × List MEnt)) (g : Nat) : List (Nat × Nat) :=
  let loc := s.rootMap g
  let img := if isPage loc then
      [(loc, match s.readPage loc with | some p => p.ver | none => (match s.rootNow with | some r => r.ceil - 2 ^ 28 | none => 0))]
    else []
  let void := fun (l : Nat) => ents.any (fun e => e.2.any (fun x => x.ty == .void && x.loc == l && x.gran == g))
  let scan := (s.scanned g).filter (fun p =>
    if p.2.kind = 2 then ents.any (fun e => e.1 == p.2.ver) || s.rst.vbar == some (some p.2.ver) else !void p.1)
  let named := ents.flatMap (fun e => (e.2.filter (fun x => x.gran == g && (x.ty == .landed || x.ty == .landedP))).map (fun x => (x.loc, e.1)))
  img ++ scan.map (fun p => (p.1, p.2.ver)) ++ named

/-- The better of two candidates: higher version; then the map image's; then the lower page (R278, R279). -/
def betterCopy (img : Nat) (a b : Nat × Nat) : Nat × Nat :=
  if a.2 < b.2 then b
  else if b.2 < a.2 then a
  else if a.1 = img then a
  else if b.1 = img then b
  else if b.1 < a.1 then b else a

/-- select(g) of R278. -/
def State.select (s : State) (ents : List (Nat × List MEnt)) (g : Nat) : Sel :=
  match s.rst.vbar with
  | some none => .lost
  | v =>
    let start := (s.copyCands ents g, s.rootMap g == lostLoc)
    let a : List (Nat × Nat) × Bool := ents.foldl (fun (x : List (Nat × Nat) × Bool) e =>
      if e.2.any (fun y => (y.gran == g && y.ty == .lost) || y.covers g) then (x.1.filter (fun c => decide (e.1 ≤ c.2)), true) else x) start
    let b : List (Nat × Nat) × Bool := match v with
      | some (some bar) => (a.1.filter (fun c => decide (bar ≤ c.2)), true)
      | _ => a
    match b.1 with
    | [] => if b.2 then .lost else .zero
    | c :: t => .copy (t.foldl (betterCopy (s.rootMap g)) c).1

/-- Adjacent equal elements become one. -/
def dedup : List Nat → List Nat
  | a :: b :: t => if a = b then dedup (b :: t) else a :: dedup (b :: t)
  | l => l

/-- The map entry that a selection stands for. -/
def Sel.entry : Sel → Nat
  | .zero => noLoc
  | .lost => lostLoc
  | .copy l => l

/-- Granules that the root's map, the scanned pages or the chain name. -/
def State.namedGrans (s : State) (ents : List (Nat × List MEnt)) : List Nat :=
  let a := match s.rootNow with | some r => r.map.map (·.1) | none => []
  let b := (s.goodPages.filter (fun p => dataKind p.2.kind)).map (·.2.index)
  let c := ents.flatMap (fun e => (e.2.filter (fun x => x.ty != .range)).map (·.gran))
  (dedup (ksort id (a ++ b ++ c))).filter (fun g => decide (g < s.nUser))

/-- What the restore selects where nothing names a granule. -/
def State.selDflt (s : State) : Nat :=
  if s.rst.vbar.isSome then lostLoc
  else match s.rootNow with | some r => (if r.mapDflt = lostLoc then lostLoc else noLoc) | none => noLoc

/-- The selection of every user granule, as a map with its default (R287 step 4). -/
def State.selectAll (s : State) : List (Nat × Nat) :=
  let ents := s.chainEnts
  let d := s.selDflt
  if s.rst.vbar = some none then []
  else
    let named := s.namedGrans ents
    let ranges := ents.any (fun e => e.2.any (fun x => x.ty == .range))
    let dom := if ranges && d != lostLoc then
        (List.range s.nUser).filter (fun g => named.contains g || ents.any (fun e => e.2.any (fun x => x.covers g)))
      else named
    (dom.map (fun g => (g, (s.select ents g).entry))).filter (fun x => x.2 != d)

/-! ### Granules (R280, R283, R285) -/

/-- DRAM without a granule's bytes. -/
def clearGran (m : List Host.Cell) (g : Nat) : List Host.Cell := m.filter (fun c => c.1 / 16384 != g)

/-- The bitmap without a granule's lines. -/
def State.unpoison (s : State) (g : Nat) : State :=
  { s with dram := { s.dram with
      poison := s.dram.poison.filter (fun p => p.1 / 256 != g)
      cleared := s.dram.cleared.filter (fun l => l / 256 != g)
      whole := if s.wholly g then (if s.dram.wholeDflt then sadd g s.dram.whole else sdel g s.dram.whole) else s.dram.whole } }

/-- A granule is LOST: its entry and mirror entry, its map entry, and all its lines poisoned (R289). -/
def State.setLost (s : State) (g : Nat) : State :=
  let t := (s.unpoison g).setLedger g .lost
  { t with
    dram := { t.dram with
      cells := clearGran t.dram.cells g
      whole := if t.dram.wholeDflt then sdel g t.dram.whole else sadd g t.dram.whole }
    cover := { t.cover with mirror := msetD t.cover.mirrorDflt g .lost t.cover.mirror }
    nand := { t.nand with map := msetD t.nand.mapDflt g lostLoc t.nand.map } }

/-- A granule that was never written. -/
def State.setZero (s : State) (g : Nat) : State :=
  let t := s.unpoison g
  { t with
    dram := { t.dram with cells := clearGran t.dram.cells g }
    nand := { t.nand with map := msetD t.nand.mapDflt g noLoc t.nand.map, sealTbl := mdel g t.nand.sealTbl } }

/-- A page's data is written to DRAM; its flagged and its unreadable lines are poisoned (R280, R285). -/
def State.fillGran (s : State) (g loc : Nat) (p : NPage) (bad : List Nat) : State :=
  let lp := p.lp ++ bad.filter (fun l => !p.lp.contains l)
  let t := s.unpoison g
  { t with
    dram := { t.dram with
      cells := (p.data.filter (fun c => !bad.contains (c.1 / 64))).foldl (fun m c => putByte m (16384 * g + c.1) c.2) (clearGran t.dram.cells g)
      poison := lp.foldl (fun m l => mset (256 * g + l) 2 m) t.dram.poison }
    nand := { t.nand with
      map := msetD t.nand.mapDflt g loc t.nand.map
      sealTbl := msetD zeroSeal g p.crc t.nand.sealTbl } }

/-- Another candidate of the same version that can be read (R279). -/
def State.twinCopy (s : State) (g loc : Nat) : Option (Nat × NPage) :=
  let c := s.copyCands s.chainEnts g
  match c.find? (fun x => x.1 == loc) with
  | some me => (c.find? (fun x => x.1 != loc && x.2 == me.2 && (s.readPage x.1).isSome)).bind (fun x => (s.readPage x.1).map (fun p => (x.1, p)))
  | none => none

/-- The selected copy is read, and where it is unusable the other of its version (R236, R237, R279, R280). -/
def State.fetch (s : State) (g loc : Nat) (rd rd2 : NandRead) : State :=
  let t := s.eccCount rd
  match (if pageGone rd then none else s.readPage loc) with
  | some p => t.fillGran g loc p (badLines rd)
  | none =>
    match s.twinCopy g loc with
    | some (l2, p) => if pageGone rd2 then (t.eccCount rd2).setLost g else (t.eccCount rd2).fillGran g l2 p (badLines rd2)
    | none => t.setLost g

/-! ### Into service -/

/-- Blocks left OPEN go to contexts that own none, so that their erased pages can be armed on (R246). -/
def State.adoptOpen (s : State) : State :=
  let owned := s.bur.ctx.filterMap (·.2.blk)
  let free := (s.nand.blocks.filter (fun b => b.2.st == .opened && !owned.contains b.1)).map (·.1)
  let idle := (List.range 256).filter (fun n => (s.ctxOf n).blk.isNone)
  (idle.zip free).foldl (fun (a : State) x => a.setCtx x.1 { a.ctxOf x.1 with blk := some x.2 }) s

/-- The ms from the wake event, saturating. -/
def State.runMs (s : State) : Nat := min 0xFFFF (s.ms - s.rst.wakeAt)

/-- RETIRE_BUDGET is fixed at the first WAKE, and NB_WEAR and NB_CAP show figures from here on (R16, R255, R264). -/
def State.lifeNow (s : State) : State :=
  { s with nand := { s.nand with
      budget := some (s.nand.budget.getD (s.goodCopyBlocks - s.fullCover))
      badAtFirst := if s.nand.budget.isNone then s.badCopyBlocks else s.nand.badAtFirst
      lifeOn := true
      capOn := true } }

/-- Media ready: contexts armed, books computed, credits released (R80, R198, R287); an active whose partner is dead or away is solo (R419). -/
def State.goLive (s : State) : State :=
  let t := (((s.setFs [(Reg.MD_STATUS_MEDIA_READY, 1), (Reg.DT_WAKE_RUN_MS, if s.mediaReady then s.getF Reg.DT_WAKE_RUN_MS else s.runMs)]).adoptOpen.recount).rebuildBooks.keepMeta.lifeNow).armAll.rebaseBooks
  let u := if t.creditsDue && !t.getB Reg.HL_STATUS_CREDITS_OPEN then t.openCredits else t
  (if !u.getB Reg.TW_STATUS_BELL_OK then u.soloStart 3 else if u.twin.partnerFence then u.soloStart 1 else u).pendStop

/-- The device enters RUN (Table 16-5 step 11); a pending orderly stop acts (R384). -/
def State.toRun (s : State) : State :=
  let t := if s.mode = .run then s else s.enterMode .run .none
  let u := (t.setF Reg.DT_WAKE_STEP 11).unhold.zeroStaging
  ({ u with rst := { RestoreSt.reset with decided := true, wakeAt := s.rst.wakeAt } } : State).goLive

/-- The ledger and its mirror as a map shows them: a granule is LOST where its entry says so, and CLEAN elsewhere (R289). -/
def CoverSt.ofMap (c : CoverSt) (m : List (Nat × Nat)) (d : Nat) : CoverSt :=
  let dl := d == lostLoc
  let odd := (m.filter (fun x => (x.2 == lostLoc) != dl)).map (fun x => (x.1, if dl then LState.clean else LState.lost))
  { c with
    ledDflt := if dl then .lost else .clean
    ledger := odd
    mirrorDflt := if dl then .lost else .clean
    mirror := odd }

/-- One entry of the manifest that VERIFY applies. -/
def State.applyEnt (s : State) (e : MEnt) : State :=
  match e.ty with
  | .landed | .landedP => { s with nand := { s.nand with map := msetD s.nand.mapDflt e.gran e.loc s.nand.map } }
  | .lost => s.setLost e.gran
  | _ => s

/-- A granule of a RANGE: its scanned copy of the burrow's version is mapped, or it is LOST. -/
def State.applyRange (s0 : State) (ver : Nat) (s : State) (g : Nat) : State :=
  match (s0.scanned g).find? (fun p => p.2.kind == 2 && p.2.ver == ver) with
  | some p => { s with nand := { s.nand with map := msetD s.nand.mapDflt g p.1 s.nand.map } }
  | none => s.setLost g

/-- The entries of the latest committed manifest in the held DRAM (R283 step 2). -/
def State.applyMan (s : State) : State :=
  let loc := s.getF Reg.NB_MANPTR_LOC
  let ents := (s.manifest loc).flatMap (·.entries)
  let a := ents.foldl State.applyEnt s
  let rs := ents.filter (fun e => e.ty == .range)
  if rs.isEmpty then a
  else ((List.range s.nUser).filter (fun g => rs.any (fun e => e.covers g))).foldl (s.applyRange (s.pageVer loc)) a

/-- VERIFY applies the latest committed manifest to the held DRAM (R283 step 2). A granule that was LOST before that manifest is known by its held
map entry. -/
def State.applyManifest (s : State) : State :=
  let t := s.applyMan
  { t with cover := t.cover.ofMap t.nand.map t.nand.mapDflt }

/-- Granules that VERIFY has something to check of: every other one holds zeros and the zero seal (log entry 31). -/
def State.verifyList (s : State) : List Nat :=
  let c := dedup (s.dram.cells.map (fun c => c.1 / 16384))
  let l := s.nand.map.map (·.1) ++ s.nand.sealTbl.map (·.1) ++ dedup (s.dram.poison.map (fun p => p.1 / 256)) ++ c
  (dedup (ksort id l)).filter (fun g => decide (g < s.nUser) && s.ledgerOf g != .lost && !s.chanFailed (s.chanOf g))

/-! ### RESTORE_DECISION -/

/-- The decision may be made: step 7 done, the audit's result there, no scan running; or again after a KRST in RESTORE (R292). -/
def State.mayDecide (s : State) : Bool :=
  s.keep.up && s.lampUp && s.dmk.inForce && s.dram.trained && !s.rst.decided && !s.getB Reg.NB_STATUS_SCAN && s.getF Reg.SQ_STATUS_SEQ != 4
    && ((s.mode == .wake && decide (7 ≤ s.getF Reg.DT_WAKE_STEP) && !s.auditWaits) || (s.mode == .restore && !s.mediaReady))

/-- What precedes the form: sanitize, deferred commit, open run, epoch, chain, plan and live pages. -/
def State.prepare (s : State) : State :=
  let a := s.sanResume.deferCommit
  let b := (a.countOpen).resumeEpoch
  let above := match b.rootNow with | some r => r.manVer | none => 0
  let chain := b.chainOf above (b.nand.pages.length + 1) (b.getF Reg.NB_MANPTR_LOC) []
  let vers := chain.map b.pageVer
  { (b.setF Reg.DT_WAKE_STEP 10) with
    rst := { b.rst with decided := true, vbar := a.barrier, chain := chain, sel := [], todo := [], pend := [], refetched := 0, badSegs := [] }
    nand := { b.nand with
      plan := match b.rootNow with | some r => r.plan | none => []
      budget := b.rootNow.elim b.nand.budget (fun r => some r.retireBudget)
      live := (b.nand.pages.filter (fun p => (p.2.kind == 2 || p.2.kind == 0x10) && vers.contains p.2.ver)).map (·.1) } }

/-- An early service after media ready that a KRST has stopped waits for its decision (R292, log entry 41). -/
def State.mayResume (s : State) : Bool :=
  s.keep.up && s.lampUp && (s.mode == .restore || s.mode == .run) && s.mediaReady && s.rst.loaded && !s.rst.decided && s.getF Reg.SQ_STATUS_SEQ != 4

/-- RESTORE_DECISION; made again after media ready, it finds the image that this restore brings back and goes on with the granules pending. -/
def execRestoreDecision (s : State) : Host.Outcome State Fault Refusal :=
  .next (if s.mayDecide then
    let a := s.sanResume.deferCommit
    let t := s.prepare
    if !a.imageNow then
      let u := (t.emptyImage.unhold).setFs [(Reg.MD_STATUS_RSTR_FORM, 0), (Reg.NB_MANPTR_LOC, noLoc)]
      ((u.jNow (.manifestPtr noLoc u.nand.epoch 0 0 0 (u.getF Reg.HL_DSC_DSC) (u.getB Reg.HL_SHUTDOWN_DIRTY) (u.getB Reg.HL_SHUTDOWN_SELF_CLEAN)
        false 0)).jNow (.runOpen u.nand.epoch 0)).toRun
    else
      let m := if t.mode = .restore then t else t.enterMode .restore .none
      if a.heldNow then
        let v := (m.setF Reg.MD_STATUS_RSTR_FORM 1).applyManifest
        { v with rst := { v.rst with loaded := true, todo := v.verifyList } }
      else (m.setF Reg.MD_STATUS_RSTR_FORM (if m.getB Reg.MD_CFG_EARLY_EN then 3 else 2)).unhold
    else if s.mayResume then { s with rst := { s.rst with decided := true } } else s)

/-! ### MANIFEST_LOAD (R285, R287) -/

/-- The selection is written into the map, the ledger and the bitmap; zero and LOST granules read 0x00. -/
def State.applySel (s : State) : State :=
  let d := s.selDflt
  let m := s.selectAll
  let dl := d == lostLoc
  let t := s.emptyImage
  { t with
    dram := { t.dram with wholeDflt := dl, whole := (m.filter (fun x => (x.2 == lostLoc) != dl)).map (·.1) }
    cover := t.cover.ofMap m d
    nand := { t.nand with map := m, mapDflt := d }
    rst := { t.rst with
      loaded := true
      todo := (m.filter (fun x => isPage x.2 && !s.chanFailed (s.chanOf x.1))).map (·.1) } }

/-- MANIFEST_LOAD: steps 1 to 4 of FULL; early service then reports media ready. `badSegs` are segment pages found unusable, and `reads` the reads of
segment, manifest and header pages that were not plain (R236, R237). -/
def execManifestLoad (badSegs : List Nat) (s : State) (reads : List (Nat × NandRead) := []) : Host.Outcome State Fault Refusal :=
  .next (if s.mode == .restore && s.rst.decided && !s.rst.loaded && s.keep.up && s.lampUp && s.getF Reg.SQ_STATUS_SEQ != 4
      && (s.getF Reg.MD_STATUS_RSTR_FORM == 2 || s.getF Reg.MD_STATUS_RSTR_FORM == 3) then
    let t := (({ s with rst := { s.rst with badSegs := badSegs } } : State).readPages reads).applySel
    if t.getF Reg.MD_STATUS_RSTR_FORM = 3 then
      (({ t with rst := { t.rst with pend := t.rst.todo } } : State).jNow (.runOpen t.nand.epoch 0)).goLive
    else t
    else s)

/-! ### Fetches -/

/-- The restore works: in RESTORE, or in RUN when an abandon has returned an early service there. -/
def State.restoring (s : State) : Bool :=
  s.rst.loaded && s.rst.decided && (s.mode == .restore || s.mode == .run) && s.lampUp && !s.bur.fenced && s.getF Reg.SQ_STATUS_SEQ != 4

/-- The fetches of a granule's LUN that still run or wait. -/
def State.lunTodo (s : State) (g : Nat) (l : List Nat) : List Nat := l.filter (fun x => locLun (s.mapOf x) == locLun (s.mapOf g))

/-- A fetch that may end: its LUN's first priority fetch, or its lowest other one, which runs in ascending order and goes behind the priority
fetches but for the one that was in flight when the first of them came (R285, R288). -/
def State.fetchTurn (s : State) (g : Nat) : Bool :=
  let p := s.lunTodo g s.rst.prio
  s.rst.todo.contains g && (p.head? == some g
    || (!p.contains g && (p.isEmpty || !s.rst.ahead.contains (locLun (s.mapOf g)))
      && (s.lunTodo g s.rst.todo).all (fun x => decide (g ≤ x) || p.contains x)))

/-- A granule is done; what waited for it goes on (R288). -/
def State.granDone (s : State) (g : Nat) : State :=
  let was := s.rst.pend.contains g
  let t : State := { s with rst := { s.rst with todo := sdel g s.rst.todo, pend := sdel g s.rst.pend, prio := sdel g s.rst.prio } }
  if was then ((t.askReads.serveReads).ledgerGo) else t

/-- The LUN's background fetch in flight ends while priority fetches wait; no further one goes before them. -/
def State.wentAhead (s : State) (g : Nat) : State :=
  let l := locLun (s.mapOf g)
  let p := s.lunTodo g s.rst.prio
  let gone := if p.isEmpty ∨ p = [g] then sdel l s.rst.ahead else if p.contains g then s.rst.ahead else sadd l s.rst.ahead
  { s with rst := { s.rst with ahead := gone } }

/-- GRANULE_FETCH_DONE: `rd` is the read of the selected copy, `rd2` that of the other one of its version, if the first is unusable. -/
def execGranuleFetchDone (g : Nat) (rd : NandRead) (s : State) (rd2 : NandRead := NandRead.clean) : Host.Outcome State Fault Refusal :=
  .next (if s.restoring && s.getF Reg.MD_STATUS_RSTR_FORM != 1 && s.fetchTurn g then ((s.wentAhead g).fetch g (s.mapOf g) rd rd2).granDone g else s)

/-- A refetch (R283 step 5). -/
def State.refetch (s : State) (g : Nat) (rd rd2 : NandRead) : State :=
  let t : State := { s with rst := { s.rst with refetched := s.rst.refetched + 1 } }
  (match t.select t.chainEnts g with
    | .lost => t.setLost g
    | .zero => t.setZero g
    | .copy l => t.fetch g l rd rd2).granDone g

/-- VERIFY_GRANULE: `ueLines` are the lines found uncorrectable, `tableUe` an uncorrectable seal, map or bitmap line, `rd` the read of the
selected copy if the granule is refetched and `rd2` that of the other one of its version; `ces` are corrected lines, with the device (R103). The
4,097th refetch turns VERIFY into FULL, which drops nothing (R284). -/
def execVerifyGranule (g : Nat) (ueLines : List Nat) (tableUe : Bool) (rd : NandRead) (s : State) (rd2 : NandRead := NandRead.clean)
    (ces : List (Nat × Nat) := []) : Host.Outcome State Fault Refusal :=
  .next (if s.restoring && s.getF Reg.MD_STATUS_RSTR_FORM == 1 && decide (g < s.nUser) && s.ledgerOf g != .lost && !s.chanFailed (s.chanOf g) then
    let s := ueLines.foldl (fun (a : State) l => a.countUe (256 * g + l)) (ces.foldl (fun (a : State) c => a.corrected (256 * g + c.1) c.2) s)
    let skip := s.granPoison g ++ ueLines
    if !tableUe && dataCrc (granCells s.image g skip) == s.sealOf g then s.granDone g
    else if 4096 ≤ s.rst.refetched then
      ({ s with rst := { s.rst with loaded := false, todo := [] } } : State).setF Reg.MD_STATUS_RSTR_FORM 2
    else s.refetch g rd rd2
    else s)

/-! ### RESTORE_COMPLETE (R289, R290) -/

/-- Every seal from the granule's copy. -/
def State.sealAll (s : State) : State :=
  { s with nand := { s.nand with sealTbl := s.nand.map.filterMap (fun x =>
      match mfind x.2 s.nand.pages with
      | some p => if p.crc = zeroSeal then none else some (x.1, p.crc)
      | none => none) } }

/-- Granules of failed channels that are not LOST, which the restore counts neither as restored nor as LOST (R543). -/
def State.failedGrans (s : State) : Nat :=
  let odd := (s.cover.ledger.filter (fun x => s.chanFailed (s.chanOf x.1) && (x.2 == .lost) != (s.cover.ledDflt == .lost))).length
  if s.cover.ledDflt = .lost then odd
  else (List.range s.channels).foldl (fun n ch => if s.chanFailed ch then n + s.nUser / s.channels else n) 0 - odd

/-- LOST user granules. -/
def State.lostCount (s : State) : Nat :=
  (s.cover.ledger.filter (fun x => x.2 == .lost)).length + (if s.cover.ledDflt = .lost then s.nUser - s.cover.ledger.length else 0)

/-- Granules with a poisoned line, ascending. -/
def State.poisonedGrans (s : State) : List Nat :=
  let l := dedup (s.dram.poison.map (fun p => p.1 / 256))
  if s.dram.wholeDflt then (List.range s.nReported).filter (fun g => s.wholly g || l.contains g)
  else dedup (ksort id (l ++ s.dram.whole))

/-- One General Media Event for each granule (R102). They fall together: of more than the pending queue holds, the rest is lost to
overflow and counted (R473); no two are identical, so the tail only moves the counters. -/
def State.logPoison (s : State) : State :=
  let gs := s.poisonedGrans
  let t := (gs.take 64).foldl (fun (a : State) g => a.raise .keeper 0x2E .error (g % 2 ^ 23 + ((s.granPoison g).length - 1) * 2 ^ 23)) s
  let n := gs.length - 64
  { t with
    ev := { t.ev with
      seq := t.ev.seq + n
      ownHandle := t.ev.ownHandle + n
      srcs := if s.sharing then t.ev.srcs ++ List.replicate n false else [] }
    regs := setRegs [(Reg.EV_RAISED_RAISED, t.getF Reg.EV_RAISED_RAISED + n), (Reg.EV_LOSS_PEND_OVF, t.getF Reg.EV_LOSS_PEND_OVF + n)] t.regs }

/-- The books, the full checkpoint and the records of the close. -/
def State.closeRestore (s : State) (fails : List Nat) : State :=
  let a := (s.sealAll.adoptOpen.recount).rebuildBooks
  let b := (a.openMeta (a.fMeta + a.ckptFull) 64).lifeNow.fullCheckpoint fails
  let lost := b.lostCount
  let form := s.getF Reg.MD_STATUS_RSTR_FORM
  let c := (b.jNow (.restoreDone b.manVersion form (b.nUser - b.failedGrans - lost) lost b.poisonCount)).jNow (.runOpen b.nand.epoch 2)
  (c.raise .keeper 0x05 .info form).logPoison

/-- RESTORE_COMPLETE: every granule is verified, fetched or zeroed; `fails` lists a page of the full checkpoint, by its number, once for each program
of it that failed (R247, R257). -/
def execRestoreComplete (s : State) (fails : List Nat := []) : Host.Outcome State Fault Refusal :=
  .next (if s.restoring && s.keep.up && s.rst.todo.isEmpty && !s.bur.trig then (s.closeRestore fails).toRun else s)

end Sys2Proof.Machine
end

