-- ==== Sys2Proof/Machine/Twin.lean ====
section
/-! DEFINITION. Twin operation (13): pairing and roles, the mooring link and the bell, mirrored writes at the standby, lockstep control, the
fence exchange, switch-over, split mode and resynchronisation. -/

namespace Sys2Proof.Machine

/-! ### Partner states (R403, R419, R420, R425) -/

/-- The state of a partner whose link is down (Table 13-5). -/
def State.classify (s : State) : Nat :=
  if !s.getB Reg.TW_STATUS_BELL_OK then 3 else if s.twin.partnerFence then 1 else if s.twin.paired then 2 else 3

/-- A mirrored line that waits in a standby's ledger stage is given up; its copy is not mapped. -/
def State.dropStage (s : State) : State :=
  match s.host.stage with
  | some ⟨_, .wtBusy n⟩ =>
    let c := s.ctxOf n
    let t : State := { s with host := { s.host with stage := none } }
    (match c.st with
      | .check => (t.orphanBack c.page c.gran).rearm n
      | .prog => (t.orphanBack c.page c.gran).setCtx n { c with kind := .none }
      | _ => (t.dropCtxReads n).keepPage n)
  | _ => { s with host := { s.host with stage := none } }

/-- Mirrored lines that were not acknowledged are given up. -/
def State.dropUnacked (s : State) : State :=
  let t : State := { s with twin := { s.twin with mwait := [] } }
  if s.isStandby && s.host.stage.isSome && !s.stageAcked then t.dropStage else t

/-- A standby that has lost its active commits every line it has acknowledged, in the same cycle (R420). -/
def State.commitAcked (s : State) : State :=
  let t := s.dropUnacked
  { t.learnCommit t.twin.apl with twin := { (t.learnCommit t.twin.apl).twin with outcome := false } }

/-- The standby enters split mode: lines committed, stale-since epoch E, epoch E + 1, mirror stale, TWIN_STATE (R425). -/
def State.splitStandby (s : State) : State :=
  let t := s.commitAcked
  let e := s.getF Reg.TW_EPOCH_EPOCH
  ((t.setFs [(Reg.TW_STALE_EPOCH, if s.getF Reg.TW_STATUS_MIRROR = 0 then e else t.twStale), (Reg.TW_EPOCH_EPOCH, e + 1),
    (Reg.TW_STATUS_MIRROR, 1), (Reg.TW_STATUS_SPLIT, 1)]).raise .keeper 0x36 .critical 0).twinRec

/-- The standby's active is dead: lines committed, and this unit governs (R412, R420). -/
def State.deadActive (s : State) : State := (s.commitAcked).setFs [(Reg.TW_STATUS_GOVERN, 1), (Reg.TW_STATUS_SPLIT, 0)]

/-- This unit serves: its partner's loss acts on it (a unit that burrows, or is not up, settles with its partner later). -/
def State.twinServes (s : State) : Bool := (s.mode == .run || s.mode == .restore) && !s.bur.fenced

/-- The partner is found away (1), split (2) or dead (3): an active that serves and is not solo yet goes solo (R419, R420, R425). -/
def State.partnerIs (s : State) (p : Nat) : State :=
  let t := s.setF Reg.TW_STATUS_PARTNER p
  if !s.twinServes then t
  else if s.isActive then
    (if s.getF Reg.TW_STATUS_MIRROR = 1 then t.setF Reg.TW_STATUS_SPLIT (b2n (p == 2)) else (t.goSolo p).ledgerGo)
  else if s.isStandby ∧ s.getF Reg.TW_STATUS_PARTNER ≠ p then
    (if p = 2 then t.splitStandby else if p = 3 then t.deadActive else t.dropUnacked)
  else t

/-- A switch-over that cannot go on is cancelled: the command ends with Busy and the active serves again. -/
def State.switchCancel (s : State) : State :=
  if s.twin.switching then
    ((({ s with twin := { s.twin with switching := false } } : State).switchReply rcBusy).creditsIfDue)
  else s

/-! ### The mooring link and the bell (R396 to R402) -/

/-- MOORING_LINK_UP: training or a retrain has completed; after training the units send HELLO (R394, R396). -/
def execMooringLinkUp (lanes : Nat) (s : State) : Host.Outcome State Fault Refusal :=
  .next (if s.twinOn && s.pd 8 && (lanes == 4 || lanes == 8) && !s.twin.heldDown && s.getF Reg.TW_STATUS_LINK != 2 then
    let t := s.setFs [(Reg.TW_STATUS_LINK, 2), (Reg.TW_STATUS_LANES, lanes)]
    if s.getF Reg.TW_STATUS_LINK = 3 then t
    else ({ t.setFs [(Reg.TW_STATUS_PARTNER, 0), (Reg.TW_STATUS_SPLIT, 0)] with
      twin := { t.twin with sawHello := false, txf := [], lseqTx := 0, lseqRx := 0, beat := none, inPartner := none, wordPartner := none } } : State).frame 6
        (s.getF Reg.TW_EPOCH_EPOCH)
    else s)

/-- The link is down: lockstep and resynchronisation end, a map under resynchronisation is no longer valid, peer charge stops (R401, R425, R431). -/
def State.linkLost (s : State) : State :=
  let t := s.setFs [(Reg.TW_STATUS_LINK, 0), (Reg.TW_STATUS_LANES, 0), (Reg.TW_STATUS_LS_ON, 0), (Reg.TW_RESYNC_RUNNING, 0),
    (Reg.TW_PEER_CAP_OUT, 0), (Reg.TW_PEER_CAP_IN, 0)]
  ({ t with twin := { t.twin with
      sawHello := false, txf := [], rsyMask := [], rsyTodo := [], rsyPend := [], rsyDone := false, selfTest := false, mism := 0
      inPartner := none, wordPartner := none, chgCap := none } } : State).accEval

/-- MOORING_LINK_DOWN: counted, and the partner is classified anew; a grace that runs ends solo. -/
def execMooringLinkDown (s : State) : Host.Outcome State Fault Refusal :=
  .next (if s.linkOn then
    let t := ((s.addSat Reg.TW_LINK_DOWNS 1).linkLost).switchCancel
    ({ t with twin := { t.twin with grace := false } } : State).partnerIs s.classify
    else s)

/-- RETRAIN: a retrain is announced (R400). -/
def State.doRetrain (s : State) : State :=
  if s.getF Reg.TW_STATUS_LINK = 2 then (s.setF Reg.TW_STATUS_LINK 3).addSat Reg.TW_LINK_RETRAINS 1 else s

def execRetrain (s : State) : Host.Outcome State Fault Refusal := .next s.doRetrain

/-- NAK: the frames from the partner's next expected LSEQ on are replayed, where the replay buffer still holds them (R400). -/
def execNak (lseq : Nat) (s : State) : Host.Outcome State Fault Refusal :=
  .next (
    let n := (s.twin.lseqTx + 4096 - lseq % 4096) % 4096
    if s.linkOn && decide (n ≤ s.twin.txf.length) then s.addSat Reg.TW_LINK_REPLAYS n else s)

/-- PAIR_TIMEOUT: in RUN for 100 ms with the bell alive and no link (Table 13-5). -/
def execPairTimeout (s : State) : Host.Outcome State Fault Refusal :=
  .next (if s.twinOn && s.mode == .run && !s.linkOn && s.getB Reg.TW_STATUS_BELL_OK && !s.twin.partnerFence then s.partnerIs 2 else s)

/-- The bell is silent: with the link up a warning and nothing else, otherwise the partner is dead (R402, R403). -/
def State.bellSilent (s : State) : State :=
  if !s.hasTwin || !s.getB Reg.TW_STATUS_BELL_OK then s
  else
    let t := s.setF Reg.TW_STATUS_BELL_OK 0
    if s.linkOn then t.raise .keeper 0x1A .warning 0 else t.partnerIs 3

/-- BELL_SILENT. -/
def execBellSilent (s : State) : Host.Outcome State Fault Refusal := .next s.bellSilent

/-- BELL_ALIVE: the fourth edge; without VIO_EXT BELL_IN counts as silent (R519). -/
def execBellAlive (s : State) : Host.Outcome State Fault Refusal :=
  .next (if !s.hasTwin || s.getB Reg.TW_STATUS_BELL_OK || !s.rail.vioOk then s
    else
      let t := s.setF Reg.TW_STATUS_BELL_OK 1
      if s.linkOn then t else t.partnerIs t.classify)

/-! ### HELLO (R394, R395, Table 13-1, R427) -/

/-- What a HELLO decides: the role of this unit, whether the standby's mirror is current, and whether ROLE_TIE is raised. -/
structure Resolved where
  role : Nat
  current : Bool
  tie : Bool
deriving DecidableEq, Repr

/-- Table 13-1; roles 1 active and 2 standby, unit A first in a tie. -/
def resolveRoles (unitA : Bool) (role epoch mirror fence : Nat) (m : HelloMsg) : Resolved :=
  let win := fun (b : Bool) => if b then 1 else 2
  if role = 1 ∧ m.role = 2 then ⟨1, m.mirror == 0, false⟩
  else if role = 2 ∧ m.role = 1 then ⟨2, mirror == 0, false⟩
  else if role = 1 then
    (if epoch = m.epoch then ⟨win unitA, false, true⟩ else ⟨win (decide (m.epoch < epoch)), false, false⟩)
  else if mirror = 0 ∧ m.mirror = 0 then ⟨win unitA, true, false⟩
  else if mirror = 0 ∨ m.mirror = 0 then ⟨win (mirror == 0), false, false⟩
  else if epoch ≠ m.epoch then ⟨win (decide (m.epoch < epoch)), false, true⟩
  else if fence ≠ m.fenceWsn then ⟨win (decide (m.fenceWsn < fence)), false, true⟩
  else ⟨win unitA, false, true⟩

/-- The kind of resynchronisation (R427): 1 VERIFY-ONLY, 2 DELTA, 3 FULL. -/
def State.rsyKind (s : State) (current : Bool) (m : HelloMsg) : Nat :=
  if current && s.getF Reg.TW_EPOCH_EPOCH == m.epoch && s.twin.fenceWsn == m.fenceWsn then 1
  else if s.role != m.role && s.twStale == m.stale && m.stale != 0xFFFFFFFF then 2
  else 3

/-- User granules that are not CLEAN-and-zero. -/
def State.fullList (s : State) : List Nat :=
  let img := s.image
  let lines := (s.dram.poison.map (·.1)) ++ img.map (fun c => c.1 / 64)
  if s.cover.ledDflt = .clean ∧ s.dram.wholeDflt = false then
    (dedup (ksort id (s.cover.ledger.map (·.1) ++ lines.map granOf ++ s.dram.whole))).filter (fun g => decide (g < s.nUser))
  else (List.range s.nUser).filter (fun g => s.ledgerOf g != .clean || s.wholly g || lines.any (fun l => granOf l == g))

/-- The active starts a resynchronisation (R427). -/
def State.startResync (s : State) (kind : Nat) : State :=
  let todo := if kind = 2 then s.twin.touch else s.fullList
  { s.setFs [(Reg.TW_RESYNC_KIND, kind), (Reg.TW_RESYNC_RUNNING, 1), (Reg.TW_RESYNC_LEFT, todo.length), (Reg.TW_STATUS_MIRROR, 2)] with
    twin := { s.twin with rsyTodo := todo, rsyMask := [] } }

/-- Writes numbered on from a WSN. -/
def renumber : Nat → List Wr → List Wr
  | _, [] => []
  | b, w :: t => { w with wsn := b + 1 } :: renumber (b + 1) t

/-- A partner that has acknowledged a WSN beyond those this active has given: held writes are numbered on from there, none having been mirrored
yet (log entry 79). -/
def State.pastWsn (s : State) (cum : Nat) : State :=
  if cum ≤ s.twin.wsn then s
  else { s with
    host := { s.host with staged := renumber cum s.host.staged }
    twin := { s.twin with wsn := cum + s.host.staged.length } }

/-- The write in write-through is framed like the staged ones, under its own WSN or a new one. -/
def State.frameStage (s : State) (anew : Bool) : State :=
  match s.host.stage with
  | some ⟨_, .cwait⟩ | some ⟨_, .bufWait⟩ => s
  | some l => if anew then s.stageWsn else s.frame 1 l.w.wsn
  | none => s

/-- What HELLO settles in the unit that leaves it as the active. The burrow outcome is framed ahead of the held writes, so that it settles the lines
held since the fence and no line mirrored anew (R417). -/
def State.helloLead (s : State) (kind : Nat) (m : HelloMsg) : State :=
  let was := s.role
  let a := if was = 2 then s.commitAcked else s
  let b := a.setFs [(Reg.TW_STATUS_ROLE, 1), (Reg.TW_STATUS_GOVERN, b2n (!s.getB Reg.TW_STATUS_FOLLOW))]
  let c := if kind = 1 then b.setFs [(Reg.TW_STATUS_MIRROR, 0), (Reg.TW_RESYNC_KIND, 1), (Reg.TW_RESYNC_RUNNING, 0)] else b.startResync kind
  let d := ({ c with twin := { c.twin with
    apl := if kind = 1 then m.cum else c.twin.acc
    wsn := max c.twin.wsn c.twin.acc } } : State).pastWsn m.cum
  let e := d.frameIf s.twin.burrowed 0x0A (if s.twin.ownAbandon || s.bur.abn == .settling then 3 else 2)
  let f := ((d.host.staged.filter (fun w => kind != 1 || decide (m.cum < w.wsn))).foldl (fun (x : State) w => x.frame 1 w.wsn) e).frameStage
    (c.twin.wsn < m.cum)
  let g : State := { f with twin := { f.twin with burrowed := false, ownAbandon := false } }
  let h := g.frameIf (g.getB Reg.SQ_SPMI_COMASTER && g.getB Reg.TW_STATUS_GOVERN) 0x0A 7
  if was = 2 then (h.twinRec).creditsIfDue else h

/-- This unit leaves HELLO as the active; an abandon that waited for it ends. -/
def State.helloActive (s : State) (kind : Nat) (m : HelloMsg) : State :=
  let i := s.helloLead kind m
  if i.mode = .burrow ∧ i.bur.abn = .settling then i.abandonEnd else i

/-- This unit leaves HELLO as the standby; a former active serves no host, and its held writes go. -/
def State.helloStandby (s : State) (kind : Nat) (m : HelloMsg) : State :=
  let was := s.role
  let a := if was = 1 then ((s.closeCredits).discardHeld).dropHostReads.dropStage else s
  let b := a.setFs [(Reg.TW_STATUS_ROLE, 2), (Reg.TW_STATUS_GOVERN, 0), (Reg.TW_RESYNC_KIND, kind), (Reg.TW_RESYNC_RUNNING, b2n (kind != 1)),
    (Reg.TW_STATUS_MIRROR, if kind = 1 then 0 else 2), (Reg.TW_STALE_EPOCH, if was = 1 then 0xFFFFFFFF else s.getF Reg.TW_STALE_EPOCH)]
  let c : State := { b with twin := { b.twin with
    noAck := b.bur.fenced
    acc := if kind = 1 ∧ was = 2 then b.twin.acc else m.cum
    apl := if kind = 1 ∧ was = 2 then b.twin.apl else m.cum
    mstaged := if was = 1 || (kind != 1 && !b.twin.outcome) then [] else b.twin.mstaged
    rsyMask := [], rsyPend := [], rsyDone := false, touch := [], touchOk := false, burrowed := false } }
  if was = 1 then c.twinRec else c

/-- The two units do not pair: the link is held down. -/
def State.holdDown (s : State) : State :=
  let t := s.linkLost
  ({ t with twin := { t.twin with heldDown := true } } : State).setF Reg.TW_STATUS_PARTNER s.classify

/-- HELLO: the pairing tag is checked, written TW_ fields come into force, the roles are resolved and the resynchronisation is chosen. -/
def execHello (m : HelloMsg) (s : State) : Host.Outcome State Fault Refusal :=
  .next (if s.getF Reg.TW_STATUS_LINK ≠ 2 ∨ s.twin.sawHello then s
    else
      let s := (s.got).blockForce 12
      if !m.tagOk then ((s.holdDown).setF Reg.TW_STATUS_PAIR_FAIL 1).raise .keeper 0x2C .error 0
      else if !s.twinOn || s.isSolo || !(m.role == 1 || m.role == 2) then s.holdDown
      else
        let r := resolveRoles (!s.getB Reg.TW_CFG_UNIT) s.role (s.getF Reg.TW_EPOCH_EPOCH) (s.getF Reg.TW_STATUS_MIRROR) s.twin.fenceWsn m
        let k := s.rsyKind r.current m
        let t := ({ s with
          ev := { s.ev with seq := max s.ev.seq m.evSeq, srcs := [] }
          twin := { s.twin with learned := m.epoch, sawHello := true, partnerFence := false } } : State).setFs
            [(Reg.TW_STATUS_PAIR_FAIL, 0), (Reg.TW_STATUS_PARTNER, 0), (Reg.TW_STATUS_SPLIT, 0)]
        let u := if r.tie then t.raise .keeper 0x38 .critical 0 else t
        if r.role = 1 then u.helloActive k m else u.helloStandby k m)

/-! ### Mirrored writes (R404 to R406) -/

/-- A standby whose active's burrow outcome never came discards its held lines; its mirror is stale (R417). -/
def State.outcomeMissed (s : State) : State :=
  if s.twin.outcome then
    { s.setF Reg.TW_STATUS_MIRROR 1 with twin := { s.twin with mstaged := [], outcome := false } }
  else s

/-- The newest WSN that the standby has received. -/
def State.lastMirror (s : State) : Nat :=
  match s.twin.mwait.getLast?, s.host.stage with
  | some w, _ => w.wsn
  | none, some l => l.w.wsn
  | none, none => s.twin.apl

/-- MIRROR: the standby takes a mirrored line in WSN order; it sets the line's bit in a mask under resynchronisation (R404, R428). From a fence
on the frame is discarded (R414). -/
def execMirror (wsn line : Nat) (be : ByteEn) (data : LineData) (s : State) : Host.Outcome State Fault Refusal :=
  .next (if s.isStandby && s.twinUp && !s.twin.noAck && !s.bur.fenced && decide (s.lastMirror < wsn) && decide (line < s.nLines) then
    let t := s.got.outcomeMissed.want line
    let g := granOf line
    ({ t with twin := { t.twin with
      mwait := t.twin.mwait ++ [⟨0, line, be == beAll, be, data, 0, true, wsn⟩]
      rsyMask := match mfind g t.twin.rsyMask with
        | some x => mset g (x ||| 2 ^ (line % 256)) t.twin.rsyMask
        | none => t.twin.rsyMask
      rsyPend := t.twin.rsyPend.filter (fun p => p.1 != line) } } : State).ledgerGo
    else if s.isStandby && s.twinUp then s.got
    else s)

/-- CUMULATIVE_ACK: on the active the standby's acknowledgement, on the standby the active's commits (R41, R405). -/
def execCumulativeAck (cum : Nat) (s : State) : Host.Outcome State Fault Refusal :=
  .next (if !s.twinUp then s
    else if s.isActive then
      (if s.twin.noAck then s
      else
        let t : State := { s with twin := { s.twin with apl := max s.twin.apl (min cum s.twin.wsn) } }
        if t.twin.rsyDone then t.rsyLead else t)
    else if s.isStandby && !s.bur.fenced then ((s.outcomeMissed).learnCommit cum).ledgerGo
    else s)

/-- HEARTBEAT: this unit's own beat goes out, the partner's is taken: its epoch, its mirror state, its store (R401, R403, R429, R431). -/
def execHeartbeat (m : BeatMsg) (s : State) : Host.Outcome State Fault Refusal :=
  .next (if !s.twinUp then s
    else
      let t := s.got.frame 2 0
      let u : State := { t with twin := { t.twin with
        beat := some m
        learned := m.epoch
        paired := t.twin.paired || (s.mode == .run && m.mode == 2) } }
      let v := if (m.store = 0 ∨ m.store = 3) ∧ s.getF Reg.ES_ACC_MODE = 2 then
          (u.setF Reg.TW_PEER_CAP_OUT 0).setF Reg.ES_STATUS_ACC_ON 0 else u
      if s.isActive && m.role == 2 && m.mirror == 1 && !s.getB Reg.TW_RESYNC_RUNNING && s.getF Reg.TW_STATUS_PARTNER == 0 then
        (v.startResync 3).ledgerGo
      else v)

/-! ### Lockstep control (R407 to R413, R431) -/

/-- What the agreed input set gives of an input that is combined only where it is shared. -/
def shared {α : Type} (sh : Bool) (f : α → α → α) (own partner : α) : α := if sh then f own partner else own

/-- The PEER cap in 50 mA of the unit that feeds, toward the unit that receives, whose charger cap is `chg` in 10 mA (R431). -/
def peerCap (feed recv : InputMsg) (chg : Nat) : Nat :=
  if !recv.storeReady || !recv.storeCc || recv.zone == 4 || !feed.feedOk then 0
  else min 63 (min (min feed.accMa 3000) (recv.zoneMa - 10 * chg) / 50)

/-- The CHG cap of a unit in 10 mA: its share of the source over its stack voltage where the source is shared, and the zone current less the
peer current in mA that it receives (R409). -/
def chargeCap (sh : Bool) (limit : Nat) (u other : InputMsg) (peerMa : Nat) : Nat :=
  let zone := (u.zoneMa - peerMa) / 10
  let total := u.chgReq + other.chgReq
  let share := if total = 0 ∨ u.stackMv = 0 then 0 else limit * u.chgReq / total * 1000 / u.stackMv
  min 511 (if sh then min share zone else zone)

/-- Field [hi:lo] of a decision word. -/
def wordField (w : BitVec 64) (lo width : Nat) : Nat := w.toNat / 2 ^ lo % 2 ^ width

/-- The decision word of this unit from the agreed input set (Tables 13-6 and 13-7). -/
def State.decide64 (s : State) (own partner : InputMsg) : BitVec 64 :=
  let isA := !s.getB Reg.TW_CFG_UNIT
  let shV := s.getB Reg.TW_CFG_SH_VIN
  let shT := s.getB Reg.TW_CFG_SH_THERM
  let a := if isA then own else partner
  let b := if isA then partner else own
  let limit := min own.limit partner.limit
  let chgA := chargeCap shV limit a b (50 * wordField s.twin.wordAgreed 40 6)
  let chgB := chargeCap shV limit b a (50 * wordField s.twin.wordAgreed 34 6)
  let alive := s.getF Reg.TW_STATUS_PARTNER == 0
  let xr := (List.range 8).foldl (fun n k => n + b2n (s.entEn (24 + k) && !(own.xFault ||| partner.xFault).testBit k) * 2 ^ k) 0
  BitVec.ofNat 64 (s.mode.code + 8 * b2n (shared shT (· || ·) own.stop partner.stop)
    + 16 * (shared shT max own.level partner.level % 4)
    + 64 * b2n (own.hburrow || partner.hburrow) + 128 * b2n ((own.hburrow && own.hbOff) || (partner.hburrow && partner.hbOff))
    + 2 ^ 8 * xr + 2 ^ 16 * chgA + 2 ^ 25 * chgB
    + 2 ^ 34 * (if alive then peerCap a b chgB else 0) + 2 ^ 40 * (if alive then peerCap b a chgA else 0)
    + 2 ^ 46 * (s.ev.seq % 65536))

/-- The host burrow of a word raises the local trigger (R408). -/
def State.wordBurrow (s : State) (w : BitVec 64) : State :=
  if w.getLsbD 6 && !s.bur.trig && (s.mode == .run || (s.mode == .restore && s.mediaReady)) then
    ({ s with bur := { s.bur with offReq := s.bur.offReq || w.getLsbD 7 } } : State).trigger .host
  else s

/-- A word takes effect: thermal stop, host burrow, external rails, charger and peer caps (R408, R409). -/
def State.applyWord (s : State) (w : BitVec 64) : State :=
  let isA := !s.getB Reg.TW_CFG_UNIT
  let t := if w.getLsbD 3 then s.orderlyStop else s
  let u := t.wordBurrow w
  let v := ((List.range 8).filter (fun k => !w.getLsbD (8 + k) && s.entEn (24 + k))).foldl
    (fun (a : State) k => if a.entSt (24 + k) = 3 then a.localFault (24 + k) 1 else a) u
  let outA := wordField w 34 6
  let outB := wordField w 40 6
  let x := v.setFs [(Reg.TW_PEER_CAP_OUT, if isA then outA else outB), (Reg.TW_PEER_CAP_IN, if isA then outB else outA)]
  ({ x with twin := { x.twin with chgCap := some (if isA then wordField w 16 9 else wordField w 25 9) } } : State).accEval

/-- Decision words are compared: no follower, and both units in the same mode, WAKE, RUN or RESTORE (R410). -/
def State.comparing (s : State) : Bool :=
  !s.getB Reg.TW_STATUS_FOLLOW && (s.mode == .wake || s.mode == .run || s.mode == .restore)
    && (match s.twin.beat with | some b => b.mode == s.mode.code | none => false)

/-- The comparison of one tick; the third mismatch in a row is a compare fault: the last agreed word is held and the self-tests run. -/
def State.compareWord (s : State) (own : BitVec 64) : State :=
  match s.comparing && s.twin.inFresh && !s.twin.selfTest, s.twin.wordPartner with
  | true, some p =>
    if own = p then { s with twin := { s.twin with mism := 0, wordAgreed := own } }
    else
      let t := s.addSat Reg.TW_LS_MISMATCH 1
      if s.twin.mism < 2 then { t with twin := { t.twin with mism := s.twin.mism + 1 } }
      else ({ t with twin := { t.twin with mism := 0, selfTest := true } } : State).addSat Reg.TW_LS_FAULTS 1 |>.raise .keeper 0x35 .critical 0
  | _, _ => s

/-- The shared number of the i-th occurrence of a tick, counted from the tick's first number: the governing unit's events take numbers first,
each unit in its own order (R413). -/
def shareAt (govern : Bool) (srcs : List Bool) (i : Nat) : Nat :=
  let later := srcs.getD i false == govern
  (if later then (srcs.filter (fun x => x != govern)).length else 0)
    + ((srcs.take i).filter (fun x => x == srcs.getD i false)).length

/-- The tick's events take their shared numbers and handles, in the pending queue, the ring and the archive (R109, R413). -/
def State.shareSeq (s : State) : State :=
  let base := s.ev.seq - s.ev.srcs.length
  let f := fun q => if q < base then q else base + shareAt (s.getB Reg.TW_STATUS_GOVERN) s.ev.srcs (q - base)
  let r := fun (e : EvRec) => if e.seq < base then e else { e with seq := f e.seq, handle := f e.seq % 32767 + 1 }
  if s.sharing && s.ev.srcs.contains true then
    { s.setF Reg.EV_SEQ_SEQ (f (s.getF Reg.EV_SEQ_SEQ)) with
      ev := { s.ev with
        queue := s.ev.queue.map r
        ring := s.ev.ring.map (fun x => (x.1, r x.2))
        arch := s.ev.arch.map (fun x => (x.1, r x.2))
        srcs := [] } }
  else { s with ev := { s.ev with srcs := [] } }

/-- CONTROL_TICK: INPUT and DECISION go out, the words are compared, and the governing word takes effect. -/
def execControlTick (own : InputMsg) (s : State) : Host.Outcome State Fault Refusal :=
  .next (if !s.twinUp || s.isSolo then s
    else
      let s := s.shareSeq
      let t : State := { s.frame 3 0 with twin := { (s.frame 3 0).twin with inOwn := some own } }
      match s.twin.inPartner with
      | none => t
      | some p =>
        let w := t.decide64 own p
        let u := ((({ t with twin := { t.twin with wordOwn := w } } : State).frame 4 0).setB Reg.TW_STATUS_LS_ON s.comparing).compareWord w
        let force := if u.twin.selfTest then u.twin.wordAgreed
          else if s.getB Reg.TW_STATUS_GOVERN then w
          else s.twin.wordPartner.getD (if s.getB Reg.TW_STATUS_FOLLOW then s.twin.wordAgreed else w)
        let v : State := { u with twin := { u.twin with
          wordAgreed := if s.getB Reg.TW_STATUS_FOLLOW then force else u.twin.wordAgreed
          inFresh := false
          wordPartner := none } }
        v.applyWord force)

/-- INPUT: the partner's sampled inputs (R408). -/
def execInput (m : InputMsg) (s : State) : Host.Outcome State Fault Refusal :=
  .next (if s.twinUp then { s.got with twin := { s.got.twin with inPartner := some m, inFresh := true } } else s)

/-- DECISION: the partner's word. -/
def execDecision (word : BitVec 64) (s : State) : Host.Outcome State Fault Refusal :=
  .next (if s.twinUp then { s.got with twin := { s.got.twin with wordPartner := some word } } else s)

/-- Table 13-9: does the active keep governing, does this unit follow. -/
def testOutcome (isActive : Bool) (active standby : Bool) : Bool × Bool :=
  let keeps := active || !standby
  (keeps == isActive, if isActive then !active && standby else active)

/-- SELF_TEST_DONE: the exchanged results decide who governs, who follows, and who records LOCKOUT 0x08 (R410, R411). -/
def execSelfTestDone (own partner : Bool) (s : State) : Host.Outcome State Fault Refusal :=
  .next (if s.twin.selfTest then
    let r := testOutcome s.isActive (if s.isActive then own else partner) (if s.isActive then partner else own)
    let t := ({ s with twin := { s.twin with selfTest := false } } : State).setFs
      [(Reg.TW_LS_ST_OWN, if own then 1 else 2), (Reg.TW_LS_ST_PARTNER, if partner then 1 else 2), (Reg.TW_STATUS_GOVERN, b2n r.1),
       (Reg.TW_STATUS_FOLLOW, b2n r.2), (Reg.TW_STATUS_LS_ON, if r.2 then 0 else s.getF Reg.TW_STATUS_LS_ON)]
    if own then t else (t.setF Reg.TW_STATUS_ST_FAIL 1).recordLock 8 0
    else s)

/-! ### The fence exchange (R414 to R418) -/

/-- FENCE_FRAME: the partner has fenced; `causes` are its trigger causes, which change nothing here. -/
def execFenceFrame (cum causes : Nat) (s : State) : Host.Outcome State Fault Refusal :=
  .next (if !s.twinUp then s
    else
      let _ := causes
      let s := s.got
      let t : State := { s with twin := { s.twin with partnerFence := true } }
      if s.isActive then
        let u : State := { t with twin := { t.twin with apl := max s.twin.apl (min cum s.twin.wsn) } }
        (if s.bur.fenced then u.setF Reg.TW_HELD_FX 1 else { u with twin := { u.twin with grace := true } })
      else if s.isStandby then
        let missed := (match s.host.stage with | some l => decide (l.w.wsn ≤ cum) | none => false)
        let u := (t.switchCancel).learnCommit cum
        let v : State := { u with twin := { u.twin with fenceWsn := u.twin.acc } }
        (if s.bur.fenced then
          (if s.twin.fenceWait then
            { v.setFs [(Reg.TW_HELD_FX, 1), (Reg.TW_STATUS_MIRROR, if missed then 1 else s.getF Reg.TW_STATUS_MIRROR)] with
              twin := { v.twin with fenceWait := false } }
          else t)
        else
          let x := v.dropUnacked
          { x with twin := { x.twin with noAck := true, outcome := !x.twin.mstaged.isEmpty } })
      else s)

/-- FENCE_WAIT_EXPIRY: 1.8 µs after its fence without the active's FENCE the standby's mirror is stale (R415). -/
def execFenceWaitExpiry (s : State) : Host.Outcome State Fault Refusal :=
  .next (if s.twin.fenceWait then
    { s.setFs [(Reg.TW_HELD_FX, 2), (Reg.TW_STATUS_MIRROR, 1)] with twin := { s.twin with fenceWait := false } }
    else s)

/-- GRACE_EXPIRY: the partner burrows and this active does not: it goes on solo (R416). -/
def execGraceExpiry (s : State) : Host.Outcome State Fault Refusal :=
  .next (if s.twin.grace then
    (((({ s with twin := { s.twin with grace := false } } : State).setF Reg.TW_HELD_FX 3).goSolo 1).ledgerGo)
    else s)

/-! ### CTRL frames (R112, R120, R412, R417, R421) -/

/-- Mirrored lines that the active has discarded are discarded here too (R417, log entry 79). -/
def State.dropMirrored (s : State) : State :=
  let t := ({ s with twin := { s.twin with mwait := [] } } : State).dropStage
  { t with twin := { t.twin with mstaged := [], apl := t.twin.acc } }

/-- The burrow outcome of the active settles the held lines (R417, Table 13-11). -/
def State.settle (s : State) (completed : Bool) : State :=
  let stale := completed && s.twin.ownAbandon
  let t := if completed then s.dropMirrored else s
  { t.setF Reg.TW_STATUS_MIRROR (if stale then 1 else s.getF Reg.TW_STATUS_MIRROR) with
    twin := { t.twin with
      outcome := false
      ownAbandon := false
      partnerFence := if s.twinUp then false else s.twin.partnerFence
      noAck := s.bur.fenced } }

/-- The old active's final CUM makes the standby the active (R421). -/
def State.takeOver (s : State) (cum : Nat) : State :=
  let t := (s.dropUnacked).learnCommit cum
  let u : State := { t with twin := { t.twin with
    mstaged := [], acc := cum, apl := cum, wsn := cum, switching := false, rsyMask := [], rsyPend := [] } }
  (((u.setFs [(Reg.TW_STATUS_ROLE, 1), (Reg.TW_EPOCH_EPOCH, s.getF Reg.TW_EPOCH_EPOCH + 1), (Reg.TW_STATUS_FORCED, 0), (Reg.TW_STATUS_MIRROR, 0),
    (Reg.TW_STATUS_GOVERN, b2n (!s.getB Reg.TW_STATUS_FOLLOW))]).twinRec).creditsIfDue).switchReply 0

/-- The active begins a switch-over: no further flit, credits withheld, Not Ready; it ends when no write is left (R421). -/
def State.switchStart (s : State) : State :=
  ((({ s with twin := { s.twin with switching := true } } : State).closeCredits).ledgerGo).switchEnd

/-- The pair can change roles: both alive and in RUN, resynchronised, no burrow, and no LOCKOUT 0x08 on the unit to be made active (R424). -/
def State.maySwitch (s : State) : Bool :=
  s.mode == .run && s.mediaReady && !s.bur.trig && !s.bur.fenced && s.twinUp && s.getF Reg.TW_STATUS_PARTNER == 0 && !s.twin.partnerFence
    && s.getF Reg.TW_STATUS_MIRROR == 0 && !s.getB Reg.TW_RESYNC_RUNNING && !s.twin.switching && s.host.sanitize == 0
    && (match s.twin.beat with | some b => b.mode == 2 | none => false)
    && !(if s.isActive then s.getF Reg.TW_LS_ST_PARTNER == 2 else s.lockHas 8)

/-- CTRL: a relayed command, a switch-over step, a burrow outcome, or NEXT values. -/
def execCtrl (m : CtrlMsg) (s : State) : Host.Outcome State Fault Refusal :=
  .next (if !s.twinUp then s
    else
      let s := s.got
      match m with
      | .hostBurrow off =>
        if s.mode == .run || (s.mode == .restore && s.mediaReady) then
          ({ s with bur := { s.bur with offReq := s.bur.offReq || off } } : State).trigger .host
        else s
      | .switchRequest => if !s.isActive then s
        else if s.maySwitch && s.host.mboxBusy.isNone then s.switchStart
        else s.frame 0x0A 10
      | .switchRefused => if s.isStandby then s.switchCancel else s
      | .switchOver cum => if s.isStandby then s.takeOver cum else s
      | .outcome done => if s.isStandby then s.settle done else s
      | .nexts v => if s.getB Reg.TW_STATUS_GOVERN then s
        else s.setFs ((List.range (min 8 v.length)).map (fun k => (Reg.SQ_SLVSEQ_NEXT k, v.getD k 0)))
      | .sanitize => if s.isStandby && s.mode == .run && s.host.sanitize == 0 then s.startSanitize else s
      | .sanitizeDone =>
        if s.isActive then ({ s with host := { s.host with sanitize :=
          if s.host.sanitize = 2 then 0 else if s.host.sanitize = 1 then 4 else s.host.sanitize } } : State).creditsIfDue
        else s
      | .resyncFull => if s.isActive then (s.startResync 3).ledgerGo else s)

/-! ### Switch-over and promotion (R8, R122, R421 to R424) -/

/-- This unit is promoted: epoch, role, credits; the other's mirror is stale and the touch map starts (R422, R423, R427). -/
def State.promote (s : State) (epoch : Nat) (forced : Bool) : State :=
  let t := s.commitAcked
  let u := (t.startTouch).setFs [(Reg.TW_STATUS_ROLE, 1), (Reg.TW_EPOCH_EPOCH, epoch), (Reg.TW_STATUS_MIRROR, 1), (Reg.TW_STATUS_FORCED, b2n forced),
    (Reg.TW_STATUS_GOVERN, 1), (Reg.TW_STATUS_SPLIT, b2n (s.getF Reg.TW_STATUS_PARTNER == 2))]
  let v : State := { u with twin := { u.twin with
    acc := max u.twin.acc u.twin.apl, wsn := max u.twin.acc u.twin.apl, noAck := false, ownAbandon := false } }
  (((v.raiseIf forced .keeper 0x37 .critical epoch).twinRec).creditsIfDue)

/-- The answer of VX_TWIN_SWITCH: role, epoch and WSN after the command. -/
def State.twinReply (s : State) : State := s.mboxEnd 0xC004 rcOk (.twin s.role (s.getF Reg.TW_EPOCH_EPOCH) s.twin.acc)

/-- A switch-over that waits for the pair keeps the mailbox busy. -/
def State.switchBusy (s : State) : State := { s with host := { s.host with mboxBusy := some 0xC004 } }

/-- TWIN_SWITCH_OVER: VX_TWIN_SWITCH action 0x01. Any other ACTION but 0x02, which is FORCED_PROMOTION's, is Invalid Input (Table 3-15). -/
def execTwinSwitchOver (action : Nat) (s : State) (reserved : Nat := 0) : Host.Outcome State Fault Refusal :=
  .next (s.mboxRun 0xC004 (fun t =>
    if !t.hasTwin then t.mboxEnd 0xC004 rcUnsup .none
    else if action ≠ 1 ∨ reserved ≠ 0 then t.mboxEnd 0xC004 rcInput .none
    else if t.isStandby && t.getF Reg.TW_STATUS_PARTNER == 3 && t.getF Reg.TW_STATUS_MIRROR == 0 && t.mode == .run && !t.bur.trig
        && !t.lockHas 8 then
      (t.promote (t.getF Reg.TW_EPOCH_EPOCH + 1) false).twinReply
    else if t.isSolo || !t.maySwitch then t.mboxEnd 0xC004 rcBusy .none
    else if t.isActive then t.switchBusy.switchStart
    else (({ t.switchBusy with twin := { t.twin with switching := true } } : State)).frame 0x0A 6))

/-- FORCED_PROMOTION: VX_TWIN_SWITCH action 0x02; the first command that needs its purpose consumes the ticket (R117, R423). -/
def execForcedPromotion (reserved : Nat) (s : State) : Host.Outcome State Fault Refusal :=
  .next (s.mboxRun 0xC004 (fun t =>
    if !t.hasTwin then t.mboxEnd 0xC004 rcUnsup .none
    else if reserved ≠ 0 then t.mboxEnd 0xC004 rcInput .none
    else if !t.ticketFor 3 then t.mboxEnd 0xC004 rcSec .none
    else if t.isStandby && t.getF Reg.TW_STATUS_PARTNER != 0 && t.getF Reg.TW_STATUS_MIRROR != 0 && t.mode == .run && !t.bur.trig
        && !t.lockHas 8 then
      ((t.useTicket).promote (max (t.getF Reg.TW_EPOCH_EPOCH) t.twin.learned + 1) true).twinReply
    else t.useTicket.mboxEnd 0xC004 rcBusy .none))

/-! ### Resynchronisation (R428, R429) -/

/-- RSY_BEGIN: at most 64 granules are under way; the standby starts a line mask, the active sends the frame for a granule to copy. -/
def execRsyBegin (g : Nat) (s : State) : Host.Outcome State Fault Refusal :=
  .next (if !s.twinUp || s.mode != .run || decide (64 ≤ s.twin.rsyMask.length) || (mfind g s.twin.rsyMask).isSome then s
    else if s.isActive then
      (if s.getB Reg.TW_RESYNC_RUNNING && s.twin.rsyTodo.contains g then
        { s.frame 7 g with twin := { (s.frame 7 g).twin with rsyMask := mset g 0 s.twin.rsyMask } }
      else s)
    else if s.isStandby && decide (g < s.nUser) then
      { s.setFs [(Reg.TW_STATUS_MIRROR, 2), (Reg.TW_RESYNC_RUNNING, 1),
          (Reg.TW_RESYNC_KIND, if s.getB Reg.TW_RESYNC_RUNNING then s.getF Reg.TW_RESYNC_KIND else 3)] with
        twin := { s.got.twin with rsyMask := mset g 0 s.twin.rsyMask } }
    else s)

/-- RSY_DATA: a line that a mirror has not overtaken is written under the standby's cover check (R428). -/
def execRsyData (g ln : Nat) (data : LineData) (s : State) : Host.Outcome State Fault Refusal :=
  .next (if !s.twinUp || decide (256 ≤ ln) then s
    else match mfind g s.twin.rsyMask with
      | none => s
      | some x =>
        if s.isActive then s.frame 8 (256 * g + ln)
        else if s.isStandby && !x.testBit ln then
          ({ s.got with twin := { s.got.twin with rsyPend := s.twin.rsyPend ++ [(256 * g + ln, data)] } } : State).ledgerGo
        else if s.isStandby then s.got
        else s)

/-- RSY_END: a granule is done, or with 0xFFFFFFFF the whole resynchronisation (R428, R429). -/
def execRsyEnd (g : Nat) (s : State) : Host.Outcome State Fault Refusal :=
  .next (if !s.twinUp || !s.getB Reg.TW_RESYNC_RUNNING then s
    else if g = 0xFFFFFFFF then
      (if s.isActive then (if s.twin.rsyTodo.isEmpty then (s.frame 9 g).rsyLead else s)
      else ({ s.got with twin := { s.got.twin with rsyDone := true } } : State).ledgerGo)
    else if (mfind g s.twin.rsyMask).isNone then s
    else
      let t := if s.isActive then s.frame 9 g else s.got
      { t.setF Reg.TW_RESYNC_LEFT (if s.isActive then (sdel g s.twin.rsyTodo).length else 0) with
        twin := { t.twin with rsyMask := mdel g s.twin.rsyMask, rsyTodo := sdel g s.twin.rsyTodo } })

/-- TW_CTRL.RSY_FULL: on a standby in service mode the mirror is stale and a FULL resynchronisation is asked for; ignored otherwise. -/
def State.doRsyFull (s : State) : State :=
  if s.isStandby && s.service then
    (s.setFs [(Reg.TW_STATUS_MIRROR, 1), (Reg.TW_STALE_EPOCH, 0xFFFFFFFF), (Reg.TW_RESYNC_RUNNING, 0)]).frameIf s.twinUp 0x0A 8
  else s

/-- RSY_FULL. -/
def execRsyFull (p : Path) (s : State) : Host.Outcome State Fault Refusal :=
  .next (if s.reach p 0xC034 then (s.wrote p).doRsyFull else s)

end Sys2Proof.Machine
end

