-- ==== Sys2Proof/Machine/Pins.lean ====
section
/-! DEFINITION. VIO_EXT and the signals that are referenced to it (17: R519), as the ADC scan finds it. -/

namespace Sys2Proof.Machine

/-- BELL_OUT toggles: PD9 is powered, the mode is not OFF and VIO_EXT is present, whatever resets run (R402, R519). -/
def State.bellRuns (s : State) : Bool := s.hasTwin && s.pd 9 && s.mode != .off && s.rail.vioOk

/-- CHART_SCK, CHART_CS_N and CHART_IO are held low: VIO_EXT is below 1.5 V (R519). -/
def State.chartLow (s : State) : Bool := !s.rail.vioOk

/-- A scan reads VIO_EXT. Where it has fallen below 1.5 V PERST_N counts as low and BELL_IN as silent; where it is back PERST_N counts as the pin
shows it, and the bell waits for its edges (R402, R519). -/
def State.vioRead (s : State) (mv : Nat) : State :=
  let ok := decide (1500 ≤ mv)
  if ok = s.rail.vioOk then s
  else
    let t : State := { s with rail := { s.rail with vioOk := ok } }
    (if ok then t.perstRose else if s.pins.perstN then t.perstFell.bellSilent else t.bellSilent).repower

/-- ADC_SCAN; the DEN scan does not read VIO_EXT (Table 10-5). -/
def execAdcScan (ch : List Int) (iout : List Nat) (s : State) : Host.Outcome State Fault Refusal :=
  .next (if !s.pd 12 || s.mode == .off then s
    else if s.mode == .den then s.adcScan ch iout
    else (s.adcScan ch iout).vioRead (ch.getD 12 0).toNat)

end Sys2Proof.Machine
end

