-- ==== Sys2Proof/Machine/Window.lean ====
section
/-! DEFINITION. The register window (00, 18): reads with their captures and read-clears (R10, R13, R159), and writes under the access
codes, the alignment, the path and the block rules (R10, R12, R13, R371, R503, R504, R538 to R542). -/

namespace Sys2Proof.Machine

/-! ### Reads -/

/-- A read of a low register captures the whole value for its path (R159, R266, R433). -/
def State.capture (s : State) (p : Path) (off : Nat) : State :=
  let x := s.path p
  if off = 0x301C then s.setPath p { x with capEavail := s.cover.eAvail, capAge := s.getF Reg.LG_EAVAIL_HI_AGE_US }
  else if off = 0x3024 then s.setPath p { x with capEdebt := (s.cover.eDebt + 9) / 10 }
  else if off = 0x7034 then s.setPath p { x with capEpoch := s.nand.epoch }
  else if off = 0xC010 then s.setPath p { x with capAcc := s.twin.acc }
  else if off = 0xC018 then s.setPath p { x with capApl := s.twin.apl }
  else s

/-- What a high register returns: the bits of the path's last capture (R159). -/
def PathSt.capHigh (x : PathSt) (off : Nat) : Option Nat :=
  if off = 0x3020 then some (x.capEavail / 2 ^ 32 % 2 ^ 16 + x.capAge % 2 ^ 16 * 2 ^ 16)
  else if off = 0x3028 then some (x.capEdebt / 2 ^ 32 % 2 ^ 16)
  else if off = 0x7038 then some (x.capEpoch / 2 ^ 32 % 2 ^ 16)
  else if off = 0xC014 then some (x.capAcc / 2 ^ 32 % 2 ^ 32)
  else if off = 0xC01C then some (x.capApl / 2 ^ 32 % 2 ^ 32)
  else none

/-- The path gets an answer from the register at an aligned offset. -/
def State.answers (s : State) (p : Path) (off : Nat) : Bool := s.reach p off && s.regLive off

/-- The 32 bits that a read of the register at an aligned offset returns. -/
def State.readVal (s : State) (p : Path) (off : Nat) : Nat :=
  if s.answers p off then ((s.path p).capHigh off).getD (s.regView p off) else 0

/-- RC fields with a bit in the addressed bytes from lane `a` to before lane `b` (R13). -/
def rcHit (off a b : Nat) : List Fld :=
  (Reg.fieldsAt off).filter (fun f => f.acc == .rc && decide (f.lo < 8 * b) && decide (8 * a < f.lo + f.w))

/-- The side effects of a read of those bytes. -/
def State.readEffect (s : State) (p : Path) (off a b : Nat) : State :=
  if s.answers p off then (s.capture p off).setFs ((rcHit off a b).map (fun f => (f, 0))) else s

/-- One word of a read of `size` bytes at `off`: the i-th register that it touches. -/
def readWord (p : Path) (off size i : Nat) (acc : State × Nat) : State × Nat :=
  let w := off / 4 * 4 + 4 * i
  let lo := max off w
  let hi := min (off + size) (w + 4)
  if lo < hi then
    (acc.1.readEffect p w (lo - w) (hi - w),
      acc.2 + acc.1.readVal p w / 2 ^ (8 * (lo - w)) % 2 ^ (8 * (hi - lo)) * 2 ^ (8 * (lo - off)))
  else acc

/-- A read of 1 to 8 bytes: the registers it touches in ascending order; the addressed bytes are returned (R10, R371). -/
def State.regRead (s : State) (p : Path) (off size : Nat) : State :=
  let r := (List.range 3).foldl (fun acc i => readWord p off (min 8 size) i acc) (s, 0)
  { r.1 with host := { r.1.host with rdata := r.2 } }

/-- RC_READ. -/
def execRcRead (p : Path) (off size : Nat) (s : State) : Host.Outcome State Fault Refusal := .next (s.regRead p off size)

/-- CAPTURE_READ. -/
def execCaptureRead (p : Path) (off size : Nat) (s : State) : Host.Outcome State Fault Refusal := .next (s.regRead p off size)

/-! ### CL fields in service mode (R503, R504, R540, R542) -/

/-- A field that comes into force with its write: MD_ (02), ID_ and DT_, EV_MASK (R485) and VSET (R348). -/
def Fld.atOnce (f : Fld) : Bool :=
  [0, 1, 14, 15].contains (f.off / 4096) || (decide (0x9100 ≤ f.off) && decide (f.off < 0xA000) && f.off % 16 == 0 && f.lo == 0)

/-- A written value: in force at once, or kept until its block's moment; a VSET written while the output's fault is latched waits for its next
enable (R347). -/
def State.putCl (s : State) (f : Fld) (v : Nat) : State :=
  if isOutSet f.off ∧ f.lo = 0 then
    (if s.rail.latched.contains (outIdx f.off) then { s with written := mset f.key (v % 2 ^ f.w) s.written } else s.putVset (outIdx f.off) v)
  else if f.atOnce then s.setF f v else { s with written := mset f.key (v % 2 ^ f.w) s.written }

/-- A mask register. -/
def isMask (off : Nat) : Bool := decide (0x4008 ≤ off) && decide (off ≤ 0x4018)

/-- The value that a write of `v` gives the register: masks are sanitised (R165), bit ADJ_SRC of ADJ_MASK is cleared (R177). -/
def State.clValue (s : State) (off v : Nat) : Nat :=
  if isMask off then s.cleanMask ((off - 0x4008) / 4) v
  else if off = 0x401C then
    (let src := min 16 (v / 2 ^ 24 % 32)
     if v.testBit src then v - 2 ^ src else v)
  else v

/-- A field's value in force for the fit check: bits of absent channels read 0. -/
def State.inForce (s : State) (f : Fld) : Nat :=
  if s.is8430 && f.off == 0x4000 && f.lo == 8 then s.getF f % 2
  else if s.is8430 && f.off == 0x7004 && f.lo == 0 then s.getF f % 16
  else s.getF f

/-- The registers whose service-mode write is checked: ID_BL, DT_FITREQ (R504), DC_CFG and NB_GEOM (R542). -/
def isJudged (off : Nat) : Bool := [0x000C, 0xF010, 0x4000, 0x7008].contains off

/-- The check refuses the value. -/
def State.refusesCl (s : State) (off v : Nat) : Bool :=
  if off = 0x000C then !s.blHonoured (v % 256)
  else if off = 0xF010 then !(fitCompare s.otp.fit v && usesFit s.otp.fit s.inForce)
  else if off = 0x4000 then !(dramPairOk (v / 2 ^ 5 % 4) (v / 2 ^ 7 % 2) && v.testBit 8)
  else if off = 0x7008 then !geomOk (v / 2 ^ 16 % 2 ^ 16) (v % 2 ^ 11)
  else false

/-- The CL fields of a register take a value. -/
def State.setCl (s : State) (off v : Nat) : State :=
  let x := s.clValue off v
  let t := (clFields off).foldl (fun (a : State) f => a.putCl f (x / 2 ^ f.lo)) s
  let u := t.raiseIf (isMask off && x != v) .keeper 0x13 .warning ((off - 0x4008) / 4)
  if off = 0x100C ∧ s.getF Reg.MD_CFG_BRIDGE_MS ≠ u.getF Reg.MD_CFG_BRIDGE_MS then u.doRebaseNow else u

/-- The CL part of a write: ignored outside service mode; in service mode SVC_DIRTY stands whatever becomes of the value. -/
def State.writeCl (s : State) (off v : Nat) : State :=
  if !s.service || (clFields off).isEmpty then s
  else
    let t := s.setF Reg.DT_DMK_SVC_DIRTY 1
    if !s.regLive off then t
    else if s.refusesCl off v then t.setF Reg.DT_DMK_SVC_REJ 1
    else if isJudged off then (t.setF Reg.DT_DMK_SVC_REJ 0).setCl off v
    else t.setCl off v

/-! ### Actions and plain fields (R13, R541) -/

/-- An action that a 1-bit WO field names: only a 1 performs it. -/
def State.onBit (s : State) (v bit : Nat) (f : State → State) : State := if v.testBit bit then f s else s

/-- EF_CMD: the command codes of Table 14-4; any other code is not permitted. A READ started here meets no bit error (log entry 33). -/
def State.efCmd (s : State) (p : Path) (code : Nat) : State :=
  match code with
  | 1 => s.doRead p 0
  | 2 => s.doProgram p
  | 3 => s.doErase p
  | 4 => s.doSuspend p
  | 5 => s.doResume p
  | 6 => s.doOtpRead p
  | 7 => s.doOtpProg p
  | 8 => s.doClear p
  | _ => s.efRefuse p 2

/-- The keeper's EF_ and EV_ registers that hold data or act (14, 15). -/
def State.writeKeeper (s : State) (p : Path) (off v : Nat) : State :=
  if off = 0xD004 then s.doKey p v
  else if off = 0xD008 then s.efCmd p (v % 256)
  else if off = 0xD00C then s.updPath p (fun x => { x with efOtp := v.testBit 31, efAddr := v / 8 % 2 ^ 19 })
  else if off = 0xD010 then s.updPath p (fun x => { x with efLo := v })
  else if off = 0xD014 then s.updPath p (fun x => { x with efHi := v })
  else if off = 0xE004 then (s.onBit v 0 (fun a => a.doFreeze p)).onBit v 1 (fun a => a.doThaw p)
  else if off = 0xE008 then s.doEvClear p v
  else if off = 0xE024 then s.doRdsel p v
  else s

/-- The other registers with WO, RW or W1C fields. -/
def State.writeAct (s : State) (p : Path) (off v : Nat) : State :=
  if off = 0x1010 then (s.onBit v 0 State.latchClear).onBit v 1 (fun a => if p = .spmi then a.wakeAct 2 else a)
  else if off = 0x3058 then
    (if s.lampUp then ((s.onBit v 0 State.doCleanAll).onBit v 1 State.doRebaseNow).onBit v 2 State.doStopCleanAll else s)
  else if off = 0x8058 then (s.setF Reg.ES_ACC_ACC_EN (v / 2 ^ 29)).accEval
  else if off = 0x8060 then
    (((s.onBit v 0 State.doInfetRst).onBit v 1 State.tmrRelease).onBit v 2 State.doAuditNow).onBit v 3 State.doStoreRetry
  else if off = 0x9018 then s.doW1c Reg.PS_FLTBITS_FLT v
  else if off = 0x901C then s.doW1c Reg.PS_WRNBITS_WRN v
  else if off = 0x9024 then s.doAdcCh (v / 2 ^ 16 % 64)
  else if off = 0x9028 then (s.onBit v 0 State.doClrFirst).onBit v 1 (fun a => a.doRearm (v / 2 ^ 8 % 32))
  else if off = 0xA010 then s.onBit v 0 State.doRescan
  else if off = 0xB03C then s.onBit v 0 State.doSenRetry
  else if off = 0xC034 then (if s.hasTwin then (s.onBit v 0 State.doRetrain).onBit v 1 State.doRsyFull else s)
  else if s.keep.up && !s.getB Reg.PS_STATUS_VSYS_LOSS then s.writeKeeper p off v
  else s

/-- One atomic 32-bit write to an aligned offset (R10, R11, R371); the register of an absent unit, and an offset with no register,
ignore it (R6, R538). -/
def State.wordWrite (s : State) (p : Path) (off v : Nat) : State :=
  if !s.reach p off then s
  else if s.absentReg off then s.wrote p
  else ((s.wrote p).writeCl off v).writeAct p off v

/-- FIT_BL_WRITE: ID_BL or DT_FITREQ. -/
def execFitBlWrite (p : Path) (off : Nat) (value : Word) (s : State) : Host.Outcome State Fault Refusal :=
  .next (if off = 0x000C ∨ off = 0xF010 then s.wordWrite p off value.toNat else s)

/-- POPULATION_WRITE: DC_CFG or NB_GEOM. -/
def execPopulationWrite (p : Path) (off : Nat) (value : Word) (s : State) : Host.Outcome State Fault Refusal :=
  .next (if off = 0x4000 ∨ off = 0x7008 then s.wordWrite p off value.toNat else s)

/-- A write that is narrow or not aligned is discarded, and counted on the SPMI path (R10, R371). -/
def State.narrowWrite (s : State) (p : Path) (off : Nat) : State :=
  match p with
  | .cxl => s
  | .spmi => if s.reach .spmi off then s.addSat Reg.SQ_SPMIERR_NARROW 1 else s

/-- REGISTER_WRITE: 4 bytes, or 8 bytes as two registers in ascending order, to an aligned offset; anything else is discarded. `long`: on SPMI
the command is an Extended Register Write Long; every other form is discarded (R371). -/
def execRegisterWrite (p : Path) (off size : Nat) (value : BitVec 64) (s : State) (long : Bool := true) : Host.Outcome State Fault Refusal :=
  .next (if off % 4 ≠ 0 ∨ (p = .spmi ∧ long = false) then s.narrowWrite p off
    else if size = 4 then s.wordWrite p off (value.toNat % 2 ^ 32)
    else if size = 8 then (s.wordWrite p off (value.toNat % 2 ^ 32)).wordWrite p (off + 4) (value.toNat / 2 ^ 32)
    else s.narrowWrite p off)

end Sys2Proof.Machine
end

