-- ==== Sys2Proof/Machine/Dispatch.lean ====
section
/-! DEFINITION. One arm per command: a direct call of its meaning. -/

namespace Sys2Proof.Machine

/-- The effect of a command on everything but the queue. -/
def exec (i : Instr) (s : State) : Host.Outcome State Fault Refusal :=
  match i with
  -- host link (03, 01)
  | .memWr tag line data => Sys2Proof.Machine.execMemWr tag line data s
  | .memWrPtl tag line be data => Sys2Proof.Machine.execMemWrPtl tag line be data s
  | .cwaitPass => Sys2Proof.Machine.execCwaitPass s
  | .cwaitExpiry => Sys2Proof.Machine.execCwaitExpiry s
  | .writeThroughDone crcOk => Sys2Proof.Machine.execWriteThroughDone s crcOk
  | .ndrCommit => Sys2Proof.Machine.execNdrCommit s
  | .memRd tag line => Sys2Proof.Machine.execMemRd tag line s
  | .drsCommit tag => Sys2Proof.Machine.execDrsCommit tag s
  | .gpfPhase1 => Sys2Proof.Machine.execGpfPhase1 s
  | .gpfPhase2 => Sys2Proof.Machine.execGpfPhase2 s
  | .perstNAssert => Sys2Proof.Machine.execPerstNAssert s
  | .perstNRelease => Sys2Proof.Machine.execPerstNRelease s
  | .linkUp width speed ver => Sys2Proof.Machine.execLinkUp width speed ver s
  -- mailbox (03)
  | .identifyMemoryDevice => Sys2Proof.Machine.execIdentifyMemoryDevice s
  | .getShutdownState => Sys2Proof.Machine.execGetShutdownState s
  | .setShutdownState dirty => Sys2Proof.Machine.execSetShutdownState dirty s
  | .getHealthInfo => Sys2Proof.Machine.execGetHealthInfo s
  | .getAlertConfiguration => Sys2Proof.Machine.execGetAlertConfiguration s
  | .setAlertConfiguration cfg => Sys2Proof.Machine.execSetAlertConfiguration cfg s
  | .getEventRecords log => Sys2Proof.Machine.execGetEventRecords log s
  | .clearEventRecords log handles clearAll => Sys2Proof.Machine.execClearEventRecords log handles clearAll s
  | .getEventInterruptPolicy => Sys2Proof.Machine.execGetEventInterruptPolicy s
  | .setEventInterruptPolicy policy => Sys2Proof.Machine.execSetEventInterruptPolicy policy s
  | .getLsa off len => Sys2Proof.Machine.execGetLsa off len s
  | .setLsa off data => Sys2Proof.Machine.execSetLsa off data s
  | .getPoisonList start len => Sys2Proof.Machine.execGetPoisonList start len s
  | .injectPoison line => Sys2Proof.Machine.execInjectPoison line s
  | .clearPoison tag line data => Sys2Proof.Machine.execClearPoison tag line data s
  | .getTimestamp => Sys2Proof.Machine.execGetTimestamp s
  | .setTimestamp ns => Sys2Proof.Machine.execSetTimestamp ns s
  | .setPartitionInfo => Sys2Proof.Machine.execSetPartitionInfo s
  | .sanitize decoders => Sys2Proof.Machine.execSanitize s decoders
  | .sanitizeComplete => Sys2Proof.Machine.execSanitizeComplete s
  | .unsupportedCommand opcode => Sys2Proof.Machine.execUnsupportedCommand opcode s
  | .vxAuthChallenge purpose reserved => Sys2Proof.Machine.execVxAuthChallenge purpose reserved s
  | .vxAuthResponse nonce purpose reserved sigOk => Sys2Proof.Machine.execVxAuthResponse nonce purpose reserved sigOk s
  | .vxHostBurrow confirm target reserved => Sys2Proof.Machine.execVxHostBurrow confirm target reserved s
  | .vxCoverStatus => Sys2Proof.Machine.execVxCoverStatus s
  | .twinSwitchOver action reserved => Sys2Proof.Machine.execTwinSwitchOver action s reserved
  | .forcedPromotion reserved => Sys2Proof.Machine.execForcedPromotion reserved s
  | .serviceModeEnter reserved => Sys2Proof.Machine.execServiceModeEnter reserved s
  | .serviceModeLeave reserved => Sys2Proof.Machine.execServiceModeLeave reserved s
  | .vxJournalRead start count reserved => Sys2Proof.Machine.execVxJournalRead start count reserved s
  | .ticketExpiry => Sys2Proof.Machine.execTicketExpiry s
  | .challengeExpiry => Sys2Proof.Machine.execChallengeExpiry s
  | .authRefusalEnd => Sys2Proof.Machine.execAuthRefusalEnd s
  | .serviceTimeout => Sys2Proof.Machine.execServiceTimeout s
  -- resets and the lamp-die reset (00, 02)
  | .por vinRet => Sys2Proof.Machine.execPor vinRet s
  | .krst boot => Sys2Proof.Machine.execKrst boot s
  | .vkeepGood vioMv => Sys2Proof.Machine.execVkeepGood vioMv s
  | .lrstRequest => Sys2Proof.Machine.execLrstRequest s
  | .drainDone => Sys2Proof.Machine.execDrainDone s
  | .drainTimeout => Sys2Proof.Machine.execDrainTimeout s
  | .lampRelease parityWord => Sys2Proof.Machine.execLampRelease parityWord s
  | .writePathOpen => Sys2Proof.Machine.execWritePathOpen s
  -- mode controller (02)
  | .wakeReq path => Sys2Proof.Machine.execWakeReq path s
  | .latchClr path => Sys2Proof.Machine.execLatchClr path s
  | .serviceNHold => Sys2Proof.Machine.execServiceNHold s
  | .vinComparatorFire b => Sys2Proof.Machine.execVinComparatorFire b s
  | .vinCmpRelease b => Sys2Proof.Machine.execVinCmpRelease b s
  | .vinCmpMismatch => Sys2Proof.Machine.execVinCmpMismatch s
  | .predictorFire => Sys2Proof.Machine.execPredictorFire s
  | .pfwNFire => Sys2Proof.Machine.execPfwNFire s
  | .bridgeClose => Sys2Proof.Machine.execBridgeClose s
  | .bridgeExpiry => Sys2Proof.Machine.execBridgeExpiry s
  -- burrow (06)
  | .fence => Sys2Proof.Machine.execFence s
  | .shedStep k => Sys2Proof.Machine.execShedStep k s
  | .p1End => Sys2Proof.Machine.execP1End s
  | .p1Late => Sys2Proof.Machine.execP1Late s
  | .burrowSweepVisit faultWord mirrorUe cacheFault => Sys2Proof.Machine.execBurrowSweepVisit faultWord mirrorUe s cacheFault
  | .programConfirm n => Sys2Proof.Machine.execProgramConfirm n s
  | .programStatus n pass => Sys2Proof.Machine.execProgramStatus n pass s
  | .lunNotReady lun => Sys2Proof.Machine.execLunNotReady lun s
  | .p2End => Sys2Proof.Machine.execP2End s
  | .p2Timeout => Sys2Proof.Machine.execP2Timeout s
  | .p3End fails => Sys2Proof.Machine.execP3End s fails
  | .p3Timeout landed => Sys2Proof.Machine.execP3Timeout s landed
  | .journalCommit => Sys2Proof.Machine.execJournalCommit s
  | .p4Timeout => Sys2Proof.Machine.execP4Timeout s
  | .vinReturnDebounced => Sys2Proof.Machine.execVinReturnDebounced s
  | .abandonRecordWritten => Sys2Proof.Machine.execAbandonRecordWritten s
  | .abandonUpDone => Sys2Proof.Machine.execAbandonUpDone s
  | .abandonWindowExpiry => Sys2Proof.Machine.execAbandonWindowExpiry s
  | .thermalLockoutScan temps => Sys2Proof.Machine.execThermalLockoutScan temps s
  | .denRebase => Sys2Proof.Machine.execDenRebase s
  | .hwCut sensor => Sys2Proof.Machine.execHwCut sensor s
  -- wake and restore (08, 16)
  | .daymarkRead copy0 copy1 sfdp x4 => Sys2Proof.Machine.execDaymarkRead copy0 copy1 sfdp x4 s
  | .dramTrainingDone ok0 ok1 reads => Sys2Proof.Machine.execDramTrainingDone ok0 ok1 s reads
  | .nandScanDone failedLuns failedCes reads => Sys2Proof.Machine.execNandScanDone failedLuns s failedCes reads
  | .restoreDecision => Sys2Proof.Machine.execRestoreDecision s
  | .manifestLoad badSegs reads => Sys2Proof.Machine.execManifestLoad badSegs s reads
  | .granuleFetchDone g rd rd2 => Sys2Proof.Machine.execGranuleFetchDone g rd s rd2
  | .verifyGranule g ueLines tableUe rd rd2 ces => Sys2Proof.Machine.execVerifyGranule g ueLines tableUe rd s rd2 ces
  | .restoreComplete fails => Sys2Proof.Machine.execRestoreComplete s fails
  -- cover and trickle (04)
  | .rebase => Sys2Proof.Machine.execRebase s
  | .rebaseNow path => Sys2Proof.Machine.execRebaseNow path s
  | .coverStale => Sys2Proof.Machine.execCoverStale s
  | .coverStaleError => Sys2Proof.Machine.execCoverStaleError s
  | .ledgerScrub word fault => Sys2Proof.Machine.execLedgerScrub word fault s
  | .doubtWriterDone => Sys2Proof.Machine.execDoubtWriterDone s
  | .mirrorWrite g => Sys2Proof.Machine.execMirrorWrite g s
  | .trickleMode => Sys2Proof.Machine.execTrickleMode s
  | .sweepVisit => Sys2Proof.Machine.execSweepVisit s
  | .copyMapped n crcOk => Sys2Proof.Machine.execCopyMapped n crcOk s
  | .calSample energyNj lenUs => Sys2Proof.Machine.execCalSample energyNj s lenUs
  | .cleanAll path => Sys2Proof.Machine.execCleanAll path s
  | .stopCleanAll path => Sys2Proof.Machine.execStopCleanAll path s
  | .contextArm => Sys2Proof.Machine.execContextArm s
  -- DRAM controller (05)
  | .schedule ch sub nowNs readyBanks => Sys2Proof.Machine.execSchedule ch sub nowNs readyBanks s
  | .refresh ch sub rank => Sys2Proof.Machine.execRefresh ch sub rank s
  | .retrainPause ch sub forced mr4Double mr4Over => Sys2Proof.Machine.execRetrainPause ch sub forced mr4Double mr4Over s
  | .caParityAlert ch sub nowNs highNs => Sys2Proof.Machine.execCaParityAlert ch sub nowNs highNs s
  | .dramReadDone req line err atNs => Sys2Proof.Machine.execDramReadDone req line err s atNs
  | .patrolScrub ch back => Sys2Proof.Machine.execPatrolScrub ch back s
  | .selfRefreshEntry ch => Sys2Proof.Machine.execSelfRefreshEntry ch s
  | .selfRefreshExit ch => Sys2Proof.Machine.execSelfRefreshExit ch s
  -- NAND back end (07)
  | .eraseDone block pass => Sys2Proof.Machine.execEraseDone block pass s
  | .eraseTimeout block => Sys2Proof.Machine.execEraseTimeout block s
  | .relocate rd => Sys2Proof.Machine.execRelocate s rd
  | .nandPatrol g rd => Sys2Proof.Machine.execNandPatrol g rd s
  | .checkpointStart => Sys2Proof.Machine.execCheckpointStart s
  | .checkpointCommit => Sys2Proof.Machine.execCheckpointCommit s
  -- store and power path (09, 10)
  | .infetClose fell => Sys2Proof.Machine.execInfetClose s fell
  | .infetOpen cause => Sys2Proof.Machine.execInfetOpen cause s
  | .infetReclose => Sys2Proof.Machine.execInfetReclose s
  | .infetRst path => Sys2Proof.Machine.execInfetRst path s
  | .inputCurrentLimit => Sys2Proof.Machine.execInputCurrentLimit s
  | .storeTakeover vsysMv => Sys2Proof.Machine.execStoreTakeover s vsysMv
  | .storeRelease vsysMv => Sys2Proof.Machine.execStoreRelease s vsysMv
  | .storeFailed cause => Sys2Proof.Machine.execStoreFailed cause s
  | .storeAbsent cause => Sys2Proof.Machine.execStoreAbsent cause s
  | .storePresent => Sys2Proof.Machine.execStorePresent s
  | .storeRetry path => Sys2Proof.Machine.execStoreRetry path s
  | .chargeTerminate => Sys2Proof.Machine.execChargeTerminate s
  | .rechargeStart => Sys2Proof.Machine.execRechargeStart s
  | .zoneChange tStore => Sys2Proof.Machine.execZoneChange tStore s
  | .safetyTimerExpiry => Sys2Proof.Machine.execSafetyTimerExpiry s
  | .tmrClr path => Sys2Proof.Machine.execTmrClr path s
  | .auditStart => Sys2Proof.Machine.execAuditStart s
  | .auditNow path => Sys2Proof.Machine.execAuditNow path s
  | .auditDone m => Sys2Proof.Machine.execAuditDone m s
  | .auditDerate => Sys2Proof.Machine.execAuditDerate s
  | .accOvercurrent => Sys2Proof.Machine.execAccOvercurrent s
  | .accRetry => Sys2Proof.Machine.execAccRetry s
  | .peerChargeStop => Sys2Proof.Machine.execPeerChargeStop s
  | .vsysLoss => Sys2Proof.Machine.execVsysLoss s
  | .vsysRestore => Sys2Proof.Machine.execVsysRestore s
  -- supervision (10)
  | .railFault n kind also level => Sys2Proof.Machine.execRailFault n kind s also level
  | .adcScan ch iout => Sys2Proof.Machine.execAdcScan ch iout s
  | .adcOnDemand path ch => Sys2Proof.Machine.execAdcOnDemand path ch s
  | .rearm path idx => Sys2Proof.Machine.execRearm path idx s
  | .clrFirst path => Sys2Proof.Machine.execClrFirst path s
  | .w1cWrite path off value => Sys2Proof.Machine.execW1cWrite path off value s
  -- sequencer and SPMI (11)
  | .sequencerTick => Sys2Proof.Machine.execSequencerTick s
  | .entryPowerGood n => Sys2Proof.Machine.execEntryPowerGood n s
  | .entryUpTimeout n => Sys2Proof.Machine.execEntryUpTimeout n s
  | .entryRetry n => Sys2Proof.Machine.execEntryRetry n s
  | .entryOff n => Sys2Proof.Machine.execEntryOff n s
  | .entryDownTimeout n => Sys2Proof.Machine.execEntryDownTimeout n s
  | .spmiCommandSend => Sys2Proof.Machine.execSpmiCommandSend s
  | .spmiStatusRead m lastSeq result pg parityErr flags => Sys2Proof.Machine.execSpmiStatusRead m lastSeq result pg parityErr s flags
  | .spmiAckTimeout m => Sys2Proof.Machine.execSpmiAckTimeout m s
  | .slvRescan path => Sys2Proof.Machine.execSlvRescan path s
  | .pgPoll n pg => Sys2Proof.Machine.execPgPoll n pg s
  | .spmiWakeup sid => Sys2Proof.Machine.execSpmiWakeup sid s
  | .spmiSleep => Sys2Proof.Machine.execSpmiSleep s
  | .spmiIdleOff => Sys2Proof.Machine.execSpmiIdleOff s
  | .spmiIgnoredCommand => Sys2Proof.Machine.execSpmiIgnoredCommand s
  -- thermal and budget (12)
  | .thermalSweep r => Sys2Proof.Machine.execThermalSweep r s
  | .levelChange => Sys2Proof.Machine.execLevelChange s
  | .senRetry path => Sys2Proof.Machine.execSenRetry path s
  | .arbiterTick b => Sys2Proof.Machine.execArbiterTick b s
  -- twin (13)
  | .hello m => Sys2Proof.Machine.execHello m s
  | .mirror wsn line be data => Sys2Proof.Machine.execMirror wsn line be data s
  | .cumulativeAck cum => Sys2Proof.Machine.execCumulativeAck cum s
  | .heartbeat m => Sys2Proof.Machine.execHeartbeat m s
  | .nak lseq => Sys2Proof.Machine.execNak lseq s
  | .retrain => Sys2Proof.Machine.execRetrain s
  | .mooringLinkDown => Sys2Proof.Machine.execMooringLinkDown s
  | .pairTimeout => Sys2Proof.Machine.execPairTimeout s
  | .bellSilent => Sys2Proof.Machine.execBellSilent s
  | .bellAlive => Sys2Proof.Machine.execBellAlive s
  | .controlTick own => Sys2Proof.Machine.execControlTick own s
  | .input m => Sys2Proof.Machine.execInput m s
  | .decision word => Sys2Proof.Machine.execDecision word s
  | .selfTestDone own partner => Sys2Proof.Machine.execSelfTestDone own partner s
  | .fenceFrame cum causes => Sys2Proof.Machine.execFenceFrame cum causes s
  | .fenceWaitExpiry => Sys2Proof.Machine.execFenceWaitExpiry s
  | .graceExpiry => Sys2Proof.Machine.execGraceExpiry s
  | .ctrl m => Sys2Proof.Machine.execCtrl m s
  | .rsyBegin g => Sys2Proof.Machine.execRsyBegin g s
  | .rsyData g ln data => Sys2Proof.Machine.execRsyData g ln data s
  | .rsyEnd g => Sys2Proof.Machine.execRsyEnd g s
  | .rsyFull path => Sys2Proof.Machine.execRsyFull path s
  -- keeper flash (14)
  | .efKey path value => Sys2Proof.Machine.execEfKey path value s
  | .unlockExpiry path => Sys2Proof.Machine.execUnlockExpiry path s
  | .read path bitErrors => Sys2Proof.Machine.execRead path bitErrors s
  | .program path => Sys2Proof.Machine.execProgram path s
  | .erase path => Sys2Proof.Machine.execErase path s
  | .suspend path => Sys2Proof.Machine.execSuspend path s
  | .resume path => Sys2Proof.Machine.execResume path s
  | .otpRead path => Sys2Proof.Machine.execOtpRead path s
  | .otpProg path => Sys2Proof.Machine.execOtpProg path s
  | .clear path => Sys2Proof.Machine.execClear path s
  | .wordProgramDone pulses ok => Sys2Proof.Machine.execWordProgramDone pulses ok s
  | .sectorEraseDone ok => Sys2Proof.Machine.execSectorEraseDone ok s
  | .eraseResume => Sys2Proof.Machine.execEraseResume s
  | .journalRecordWrite => Sys2Proof.Machine.execJournalRecordWrite s
  -- event recorder (15)
  | .eventRaise src cls sev param => Sys2Proof.Machine.execEventRaise src cls sev param s
  | .eventMove => Sys2Proof.Machine.execEventMove s
  | .recordClose => Sys2Proof.Machine.execRecordClose s
  | .archiveWrite => Sys2Proof.Machine.execArchiveWrite s
  | .freeze path => Sys2Proof.Machine.execFreeze path s
  | .thaw path => Sys2Proof.Machine.execThaw path s
  | .freezeExpiry => Sys2Proof.Machine.execFreezeExpiry s
  | .evClear path value => Sys2Proof.Machine.execEvClear path value s
  | .clearComplete => Sys2Proof.Machine.execClearComplete s
  | .evRdsel path value => Sys2Proof.Machine.execEvRdsel path value s
  -- register window (00, 04, 16, 18)
  | .rcRead path off size => Sys2Proof.Machine.execRcRead path off size s
  | .captureRead path off size => Sys2Proof.Machine.execCaptureRead path off size s
  | .fitBlWrite path off value => Sys2Proof.Machine.execFitBlWrite path off value s
  | .populationWrite path off value => Sys2Proof.Machine.execPopulationWrite path off value s
  | .registerWrite path off size value long => Sys2Proof.Machine.execRegisterWrite path off size value s long
  | .hostLinkDown => Sys2Proof.Machine.execHostLinkDown s
  | .mooringLinkUp lanes => Sys2Proof.Machine.execMooringLinkUp lanes s
  | .abandonLinkWaitExpiry => Sys2Proof.Machine.execAbandonLinkWaitExpiry s
  | .aonPowerLoss => Sys2Proof.Machine.execAonPowerLoss s

end Sys2Proof.Machine
end

