-- ==== Sys2Proof/Machine/Tick.lean ====
section
/-! DEFINITION. What one millisecond of CLK_AON does when no command waits (log entry 2): the counters that count time. -/

namespace Sys2Proof.Machine

/-- What HL_STATUS.LTSSM may show: Detect.Quiet while PERST_N is low (R519) or PD0 is off; with the link up L0 or, where HL_CFG permits L1 and outside
BURROW, an L1 state; otherwise any training state of Table 3-16 (R544, HL_STATUS.LINK_UP). -/
def State.ltssmSet (s : State) : List Nat :=
  if !(s.pins.perstN && s.rail.vioOk) || !s.pd 0 then [0x00]
  else if s.getB Reg.HL_STATUS_LINK_UP then
    0x10 :: (if s.getB Reg.HL_CFG_L1_EN && s.mode != .burrow then [0x11, 0x12] else [])
  else List.range 16 ++ [0x13, 0x14, 0x15, 0x16, 0x17]

/-- The training state the link is in: the port moves on its own, so it is a free value of that set (DESIGN CHOICE, log entry 85). -/
def State.ltssmNow (s : State) : Nat := s.ltssmSet.getD (Config.measured s.freeCount % s.ltssmSet.length) 0

/-- A millisecond in which no trickle, refresh or write-through context is in flight: the mean B0 to B6 power over it is the calibration's
baseline, a measured value (R137). -/
def State.quietMs (s : State) : Bool :=
  s.mode == .run && s.ctxCount (fun c => c.st.inFlight && (c.kind == .trickle || c.kind == .refresh || c.kind == .wt)) == 0

/-- One millisecond: MD time (R47), the device timestamp (R110), the age of E_AVAIL (R159), the freeze's remainder (R480), service
mode's remainder (R119), the quiet millisecond that calibration needs (R137) the pacer's bucket, which fills within a millisecond at
every link (R383), and the link's training state (R544). -/
def State.idleTick (s : State) : State :=
  { s with
    ms := s.ms + 1
    freeCount := s.freeCount + 1
    tstamp := s.tstamp + (if s.tsSet then 1000000 else 0)
    host := { s.host with pacer := 32 * 256 }
    cover := { s.cover with calBase := if s.quietMs then some (Config.measured s.freeCount) else s.cover.calBase }
    regs := setRegs [(Reg.LG_EAVAIL_HI_AGE_US, min 0xFFFF (s.getF Reg.LG_EAVAIL_HI_AGE_US + 1000)),
      (Reg.HL_STATUS_LTSSM, s.ltssmNow),
      (Reg.EV_STATUS_FRZ_MS, s.getF Reg.EV_STATUS_FRZ_MS - 1),
      (Reg.DT_SVC_LEFT_S, if (s.ms + 1) % 1000 = 0 then s.getF Reg.DT_SVC_LEFT_S - 1 else s.getF Reg.DT_SVC_LEFT_S)] s.regs }

end Sys2Proof.Machine
end

