-- ==== Sys2Proof/Safety.lean ====
section
/-! DEFINITION. What a safe step is, and the invariants that claims are stated with. -/

namespace Sys2Proof.Machine

/-- The block goes on: its step answers a next state. -/
def Proceeds (s : State) : Prop := ∃ t, step s = .next t

/-- The cache DRAM is in its canonical form. -/
def State.dramWf (s : State) : Bool := Memory.wf s.dram.cells

/-- The pending queue holds at most 32 events (R473). -/
def State.evQueueOk (s : State) : Bool := decide (s.ev.queue.length ≤ 32)

/-- What the OTP row fixes for the silicon's life: serial number, part, revision, behaviour level and fit code (Table 14-6). -/
def OtpSt.ident (o : OtpSt) : Nat × Nat × Nat × Nat × Nat := (o.serial, o.part, o.rev, o.blMax, o.fit)

/-- Every register field but the listed ones reads as before. -/
def RegsKept (l : List Fld) (s t : State) : Prop := ∀ g : Fld, (∀ f ∈ l, g.key ≠ f.key) → t.getF g = s.getF g

/-- The register fields that an event moves as it reaches the pending queue (R471, R473). -/
def evFlds : List Fld := [Reg.EV_RAISED_RAISED, Reg.EV_LOSS_PEND_OVF]

/-- The opcode of a mailbox command; `none` for any other command. -/
def mboxOp : Instr → Option Nat
  | .identifyMemoryDevice => some 0x4000
  | .getShutdownState => some 0x4203
  | .setShutdownState _ => some 0x4204
  | .getHealthInfo => some 0x4200
  | .getAlertConfiguration => some 0x4201
  | .setAlertConfiguration _ => some 0x4202
  | .getEventRecords _ => some 0x0100
  | .clearEventRecords _ _ _ => some 0x0101
  | .getEventInterruptPolicy => some 0x0102
  | .setEventInterruptPolicy _ => some 0x0103
  | .getLsa _ _ => some 0x4102
  | .setLsa _ _ => some 0x4103
  | .getPoisonList _ _ => some 0x4300
  | .injectPoison _ => some 0x4301
  | .clearPoison _ _ _ => some 0x4302
  | .getTimestamp => some 0x0300
  | .setTimestamp _ => some 0x0301
  | .setPartitionInfo => some 0x4101
  | .sanitize => some 0x4400
  | .unsupportedCommand opcode => if supportedOps.contains opcode then none else some opcode
  | .vxAuthChallenge _ _ => some 0xC000
  | .vxAuthResponse _ _ _ _ => some 0xC001
  | .vxHostBurrow _ _ _ => some 0xC002
  | .vxCoverStatus => some 0xC003
  | .twinSwitchOver _ _ => some 0xC004
  | .forcedPromotion _ => some 0xC004
  | .vxJournalRead _ _ _ => some 0xC005
  | .serviceModeEnter _ => some 0xC006
  | .serviceModeLeave _ => some 0xC006
  | _ => none

/-- The register fields that the end of a mailbox command moves: HL_MBOX and, in service mode, the remaining time (R119). -/
def mboxFlds : List Fld := [Reg.DT_SVC_LEFT_S, Reg.HL_MBOX_RET_CODE, Reg.HL_MBOX_OPCODE]

end Sys2Proof.Machine
end

