-- ==== Sys2Proof/Certificates/Slice0/Obligations.lean ====
section
/-! DEFINITION. The statements about the model. -/

open Sys2Proof Sys2Proof.Machine

/-- A step runs the command at the front of the queue on the state with the queue's rest; with no command waiting the block idles for one
millisecond, which is the model's choice (log entry 2). It rests on R47's millisecond count. -/
def Obligations.StepRunsFront : Prop :=
  (∀ (c : Instr) (s : State) (rest : List Instr), step { s with pending := c :: rest } = exec c { s with pending := rest }) ∧
  (∀ s : State, s.pending = [] → ∃ t, step s = .next t ∧ t.ms = s.ms + 1 ∧ t.pending = [] ∧ t.mode = s.mode ∧ t.dram = s.dram ∧ t.nand = s.nand ∧
    t.keep = s.keep ∧ t.bur = s.bur ∧ t.ev = s.ev ∧
    RegsKept [Reg.LG_EAVAIL_HI_AGE_US, Reg.EV_STATUS_FRZ_MS, Reg.DT_SVC_LEFT_S] s t)

/-- The state right after reset: every register field reads its reset value of the tables (R15), the mode is OFF (R46), the DRAM lists no
byte and an unlisted byte reads 0x00 (R67, the model's choice of log entry 7 for the flash), no command waits, and no word spells a
command (log entry 1). -/
def Obligations.AtReset : Prop :=
  (∀ f : Fld, State.reset.getF f = f.rst % 2 ^ f.w) ∧ State.reset.mode = .off ∧ State.reset.phase = .none ∧ State.reset.pending = [] ∧
  (∀ a, byteAt State.reset.dram.cells a = 0) ∧ (∀ g, State.reset.ledgerOf g = .clean) ∧ (∀ g, State.reset.mapOf g = noLoc) ∧
  (∀ l, State.reset.poisoned l = false) ∧ State.reset.dramWf = true ∧ (∀ n w, decodeTableWord n w = none) ∧
  (∀ (s : State) (n w : Nat), s.withFetchWord n w = s)

/-- Canonical memory, for every step: from every state whose DRAM contents stand in the one canonical form of R67's unlisted bytes, a step,
whatever command stands in front, leaves them in that form. -/
def Obligations.StepKeepsDramForm : Prop :=
  ∀ s t : State, s.dramWf = true → step s = .next t → t.dramWf = true

/-- The OTP row: no command moves the serial number, the part, the revision, the behaviour level's ceiling or the fit code that Table 14-6
fixes for the silicon's life (R447), and none touches the queue of waiting commands. -/
def Obligations.ExecKeepsIdentity : Prop :=
  ∀ (c : Instr) (s t : State), exec c s = .next t → t.otp.ident = s.otp.ident ∧ t.pending = s.pending

/-- No command of the table ends in a fault or a refusal: whatever the state and the operands, each answers a next state. What that state
holds, command by command, the other statements say. -/
def Obligations.EveryCommandAnswers : Prop :=
  ∀ (c : Instr) (s : State), ∃ t, exec c s = .next t

/-- R144 -/
def Obligations.WriteToCleanGranule : Prop :=
  ∀ (s : State) (tag line : Nat) (be : ByteEn) (data : LineData) (c : Instr) (w : Wr),
    (c = .memWr tag line data ∧ w = ⟨tag, line, true, beAll, data, s.host.nextSeq, false, 0⟩) ∨
      (c = .memWrPtl tag line be data ∧ w = ⟨tag, line, false, be, data, s.host.nextSeq, false, 0⟩) →
    s.mayArrive line = true →
    (s.pathOpen = false → s.mirrorOpen = false → exec c s = .next ((s.want line).arrive w)) ∧
    (s.pathOpen = true → s.bur.regroup = false → s.host.stage = none → s.host.ingress = [] → s.headWaits w = false → s.ledgerOf (granOf line) = .clean →
      s.cover.doubtWriter = false → s.energyOk = true → s.landOk = true →
      ∃ t, exec c s = .next t ∧ t.host.ingress = [] ∧
        (s.bufFull line = false → t.host.stage = none ∧
          t.host.staged = s.host.staged ++ [{ w with wsn := if s.isActive then s.nextWsn else 0 }]) ∧
        (s.bufFull line = true → t.host.stage = some ⟨w, .bufWait⟩ ∧ t.host.staged = s.host.staged) ∧
        t.host.nextSeq = s.host.nextSeq + 1 ∧ t.cover.nDirty = s.cover.nDirty + 1 ∧ t.cover.eDebt = s.cover.eDebt + s.cover.eg ∧
        t.ledgerOf (granOf line) = .dirty 0 ∧ (∀ g, g ≠ granOf line → t.ledgerOf g = s.ledgerOf g) ∧
        t = { s.want line with host := t.host, cover := t.cover, twin := t.twin, dram := { s.dram with rdOut := t.dram.rdOut, wback := sdel line s.dram.wback } })

/-- NDR_COMMIT, CWAIT_PASS, CWAIT_EXPIRY and WRITE_THROUGH_DONE (R17, R19, R81, R147, R149, R151, R252): what each does on a unit that is
no standby, with nothing behind it in the ingress buffer and no switch-over under way, and, for a write behind the ledger stage, with
no group of an abandon before it (R24); a write-through copy that fails the CRC comparison is a failed program. -/
def Obligations.HeldWritesComplete : Prop :=
  (∀ (s : State) (w : Wr) (rest : List Wr), s.host.staged = w :: rest → s.mayCommit = true → s.lineFailed w.line = false →
    s.acked w.wsn = true → s.isStandby = false → s.host.ingress = [] → (∀ x, s.host.stage ≠ some ⟨x, .bufWait⟩) → s.twin.switching = false →
    ∃ t, exec .ndrCommit s = .next t ∧ t.host.staged = rest ∧
      t.host.tx = (if w.mbox || !s.getB Reg.HL_STATUS_LINK_UP || s.host.quiet == some w.seq then s.host.tx else s.host.tx ++ [.ndr w.tag]) ∧
      t.dram.wbuf = wbMerge s.dram.wbuf w.line w.be w.data ∧ t.dram.cells = s.dram.cells ∧
      t.twin.acc = (if s.isActive then max s.twin.acc w.wsn else s.twin.acc) ∧ (w.full = true → t.poisoned w.line = false) ∧
      t.cover = s.cover ∧ t.regs = s.regs ∧ (s.bur.regroup = false → t = { s with host := t.host, dram := t.dram, twin := t.twin })) ∧
  (∀ (s : State) (w : Wr), s.host.stage = some ⟨w, .cwait⟩ → s.pathOpen = true → s.lineFailed w.line = false →
    s.ledgerOf (granOf w.line) = .clean → s.cover.doubtWriter = false → s.energyOk = true → s.landOk = true → s.host.ingress = [] →
    s.bufFull w.line = false → s.bur.regroup = false →
    ∃ t, exec .cwaitPass s = .next t ∧ t.host.stage = none ∧
      t.host.staged = s.host.staged ++ [{ w with wsn := if s.isActive then s.nextWsn else 0 }] ∧
      t.cover.nDirty = s.cover.nDirty + 1 ∧ t.cover.eDebt = s.cover.eDebt + s.cover.eg ∧
      t = { s with host := t.host, cover := t.cover, twin := t.twin, dram := { s.dram with rdOut := t.dram.rdOut } }) ∧
  (∀ (s : State) (w : Wr), s.host.stage = some ⟨w, .cwait⟩ → s.pathOpen = true → s.lineFailed w.line = false →
    s.ledgerTake (granOf w.line) = none → s.bur.regroup = false →
    ∃ t, exec .cwaitExpiry s = .next t ∧ (t.host.stage = some ⟨{ w with wsn := if s.isActive then s.nextWsn else w.wsn }, .wtWait⟩ ∨
        ∃ n, t.host.stage = some ⟨{ w with wsn := if s.isActive then s.nextWsn else w.wsn }, .wtBusy n⟩) ∧
      t.host.staged = s.host.staged ∧ t.host.ingress = s.host.ingress ∧ t.cover = s.cover ∧ t.regs = s.regs) ∧
  (∀ (s : State) (w : Wr) (n : Nat), s.host.stage = some ⟨w, .wtBusy n⟩ → s.isStandby = false → (s.ctxOf n).st = .check →
    (s.ctxOf n).kind = .wt → s.host.staged = [] → s.mayCommit = true → s.lineFailed w.line = false → s.acked w.wsn = true →
    s.bufFull w.line = false → s.host.ingress = [] → s.twin.switching = false →
    ∃ t, exec (.writeThroughDone true) s = .next t ∧ t.host.stage = none ∧
      t.host.tx = (if w.mbox || !s.getB Reg.HL_STATUS_LINK_UP || s.host.quiet == some w.seq then s.host.tx else s.host.tx ++ [.ndr w.tag]) ∧ t.mapOf (s.ctxOf n).gran = (s.ctxOf n).page ∧
      t.dram.wbuf = (wbMerge s.dram.wbuf w.line w.be w.data).map (fun e => if e.line = w.line ∧ e.admitted = false then { e with wt := true } else e) ∧
      t.getF Reg.LG_WT_CNT_WT_COUNT = min 0xFFFFFFFF (s.getF Reg.LG_WT_CNT_WT_COUNT + 1) ∧ t.ev.seq = s.ev.seq + 1 ∧
      t.cover = s.cover ∧ RegsKept (Reg.LG_WT_CNT_WT_COUNT :: evFlds) s t) ∧
  (∀ (s : State) (w : Wr) (n : Nat), s.host.stage = some ⟨w, .wtBusy n⟩ → (s.ctxOf n).st = .check → (s.ctxOf n).kind = .wt →
    s.bur.fenced = false → exec (.writeThroughDone false) s = .next ((s.programFailed n).alertScan s.crossed))

/-- MEM_RD and DRS_COMMIT (R82, R90, R91). -/
def Obligations.ReadsComplete : Prop :=
  (∀ (s : State) (tag line : Nat), s.getB Reg.HL_STATUS_LINK_UP = true → s.getB Reg.HL_STATUS_CREDITS_OPEN = true → 0 < s.host.reqCredits →
    line < s.nLines → s.getB Reg.MD_STATUS_LRST_ACT = false →
    ∃ t, exec (.memRd tag line) s = .next t ∧ t.host.reqCredits + 1 = s.host.reqCredits ∧ t.host.nextSeq = s.host.nextSeq + 1 ∧
      t.host.reads.map (fun r => (r.tag, r.line, r.seq)) =
        s.host.reads.map (fun r => (r.tag, r.line, r.seq)) ++ [(tag, line, s.host.nextSeq)] ∧
      (s.readBlocked ⟨tag, line, s.host.nextSeq, none, false⟩ = false →
        ∃ r ∈ t.host.reads, r.tag = tag ∧ r.seq = s.host.nextSeq ∧ r.value = some (s.readValue line)) ∧
      t.dram.cells = s.dram.cells ∧ t = { s with host := t.host, dram := t.dram }) ∧
  (∀ (s : State) (line : Nat), s.poisoned line = true → s.readValue line = (0, true)) ∧
  (∀ (s : State) (tag : Nat) (pre post : List Rd) (r : Rd) (v : LineData × Bool), s.host.reads = pre ++ r :: post →
    (∀ q ∈ pre, q.tag ≠ tag) → r.tag = tag → r.ready = true → r.value = some v → s.bur.fenced = false →
    s.getB Reg.MD_STATUS_LRST_ACT = false →
    exec (.drsCommit tag) s = .next { s with host := { s.host with
      reads := pre ++ post
      reqCredits := s.host.reqCredits + 1
      tx := s.host.tx ++ [.drs tag v.1 v.2] } }) ∧
  (∀ (s : State) (tag : Nat), s.bur.fenced = true → exec (.drsCommit tag) s = .next s)

/-- GPF_PHASE1 and GPF_PHASE2 (R94, R95). -/
def Obligations.GpfResponses : Prop :=
  (∀ s : State, s.getB Reg.HL_STATUS_LINK_UP = true → s.bur.fenced = false →
    exec .gpfPhase1 s = .next { s with host := { s.host with tx := s.host.tx ++ [.gpf 1] } } ∧
    exec .gpfPhase2 s = .next { s with host := { s.host with tx := s.host.tx ++ [.gpf 2] } }) ∧
  (∀ s : State, s.bur.fenced = true → exec .gpfPhase1 s = .next s ∧ exec .gpfPhase2 s = .next s)

/-- PERST_N_ASSERT, PERST_N_RELEASE, LINK_UP and HOST_LINK_DOWN (R16, R72, R75, R80, R114, R544). -/
def Obligations.HostLinkChanges : Prop :=
  (∀ s : State, s.mode = .off ∨ s.mode = .den → exec .perstNAssert s = .next { s with pins := { s.pins with perstN := false } }) ∧
  (∀ s : State, s.mode ≠ .off → s.mode ≠ .den →
    ∃ t, exec .perstNAssert s = .next t ∧ t.pins.perstN = false ∧ (∀ f : Fld, f.cls = .link → t.getF f = f.rst % 2 ^ f.w) ∧
      t.host.reqCredits = 0 ∧ t.host.decoder = false ∧ t.host.auth.ticket = none ∧ t.host.auth.chal = none ∧ t.mode = s.mode ∧
      t.dram.cells = s.dram.cells ∧ t.cover = s.cover ∧ t.nand = s.nand ∧
      (s.mode = .run → t.host.ingress = [] ∧ t.host.staged = [] ∧ t.host.reads = []) ∧
      (s.mode = .burrow → t.host.ingress = s.host.ingress ∧ t.host.staged = s.host.staged ∧ t.host.reads = s.host.reads)) ∧
  (∀ s : State, s.mode ≠ .off → s.mode ≠ .den → s.pd 0 = true → s.rail.vioOk = true →
    ∃ t, exec .perstNRelease s = .next t ∧ t.getF Reg.HL_STATUS_LTSSM = 0x01 ∧ t.pins = { s.pins with perstN := true } ∧
      RegsKept [Reg.HL_STATUS_LTSSM] s t ∧ t = { s with regs := t.regs, pins := t.pins }) ∧
  (∀ (s : State) (width speed ver : Nat) (u : State), u = s.blockForce 2 → s.pins.perstN = true → s.rail.vioOk = true → s.pd 0 = true →
    s.getB Reg.HL_STATUS_LINK_UP = false →
    s.getB Reg.MD_STATUS_LRST_ACT = false → width ∈ [1, 2, 4, 8] → 1 ≤ speed → speed ≤ 5 → ver ≤ 2 →
    ∃ t, exec (.linkUp width speed ver) s = .next t ∧ t.getF Reg.HL_STATUS_LINK_UP = 1 ∧ t.getF Reg.HL_STATUS_LTSSM = 0x10 ∧
      t.getF Reg.HL_STATUS_CXL_VER = ver ∧ t.getF Reg.HL_STATUS_WIDTH ≤ width ∧ t.getF Reg.HL_STATUS_SPEED ≤ speed ∧
      (u.getF Reg.HL_CFG_MAX_WIDTH ∈ [1, 2, 4, 8] → t.getF Reg.HL_STATUS_WIDTH = min width (u.getF Reg.HL_CFG_MAX_WIDTH)) ∧
      (u.getF Reg.HL_CFG_MAX_SPEED ∈ [1, 2, 3, 4, 5] → t.getF Reg.HL_STATUS_SPEED = min speed (u.getF Reg.HL_CFG_MAX_SPEED)) ∧
      (s.mediaReady = false → t.getF Reg.HL_STATUS_CREDITS_OPEN = u.getF Reg.HL_STATUS_CREDITS_OPEN ∧
        t.host = { s.host with tx := [], cdat := t.host.cdat }) ∧
      (s.mediaReady = true → s.isStandby = false → s.bur.fenced = false → s.host.sanitize = 0 → s.twin.switching = false →
        t.getF Reg.HL_STATUS_CREDITS_OPEN = 1 ∧ t.host.reqCredits = 128 - s.host.reads.length) ∧
      t.host.cdat = { s.host.cdat with
        readBw := 26 * (t.getF Reg.HL_STATUS_WIDTH * twiceRate (t.getF Reg.HL_STATUS_SPEED))
        writeBw := 24 * (t.getF Reg.HL_STATUS_WIDTH * twiceRate (t.getF Reg.HL_STATUS_SPEED)) } ∧
      t = { u with regs := t.regs, host := t.host }) ∧
  (∀ s : State, s.getB Reg.HL_STATUS_LINK_UP = true →
    ∃ t, exec .hostLinkDown s = .next t ∧ t.getF Reg.HL_STATUS_LINK_UP = 0 ∧ t.getF Reg.HL_STATUS_LTSSM = 0 ∧
      t.getF Reg.HL_STATUS_CREDITS_OPEN = 0 ∧ t.getF Reg.HL_ERR_DOWN = min 255 (s.getF Reg.HL_ERR_DOWN + 1) ∧ t.host.reqCredits = 0 ∧
      RegsKept [Reg.HL_STATUS_LINK_UP, Reg.HL_STATUS_LTSSM, Reg.HL_STATUS_CREDITS_OPEN, Reg.HL_STATUS_WIDTH, Reg.HL_STATUS_SPEED,
        Reg.HL_ERR_DOWN] s t ∧ t = { s with regs := t.regs, host := t.host })

/-- Every mailbox command once the fence stands, and while another command is in progress or the link is down (R85). -/
def Obligations.MailboxTurnsAway : Prop :=
  ∀ (c : Instr) (op : Nat) (s : State), mboxOp c = some op →
    (s.getB Reg.HL_STATUS_LINK_UP = false → exec c s = .next s) ∧
    (s.getB Reg.HL_STATUS_LINK_UP = true → s.bur.fenced = true ∨ s.host.mboxBusy.isSome = true →
      ∃ t, exec c s = .next t ∧ t.host.mbox = ⟨op, rcBusy, .none⟩ ∧ RegsKept mboxFlds s t ∧
        t = { s with host := { s.host with mbox := t.host.mbox }, regs := t.regs })

/-- The mailbox commands that only read, and those that are always Unsupported: each answers its output and moves nothing but the response
and HL_MBOX (R76, R78, R96, R99, R103, R105, R110, R111, R115, R116, R121, R123). -/
def Obligations.MailboxQueries : Prop :=
  ∀ (c : Instr) (op ret : Nat) (out : MOut) (s u : State), u = s.hostTouch → s.getB Reg.HL_STATUS_LINK_UP = true → s.mboxFree = true →
    ((c = .identifyMemoryDevice ∧ op = 0x4000 ∧ ret = rcOk ∧ out = .identify 0 u.cap256M 131072 1024 127 0 0) ∨
     (c = .getShutdownState ∧ op = 0x4203 ∧ ret = rcOk ∧ out = .shutdown (u.getB Reg.HL_SHUTDOWN_DIRTY)) ∨
     (c = .getHealthInfo ∧ op = 0x4200 ∧ ret = rcOk ∧ out = .health u.healthBits u.mediaStatus u.lifePct (u.tMax / 10)
        (u.getF Reg.HL_DSC_DSC) 0 (min 0xFFFFFFFF u.host.corrections)) ∨
     (c = .getAlertConfiguration ∧ op = 0x4201 ∧ ret = rcOk ∧ out = .alerts u.host.alert) ∨
     (∃ log, c = .getEventRecords log ∧ op = 0x0100 ∧ ret = rcOk ∧
        out = .records (((u.logRecs log).take 31).map u.cxlRec) (mget false u.ev.ovf log.code)) ∨
     (c = .getEventInterruptPolicy ∧ op = 0x0102 ∧ ret = rcOk ∧ out = .policy u.host.policy) ∨
     (∃ off len, c = .getLsa off len ∧ off + len ≤ 131072 ∧ op = 0x4102 ∧ ret = rcOk ∧
        out = .bytes ((List.range len).map (fun i => byteAt u.host.lsa (off + i)))) ∨
     (∃ start len, c = .getPoisonList start len ∧ s.mode ≠ .restore ∧ start + len ≤ u.nLines ∧ op = 0x4300 ∧ ret = rcOk ∧
        out = .poisonList (((mergeRuns (u.poisonRuns start len)).take 127).map (fun x => (64 * x.1 + x.2.2, x.2.1)))
          (decide (127 < (mergeRuns (u.poisonRuns start len)).length))) ∨
     (∃ start len, c = .getPoisonList start len ∧ s.mode = .restore ∧ op = 0x4300 ∧ ret = rcBusy ∧ out = .none) ∨
     (c = .getTimestamp ∧ op = 0x0300 ∧ ret = rcOk ∧ out = .timestamp s.tstamp) ∨
     (c = .setPartitionInfo ∧ op = 0x4101 ∧ ret = rcUnsup ∧ out = .none) ∨
     (c = .unsupportedCommand op ∧ supportedOps.contains op = false ∧ ret = rcUnsup ∧ out = .none) ∨
     (c = .vxCoverStatus ∧ op = 0xC003 ∧ ret = rcOk ∧ out = .cover u.cover.eAvail
        ((u.cover.eDebt * (1000 + u.margin) + 9999) / 10000) u.cover.eBridge u.cover.nDirty u.nand.pErased (landNeed u.cover.nDirty)
        (u.cover.eg * 100) u.margin (u.getF Reg.LG_EAVAIL_HI_AGE_US) u.coverState (u.getF Reg.LG_CWAIT_CNT_CWAIT_COUNT)
        (u.getF Reg.LG_WT_CNT_WT_COUNT)) ∨
     (∃ start count r recs, c = .vxJournalRead start count 0 ∧ 1 ≤ count ∧ count ≤ 63 ∧ u.jDead = false ∧
        (ksort (·.seq) (u.keep.recs.filter (fun r => decide (start ≤ r.seq)))).take count = r :: recs ∧ op = 0xC005 ∧ ret = rcOk ∧
        out = .journal r.seq (recs.length + 1) u.jOldest u.jNewest ((r :: recs).map JRec.bytes))) →
    ∃ t, exec c s = .next t ∧ t.host.mbox = ⟨op, ret, out⟩ ∧ RegsKept mboxFlds s t ∧
      t = { s with host := { s.host with mbox := t.host.mbox }, regs := t.regs }

/-- SET_SHUTDOWN_STATE, SET_ALERT_CONFIGURATION, CLEAR_EVENT_RECORDS, SET_EVENT_INTERRUPT_POLICY, SET_TIMESTAMP and SET_LSA: each writes
what it names and answers; a Set LSA runs as keeper programs, and the last of them makes the new contents current at once and ends the
command (R85, R96, R105, R108, R110, R111, R453). -/
def Obligations.MailboxSettings : Prop :=
  (∀ (s : State) (dirty : Bool), s.getB Reg.HL_STATUS_LINK_UP = true → s.mboxFree = true →
    ∃ t, exec (.setShutdownState dirty) s = .next t ∧ t.host.mbox = ⟨0x4204, rcOk, .none⟩ ∧ t.getB Reg.HL_SHUTDOWN_DIRTY = dirty ∧
      t.getF Reg.HL_SHUTDOWN_SELF_CLEAN = 0 ∧ t.keep.jq = (if s.jDead || s.getB Reg.PS_STATUS_VSYS_LOSS then s.keep.jq else s.keep.jq ++ [.shutdown dirty]) ∧
      (s.getB Reg.HL_SHUTDOWN_DIRTY = dirty → t.ev = s.ev) ∧ (s.getB Reg.HL_SHUTDOWN_DIRTY ≠ dirty → t.ev.seq = s.ev.seq + 1) ∧
      RegsKept (Reg.HL_SHUTDOWN_DIRTY :: Reg.HL_SHUTDOWN_SELF_CLEAN :: mboxFlds ++ evFlds) s t ∧
      t = { s with host := { s.host with mbox := t.host.mbox }, regs := t.regs, ev := t.ev, keep := { s.keep with jq := t.keep.jq } }) ∧
  (∀ (s : State) (cfg : AlertCfg), s.getB Reg.HL_STATUS_LINK_UP = true → s.mboxFree = true →
    ∃ t, exec (.setAlertConfiguration cfg) s = .next t ∧ t.host.mbox = ⟨0x4202, rcOk, .none⟩ ∧ t.host.alert = cfg ∧
      RegsKept (mboxFlds ++ evFlds) s t ∧
      t = { s with host := { s.host with mbox := t.host.mbox, alert := cfg }, regs := t.regs, ev := t.ev }) ∧
  (∀ (s : State) (log : Sev) (handles : List Nat), s.getB Reg.HL_STATUS_LINK_UP = true → s.mboxFree = true →
    ∃ t, exec (.clearEventRecords log handles true) s = .next t ∧ t.host.mbox = ⟨0x0101, rcOk, .none⟩ ∧
      t.ev.ring = s.ev.ring.map (fun r => (r.1, { r.2 with consumed := r.2.consumed || r.2.sev == log })) ∧
      mget false t.ev.ovf log.code = false ∧ RegsKept mboxFlds s t ∧
      t = { s with host := { s.host with mbox := t.host.mbox }, regs := t.regs, ev := { s.ev with ring := t.ev.ring, ovf := t.ev.ovf } }) ∧
  (∀ (s : State) (log : Sev) (handles : List Nat), s.getB Reg.HL_STATUS_LINK_UP = true → s.mboxFree = true →
    handles.all (fun h => (s.logRecs log).any (fun r => r.handle == h)) = false →
    ∃ t, exec (.clearEventRecords log handles false) s = .next t ∧ t.host.mbox = ⟨0x0101, rcHandle, .none⟩ ∧ t.ev = s.ev) ∧
  (∀ (s : State) (policy : List Nat), s.getB Reg.HL_STATUS_LINK_UP = true → s.mboxFree = true → policy.length = 4 →
    ∃ t, exec (.setEventInterruptPolicy policy) s = .next t ∧ t.host.mbox = ⟨0x0103, rcOk, .none⟩ ∧ RegsKept mboxFlds s t ∧
      t = { s with host := { s.host with mbox := t.host.mbox, policy := policy }, regs := t.regs }) ∧
  (∀ (s : State) (ns : Nat), s.getB Reg.HL_STATUS_LINK_UP = true → s.mboxFree = true → ns < 2 ^ 64 →
    ∃ t, exec (.setTimestamp ns) s = .next t ∧ t.host.mbox = ⟨0x0301, rcOk, .none⟩ ∧ RegsKept mboxFlds s t ∧
      t = { s with host := { s.host with mbox := t.host.mbox }, regs := t.regs, tstamp := ns, tsSet := true }) ∧
  (∀ (s : State) (off : Nat) (data : List Byte), s.getB Reg.HL_STATUS_LINK_UP = true → s.mboxFree = true → off + data.length ≤ 131072 →
    s.keep.state ≠ 4 → (lsaSectors off data.length).any s.host.lsaDead.contains = false →
    (lsaSectors off data.length).any s.host.lsaDirty.contains = false → data ≠ [] →
    ∃ t, exec (.setLsa off data) s = .next t ∧ t.host.mboxBusy = some 0x4103 ∧ t.host.lsaSet = some (off, data) ∧ t.host.lsa = s.host.lsa ∧
      t.keep.progs = s.keep.progs ++ (lsaSectors off data.length).map (fun j => ⟨512 * s.lsaAlt j + 511, 0, .lsa, false⟩) ∧
      RegsKept mboxFlds s t ∧
      t = { s with host := { s.host with mboxBusy := some 0x4103, lsaSet := some (off, data) }, regs := t.regs
                   keep := { s.keep with progs := t.keep.progs } }) ∧
  (∀ (s : State) (off n word : Nat) (v : BitVec 64) (data : List Byte), s.host.lsaSet = some (off, data) → s.host.mboxBusy = some 0x4103 →
    s.keep.progs = [⟨word, v, .lsa, false⟩] →
    ∃ t, exec (.wordProgramDone n true) s = .next t ∧ t.host.mbox = ⟨0x4103, rcOk, .none⟩ ∧ t.host.mboxBusy = none ∧ t.host.lsaSet = none ∧
      (∀ i b, data[i]? = some b → byteAt t.host.lsa (off + i) = b) ∧
      (∀ a, a < off ∨ off + data.length ≤ a → byteAt t.host.lsa a = byteAt s.host.lsa a) ∧
      t.host.lsaDirty = s.host.lsaDirty ++ lsaSectors off data.length ∧ t.dram = s.dram) ∧
  (∀ (s : State) (off : Nat) (data : List Byte), s.getB Reg.HL_STATUS_LINK_UP = true → s.mboxFree = true → 131072 < off + data.length →
    ∃ t, exec (.setLsa off data) s = .next t ∧ t.host.mbox = ⟨0x4103, rcInput, .none⟩ ∧ t.host.lsa = s.host.lsa ∧ t.keep = s.keep)

/-- INJECT_POISON and CLEAR_POISON: service mode only; a Clear Poison is an ordinary full-line write (R98, R101). -/
def Obligations.MailboxPoison : Prop :=
  (∀ (s : State) (line tag : Nat) (data : LineData), s.getB Reg.HL_STATUS_LINK_UP = true → s.mboxFree = true → s.service = false →
    (∃ t, exec (.injectPoison line) s = .next t ∧ t.host.mbox = ⟨0x4301, rcSec, .none⟩ ∧ t.dram = s.dram) ∧
    (∃ t, exec (.clearPoison tag line data) s = .next t ∧ t.host.mbox = ⟨0x4302, rcSec, .none⟩ ∧ t.dram = s.dram ∧
      t.heldWrites = s.heldWrites)) ∧
  (∀ (s : State) (line : Nat), s.getB Reg.HL_STATUS_LINK_UP = true → s.mboxFree = true → s.service = true → line < s.nLines →
    ∃ t, exec (.injectPoison line) s = .next t ∧ t.host.mbox = ⟨0x4301, rcOk, .none⟩ ∧ t.poisoned line = true ∧
      (∀ l, l ≠ line → t.poisoned l = s.poisoned l) ∧ RegsKept mboxFlds s t ∧
      t = { s with host := { s.host with mbox := t.host.mbox }, regs := t.regs, dram := { s.dram with poison := t.dram.poison } }) ∧
  (∀ (s u : State) (tag line : Nat) (data : LineData), u = s.hostTouch → s.getB Reg.HL_STATUS_LINK_UP = true → s.mboxFree = true →
    u.service = true → line < u.nLines → u.pathOpen = true → u.bur.regroup = false → u.host.stage = none → u.host.ingress = [] →
    u.headWaits ⟨tag, line, true, beAll, data, u.host.nextSeq, true, 0⟩ = false → u.ledgerOf (granOf line) = .clean →
    u.cover.doubtWriter = false → u.energyOk = true → u.landOk = true → u.bufFull line = false →
    ∃ t, exec (.clearPoison tag line data) s = .next t ∧ t.host.mboxBusy = some 0x4302 ∧ t.host.ingress = [] ∧
      t.host.staged = s.host.staged ++ [⟨tag, line, true, beAll, data, s.host.nextSeq, true, if u.isActive then u.nextWsn else 0⟩] ∧
      t.cover.nDirty = s.cover.nDirty + 1 ∧ t.cover.eDebt = s.cover.eDebt + s.cover.eg ∧ t.occupied = s.occupied ∧
      t.dram = { s.dram with rdOut := t.dram.rdOut, wback := sdel line s.dram.wback })

/-- SANITIZE and SANITIZE_COMPLETE (R112, R273). -/
def Obligations.Sanitizing : Prop :=
  (∀ s : State, s.getB Reg.HL_STATUS_LINK_UP = true → s.mboxFree = true → s.mode = .run → s.isStandby = false → s.host.decoder = false →
    s.host.sanitize = 0 →
    ∃ t, exec .sanitize s = .next t ∧ t.host.mbox = ⟨0x4400, rcBg, .none⟩ ∧ t.host.sanitize = 1 ∧ t.mediaReady = false ∧
      (∀ g, t.ledgerOf g = .clean) ∧ t.cover.nDirty = 0 ∧ (∀ g, t.mapOf g = noLoc) ∧ (∀ l, t.poisoned l = false) ∧
      (s.keep.up = true → s.jShut = false → t.keep.jq = [] ∧ ∃ r ∈ t.keep.recs, r.pay = .sanitizeStart s.nand.epoch) ∧
      (s.keep.up = false → s.jShut = false → t.keep.jq = s.keep.jq ++ [.sanitizeStart s.nand.epoch]) ∧
      t.getF Reg.LG_STATUS_CLEAN_ALL = 0 ∧
      RegsKept (Reg.MD_STATUS_MEDIA_READY :: Reg.LG_STATUS_CLEAN_ALL :: Reg.EF_OPS_SUSPENDS :: mboxFlds) s t) ∧
  (∀ s : State, s.getB Reg.HL_STATUS_LINK_UP = true → s.mboxFree = true →
    s.mode ≠ .run ∨ s.host.decoder = true ∨ s.host.sanitize ≠ 0 →
    ∃ t, exec .sanitize s = .next t ∧ t.host.mbox = ⟨0x4400, rcBusy, .none⟩ ∧ t.host.sanitize = s.host.sanitize ∧ t.cover = s.cover ∧
      t.nand = s.nand ∧ t.dram = s.dram) ∧
  (∀ s : State, s.host.sanitize = 1 ∨ s.host.sanitize = 4 → s.nand.eraseQ = [] → s.mode = .run →
    ∃ t, exec .sanitizeComplete s = .next t ∧ t.dram.cells = [] ∧ t.dram.wbuf = [] ∧ (∀ l, t.poisoned l = false) ∧ t.host.lsa = [] ∧
      t.mediaReady = true ∧ (s.framing = false → t.host.sanitize = 0) ∧
      (s.jShut = false → t.keep.jq = [] ∧ (∃ r ∈ t.keep.recs, r.pay = .sanitizeDone s.nand.epoch) ∧ (∃ r ∈ t.keep.recs, r.pay = .runOpen s.nand.epoch 0)) ∧
      RegsKept [Reg.MD_STATUS_MEDIA_READY, Reg.NB_MANPTR_LOC, Reg.NB_ROOTPTR_LOC, Reg.HL_STATUS_CREDITS_OPEN, Reg.EF_OPS_SUSPENDS] s t)

/-- VX_AUTH_CHALLENGE, VX_AUTH_RESPONSE and the three expiries (R117, R118). The nonce is a free value. -/
def Obligations.Authorisation : Prop :=
  (∀ (s : State) (purpose : Nat), s.getB Reg.HL_STATUS_LINK_UP = true → s.mboxFree = true → 1 ≤ purpose → purpose ≤ 3 →
    s.getB Reg.HL_AUTH_REFUSING = false →
    ∃ t nonce, exec (.vxAuthChallenge purpose 0) s = .next t ∧ t.host.auth.chal = some (nonce, purpose, s.ms) ∧ t.host.auth.ticket = none ∧
      t.host.mbox = ⟨0xC000, rcOk, .challenge nonce purpose s.otp.serial 10000⟩ ∧ t.getF Reg.HL_MBOX_OPCODE = 0xC000 ∧
      t.getF Reg.HL_MBOX_RET_CODE = rcOk ∧ RegsKept mboxFlds s t ∧
      t = { s with host := { s.host with mbox := t.host.mbox, auth := t.host.auth }, regs := t.regs, freeCount := t.freeCount }) ∧
  (∀ (s : State) (purpose : Nat), s.getB Reg.HL_STATUS_LINK_UP = true → s.mboxFree = true → 1 ≤ purpose → purpose ≤ 3 →
    s.getB Reg.HL_AUTH_REFUSING = true →
    ∃ t, exec (.vxAuthChallenge purpose 0) s = .next t ∧ t.host.mbox = ⟨0xC000, rcBusy, .none⟩ ∧ t.host.auth = s.host.auth) ∧
  (∀ (s : State) (nonce purpose at0 : Nat), s.getB Reg.HL_STATUS_LINK_UP = true → s.mboxFree = true →
    s.host.auth.chal = some (nonce, purpose, at0) → s.ms ≤ at0 + 10000 → s.dmk.svcKey.isSome = true →
    ∃ t, exec (.vxAuthResponse nonce purpose 0 true) s = .next t ∧ t.host.mbox = ⟨0xC001, rcOk, .ticket 10000⟩ ∧
      t.host.auth.chal = none ∧ t.host.auth.ticket = some (purpose, s.ms + 10000) ∧ t.ev = s.ev ∧ RegsKept mboxFlds s t ∧
      t = { s with host := { s.host with mbox := t.host.mbox, auth := t.host.auth }, regs := t.regs }) ∧
  (∀ (s : State) (nonce purpose n p at0 : Nat), s.getB Reg.HL_STATUS_LINK_UP = true → s.mboxFree = true →
    s.host.auth.chal = some (n, p, at0) →
    ∃ t, exec (.vxAuthResponse nonce purpose 0 false) s = .next t ∧ t.host.mbox = ⟨0xC001, rcInput, .none⟩ ∧
      t.host.auth.chal = none ∧ t.host.auth.ticket = s.host.auth.ticket ∧ t.host.auth.fails = s.failWindow ++ [s.ms] ∧
      (2 ≤ s.failWindow.length → t.getB Reg.HL_AUTH_REFUSING = true) ∧ t.ev.seq = s.ev.seq + 1 ∧
      RegsKept (Reg.HL_AUTH_REFUSING :: mboxFlds ++ evFlds) s t) ∧
  (∀ s : State, exec .ticketExpiry s = .next { s with host := { s.host with auth := { s.host.auth with ticket := none } } }) ∧
  (∀ s : State, exec .challengeExpiry s = .next { s with host := { s.host with auth := { s.host.auth with chal := none } } }) ∧
  (∀ s : State, s.getB Reg.HL_AUTH_REFUSING = true → ∃ t, exec .authRefusalEnd s = .next t ∧ t.getB Reg.HL_AUTH_REFUSING = false ∧ t.host.auth.fails = [] ∧
    RegsKept [Reg.HL_AUTH_REFUSING] s t ∧ t = { s with host := { s.host with auth := { s.host.auth with fails := [] } }, regs := t.regs })

/-- VX_SERVICE_MODE and its timeout (R117, R119, R505). -/
def Obligations.ServiceMode : Prop :=
  (∀ (s : State) (e : Nat), s.getB Reg.HL_STATUS_LINK_UP = true → s.mboxFree = true → s.mode ≠ .wake → s.host.auth.ticket = some (1, e) →
    s.ms < e →
    ∃ t, exec (.serviceModeEnter 0) s = .next t ∧ t.host.mbox = ⟨0xC006, rcOk, .service 1⟩ ∧ t.service = true ∧
      t.getF Reg.DT_SVC_LEFT_S = 600 ∧ t.host.auth.ticket = none ∧ t.ev.seq = s.ev.seq + 1 ∧
      RegsKept (Reg.MD_STATUS_SERVICE :: mboxFlds ++ evFlds) s t ∧
      t = { s with host := { s.host with mbox := t.host.mbox, auth := { s.host.auth with ticket := none } }, regs := t.regs, ev := t.ev }) ∧
  (∀ s : State, s.getB Reg.HL_STATUS_LINK_UP = true → s.mboxFree = true → s.mode ≠ .wake → s.host.auth.ticket = none →
    ∃ t, exec (.serviceModeEnter 0) s = .next t ∧ t.host.mbox = ⟨0xC006, rcSec, .none⟩ ∧ t.service = s.service) ∧
  (∀ s : State, s.getB Reg.HL_STATUS_LINK_UP = true → s.mboxFree = true → s.service = true →
    ∃ t, exec (.serviceModeLeave 0) s = .next t ∧ t.host.mbox = ⟨0xC006, rcOk, .service 0⟩ ∧ t.service = false ∧
      t.getF Reg.DT_SVC_EXIT = 1 ∧ t.ev.seq = s.ev.seq + 1 ∧
      RegsKept (Reg.MD_STATUS_SERVICE :: Reg.DT_SVC_EXIT :: mboxFlds ++ evFlds) s t ∧
      t = { s with host := { s.host with mbox := t.host.mbox }, regs := t.regs, ev := t.ev }) ∧
  (∀ s : State, s.service = true →
    ∃ t, exec .serviceTimeout s = .next t ∧ t.service = false ∧ t.getF Reg.DT_SVC_EXIT = 5 ∧ t.getF Reg.DT_SVC_LEFT_S = 0 ∧
      t.ev.seq = s.ev.seq + 1 ∧ RegsKept (Reg.MD_STATUS_SERVICE :: Reg.DT_SVC_EXIT :: Reg.DT_SVC_LEFT_S :: evFlds) s t ∧
      t = { s with regs := t.regs, ev := t.ev })

/-- WAKE_REQ, SERVICE_N_HOLD, LATCH_CLR and THERMAL_LOCKOUT_SCAN in OFF: recorded reasons are released, and with none left and VIN there
the device wakes (R47, R62, R63, R64, R385); a WAKE_REQ outside OFF does nothing, nor does one over CXL, whose link is down in OFF (log
entry 43). -/
def Obligations.LockoutRelease : Prop :=
  (∀ (s : State) (c : Instr) (cause : Nat),
    (c = .wakeReq .spmi ∧ s.reach .spmi 0x1010 = true ∧ cause = 2) ∨ (c = .serviceNHold ∧ cause = 3) →
    s.mode = .off → s.getF Reg.MD_LOCKOUT_ALL &&& wakeReleases = s.getF Reg.MD_LOCKOUT_ALL → s.vinRet = true →
    ∃ t, exec c s = .next t ∧ t.mode = .wake ∧ t.getF Reg.DT_WAKE_CAUSE = cause ∧ t.getF Reg.MD_LOCKOUT_ALL = 0) ∧
  (∀ s : State, s.mode = .off → s.reach .spmi 0x1010 = true →
    s.getF Reg.MD_LOCKOUT_ALL - (s.getF Reg.MD_LOCKOUT_ALL &&& wakeReleases) ≠ 0 ∨ s.vinRet = false →
    ∃ t, exec (.wakeReq .spmi) s = .next t ∧ t.mode = .off ∧
      t.getF Reg.MD_LOCKOUT_ALL = s.getF Reg.MD_LOCKOUT_ALL - (s.getF Reg.MD_LOCKOUT_ALL &&& wakeReleases) ∧
      t.getF Reg.MD_STATUS_LOCKOUT = b2n (t.getF Reg.MD_LOCKOUT_ALL != 0) ∧
      (t.getF Reg.MD_LOCKOUT_ALL ≠ 0 → t.getF Reg.MD_LOCKOUT_REASON = lockPick (t.getF Reg.MD_LOCKOUT_ALL)) ∧
      RegsKept [Reg.MD_LOCKOUT_ALL, Reg.MD_STATUS_LOCKOUT, Reg.MD_LOCKOUT_REASON, Reg.MD_LOCKOUT_RAIL, Reg.DT_SVC_LEFT_S] s t ∧
      t = { s with regs := t.regs }) ∧
  (∀ (s : State) (p : Path), p = .cxl ∨ s.mode ≠ .off → ∃ t, exec (.wakeReq p) s = .next t ∧ RegsKept [Reg.DT_SVC_LEFT_S] s t ∧
    t = { s with regs := t.regs }) ∧
  (∀ (s : State) (p : Path), s.reach p 0x1010 = true → s.lockHas 6 = true ∨ s.lockHas 7 = true → s.therm.tempOk = false →
    ∃ t, exec (.latchClr p) s = .next t ∧ t.bur.latchClr = true ∧ t.getF Reg.MD_LOCKOUT_ALL = s.getF Reg.MD_LOCKOUT_ALL ∧
      RegsKept [Reg.DT_SVC_LEFT_S] s t ∧ t = { s with bur := { s.bur with latchClr := true }, regs := t.regs }) ∧
  (∀ (s : State) (p : Path), s.reach p 0x1010 = true → s.mode = .off → s.lockHas 6 = true ∨ s.lockHas 7 = true →
    s.therm.tempOk = true → s.getF Reg.MD_LOCKOUT_ALL &&& 0x60 = s.getF Reg.MD_LOCKOUT_ALL → s.vinRet = true →
    ∃ t, exec (.latchClr p) s = .next t ∧ t.mode = .wake ∧ t.getF Reg.DT_WAKE_CAUSE = 5 ∧ t.getF Reg.MD_LOCKOUT_ALL = 0) ∧
  (∀ (s : State) (temps : List Int), s.mode = .off → s.lockHas 6 = true ∨ s.lockHas 7 = true →
    (∃ x ∈ temps, 10 * ((s.thresholds.getD 3 0 : Int) - s.thHyst) ≤ x) →
    exec (.thermalLockoutScan temps) s = .next { s with therm := { s.therm with tempOk := false } }) ∧
  (∀ (s : State) (temps : List Int), s.mode = .off → s.lockHas 6 = true ∨ s.lockHas 7 = true →
    (∀ x ∈ temps, x < 10 * ((s.thresholds.getD 3 0 : Int) - s.thHyst)) → s.therm.offAt + 60000 ≤ s.ms →
    s.getF Reg.MD_LOCKOUT_ALL &&& 0x60 = s.getF Reg.MD_LOCKOUT_ALL → s.vinRet = true →
    ∃ t, exec (.thermalLockoutScan temps) s = .next t ∧ t.mode = .wake ∧ t.getF Reg.DT_WAKE_CAUSE = 5 ∧ t.getF Reg.MD_LOCKOUT_ALL = 0)

/-- VIN_COMPARATOR_FIRE, PREDICTOR_FIRE, PFW_N_FIRE and BRIDGE_EXPIRY in RUN: with no bridge window configured a qualifying source starts a
burrow, with one it opens the window, whose end is a burrow of its own (R49 to R55, R61). -/
def Obligations.TriggersInRun : Prop :=
  (∀ (s : State) (c : Instr) (k : Cause),
    (c = .predictorFire ∧ s.getB Reg.MD_CFG_PRED_EN = true ∧ k = .pred) ∨ (c = .pfwNFire ∧ s.getB Reg.MD_CFG_PFW_EN = true ∧ s.rail.vioOk = true ∧ k = .pfw) ∨
      (c = .vinComparatorFire false ∧ s.getB Reg.PS_STATUS_CMP_A = false ∧ k = .vinA) ∨
      (c = .vinComparatorFire true ∧ s.getB Reg.PS_STATUS_CMP_B = false ∧ k = .vinB) →
    s.mode = .run → s.getB Reg.MD_STATUS_LRST_ACT = false → s.bur.trig = false → s.getB Reg.MD_STATUS_BRIDGE = false →
    ∃ t, exec c s = .next t ∧ t.getF Reg.MD_CAUSE_CAUSES = 2 ^ k.bit ∧ t.getF Reg.ES_STATUS_AUDIT_BUSY = 0 ∧
      (s.getF Reg.MD_CFG_BRIDGE_MS = 0 → t.bur = { s.bur with trig := true } ∧ t.getF Reg.MD_STATUS_BRIDGE = 0 ∧
        t.getF Reg.MD_STATUS_NOABANDON = (if s.getB Reg.MD_ABANDON_FORCE_NEXT then 1 else 0) ∧
        t.getF Reg.MD_CAUSE_BURROW_COUNT = min 0xFFFF (s.getF Reg.MD_CAUSE_BURROW_COUNT + 1) ∧ t.ev = s.ev) ∧
      (0 < s.getF Reg.MD_CFG_BRIDGE_MS → t.bur = { s.bur with bridgeAt := s.ms } ∧ t.getF Reg.MD_STATUS_BRIDGE = 1 ∧
        t.getF Reg.MD_STATUS_NOABANDON = s.getF Reg.MD_STATUS_NOABANDON ∧
        t.getF Reg.MD_CAUSE_BURROW_COUNT = s.getF Reg.MD_CAUSE_BURROW_COUNT ∧ t.ev.seq = s.ev.seq + 1) ∧
      (k = .vinA → t.getB Reg.PS_STATUS_CMP_A = true) ∧ (k = .vinB → t.getB Reg.PS_STATUS_CMP_B = true) ∧
      (k = .vinA ∨ k = .vinB → t.getF Reg.PS_STATUS_VIN_RET = 0) ∧ (k = .pfw → t.pins.pfwN = false) ∧
      RegsKept (Reg.MD_CAUSE_CAUSES :: Reg.MD_STATUS_BRIDGE :: Reg.MD_STATUS_NOABANDON :: Reg.MD_CAUSE_BURROW_COUNT :: Reg.ES_STATUS_AUDIT_BUSY :: Reg.ES_AUDIT2_RESULT ::
        Reg.PS_STATUS_CMP_A :: Reg.PS_STATUS_CMP_B :: Reg.PS_STATUS_VIN_RET :: evFlds) s t ∧
      t = { s with bur := t.bur, ev := t.ev, regs := t.regs, store := t.store, rail := t.rail, pins := t.pins }) ∧
  (∀ s : State, s.getB Reg.MD_STATUS_BRIDGE = true → s.mode = .run → s.getB Reg.MD_STATUS_LRST_ACT = false → s.bur.trig = false →
    ∃ t, exec .bridgeExpiry s = .next t ∧ t.getF Reg.MD_CAUSE_CAUSES = (s.getF Reg.MD_CAUSE_CAUSES ||| 2 ^ Cause.bridge.bit) % 1024 ∧
      t.bur = { s.bur with trig := true } ∧ t.getF Reg.MD_STATUS_BRIDGE = 0 ∧
      t.getF Reg.MD_STATUS_NOABANDON = (if s.getB Reg.MD_ABANDON_FORCE_NEXT then 1 else 0) ∧
      t.getF Reg.MD_CAUSE_BURROW_COUNT = min 0xFFFF (s.getF Reg.MD_CAUSE_BURROW_COUNT + 1) ∧
      RegsKept (Reg.MD_CAUSE_CAUSES :: Reg.MD_STATUS_BRIDGE :: Reg.MD_STATUS_NOABANDON :: Reg.MD_CAUSE_BURROW_COUNT :: Reg.ES_STATUS_AUDIT_BUSY :: Reg.ES_AUDIT2_RESULT ::
        evFlds) s t ∧
      t = { s with bur := t.bur, ev := t.ev, regs := t.regs, store := t.store })

/-- VX_HOST_BURROW, BRIDGE_CLOSE, VIN_CMP_RELEASE and VIN_CMP_MISMATCH (R50, R51, R54, R120, R339). -/
def Obligations.HostBurrowAndVin : Prop :=
  (∀ (s : State) (target : Nat), s.getB Reg.HL_STATUS_LINK_UP = true → s.mboxFree = true → target ≤ 1 → s.mode = .run →
    s.getB Reg.MD_STATUS_LRST_ACT = false → s.bur.trig = false → s.getB Reg.MD_STATUS_BRIDGE = false → s.twinUp = false →
    ∃ t, exec (.vxHostBurrow 0x4255 target 0) s = .next t ∧ t.host.mbox = ⟨0xC002, 0, .none⟩ ∧ t.getF Reg.MD_CAUSE_CAUSES = 2 ^ Cause.host.bit ∧
      t.bur = { s.bur with trig := true, offReq := s.bur.offReq || target == 1 } ∧ t.getF Reg.MD_STATUS_NOABANDON = 1 ∧
      t.getF Reg.MD_CAUSE_BURROW_COUNT = min 0xFFFF (s.getF Reg.MD_CAUSE_BURROW_COUNT + 1) ∧ t.ev = s.ev ∧
      RegsKept (Reg.MD_CAUSE_CAUSES :: Reg.MD_STATUS_BRIDGE :: Reg.MD_STATUS_NOABANDON :: Reg.MD_CAUSE_BURROW_COUNT :: Reg.ES_STATUS_AUDIT_BUSY :: Reg.ES_AUDIT2_RESULT ::
        mboxFlds) s t ∧
      t = { s with bur := t.bur, regs := t.regs, store := t.store, host := { s.host with mbox := t.host.mbox } }) ∧
  (∀ (s : State) (confirm target reserved : Nat), s.getB Reg.HL_STATUS_LINK_UP = true → s.mboxFree = true →
    confirm ≠ 0x4255 ∨ 1 < target ∨ reserved ≠ 0 →
    ∃ t, exec (.vxHostBurrow confirm target reserved) s = .next t ∧ t.host.mbox = ⟨0xC002, rcInput, .none⟩ ∧ RegsKept mboxFlds s t ∧
      t = { s with regs := t.regs, host := { s.host with mbox := t.host.mbox } }) ∧
  (∀ s : State, s.getB Reg.MD_STATUS_BRIDGE = true → s.vinRet = true → s.twinOn = false →
    ∃ t, exec .bridgeClose s = .next t ∧ t.getF Reg.MD_STATUS_BRIDGE = 0 ∧ t.ev.seq = s.ev.seq + 1 ∧
      RegsKept (Reg.MD_STATUS_BRIDGE :: evFlds) s t ∧ t = { s with regs := t.regs, ev := t.ev }) ∧
  (∀ s : State, s.getB Reg.PS_STATUS_CMP_A = true →
    ∃ t, exec (.vinCmpRelease false) s = .next t ∧ t.getF Reg.PS_STATUS_CMP_A = 0 ∧
      t.getF Reg.PS_STATUS_VIN_RET = (if s.getB Reg.PS_STATUS_CMP_B then s.getF Reg.PS_STATUS_VIN_RET else 1) ∧
      RegsKept [Reg.PS_STATUS_CMP_A, Reg.PS_STATUS_VIN_RET] s t ∧ t = { s with regs := t.regs, rail := { s.rail with rose := t.rail.rose } }) ∧
  (∀ s : State, s.getB Reg.PS_STATUS_CMP_B = true →
    ∃ t, exec (.vinCmpRelease true) s = .next t ∧ t.getF Reg.PS_STATUS_CMP_B = 0 ∧
      t.getF Reg.PS_STATUS_VIN_RET = (if s.getB Reg.PS_STATUS_CMP_A then s.getF Reg.PS_STATUS_VIN_RET else 1) ∧
      RegsKept [Reg.PS_STATUS_CMP_B, Reg.PS_STATUS_VIN_RET] s t ∧ t = { s with regs := t.regs, rail := { s.rail with rose := t.rail.rose } }) ∧
  (∀ s : State, s.getB Reg.PS_STATUS_CMP_A ≠ s.getB Reg.PS_STATUS_CMP_B →
    exec .vinCmpMismatch s = .next (s.raise .keeper 0x10 .warning (if s.getB Reg.PS_STATUS_CMP_B then 1 else 0)))

/-- POR, AON_POWER_LOSS, KRST and VKEEP_GOOD: what a loss of power leaves, what the keeper comes up with, and the boot stage (R16, R47,
R305, R352, R445). -/
def Obligations.ResetsAndBoot : Prop :=
  (∀ (s : State) (v : Bool), ∃ t, exec (.por v) s = .next t ∧ t.mode = (if v then .wake else .off) ∧ t.tsSet = false ∧ t.dram.cells = [] ∧
    t.cover.ledger = [] ∧ t.host.lsa = s.host.lsa ∧ t.keep.recs = s.keep.recs ∧ t.ev.arch = s.ev.arch ∧ t.nand.blocks = s.nand.blocks ∧
    t.otp.ident = s.otp.ident ∧ (v = true → t.getF Reg.DT_WAKE_CAUSE = 0 ∧ t.getF Reg.PS_STATUS_VIN_RET = 1) ∧
    (v = false → ∀ f : Fld, f.key ≠ Reg.PS_STATUS_VIN_RET.key → t.getF f = f.rst % 2 ^ f.w)) ∧
  (∀ s : State, s.storeOk = false → ∃ t, exec .aonPowerLoss s = .next t ∧ t.mode = .off ∧ (∀ f : Fld, t.getF f = f.rst % 2 ^ f.w) ∧ t.dram.cells = [] ∧
    t.host.lsa = s.host.lsa ∧ t.keep.recs = s.keep.recs ∧ t.keep.jq = [] ∧ t.otp.ident = s.otp.ident) ∧
  (∀ s : State, s.storeOk = true → exec .aonPowerLoss s = .next s) ∧
  (∀ (s : State) (b : BootInfo), s.pd 10 = true → ∃ t, exec (.krst b) s = .next t ∧ t.mode = s.mode ∧ t.dram = s.dram ∧ t.cover = s.cover ∧
    t.bur = s.bur ∧ t.nand = s.nand ∧ t.host.auth = ⟨none, none, []⟩ ∧ t.keep.up = (s.bankOk 0 b.ok0 || s.bankOk 1 b.ok1) ∧
    t.keep.fwVer0 = b.ver0 ∧ t.keep.fwVer1 = b.ver1 ∧ t.keep.jq = [] ∧ t.keep.progs = [] ∧ t.cxl.efDone = true ∧ t.spmiP.unlock = 0) ∧
  (∀ (s : State) (vio : Nat), s.mode = .wake → s.getF Reg.SQ_STATUS_SEQ = 1 → s.entSt 16 = 0 →
    ∃ t, exec (.vkeepGood vio) s = .next t ∧ t.mode = .wake ∧ t.entSt 9 = (if s.entSt 9 = 3 then 3 else 2) ∧ t.entSt 16 = 2 ∧
      t.rail.vioOk = decide (1500 ≤ vio) ∧ t.getF (Reg.PS_SET_VSET 9) = 1000 ∧
      (1500 ≤ vio → t.getF (Reg.PS_SET_VSET 17) = (if vio ≤ 2500 then 1800 else 3300)) ∧ t.dram.cells = s.dram.cells ∧ t.keep.recs = s.keep.recs)

/-- LRST_REQUEST, DRAIN_DONE, DRAIN_TIMEOUT, LAMP_RELEASE and WRITE_PATH_OPEN: the lamp-die reset (R44, R69, R70, R71, Table 2-9), and
HW_CUT (R386). -/
def Obligations.LampDieReset : Prop :=
  (∀ s : State, s.mode = .run → s.bur.trig = false → exec .lrstRequest s = .next (s.setF Reg.MD_STATUS_LRST_ACT 1)) ∧
  (∀ s : State, s.mode = .wake → s.pd 1 = true → ∃ t, exec .lrstRequest s = .next t ∧ t.mode = .wake ∧ t.cover.ledger = [] ∧
    t.dram.trained = false ∧ t.dram.cells = s.dram.cells ∧ t.dram.poison = s.dram.poison ∧
    t.getF Reg.DT_WAKE_STEP = min 6 (s.getF Reg.DT_WAKE_STEP)) ∧
  (∀ s : State, s.draining = true → (∀ e ∈ s.dram.wbuf, s.lineFailed e.line = false) → (∀ x ∈ s.dram.sub, x.2.replay = none) →
    ∃ t, exec .drainDone s = .next t ∧ t.mode = .run ∧ t.dram.cells = s.image ∧ t.dram.wbuf = [] ∧ t.dram.poison = s.dram.poison ∧
    ((∀ c ∈ s.bur.ctx, c.2.kind ≠ .trickle) → s.domState 1 ≠ 0 → t.cover.ledger = s.cover.ledger) ∧ t.host.staged = [] ∧ t.host.reads = [] ∧ t.getF Reg.DC_STATUS_HOLD = 1 ∧
    t.getF Reg.DC_STATUS_CH0_STATE = (if s.chanFailed 0 then 6 else 3) ∧ t.bur.released = false) ∧
  (∀ s : State, s.draining = true → s.bur.trig = false → s.getB Reg.MD_STATUS_BRIDGE = false → ∃ t, exec .drainTimeout s = .next t ∧
    t.bur.trig = true ∧ t.bur.latched = [] ∧ t.getF Reg.MD_STATUS_LRST_ACT = 0 ∧ (t.getF Reg.MD_CAUSE_CAUSES).testBit Cause.lamp.bit = true ∧
    (s.bur.latched = [] → t.getF Reg.MD_CAUSE_CAUSES = 2 ^ Cause.lamp.bit) ∧
    t.getF Reg.MD_LOCKOUT_ALL = (s.getF Reg.MD_LOCKOUT_ALL ||| 0x100) % 512 ∧ s.ev.seq + 2 ≤ t.ev.seq ∧ t.dram = s.dram ∧ t.cover = s.cover) ∧
  (∀ s : State, s.inLrst = true → ∃ t, exec (.lampRelease none) s = .next t ∧ t.bur.released = true ∧ t.pdState 2 ≠ 2 ∧
    (s.domWanted 2 = true → t.pdState 2 = b2n ((domSupplies 2).all (fun n => s.entSt n == 3))) ∧
    ((∀ k ∈ List.range 16, k ≠ 2 → s.domState k = s.pdState k) → RegsKept [Reg.PS_DOM_PD] s t ∧
      t = { s with bur := { s.bur with released := true }, regs := t.regs })) ∧
  (∀ (s : State) (w : Nat), s.inLrst = true → ∃ t, exec (.lampRelease (some w)) s = .next t ∧ t.bur.released = true ∧
    t.cover.doubtWriter = true ∧ t.cover.nDirty = s.nReported ∧ t.getF Reg.LG_STATUS_DOUBT = 1 ∧ t.getF Reg.LG_PARITY_ADDR = w % 2 ^ Reg.LG_PARITY_ADDR.w ∧
    t.pdState 2 ≠ 2 ∧ (∀ g, t.ledgerOf g = .dirty 0) ∧ (s.domState 1 ≠ 0 → t.dram = s.dram)) ∧
  (∀ s : State, s.inLrst = true → s.bur.released = true → ∃ t, exec .writePathOpen s = .next t ∧ t.getF Reg.MD_STATUS_LRST_ACT = 0 ∧
    t.getF Reg.DC_STATUS_HOLD = 0 ∧ t.getF Reg.DC_STATUS_CH0_STATE = (if s.chanFailed 0 then 6 else 2) ∧ t.bur.latched = [] ∧
    (s.bur.trig = false → s.bur.latched = [] → t.mode = .run ∧ t.bur.trig = false ∧ t.dram.cells = s.dram.cells) ∧
    (s.bur.latched ≠ [] → s.getF Reg.MD_CFG_BRIDGE_MS = 0 → t.mode = .burrow ∧ (s.rail.latched = [] → t.phase = .p0) ∧ t.bur.fenced = true ∧
      t.bur.version = t.nand.epoch ∧ t.dram.cells = (s.dram.cells.filter (fun x => !s.isStagingLine (x.1 / 64))))) ∧
  (∀ (s : State) (n : Nat), s.mode ≠ .off → n ≤ 8 → ∃ t, exec (.hwCut n) s = .next t ∧ t.mode = .off ∧ t.phase = .none ∧ t.dram.cells = [] ∧
    t.keep.jq = [] ∧ t.keep.recs = s.keep.recs ∧ (t.getF Reg.MD_LOCKOUT_ALL).testBit 6 = true ∧ t.getF Reg.MD_STATUS_LOCKOUT = 1)

/-- FENCE, SHED_STEP, P1_END, P1_LATE and BURROW_SWEEP_VISIT (R194, R200, R202 to R211, R222). -/
def Obligations.BurrowBegins : Prop :=
  (∀ s : State, s.bur.trig = true → s.twin.switching = false → s.mode = .run → s.getB Reg.MD_STATUS_LRST_ACT = false →
    ∃ t, exec .fence s = .next t ∧ t.mode = .burrow ∧ t.nand.epoch = s.nand.epoch + 1 ∧ t.bur.version = s.nand.epoch + 1 ∧
      t.bur.fenced = true ∧ t.bur.trig = false ∧ t.bur.pos = 0 ∧ t.getF Reg.BE_STATUS_ACTIVE = 1 ∧ t.nand.pages = s.nand.pages ∧
      t.nand.map = s.nand.map ∧ t.dram.cells = s.dram.cells.filter (fun x => !s.isStagingLine (x.1 / 64)) ∧
      (s.rail.latched = [] → t.phase = .p0 ∧ t.getF Reg.SQ_STATUS_QUEUED = 1 ∧ t.bur.staging = [] ∧
        t.dram.wbuf = s.dram.wbuf.filter (fun e => !s.isStagingLine e.line) ∧ t.host.ingress = s.host.ingress ∧
        t.host.staged = s.host.staged)) ∧
  (∀ (s : State) (k : Nat), s.mode = .burrow → s.bur.abn = .none → s.getF Reg.SQ_STATUS_SEQ = 0 → k < 3 →
    (s.getF Reg.SQ_STATUS_QUEUED).testBit k = true → s.getF Reg.SQ_STATUS_QUEUED % 2 ^ k = 0 → s.rail.downTo = 0 →
    (k = 2 → s.phase = .p3) →
    ∃ t, exec (.shedStep k) s = .next t ∧ t.mode = .burrow ∧ t.phase = (if s.phase = .p0 then .p1 else s.phase) ∧
      t.getF Reg.BE_STATUS_SHED = k ∧ t.getF Reg.SQ_STATUS_STEP = k ∧ t.dram.cells = s.dram.cells ∧ t.nand.map = s.nand.map ∧
      (k = 2 → t.getF Reg.DC_STATUS_HOLD = 1 ∧ t.getF Reg.DC_STATUS_CH0_STATE = s.heldState 0 ∧ t.bur.heldVer =
        (if s.dram.wbuf = [] ∧ s.getB Reg.BE_STATUS_P1_LATE = false ∧ s.bur.dramBad = [] ∧ s.bur.lampDead = false then s.bur.version else 0)) ∧
      (k < 2 → t.bur.heldVer = s.bur.heldVer ∧ t.getF Reg.DC_STATUS_HOLD = s.getF Reg.DC_STATUS_HOLD)) ∧
  (∀ s : State, s.mode = .burrow → s.phase = .p0 ∨ s.phase = .p1 → s.twin.fenceWait = false →
    ∃ t, exec .p1End s = .next t ∧ t.phase = .p2 ∧ t.cover.mirrorPend = [] ∧ t.bur = { s.bur with t2 := s.ms } ∧
      t = { s with phase := .p2, bur := t.bur, cover := { s.cover with mirror := t.cover.mirror, mirrorPend := [] } }) ∧
  (∀ s : State, s.mode = .burrow → s.getB Reg.BE_STATUS_ACTIVE = true → s.shedNo < 3 → s.dram.wbuf ≠ [] →
    exec .p1Late s = .next (s.setF Reg.BE_STATUS_P1_LATE 1)) ∧
  (∀ (s u : State) (m b : Bool) (g n : Nat), s.mode = .burrow → s.phase = .p2 → s.bur.abn = .none → s.bur.handoff.length ≤ 256 →
    s.bur.inSanitize = false → s.bur.faultTake = [] → s.bur.pass < s.passes → s.nextDirty = some g → s.bur.stopped = false →
    s.chanFailed (s.chanOf g) = false → s.bur.dramBad.contains (s.chanOf g) = false → (s.loadTurns.cacheParity b g).takeCtx = some (n, u) →
    ∃ t, exec (.burrowSweepVisit none m b) s = .next t ∧ (t.ctxOf n).st = .load ∧ (t.ctxOf n).kind = .burrow ∧ (t.ctxOf n).gran = g ∧
      (t.ctxOf n).ver = s.bur.version ∧ (t.ctxOf n).page = (u.ctxOf n).page ∧ t.bur.pos = g + 1 ∧ t.cover = s.cover ∧ t.nand.map = s.nand.map ∧
      t.getF Reg.BE_TAKEN_TAKEN = (s.getF Reg.BE_TAKEN_TAKEN + 1) % 2 ^ Reg.BE_TAKEN_TAKEN.w ∧
      t.getF Reg.NB_TCACHE_PAR_ERR = (if b = true ∧ g ∈ s.nand.tcache then min 0xFFFF (s.getF Reg.NB_TCACHE_PAR_ERR + 1) else
        s.getF Reg.NB_TCACHE_PAR_ERR)) ∧
  (∀ (s : State) (w : Nat) (m b : Bool), s.mode = .burrow → s.phase = .p2 → s.bur.abn = .none → s.bur.inSanitize = false →
    s.loadTurns.wordNext w = true →
    ∃ t, exec (.burrowSweepVisit (some w) m b) s = .next t ∧ t.getF Reg.LG_PARITY_ADDR = w % 2 ^ Reg.LG_PARITY_ADDR.w ∧
      t.getF Reg.LG_PARITY_COUNT = min 0xFF (s.getF Reg.LG_PARITY_COUNT + 1) ∧ t.cover.ledger = s.cover.ledger) ∧
  (∀ (s : State) (m b : Bool) (g : Nat), s.mode = .burrow → s.phase = .p2 → s.bur.abn = .none → s.bur.handoff.length ≤ 256 →
    s.bur.inSanitize = false → s.bur.faultTake = [] → s.bur.pass < s.passes → s.nextDirty = some g → s.bur.stopped = true →
    ∃ t, exec (.burrowSweepVisit none m b) s = .next t ∧ mfind g t.bur.staging = some ⟨0, true, false, false⟩ ∧ t.bur.pos = g + 1 ∧
      t.getF Reg.BE_LOST_LOST = (s.getF Reg.BE_LOST_LOST + 1) % 2 ^ Reg.BE_LOST_LOST.w ∧
      t.getF Reg.BE_TAKEN_TAKEN = (s.getF Reg.BE_TAKEN_TAKEN + 1) % 2 ^ Reg.BE_TAKEN_TAKEN.w ∧ t.cover = s.cover) ∧
  (∀ (s : State) (m : Bool), s.mode = .burrow → s.phase = .p2 → s.bur.abn = .none → s.bur.handoff.length ≤ 256 → s.bur.inSanitize = false →
    s.bur.faultTake = [] → s.bur.pass < s.passes → s.nextDirty = none →
    ∃ t, exec (.burrowSweepVisit none m false) s = .next t ∧ t.bur.pass = s.bur.pass + 1 ∧ t.bur.pos = 0 ∧ t.cover = s.cover ∧
      t.bur.staging = s.bur.staging ∧ t.regs = s.regs) ∧
  (∀ (s : State) (m b : Bool), s.mode = .burrow → s.phase = .p2 → s.bur.abn = .none → s.bur.inSanitize = true →
    ∃ t, exec (.burrowSweepVisit none m b) s = .next t ∧ t.bur.handoff = [] ∧ t.bur.staging = s.bur.staging ∧ t.cover = s.cover)

/-- PROGRAM_CONFIRM, PROGRAM_STATUS, LUN_NOT_READY, P2_END and P2_TIMEOUT (R213, R216 to R218, R223 to R225, R250). -/
def Obligations.BurrowPrograms : Prop :=
  (∀ (s : State) (n : Nat), (s.ctxOf n).st = .load → s.ctxReading n = false → 0 < s.bur.account → s.lunBusy (locLun (s.ctxOf n).page) = false →
    s.bur.abn = .none → s.lunUp (locLun (s.ctxOf n).page) = true → (s.mode = .run → s.keepsReady (locLun (s.ctxOf n).page) = true) →
    ∃ t, exec (.programConfirm n) s = .next t ∧ (t.ctxOf n).st = .prog ∧ (t.ctxOf n).gran = (s.ctxOf n).gran ∧
      mfind (s.ctxOf n).page t.nand.pages = some (s.copyPage (s.ctxOf n)) ∧ t.bur.account = s.bur.account - s.epNow ∧
      t = { s with bur := t.bur, nand := { s.nand with pages := t.nand.pages } }) ∧
  (∀ (s : State) (n : Nat), (s.ctxOf n).st = .prog → s.mode = .burrow → (s.ctxOf n).kind = .burrow →
    ∃ t, exec (.programStatus n true) s = .next t ∧
      mfind (s.ctxOf n).gran t.bur.staging = some ⟨(s.ctxOf n).page, false, (s.ctxOf n).poison, (s.ctxOf n).newUe⟩ ∧
      t.getF Reg.BE_LANDED_LANDED = (s.getF Reg.BE_LANDED_LANDED + 1) % 2 ^ Reg.BE_LANDED_LANDED.w ∧
      RegsKept [Reg.BE_LANDED_LANDED, Reg.BE_POISONED_POISONED] s t ∧ t.dram.cells = s.dram.cells ∧ t.nand.map = s.nand.map ∧
      t = { s with bur := t.bur, nand := t.nand, regs := t.regs, dram := { s.dram with wbuf := t.dram.wbuf } }) ∧
  (∀ (s : State) (n : Nat), (s.ctxOf n).st = .prog → s.mode ≠ .burrow → (s.ctxOf n).kind ≠ .none → (s.ctxOf n).kind ≠ .metaPage →
    ∃ t, exec (.programStatus n true) s = .next t ∧ t.ctxOf n = { s.ctxOf n with st := .check } ∧ t = { s with bur := t.bur }) ∧
  (∀ (s : State) (n : Nat), (s.ctxOf n).st = .prog → mfind (locLun (s.ctxOf n).page) s.nand.lastProgFail = none →
    ∃ t, exec (.programStatus n false) s = .next t ∧ (t.blkOf (locBlock (s.ctxOf n).page)).retiring = true ∧ t.mode = s.mode ∧
      mfind (s.ctxOf n).page t.nand.pages = none ∧ t.dram.cells = s.dram.cells ∧ t.nand.map = s.nand.map) ∧
  (∀ (s : State) (l : Nat), s.lunProg l = true → s.lunFailed l = false → s.lunPop l = true →
    ∃ t, exec (.lunNotReady l) s = .next t ∧ t.lunFailed l = true ∧ t.mode = s.mode ∧ t.dram.cells = s.dram.cells ∧ t.nand.map = s.nand.map) ∧
  (∀ s : State, s.mode = .burrow → s.phase = .p2 → s.bur.abn = .none → s.sweepDone = true →
    ∃ t, exec .p2End s = .next t ∧ t.phase = .p3 ∧ t.bur = { s.bur with t3 := s.ms } ∧
      t.getF Reg.BE_DUR_P2_MS = min 0xFFFF (s.ms - s.bur.t2) ∧ t.getF Reg.SQ_STATUS_QUEUED = (s.getF Reg.SQ_STATUS_QUEUED ||| 2) % 16 ∧
      RegsKept [Reg.BE_DUR_P2_MS, Reg.SQ_STATUS_QUEUED] s t ∧ t = { s with phase := .p3, bur := t.bur, regs := t.regs }) ∧
  (∀ s : State, s.mode = .burrow → s.phase = .p2 → s.bur.abn = .none → s.bur.stopped = false →
    ∃ t, exec .p2Timeout s = .next t ∧ t.bur.stopped = true ∧ t.getF Reg.BE_STATUS_ESTOP = 1 ∧ RegsKept [Reg.BE_STATUS_ESTOP] s t ∧
      t = { s with bur := { s.bur with stopped := true, ctx := t.bur.ctx }, regs := t.regs })

/-- P3_END, P3_TIMEOUT, JOURNAL_COMMIT and P4_TIMEOUT: the manifest closes or not, the LOST granules are marked, shed step 2 is signalled,
and the commit is recorded or deferred (R31, R96, R219 to R221, R244). -/
def Obligations.BurrowEnds : Prop :=
  (∀ (s u : State) (pages fails : List Nat), s.mode = .burrow → s.phase = .p3 → s.bur.abn = .none → s.bur.noManifest = false → 0 < s.bur.account →
    s.putManifest (manPieces s.manEntries s.voidEntries).length fails (manPieces s.manEntries s.voidEntries) 0 noLoc [] = some (u, pages) →
    ∃ t, exec (.p3End fails) s = .next t ∧ t.mode = .burrow ∧ t.phase = .p4 ∧ t.getF Reg.BE_STATUS_MAN_CLOSED = 1 ∧ t.bur.manLoc = pages.getLast? ∧
      t.bur.manPages = pages ∧ t.getF Reg.SQ_STATUS_QUEUED = (s.getF Reg.SQ_STATUS_QUEUED ||| 4) % 16 ∧ t.dram = s.dram ∧
      t.nand.pages = u.nand.pages ∧ t.nand.map = s.nand.map ∧ t.host = s.host) ∧
  (∀ (s : State) (n : Nat), s.mode = .burrow → s.phase = .p3 → s.bur.abn = .none →
    ∃ t, exec (.p3Timeout n) s = .next t ∧ t.mode = .burrow ∧ t.phase = .p4 ∧ t.bur.manLoc = s.bur.manLoc ∧ t.bur.t4 = s.ms ∧
      t.bur.manPages.length ≤ max n s.bur.manPages.length ∧
      t.getF Reg.BE_STATUS_MAN_CLOSED = s.getF Reg.BE_STATUS_MAN_CLOSED ∧ t.getF Reg.BE_DUR_P3_MS = min 0xFF (s.ms - s.bur.t3) ∧
      t.getF Reg.SQ_STATUS_QUEUED = (s.getF Reg.SQ_STATUS_QUEUED ||| 4) % 16 ∧ t.dram = s.dram ∧ t.nand.map = s.nand.map ∧ t.host = s.host ∧
      (n = 0 ∨ s.bur.noManifest = true → t.nand = s.nand)) ∧
  (∀ s : State, s.inP4 = true → s.keep.up = true → s.jDead = false →
    ∃ t, exec .journalCommit s = .next t ∧ (s.vinRet = false → t.mode = .burrow ∧ t.phase = .p5 ∧ t.bur.committed = true ∧
      t.getF Reg.NB_MANPTR_LOC = s.bur.manLoc.getD noLoc % 2 ^ 32 ∧
      t.getF Reg.HL_DSC_DSC = (if s.burrowLoss then (s.getF Reg.HL_DSC_DSC + 1) % 2 ^ Reg.HL_DSC_DSC.w else s.getF Reg.HL_DSC_DSC) ∧
      (s.burrowLoss = false → t.getF Reg.HL_SHUTDOWN_DIRTY = 0 ∧ t.getF Reg.HL_SHUTDOWN_SELF_CLEAN = 1) ∧
      t.nand.live = s.nand.live ++ s.bur.manPages ++ (s.bur.staging.filter (fun x => !x.2.lost)).map (·.2.page) ∧
      t.nand.pages = s.nand.pages ∧ t.dram = s.dram)) ∧
  (∀ s : State, s.mode = .burrow → s.phase = .p4 → s.bur.manLoc.isSome = true → s.bur.committed = false →
    ∃ t, exec .p4Timeout s = .next t ∧ (s.vinRet = false → t.mode = .burrow ∧ t.phase = .p5 ∧ t.bur.committed = false ∧
      t.getF Reg.BE_STATUS_DEFERRED = 1 ∧ t.getF Reg.NB_MANPTR_LOC = s.getF Reg.NB_MANPTR_LOC ∧ t.nand = s.nand ∧ t.dram = s.dram ∧
      t.keep = s.keep ∧ t.host.ingress = [] ∧ t.host.staged = [] ∧ t.host.reads = []))

/-- VIN_RETURN_DEBOUNCED, ABANDON_RECORD_WRITTEN, ABANDON_UP_DONE, ABANDON_LINK_WAIT_EXPIRY and ABANDON_WINDOW_EXPIRY: wake on return, the
end of DEN and the abandon of a burrow (R57 to R61, R68, Table 13-11). -/
def Obligations.AbandonSteps : Prop :=
  (∀ s : State, s.vinLoss = true → exec .vinReturnDebounced s = .next s) ∧
  (∀ s : State, s.vinLoss = false → s.mode = .off → s.getB Reg.MD_CFG_WAKE_ON_RET = true → s.lockFree = true →
    ∃ t, exec .vinReturnDebounced s = .next t ∧ t.mode = .wake ∧ t.phase = .none ∧ t.getF Reg.DT_WAKE_CAUSE = 1 ∧ t.bur.trig = false ∧
      t.getF Reg.PS_STATUS_VIN_RET = 1 ∧ t.store.auditDue = true ∧ t.rst.wakeAt = s.ms) ∧
  (∀ s : State, s.vinLoss = false → s.mode = .den → s.getF Reg.SQ_STATUS_SEQ ≠ 4 →
    ∃ t, exec .vinReturnDebounced s = .next t ∧ t.mode = .wake ∧ t.getF Reg.DT_WAKE_CAUSE = 4 ∧ t.dram.cells = s.dram.cells ∧
      t.bur.heldVer = s.bur.heldVer) ∧
  (∀ s : State, s.vinLoss = false → s.mayAbandon = true →
    ∃ t, exec .vinReturnDebounced s = .next t ∧ t.mode = .burrow ∧ t.bur.abn = .finishing ∧ t.getF Reg.BE_STATUS_ABANDONING = 1 ∧
      t.getF Reg.PS_STATUS_VIN_RET = 1 ∧ t.getF Reg.MD_ABANDON_ABN_TOTAL = min 0xFFFF (s.getF Reg.MD_ABANDON_ABN_TOTAL + 1) ∧
      t.bur.stopped = true ∧ (∀ x ∈ t.bur.staging, x.2.lost = false) ∧ t.dram.cells = s.dram.cells ∧ t.cover = s.cover) ∧
  (∀ s : State, s.vinLoss = false → s.mayAbandon = false → s.mode = .run ∨ s.mode = .burrow →
    ∃ t, exec .vinReturnDebounced s = .next t ∧ t.getF Reg.PS_STATUS_VIN_RET = 1 ∧ RegsKept [Reg.PS_STATUS_VIN_RET] s t ∧
      (s.goingDown = true → t.rail.rose = true) ∧
      t = { s with regs := t.regs, pins := t.pins, rail := { s.rail with rose := t.rail.rose, back := s.rail.back || s.goingDown } }) ∧
  (∀ s : State, s.mode = .burrow → s.bur.abn = .finishing → s.ctxCount (fun c => c.st == .prog || c.st == .check) = 0 →
    ∃ t, exec .abandonRecordWritten s = .next t ∧ t.mode = .burrow ∧ t.bur.manPages = [] ∧
      ((∀ n ∈ railEntries, s.broken n = false) → t.bur.abn = .powering) ∧
      ((∀ n ∈ railEntries, s.broken n = false) → s.getF Reg.SQ_STATUS_SEQ = 3 → t.rail.downTo = 5 ∧ t.getF Reg.SQ_STATUS_QUEUED = 0 ∧ t.getF Reg.SQ_STATUS_SEQ = 3 ∧
        t.dram = s.dram ∧ t.cover = s.cover) ∧
      ((∀ n ∈ railEntries, s.broken n = false) → s.getF Reg.SQ_STATUS_SEQ ≠ 3 → t.getF Reg.BE_STATUS_SHED = 15 ∧ t.getF Reg.SQ_STATUS_QUEUED = 0 ∧ t.dram.cells = s.dram.cells)) ∧
  (∀ s : State, s.abnPowered = true → s.linkAwaited = true →
    exec .abandonUpDone s = .next { s with bur := { s.bur with abn := .settling } }) ∧
  (∀ s : State, s.abnPowered = true → s.linkAwaited = false →
    ∃ t, exec .abandonUpDone s = .next t ∧ t.mode = .run ∧ t.phase = .none ∧ t.bur.abn = .none ∧ t.bur.fenced = false ∧
      t.getF Reg.BE_STATUS_ABANDONING = 0 ∧ t.getF Reg.BE_STATUS_ACTIVE = 0) ∧
  (∀ s : State, s.mode = .burrow → s.bur.abn = .settling →
    ∃ t, exec .abandonLinkWaitExpiry s = .next t ∧ t.mode = .run ∧ t.phase = .none ∧ t.bur.abn = .none ∧ t.bur.fenced = false ∧
      t.getF Reg.BE_STATUS_ABANDONING = 0 ∧ t.getF Reg.BE_STATUS_ACTIVE = 0) ∧
  (∀ s : State, exec .abandonWindowExpiry s = .next { s with bur := { s.bur with abnTimes := s.bur.abnTimes.drop 1 } })

/-- DEN_REBASE: while energy stands above the floor the image is held; at or below it the drop is recorded and the DRAM's image is gone
(R270, R271). -/
def Obligations.DenHold : Prop :=
  (∀ s : State, s.mode = .den → s.getF Reg.SQ_STATUS_SEQ ≠ 4 → s.rebaseBooks.denFloor < s.rebaseBooks.cover.eAvail →
    ∃ t, exec .denRebase s = .next t ∧ t.mode = .den ∧ t.dram = s.dram ∧ t.bur = s.bur ∧ t.nand = s.nand ∧ t.keep = s.keep ∧ t.host = s.host ∧
      t.getF Reg.MD_STATUS_DRAM_HELD = s.getF Reg.MD_STATUS_DRAM_HELD ∧ t.getF Reg.LG_STATUS_STALE = 0 ∧ t.getF Reg.LG_EAVAIL_HI_AGE_US = 0) ∧
  (∀ s : State, s.mode = .den → s.getF Reg.SQ_STATUS_SEQ ≠ 4 → s.rebaseBooks.cover.eAvail ≤ s.rebaseBooks.denFloor →
    ∃ t, exec .denRebase s = .next t ∧ t.dram.cells = [] ∧ t.bur.heldVer = 0 ∧ t.nand.pages = s.nand.pages ∧ t.nand.map = [] ∧
      t.getF Reg.MD_STATUS_DRAM_HELD = 0)

/-- DAYMARK_READ, DRAM_TRAINING_DONE and NAND_SCAN_DONE: steps 3 to 7 of a WAKE (R163, R263, R490, R492, R493, R495, R498, R499). -/
def Obligations.WakeSteps : Prop :=
  (∀ (s : State) (c0 c1 : Option DmkCopy) (sfdp x4 : Bool), s.dmkReady = true →
    dmkCause s.otp.dmkHash (s.rail.vioOk && s.entSt 17 == 3) c0 ≠ 0 → dmkCause s.otp.dmkHash (s.rail.vioOk && s.entSt 17 == 3) c1 ≠ 0 →
    ∃ t, exec (.daymarkRead c0 c1 sfdp x4) s = .next t ∧ (t.getF Reg.MD_LOCKOUT_ALL).testBit 0 = true ∧ t.dram.cells = [] ∧
      t.dmk.inForce = false ∧ t.bur.heldVer = 0 ∧ t.getF Reg.DT_DMKCRC_CRC = 0 ∧ t.otp = s.otp ∧
      t.getF Reg.DT_DMK_C0_CAUSE = dmkCause s.otp.dmkHash (s.rail.vioOk && s.entSt 17 == 3) c0 ∧
      t.getF Reg.DT_DMK_C1_CAUSE = dmkCause s.otp.dmkHash (s.rail.vioOk && s.entSt 17 == 3) c1) ∧
  (∀ (s : State) (c : DmkCopy) (sfdp x4 : Bool), s.dmkReady = true →
    dmkCause s.otp.dmkHash (s.rail.vioOk && s.entSt 17 == 3) (some c) = 0 → s.fitHonoured c = false →
    ∃ t, exec (.daymarkRead (some c) none sfdp x4) s = .next t ∧ (t.getF Reg.MD_LOCKOUT_ALL).testBit 1 = true ∧ t.dram.cells = [] ∧
      t.dmk.inForce = false ∧ t.otp = s.otp) ∧
  (∀ (s : State) (c : DmkCopy) (sfdp x4 : Bool), s.dmkReady = true →
    dmkCause s.otp.dmkHash (s.rail.vioOk && s.entSt 17 == 3) (some c) = 0 → s.fitHonoured c = true → s.blHonoured c.bl = true →
    ∃ t, exec (.daymarkRead (some c) none sfdp x4) s = .next t ∧
      t.dmk = { inForce := true, svcKey := c.svcKey, storeT := c.storeT, ltoOcv := c.ltoOcv, lockedLast := false } ∧
      t.otp.dmkHash = bindHash s.otp.dmkHash c.keyHash ∧ t.otp.ident = s.otp.ident ∧ t.getF Reg.DT_DMK_COPY = 0 ∧
      t.getF Reg.DT_DMK_C0_CAUSE = 0 ∧ t.getF Reg.DT_DMKCRC_CRC = c.crc % 2 ^ 32 ∧ t.getF Reg.DT_DMKVER_IMG_VER = c.imgVer % 2 ^ 32) ∧
  (∀ (s : State) (ok0 ok1 : Bool) (reads : List (Nat × NandRead)), s.mode = .wake → s.getF Reg.DT_WAKE_STEP = 6 → s.getF Reg.SQ_STATUS_SEQ ≠ 4 → s.lampUp = true →
    s.dmk.inForce = true →
    ∃ t, exec (.dramTrainingDone ok0 ok1 reads) s = .next t ∧ t.mode = .wake ∧ t.dram.trained = true ∧ t.getF Reg.DC_STATUS_HOLD = 0 ∧
      (ok0 = true → t.getF Reg.DC_STATUS_CH0_STATE = 2) ∧ (ok0 = false → t.chanFailed 0 = true) ∧
      t.getF Reg.DT_WAKE_STEP = (if t.auditWaits then 7 else 9) ∧
      (s.getB Reg.MD_STATUS_DRAM_HELD = true → s.dmkChanged = true → t.dram.cells = [] ∧ t.getF Reg.MD_STATUS_DRAM_HELD = 0) ∧
      (s.getB Reg.MD_STATUS_DRAM_HELD = false → t.dram.cells = []) ∧
      (s.getB Reg.MD_STATUS_DRAM_HELD = true → s.dmkChanged = false → t.dram.cells = s.dram.cells)) ∧
  (∀ (s : State) (l ces : List Nat) (reads : List (Nat × NandRead)), s.mode = .wake → 6 ≤ s.getF Reg.DT_WAKE_STEP → s.lampUp = true →
    s.dmk.inForce = true →
    ∃ t, exec (.nandScanDone l ces reads) s = .next t ∧ t.mode = .wake ∧ t.dram.cells = s.dram.cells ∧
      (s.getB Reg.NB_STATUS_SCAN = true → t.getF Reg.NB_STATUS_SCAN = 0) ∧
      (l = [] → ces = [] → reads = [] → s.getB Reg.NB_STATUS_SCAN = false → t.getB Reg.NB_STATUS_SCAN = s.scanForPtr) ∧
      (∀ n ∈ l, s.lunPop n = true → t.lunFailed n = true) ∧ (∀ c ∈ ces, s.lunPop (2 * c) = true → t.lunFailed (2 * c) = true) ∧
      (l = [] → ces = [] → reads = [] → s.getB Reg.NB_STATUS_SCAN = true → s.scanForPtr = true →
        t.getF Reg.NB_MANPTR_LOC = ((s.topManifest (fun _ => true)).map (·.1)).getD noLoc % 2 ^ 32 ∧
        t.getF Reg.NB_ROOTPTR_LOC = (s.topRoot.map (·.1)).getD noLoc % 2 ^ 32))

/-- RESTORE_DECISION: with no image the device goes to RUN on an empty cache, with the latest image held it verifies, else it restores in
full or in early service; after a KRST in an early service past media ready it goes on with the granules pending (log entry 41) (R66,
R67, R274, R275, R283, R285, R287). -/
def Obligations.RestoreDecided : Prop :=
  (∀ s : State, s.mayDecide = true → s.sanResume.deferCommit.imageNow = false →
    ∃ t, exec .restoreDecision s = .next t ∧ t.mode = .run ∧ t.getF Reg.MD_STATUS_RSTR_FORM = 0 ∧ t.dram.cells = [] ∧
      t.mediaReady = true ∧ t.getF Reg.DT_WAKE_STEP = 11 ∧ t.rst.decided = true ∧ (∀ g, t.mapOf g = noLoc)) ∧
  (∀ s : State, s.mayDecide = true → s.sanResume.deferCommit.imageNow = true → s.sanResume.deferCommit.heldNow = true →
    ∃ t, exec .restoreDecision s = .next t ∧ t.mode = .restore ∧ (s.mode = .wake → t.phase = .none) ∧ t.getF Reg.MD_STATUS_RSTR_FORM = 1 ∧ t.rst.loaded = true ∧
      t.rst.decided = true ∧ t.getF Reg.DT_WAKE_STEP = 10) ∧
  (∀ s : State, s.mayDecide = true → s.sanResume.deferCommit.imageNow = true → s.sanResume.deferCommit.heldNow = false →
    ∃ t, exec .restoreDecision s = .next t ∧ t.mode = .restore ∧
      t.getF Reg.MD_STATUS_RSTR_FORM = (if s.getB Reg.MD_CFG_EARLY_EN then 3 else 2) ∧ t.getF Reg.MD_STATUS_DRAM_HELD = 0 ∧
      t.bur.heldVer = 0 ∧ t.rst.decided = true) ∧
  (∀ s : State, s.mode = .restore → s.mediaReady = true → s.rst.loaded = true → s.rst.decided = false → s.keep.up = true → s.lampUp = true →
    s.getF Reg.SQ_STATUS_SEQ ≠ 4 → exec .restoreDecision s = .next { s with rst := { s.rst with decided := true } })

/-- MANIFEST_LOAD, GRANULE_FETCH_DONE, VERIFY_GRANULE and RESTORE_COMPLETE (R279, R280, R283, R284, R287, R289, R290). -/
def Obligations.RestoreRuns : Prop :=
  (∀ (s : State) (bad : List Nat), s.mode = .restore → s.rst.decided = true → s.rst.loaded = false → s.keep.up = true → s.lampUp = true →
    s.getF Reg.SQ_STATUS_SEQ ≠ 4 → s.getF Reg.MD_STATUS_RSTR_FORM = 2 ∨ s.getF Reg.MD_STATUS_RSTR_FORM = 3 →
    ∃ t, exec (.manifestLoad bad) s = .next t ∧ t.mode = .restore ∧ t.rst.loaded = true ∧ t.dram.cells = [] ∧ t.dram.poison = [] ∧
      t.dram.wbuf = [] ∧ (s.getF Reg.MD_STATUS_RSTR_FORM = 3 → t.mediaReady = true ∧ t.rst.pend = t.rst.todo) ∧
      (s.getF Reg.MD_STATUS_RSTR_FORM = 2 → t.regs = s.regs ∧ t.keep = s.keep)) ∧
  (∀ (s : State) (g : Nat) (rd : NandRead), s.restoring = true → s.getF Reg.MD_STATUS_RSTR_FORM ≠ 1 → s.fetchTurn g = true →
    ∃ t, exec (.granuleFetchDone g rd) s = .next t ∧ t.mode = s.mode ∧ t.rst.todo = sdel g s.rst.todo ∧ (s.rst.pend.contains g = false →
      (∀ p, pageGone rd = false → s.readPage (s.mapOf g) = some p → t.mapOf g = s.mapOf g ∧ t.cover = s.cover) ∧
      (pageGone rd = true → s.twinCopy g (s.mapOf g) = none → g < s.nUser → t.ledgerOf g = .lost ∧ t.mapOf g = lostLoc ∧ t.wholly g = true))) ∧
  (∀ (s : State) (g : Nat) (ue : List Nat) (rd : NandRead), s.restoring = true → s.getF Reg.MD_STATUS_RSTR_FORM = 1 → g < s.nUser →
    s.ledgerOf g ≠ .lost → s.chanFailed (s.chanOf g) = false → s.rst.pend.contains g = false →
    dataCrc (granCells s.image g (s.granPoison g ++ ue)) = s.sealOf g →
    ∃ t, exec (.verifyGranule g ue false rd) s = .next t ∧ t.rst = { s.rst with todo := sdel g s.rst.todo, pend := t.rst.pend, prio := sdel g s.rst.prio } ∧
      t.dram = s.dram ∧ t.nand = s.nand ∧ t.cover = s.cover ∧ t.mode = s.mode ∧ (ue = [] → t = { s with rst := t.rst })) ∧
  (∀ (s : State) (g : Nat) (ue : List Nat) (rd : NandRead), s.restoring = true → s.getF Reg.MD_STATUS_RSTR_FORM = 1 → g < s.nUser →
    s.ledgerOf g ≠ .lost → s.chanFailed (s.chanOf g) = false → 4096 ≤ s.rst.refetched →
    ∃ t, exec (.verifyGranule g ue true rd) s = .next t ∧ t.getF Reg.MD_STATUS_RSTR_FORM = 2 ∧ t.rst.loaded = false ∧ t.rst.todo = [] ∧
      t.getF Reg.MD_STATUS_DRAM_HELD = s.getF Reg.MD_STATUS_DRAM_HELD ∧ t.bur = s.bur ∧ t.dram = s.dram ∧ t.nand = s.nand ∧ t.cover = s.cover) ∧
  (∀ s : State, s.restoring = true → s.keep.up = true → s.rst.todo = [] → s.bur.trig = false →
    ∃ t, exec .restoreComplete s = .next t ∧ t.mode = .run ∧ t.mediaReady = true ∧ t.getF Reg.DT_WAKE_STEP = 11 ∧
      t.getF Reg.MD_STATUS_DRAM_HELD = 0 ∧ t.dram.cells = s.dram.cells.filter (fun x => !s.isStagingLine (x.1 / 64)) ∧
      t.nand.map = s.nand.map ∧ s.ev.seq < t.ev.seq)

/-- REBASE, REBASE_NOW, COVER_STALE, COVER_STALE_ERROR, LEDGER_SCRUB, DOUBT_WRITER_DONE and MIRROR_WRITE: the books and the ledger (R131,
R133, R141, R142, R144, R157). -/
def Obligations.CoverBooks : Prop :=
  (∀ (s : State) (c : Instr) (p : Path), c = .rebase ∨ (c = .rebaseNow p ∧ s.reach p 0x3058 = true) → s.coverRuns = true →
    ∃ t, exec c s = .next t ∧ t.mode = s.mode ∧ t.getF Reg.LG_STATUS_STALE = 0 ∧ t.getF Reg.LG_EAVAIL_HI_AGE_US = 0 ∧
      t.cover.eLimit = t.cover.eAvail * 1000 / (1000 + t.margin) ∧ t.dram.cells = s.dram.cells ∧ t.nand.pages = s.nand.pages ∧
      (s.host.ingress = [] → s.host.stage = none → s.isStandby = false → s.cover.doubtWriter = false → t.cover.nDirty = s.cover.nDirty ∧
        t.cover.eDebt = t.debtOf (if s.mode = .burrow then s.cover.nDirty - s.getF Reg.BE_LANDED_LANDED else s.cover.nDirty) ∧
        t.cover.ledger = s.cover.ledger ∧ t.host = s.host)) ∧
  (∀ s : State, s.lampUp = true → ∃ t, exec .coverStale s = .next t ∧ t.cover.eLimit = 0 ∧ t.getF Reg.LG_STATUS_STALE = 1 ∧
    (0 < s.cover.eDebt + s.cover.eg → t.energyOk = false) ∧ RegsKept [Reg.LG_STATUS_STALE] s t ∧
    t = { s with regs := t.regs, cover := { s.cover with eLimit := 0 } }) ∧
  (∀ s : State, s.lampUp = true → s.getB Reg.LG_STATUS_STALE = true →
    exec .coverStaleError s = .next (s.raise .lamp 0x20 .error 0)) ∧
  (∀ (s : State) (word : Nat), s.lampUp = true → word < 262144 → s.mode = .run →
    exec (.ledgerScrub word false) s = .next s ∧
    ∃ t, exec (.ledgerScrub word true) s = .next t ∧ (∀ g, g < s.nReported → t.ledgerOf g = .dirty 0) ∧ t.cover.doubtWriter = true ∧
      t.coverOk = true ∧ t.cover.nDirty = s.nReported ∧ t.getF Reg.LG_STATUS_DOUBT = 1 ∧ t.getF Reg.LG_PARITY_ADDR = word ∧
      t.ev.seq = s.ev.seq + 1 ∧ RegsKept (Reg.LG_STATUS_DOUBT :: Reg.LG_PARITY_ADDR :: Reg.LG_PARITY_COUNT :: evFlds) s t ∧
      t = { s with regs := t.regs, cover := t.cover, ev := t.ev }) ∧
  (∀ s : State, s.cover.doubtWriter = true →
    exec .doubtWriterDone s = .next { s with cover := { s.cover with
      doubtWriter := false, nDirty := s.nReported, eDebt := s.eFixed + s.cover.eBridge * 10 + s.nReported * s.cover.eg } }) ∧
  (∀ (s : State) (g : Nat), ∃ t, exec (.mirrorWrite g) s = .next t ∧ (∀ x ∈ t.cover.mirrorPend, x.1 ≠ g) ∧
    mget t.cover.mirrorDflt t.cover.mirror g =
      (((s.cover.mirrorPend.filter (fun x => x.1 == g)).getLast?).map (·.2)).getD (mget s.cover.mirrorDflt s.cover.mirror g) ∧
    t.cover.ledger = s.cover.ledger ∧ t = { s with cover := { s.cover with mirror := t.cover.mirror, mirrorPend := t.cover.mirrorPend } })

/-- TRICKLE_MODE, SWEEP_VISIT, COPY_MAPPED, CAL_SAMPLE, CLEAN_ALL, STOP_CLEAN_ALL and CONTEXT_ARM (R37, R38, R137, R152, R153, R156, R198,
R252). -/
def Obligations.TrickleWorks : Prop :=
  (∀ s : State, s.mode = .run → s.lampUp = true → s.bur.fenced = false →
    ∃ t, exec .trickleMode s = .next t ∧ t.trkMode = s.chooseTrickle % 4 ∧ t.cover.ledger = s.cover.ledger ∧ t.dram.cells = s.dram.cells ∧
      RegsKept (Reg.LG_STATUS_TRK_MODE :: Reg.NB_STATUS_EA_MODE :: Reg.NB_TCACHE_MISSES :: evFlds) s t ∧
      (s.getB Reg.LG_STATUS_DOUBT = true ∨ s.getB Reg.LG_STATUS_SHORTFALL = true ∨ s.getB Reg.LG_STATUS_STALE = true ∨
        s.getF Reg.ES_STATUS_STORE = 0 ∨ s.getB Reg.LG_STATUS_CLEAN_ALL = true ∨ s.waiting = true → t.trkMode = 2) ∧
      (t.trkMode = 0 → t.cover.target = none)) ∧
  (∀ (s : State) (a : Nat), s.mode = .run → s.lampUp = true → s.bur.fenced = false → s.trkMode ≠ 0 → s.nand.refreshQ = [] →
    s.trickleFree = true → s.ledgerOf (s.getF Reg.LG_TRKSTAT_HAND) = .dirty a → s.cover.target ≠ some a → s.cover.doubtWriter = false →
    ∃ t, exec .sweepVisit s = .next t ∧ t.ledgerOf (s.getF Reg.LG_TRKSTAT_HAND) = .dirty (if a < 3 then a + 1 else a) ∧
      (∀ g, g ≠ s.getF Reg.LG_TRKSTAT_HAND → t.ledgerOf g = s.ledgerOf g) ∧ t.cover.nDirty = s.cover.nDirty ∧
      (s.getF Reg.LG_TRKSTAT_HAND + 1 < s.nUser → t.getF Reg.LG_TRKSTAT_HAND = s.getF Reg.LG_TRKSTAT_HAND + 1) ∧
      RegsKept [Reg.LG_TRKSTAT_HAND] s t ∧ t = { s with regs := t.regs, cover := t.cover }) ∧
  (∀ (s : State) (n : Nat), (s.ctxOf n).st = .check → (s.ctxOf n).kind = .trickle ∨ (s.ctxOf n).kind = .refresh ∨ (s.ctxOf n).kind = .reloc →
    s.bur.fenced = false →
    ∃ t, exec (.copyMapped n true) s = .next t ∧ t.dram.cells = s.dram.cells ∧ t.mode = s.mode ∧
      (s.mayMap (s.ctxOf n).gran (s.ctxOf n).ver = true → t.mapOf (s.ctxOf n).gran = (s.ctxOf n).page) ∧
      (s.mayMap (s.ctxOf n).gran (s.ctxOf n).ver = false → t.nand.map = s.nand.map) ∧ ((s.ctxOf n).kind = .trickle → (s.ctxOf n).gran < s.nUser →
      (s.ledgerOf (s.ctxOf n).gran = .cleaning → t.ledgerOf (s.ctxOf n).gran = .clean ∧ t.cover.nDirty = s.cover.nDirty - 1 ∧
        t.cover.eDebt = s.cover.eDebt - s.cover.eg) ∧
      (∀ a, s.ledgerOf (s.ctxOf n).gran = .dirtyCleaning a → t.ledgerOf (s.ctxOf n).gran = .dirty a ∧ t.cover.nDirty = s.cover.nDirty ∧
        t.cover.eDebt = s.cover.eDebt))) ∧
  (∀ (s : State) (n : Nat), (s.ctxOf n).st = .check → (s.ctxOf n).kind = .trickle ∨ (s.ctxOf n).kind = .refresh ∨ (s.ctxOf n).kind = .reloc →
    s.bur.fenced = false → mfind (locLun (s.ctxOf n).page) s.nand.lastProgFail = none →
    ∃ t, exec (.copyMapped n false) s = .next t ∧ (t.blkOf (locBlock (s.ctxOf n).page)).retiring = true ∧ t.mode = s.mode ∧
      t.nand.map = s.nand.map ∧ t.dram.cells = s.dram.cells) ∧
  (∀ (s : State) (e : Nat), s.cover.calCount = 1024 → s.mode = .run → s.getB Reg.LG_CFG_CAL_EN = true →
    ∃ t, exec (.calSample e) s = .next t ∧ t.cover.calCount = 0 ∧ t.getF Reg.LG_EG_EG_INC25 =
      max (if s.getF Reg.LG_EG_EG_INC25 < e * 100000 / (1024 * s.kOf s.tMax) then min 0xFFFF (e * 100000 / (1024 * s.kOf s.tMax))
        else s.getF Reg.LG_EG_EG_INC25 - (s.getF Reg.LG_EG_EG_INC25 - e * 100000 / (1024 * s.kOf s.tMax)) / 64)
        (s.getF Reg.LG_EGCFG_EG_INC_MIN) % 2 ^ Reg.LG_EG_EG_INC25.w ∧
      RegsKept [Reg.LG_EG_EG_INC25] s t ∧ t = { s with regs := t.regs, cover := { s.cover with calCount := 0 } }) ∧
  (∀ (s : State) (p : Path), s.reach p 0x3058 = true → s.lampUp = true →
    (∃ t, exec (.stopCleanAll p) s = .next t ∧ t.getF Reg.LG_STATUS_CLEAN_ALL = 0 ∧
      RegsKept [Reg.LG_STATUS_CLEAN_ALL, Reg.DT_SVC_LEFT_S] s t ∧ t = { s with regs := t.regs }) ∧
    (∃ t, exec (.cleanAll p) s = .next t ∧ (s.service = true → s.mode = .run →
        t.getF Reg.LG_STATUS_CLEAN_ALL = (if s.cover.nDirty = 0 then 0 else 1)) ∧
      (s.service = false → t.getF Reg.LG_STATUS_CLEAN_ALL = s.getF Reg.LG_STATUS_CLEAN_ALL) ∧
      RegsKept [Reg.LG_STATUS_CLEAN_ALL, Reg.DT_SVC_LEFT_S] s t ∧ t = { s with regs := t.regs })) ∧
  (∀ (s : State) (n loc : Nat), s.lampUp = true → s.mode = .run ∨ s.mode = .restore → s.bur.fenced = false → s.host.stage = none →
    s.idleCtx = some n → s.maySupply = true → s.pickPage n = some loc →
    ∃ t, exec .contextArm s = .next t ∧ (t.ctxOf n).st = .armed ∧ (t.ctxOf n).page = loc ∧ t.nand.pErased + 1 = s.nand.pErased ∧
      t.nand.pages = s.nand.pages ∧ t.nand.map = s.nand.map ∧ t = { s with bur := t.bur, nand := t.nand })

/-- SCHEDULE: a cycle of a subchannel's scheduler stores committed buffer entries and nothing else, and takes in only corrected lines that
wait to be written back: every byte of the DRAM outside the lines that the write buffer lists is unchanged, and so are the poison
bitmap and the granule map (R168, R171, R173, R188). -/
def Obligations.DramSchedules : Prop :=
  ∀ (s : State) (ch sub nowNs : Nat) (ready : List Nat), s.chRuns ch = true → sub < 2 →
    ∃ t, exec (.schedule ch sub nowNs ready) s = .next t ∧ t.mode = s.mode ∧ t.nand.map = s.nand.map ∧ t.nand.pages = s.nand.pages ∧
      (∀ a, (∀ e ∈ s.dram.wbuf, a / 64 ≠ e.line) → byteAt t.dram.cells a = byteAt s.dram.cells a) ∧
      (s.isStandby = false → ∀ e ∈ t.dram.wbuf, e.issued = none →
        (∃ d ∈ s.dram.wbuf, d.line = e.line ∧ d.be = e.be ∧ d.data = e.data) ∨ e.line ∈ s.dram.wback)

/-- REFRESH, RETRAIN_PAUSE, CA_PARITY_ALERT, SELF_REFRESH_ENTRY and SELF_REFRESH_EXIT: the DRAM's maintenance (R175, R180, R182 to R184,
R189, R190). -/
def Obligations.DramMaintenance : Prop :=
  (∀ (s : State) (ch sub rank : Nat), s.chRuns ch = true → sub < 2 → rank ≤ b2n (s.getB Reg.DC_CFG_RANKS) →
    ((s.subCh (2 * ch + sub)).queue ≠ [] → mget 0 (s.subCh (2 * ch + sub)).postponed rank < 4 →
      ∃ t, exec (.refresh ch sub rank) s = .next t ∧ mget 0 (t.subCh (2 * ch + sub)).postponed rank = mget 0 (s.subCh (2 * ch + sub)).postponed rank + 1 ∧
        (t.subCh (2 * ch + sub)).retry = (s.subCh (2 * ch + sub)).retry ∧ t = { s with dram := { s.dram with sub := t.dram.sub } }) ∧
    ((s.subCh (2 * ch + sub)).queue = [] ∨ 4 ≤ mget 0 (s.subCh (2 * ch + sub)).postponed rank →
      ∃ t, exec (.refresh ch sub rank) s = .next t ∧ t = { s with dram := { s.dram with sub := t.dram.sub } } ∧
        (t.subCh (2 * ch + sub)).queue = (s.subCh (2 * ch + sub)).queue ∧
        (s.replaying (2 * ch + sub) = false →
          s.room (2 * ch + sub) s.dram.now ((mget 0 (s.subCh (2 * ch + sub)).postponed rank + 1) * (s.refCmds rank).length) = true →
          mget 0 (t.subCh (2 * ch + sub)).postponed rank = 0 ∧ (t.subCh (2 * ch + sub)).retry.length ≤ 32 ∧
          (t.subCh (2 * ch + sub)).retry.getLast? = some (s.dram.now, if s.getB Reg.DC_CFG_REFSB_EN then .refsb rank 3 else .refab rank)) ∧
        (s.replaying (2 * ch + sub) = true → (t.subCh (2 * ch + sub)).retry = (s.subCh (2 * ch + sub)).retry ∧
          mget 0 (t.subCh (2 * ch + sub)).postponed rank = mget 0 (s.subCh (2 * ch + sub)).postponed rank + 1))) ∧
  (∀ (s : State) (ch sub : Nat) (forced dbl hot : Bool) (u : State), u = s.pauseForce → s.chRuns ch = true → sub < 2 →
    forced = true ∨ (s.subCh (2 * ch + sub)).queue = [] → s.replaying (2 * ch + sub) = false → s.mode = .run →
    ∃ t, exec (.retrainPause ch sub forced dbl hot) s = .next t ∧ (t.subCh (2 * ch + sub)).doubled = (dbl || hot) ∧
      t.getF (Reg.DC_MAINT_RETRAIN_COUNT ch) = min (2 ^ (Reg.DC_MAINT_RETRAIN_COUNT ch).w - 1) (u.getF (Reg.DC_MAINT_RETRAIN_COUNT ch) + 1) ∧
      t.ev.seq = s.ev.seq + (if hot then 1 else 0) ∧
      RegsKept (Reg.DC_MAINT_RETRAIN_COUNT ch :: Reg.DC_MAINT_FORCED ch :: evFlds) u t ∧
      t = { u with regs := t.regs, ev := t.ev, dram := { s.dram with sub := t.dram.sub } }) ∧
  (∀ (s : State) (ch sub nowNs highNs : Nat), s.chRuns ch = true → sub < 2 →
    ∃ t, exec (.caParityAlert ch sub nowNs highNs) s = .next t ∧
      ((s.subCh (2 * ch + sub)).replay = none → ∃ r, (t.subCh (2 * ch + sub)).replay = some r ∧ r.first = nowNs ∧
        r.ready = max (nowNs + 120) highNs ∧ r.fails = 0 ∧ r.left = none ∧
        r.win = ((s.subCh (2 * ch + sub)).retry.filter (fun c => decide (nowNs ≤ c.1 + s.parWin))).map (·.2) ∧
        t.getF (Reg.DC_REPLAY_LAST_LEN ch) = min 32 r.win.length) ∧
      (∀ r, (s.subCh (2 * ch + sub)).replay = some r → r.fails ≠ 2 →
        (t.subCh (2 * ch + sub)).replay = some { r with ready := max (nowNs + 120) highNs, fails := r.fails + 1, left := none } ∧
        t.getF (Reg.DC_REPLAY_LAST_LEN ch) = min 32 r.win.length) ∧
      ((∀ r, (s.subCh (2 * ch + sub)).replay = some r → r.fails ≠ 2) → t.chanFailed ch = false ∧ t.getF (chState ch) = 5 ∧
        t.getF (Reg.DC_REPLAY_REPLAYS ch) = min (2 ^ (Reg.DC_REPLAY_REPLAYS ch).w - 1) (s.getF (Reg.DC_REPLAY_REPLAYS ch) + 1) ∧
        RegsKept [Reg.DC_REPLAY_REPLAYS ch, Reg.DC_REPLAY_LAST_LEN ch, chState ch] s t ∧
        t = { s with regs := t.regs, dram := { s.dram with sub := t.dram.sub } }) ∧
      (∀ r, (s.subCh (2 * ch + sub)).replay = some r → r.fails = 2 → t.chanFailed ch = true ∧ t.getF (chState ch) = 6 ∧
        t.ev.seq = s.ev.seq + 1 ∧ t.dram.cells = s.dram.cells ∧
        (∀ r ∈ t.host.reads, t.chanOf (granOf r.line) = ch → r.ready = true ∨ r.value = some (0, true)) ∧
        (s.mode = .burrow → ch ∈ t.bur.dramBad))) ∧
  (∀ (s : State) (ch : Nat), s.mode = .run → s.lampUp = true → s.chRuns ch = true → s.getF (chState ch) = 2 → s.getB Reg.DC_CFG_SR_IDLE_EN = true → s.chIdle ch = true →
    exec (.selfRefreshEntry ch) s = .next (s.setF (chState ch) 3)) ∧
  (∀ (s : State) (ch : Nat), s.lampUp = true → ch < s.channels → s.getF (chState ch) = 3 → s.getB Reg.DC_STATUS_HOLD = false →
    exec (.selfRefreshExit ch) s = .next (s.setF (chState ch) 2))

/-- DRAM_READ_DONE and PATROL_SCRUB: a read without an error serves its requester, whoever it is; an uncorrectable one poisons a host's or
the scrubber's line, makes map entries unknown, rewrites a mirror line and leaves out a staging line; the scrubber asks for its next
line and moves on as the data returns, by either command (R98, R134, R169, R186 to R188, R219, R243). -/
def Obligations.DramReads : Prop :=
  (∀ (s : State) (tag line : Nat) (e : DramErr), s.lampUp = true → s.lineFailed line = false → s.lineReplays line = false → s.hostTime = true →
    s.host.reads.any (fun r => r.tag == tag && r.line == line && r.value.isSome && !r.ready) = true →
    s.asked (fun q => !q.write && q.line == line && q.cls == 2 && q.src == 0) = false →
    (s.eccOut line e = .clean → ∃ t, exec (.dramReadDone (.host tag) line e) s = .next t ∧
      (∀ r ∈ t.host.reads, r.tag = tag → r.line = line → r.value.isSome = true → r.ready = true) ∧
      t.host.reads.map (·.value) = s.host.reads.map (·.value) ∧
      t = { s with host := { s.host with reads := t.host.reads }, dram := { s.dram with rdOut := t.dram.rdOut, now := t.dram.now } }) ∧
    (∀ dev, s.eccOut line e = .corrected dev → ∃ t, exec (.dramReadDone (.host tag) line e) s = .next t ∧
      (∀ r ∈ t.host.reads, r.tag = tag → r.line = line → r.value.isSome = true → r.ready = true) ∧
      t.getF (Reg.DC_ERR_CE_COUNT (s.chanOf (granOf line))) =
        min (2 ^ (Reg.DC_ERR_CE_COUNT (s.chanOf (granOf line))).w - 1) (s.getF (Reg.DC_ERR_CE_COUNT (s.chanOf (granOf line))) + 1) ∧
      t.host.corrections = s.host.corrections + 1 ∧ t.dram.cells = s.dram.cells ∧ t.dram.poison = s.dram.poison) ∧
    (s.eccOut line e = .ue → s.marked line = true ∨ e.diag = none → ∃ t, exec (.dramReadDone (.host tag) line e) s = .next t ∧
      t.poisoned line = true ∧ (∃ r ∈ t.host.reads, r.tag = tag ∧ r.line = line ∧ r.ready = true ∧ r.value = some (0, true)) ∧
      t.ev.seq = s.ev.seq + (if s.poisoned line then 0 else 1) ∧ t.dram.cells = s.dram.cells ∧ t.cover = s.cover)) ∧
  (∀ (s : State) (line : Nat) (e : DramErr), s.lampUp = true → s.lineFailed line = false → s.lineReplays line = false → s.mode = .run →
    s.scrubOut (s.chanOf (granOf line)) line = true →
    exec (.patrolScrub (s.chanOf (granOf line)) (some e)) s = exec (.dramReadDone .scrub line e) s ∧
    (s.eccOut line e = .clean → ∃ t, exec (.dramReadDone .scrub line e) s = .next t ∧
      mget (256 * s.chanOf (granOf line)) t.dram.scrub (s.chanOf (granOf line)) = s.nextScrub (s.chanOf (granOf line)) line ∧
      t.dram.scrubAsked.contains (s.chanOf (granOf line)) = false ∧
      t = { s with dram := { s.dram with rdOut := t.dram.rdOut, scrub := t.dram.scrub, scrubAsked := t.dram.scrubAsked, now := t.dram.now } }) ∧
    (s.eccOut line e = .ue → s.marked line = true ∨ e.diag = none → granOf line < s.nUser → ∃ t, exec (.dramReadDone .scrub line e) s = .next t ∧
      t.poisoned line = true ∧ (∀ l, l ≠ line → t.poisoned l = s.poisoned l) ∧
      t.getF (Reg.DC_UEADDR_LA (s.chanOf (granOf line))) = line % 2 ^ (Reg.DC_UEADDR_LA (s.chanOf (granOf line))).w)) ∧
  (∀ (s : State) (req : DramReq) (line : Nat) (e : DramErr), (∀ tag, req ≠ .host tag) → req ≠ .rmw → req ≠ .scrub →
    s.eccOut line e = .clean → ∃ t, exec (.dramReadDone req line e) s = .next t ∧ ((∀ n, req ≠ .ctx n) → t.bur = s.bur) ∧
      t = { s with bur := { s.bur with ctx := t.bur.ctx }, dram := { s.dram with rdOut := t.dram.rdOut, now := t.dram.now } }) ∧
  (∀ (s : State) (line : Nat) (e : DramErr), s.lampUp = true → s.lineFailed line = false → s.lineReplays line = false →
    s.eccOut line e = .ue → s.marked line = true ∨ e.diag = none →
    (s.isMapLine line = true → s.mode = .run → ∃ t, exec (.dramReadDone .mapLine line e) s = .next t ∧
      (∀ g, g / 16 = line - s.mapBase → g < s.nUser → g ∈ t.nand.mapUnknown ∧ g ∈ t.nand.refreshQ) ∧ t.dram.cells = s.dram.cells) ∧
    (s.isMirrorLine line = true → ∃ t, exec (.dramReadDone .mirrorLine line e) s = .next t ∧
      (∀ g, g / 128 = line - s.mirrorBase → g < s.nUser → t.mirrorDirty g = (s.ledgerOf g != .clean)) ∧ t.dram.cells = s.dram.cells) ∧
    (s.isStagingLine line = true → s.phase = .p3 → ∃ t, exec (.dramReadDone .staging line e) s = .next t ∧
      (line - s.stagingBase) ∈ t.bur.slotsBad ∧ t.bur.staging = s.bur.staging ∧ t.dram.cells = s.dram.cells)) ∧
  (∀ (s : State) (ch : Nat), s.mode = .run → s.lampUp = true → s.chRuns ch = true → s.getF Reg.DC_ECCCFG_SCRUB_H ≠ 0 →
    s.dram.scrubAsked.contains ch = false →
    ∃ t, exec (.patrolScrub ch none) s = .next t ∧ ch ∈ t.dram.scrubAsked ∧
      t.asked (fun q => !q.write && q.line == mget (256 * ch) s.dram.scrub ch && q.cls == 3 && q.src == 1) = true ∧
      t = { s with dram := { s.dram with scrubAsked := t.dram.scrubAsked, sub := t.dram.sub } })

/-- ERASE_DONE, ERASE_TIMEOUT, RELOCATE and NAND_PATROL: the NAND back end's upkeep (R236, R244, R247 to R250, R254). -/
def Obligations.NandUpkeep : Prop :=
  (∀ (s : State) (b : Nat), s.nand.erasing.contains b = true → s.lunUp (blockLun b) = true →
    (∃ t, exec (.eraseDone b true) s = .next t ∧ (t.blkOf b).erases = (s.blkOf b).erases + 1 ∧ (∀ p ∈ t.nand.pages, locBlock p.1 ≠ b) ∧
      (∀ p ∈ s.nand.pages, locBlock p.1 ≠ b → p ∈ t.nand.pages) ∧ t.nand.map = s.nand.map ∧ t.dram.cells = s.dram.cells) ∧
    (∃ t, exec (.eraseDone b false) s = .next t ∧ (t.blkOf b).st = .bad ∧ t.nand.erasing.contains b = false ∧ t.nand.pages = s.nand.pages ∧
      t.nand.map = s.nand.map ∧ t.dram = s.dram ∧ t.cover = s.cover ∧ t.bur = s.bur) ∧
    (∃ t, exec (.eraseTimeout b) s = .next t ∧ t.lunFailed (blockLun b) = true ∧ t.nand.map = s.nand.map ∧ t.nand.pages = s.nand.pages ∧
      (s.mode ≠ .burrow → s.ev.seq < t.ev.seq) ∧ (∀ x ∈ t.nand.eraseQ, blockLun x ≠ blockLun b) ∧ t.dram.cells = s.dram.cells)) ∧
  (∀ (s : State) (g src : Nat) (rest : List (Nat × Nat)) (rd : NandRead), s.mode = .run → s.lampUp = true → s.bur.fenced = false →
    s.nand.relocQ = (g, src) :: rest →
    ∃ t, exec (.relocate rd) s = .next t ∧ t.nand.map = s.nand.map ∧ t.nand.pages = s.nand.pages ∧ t.cover = s.cover ∧
      RegsKept [Reg.NB_ECC_STAGE2, Reg.NB_ECC_STAGE3, Reg.NB_ECC_UNCORR] s t ∧
      (s.mapOf g ≠ src → t = { s with regs := t.regs, nand := { s.nand with relocQ := rest } }) ∧
      (s.mapOf g = src → pageClass rd ≠ .lines [] → t.nand.relocQ = rest) ∧
      (∀ u, s.mapOf g = src → pageClass rd = .lines [] → ({ s.eccCount rd with nand := { s.nand with relocQ := rest } } : State).armReloc g src (s.pageVer src) = some u →
        t = u)) ∧
  (∀ (s : State) (rd : NandRead), s.mode = .run → s.lampUp = true → s.bur.fenced = false → s.nand.relocQ = [] → s.relocPick = none →
    exec (.relocate rd) s = .next s) ∧
  (∀ (s : State) (g : Nat) (rd : NandRead), s.mode = .run → s.lampUp = true → s.bur.fenced = false → s.getF Reg.NB_POLICY_PATROL_D ≠ 0 →
    isPage (s.mapOf g) = true → s.lunUp (locLun (s.mapOf g)) = true →
    ∃ t, exec (.nandPatrol g rd) s = .next t ∧ t.nand.map = s.nand.map ∧ t.dram.cells = s.dram.cells ∧ t.cover = s.cover ∧
      (pageClass rd = .lines [] → t.ev = s.ev ∧ RegsKept [Reg.NB_ECC_STAGE2, Reg.NB_ECC_STAGE3, Reg.NB_ECC_UNCORR] s t ∧
        (2 ≤ s.readStage rd → (g, s.mapOf g) ∈ t.nand.relocQ) ∧ (s.readStage rd < 2 → t.nand = s.nand)) ∧
      (pageClass rd ≠ .lines [] → t.ev.seq = s.ev.seq + 1 ∧ t.nand.relocQ = s.nand.relocQ))

/-- CHECKPOINT_START and CHECKPOINT_COMMIT (R244, R255 to R259). -/
def Obligations.Checkpoints : Prop :=
  (∀ s : State, s.mode = .run → s.lampUp = true → s.bur.fenced = false → s.nand.ckpt = none → s.ckptDue = true →
    s.fMeta + s.ckptFull < s.nand.metaErased →
    ∃ t, exec .checkpointStart s = .next t ∧ t.getF Reg.NB_STATUS_CKPT_BUSY = 1 ∧ t.nand.changed = [] ∧ t.nand.map = s.nand.map ∧
      t.nand.ceil = s.nand.ceil ∧ t.dram.cells = s.dram.cells ∧ t.cover.ledger = s.cover.ledger ∧
      (∃ k, t.nand.ckpt = some k ∧ k.map = s.nand.map ∧ k.mapDflt = s.nand.mapDflt ∧ k.took = s.nand.changed ∧ k.segs = [] ∧ k.bts = [] ∧
        k.root = none) ∧
      (s.written = [] → RegsKept [Reg.NB_STATUS_CKPT_BUSY] s t)) ∧
  (∀ (s : State) (k : Ckpt) (loc : Nat) (p : NPage) (r : RootPage), s.mode = .run → s.bur.fenced = false → s.nand.ckpt = some k →
    k.todo = [] → k.root = some loc → mfind loc s.nand.pages = some p → p.root = some r → s.mayCommitRoot false = true →
    ∃ t, exec .checkpointCommit s = .next t ∧ t.mode = .run ∧ t.getF Reg.NB_ROOTPTR_LOC = loc % 2 ^ Reg.NB_ROOTPTR_LOC.w ∧ t.nand.ceil = r.ceil ∧
      t.nand.ckpt = none ∧ t.nand.live = [] ∧ t.nand.superseded = [] ∧ t.nand.map = s.nand.map ∧ t.nand.epoch = s.nand.epoch ∧
      t.getF Reg.NB_STATUS_CKPT_BUSY = 0 ∧ t.dram.cells = s.dram.cells) ∧
  (∀ (s : State) (k : Ckpt), s.nand.ckpt = some k → k.todo ≠ [] ∨ k.root = none → exec .checkpointCommit s = .next s)

/-- SPMI_IGNORED_COMMAND, and the SPMI accesses of a unit that is SPMI master: in slave mode the ignored commands move nothing; a master
does not answer Wakeup or Sleep, no register of its window is reached over SPMI, a write there changes nothing and a read returns 0
(R372). -/
def Obligations.SpmiIgnored : Prop :=
  (∀ s : State, s.getF Reg.SQ_SPMI_ROLE = 2 → exec .spmiIgnoredCommand s = .next s) ∧
  (∀ (s : State) (off size sid : Nat) (v : BitVec 64), s.getF Reg.SQ_SPMI_ROLE = 1 →
    s.reach .spmi off = false ∧ exec .spmiIgnoredCommand s = .next s ∧ exec (.spmiWakeup sid) s = .next s ∧ exec .spmiSleep s = .next s ∧
    exec (.registerWrite .spmi off size v) s = .next s ∧
    exec (.rcRead .spmi off size) s = .next { s with host := { s.host with rdata := 0 } } ∧
    exec (.captureRead .spmi off size) s = .next { s with host := { s.host with rdata := 0 } })

/-- SPMI_WAKEUP, SPMI_SLEEP and SPMI_IDLE_OFF: in OFF and DEN the responder that its SID wakes serves the blocks MD_, PS_, ES_ and SQ_, and
goes off again (R373). -/
def Obligations.SpmiResponder : Prop :=
  (∀ (s : State) (off : Nat), s.mode = .off ∨ s.mode = .den → s.pdState 0 = 0 → s.pdState 1 = 0 → s.getF Reg.SQ_SPMI_ROLE = 2 →
    ∃ t, exec (.spmiWakeup (s.getF Reg.SQ_SPMI_SID)) s = .next t ∧ t.mode = s.mode ∧ t.spmi.awake = true ∧ t.entSt 9 = 3 ∧
      t.reach .spmi off = (off / 4096 == 1 || off / 4096 == 8 || off / 4096 == 9 || off / 4096 == 10) ∧ t.dram.cells = s.dram.cells ∧
      t.nand = s.nand ∧ t.cover.ledger = s.cover.ledger) ∧
  (∀ (s : State) (sid : Nat), s.mode = .run ∨ sid ≠ s.getF Reg.SQ_SPMI_SID → exec (.spmiWakeup sid) s = .next s) ∧
  (∀ (s : State) (off : Nat), s.mode = .off ∨ s.mode = .den → s.pdState 0 = 0 → s.pdState 1 = 0 → s.getF Reg.SQ_SPMI_ROLE = 2 →
    (∃ t, exec .spmiSleep s = .next t ∧ t.mode = s.mode ∧ t.spmi.awake = false ∧ t.reach .spmi off = false ∧ t.nand = s.nand ∧
      t.dram.cells = s.dram.cells ∧ (s.mode = .off → s.spmi.awake = true → t.entSt 9 = 0)) ∧
    (∃ t, exec .spmiIdleOff s = .next t ∧ t.mode = s.mode ∧ t.spmi.awake = false ∧ t.reach .spmi off = false ∧ t.nand = s.nand ∧
      t.dram.cells = s.dram.cells ∧ (s.mode = .off → s.spmi.awake = true → t.entSt 9 = 0)))

/-- SPMI_COMMAND_SEND, SPMI_STATUS_READ, SPMI_ACK_TIMEOUT, SLV_RESCAN and PG_POLL: the master's commands, their acknowledgements and the
slaves' power-good bits (R364 to R368). -/
def Obligations.SpmiMaster : Prop :=
  (∀ s : State, s.spmiMaster = true → ∀ q ∈ s.spmiNext.toList,
    ∃ t, exec .spmiCommandSend s = .next t ∧ q ∈ s.spmi.queue ∧ (∀ x ∈ s.spmi.queue, 1 ≤ x.cls → q.cls ≤ x.cls) ∧ t.spmi.out = s.spmi.out ++ [q] ∧
      t.spmi.queue.length + 1 = s.spmi.queue.length ∧ t.spmi.sent = (if s.spmiSends then [(q.slave, q.frame)] else []) ++ s.spmi.sent ∧
      q.frame.length = 8 ∧ t = { s with spmi := t.spmi }) ∧
  (∀ (s : State) (m lastSeq result pg : Nat), m < 8 → s.spmiMaster = true → s.getF (Reg.SQ_SLV_STATE m) = 1 →
    (∃ t, exec (.spmiStatusRead m lastSeq result pg false) s = .next t ∧ t.getF (Reg.SQ_SLV_STATE m) = 2 ∧
      t.getF (Reg.SQ_SLVSEQ_NEXT m) = (lastSeq + 1) % 65536 ∧ t.getF (Reg.SQ_SLVSEQ_LAST_ACK m) = lastSeq % 65536 ∧
      mget 0 t.spmi.probeFails m = 0 ∧ t.spmi.queue = s.spmi.queue ∧
      RegsKept [Reg.SQ_SLV_STATE m, Reg.SQ_SLV_RESULT m, Reg.SQ_SLVSEQ_NEXT m, Reg.SQ_SLVSEQ_LAST_ACK m] s t ∧
      t = { s with regs := t.regs, spmi := t.spmi }) ∧
    (mget 0 s.spmi.probeFails m < 3 → ∃ t, exec (.spmiStatusRead m lastSeq result pg true) s = .next t ∧
      mget 0 t.spmi.probeFails m = mget 0 s.spmi.probeFails m + 1 ∧ t.getF (Reg.SQ_SLV_STATE m) = 1 ∧
      RegsKept [Reg.SQ_SPMIERR_PAR_ERR] s t ∧ t = { s with regs := t.regs, spmi := t.spmi }) ∧
    (3 ≤ mget 0 s.spmi.probeFails m → s.getF Reg.SQ_STATUS_SEQ = 0 → ∃ t, exec (.spmiStatusRead m lastSeq result pg true) s = .next t ∧
      t.getF (Reg.SQ_SLV_STATE m) = 3 ∧ s.ev.seq < t.ev.seq ∧ (∀ q ∈ t.spmi.out, q.slave ≠ m))) ∧
  (∀ (s : State) (m lastSeq pg : Nat), m < 8 → s.spmiMaster = true → s.getF (Reg.SQ_SLV_STATE m) = 2 → s.spmiTurn (s.readCls m) = true →
    ∃ t, exec (.spmiStatusRead m lastSeq 0 pg false) s = .next t ∧
      (∀ q, q ∈ t.spmi.out ↔ q ∈ s.spmi.out ∧ (q.slave = m → ackedBy (lastSeq % 65536) q.seq = false)) ∧
      (s.mode = .run → (∀ k ∈ List.range 8, s.entEn (24 + k) = true → s.xrSlave (24 + k) = m →
          (s.entSt (24 + k) = 2 → pg.testBit (s.xrRail (24 + k)) = false) ∧
          (s.entSt (24 + k) = 3 ∨ s.entSt (24 + k) = 6 → pg.testBit (s.xrRail (24 + k)) = true)) →
        RegsKept [Reg.SQ_SLV_RESULT m, Reg.SQ_SLVSEQ_LAST_ACK m] s t ∧
        t = { s with regs := t.regs, spmi := { s.spmi with out := t.spmi.out, flags := t.spmi.flags, pg := mset m pg s.spmi.pg } })) ∧
  (∀ (s : State) (m : Nat), m < 8 → ∀ q ∈ (s.spmi.out.find? (fun x => x.slave == m)).toList,
    (q.resends < 3 → ∃ t, exec (.spmiAckTimeout m) s = .next t ∧ t.spmi.queue = { q with resends := q.resends + 1 } :: s.spmi.queue ∧
      t.spmi.out = s.spmi.out.erase q ∧ t.spmi.sent = s.spmi.sent ∧ 
      RegsKept [Reg.SQ_SPMIERR_RESENDS] s t ∧ t = { s with regs := t.regs, spmi := t.spmi }) ∧
    (3 ≤ q.resends → ∃ t, exec (.spmiAckTimeout m) s = .next t ∧ t.getF (Reg.SQ_SLV_STATE m) = 3 ∧ s.ev.seq < t.ev.seq)) ∧
  (∀ (s : State) (p : Path), s.reach p 0xA010 = true →
    ∃ t, exec (.slvRescan p) s = .next t ∧ (s.service = false ∨ s.getF Reg.SQ_SPMI_ROLE ≠ 1 → RegsKept [Reg.DT_SVC_LEFT_S] s t) ∧
      (s.service = true → s.getF Reg.SQ_SPMI_ROLE = 1 → ∀ m < 8, t.getF (Reg.SQ_SLV_STATE m) =
        (if s.getB (Reg.SQ_SLV_EN m) then 1 else s.getF (Reg.SQ_SLV_STATE m))) ∧ t = { s with regs := t.regs, spmi := t.spmi }) ∧
  (∀ (s : State) (k pg : Nat), k < 8 → s.spmiMaster = true → s.spmiTurn 3 = true → s.getF Reg.SQ_STATUS_SEQ = 0 →
    (s.entSt (24 + k) = 2 → pg.testBit (s.xrRail (24 + k)) = true → ∃ t, exec (.pgPoll (24 + k) pg) s = .next t ∧ t.entSt (24 + k) = 3) ∧
    (s.entSt (24 + k) = 3 → pg.testBit (s.xrRail (24 + k)) = true → exec (.pgPoll (24 + k) pg) s =
      .next { s with spmi := { s.spmi with pg := mset (s.xrSlave (24 + k)) pg s.spmi.pg } }) ∧
    (s.entSt (24 + k) = 3 → pg.testBit (s.xrRail (24 + k)) = false → ∃ t, exec (.pgPoll (24 + k) pg) s = .next t ∧ t.entSt (24 + k) ≠ 3 ∧ s.ev.seq < t.ev.seq) ∧
    (s.entSt (24 + k) = 6 → pg.testBit (s.xrRail (24 + k)) = false → ∃ t, exec (.pgPoll (24 + k) pg) s = .next t ∧ t.entSt (24 + k) = 0))

/-- INFET_CLOSE, INFET_OPEN, INFET_RECLOSE, INFET_RST, INPUT_CURRENT_LIMIT, STORE_TAKEOVER, STORE_RELEASE, VSYS_LOSS and VSYS_RESTORE: the
input FETs and who carries VSYS (R293 to R297, R344). -/
def Obligations.PowerPath : Prop :=
  (∀ s : State, s.getB Reg.ES_STATUS_INFET_ON = false →
    (s.store.ocOpen = false → s.store.infLatched = false → ∃ t, exec .infetClose s = .next t ∧ t.getF Reg.ES_STATUS_INFET_ON = 1 ∧
      RegsKept [Reg.ES_STATUS_INFET_ON] s t ∧ t = { s with regs := t.regs }) ∧
    (s.store.ocOpen = true → s.store.infLatched = false → exec .infetClose s = .next s ∧
      (s.ms < s.store.openAt + 100 → exec .infetReclose s = .next s)) ∧
    (s.store.ocOpen = true → s.store.infLatched = false → s.store.openAt + 100 ≤ s.ms → ∃ t, exec .infetReclose s = .next t ∧ t.getF Reg.ES_STATUS_INFET_ON = 1 ∧
      RegsKept [Reg.ES_STATUS_INFET_ON] s t ∧ t = { s with regs := t.regs, store := { s.store with ocOpen := false } }) ∧
    (s.store.infLatched = true → exec .infetReclose s = .next s ∧ exec .infetClose s = .next s ∧
      ∃ t, exec (.infetClose true) s = .next t ∧ t.store.infLatched = false ∧ t.getB Reg.ES_STATUS_INFET_ON = !s.store.ocOpen ∧
        RegsKept [Reg.ES_STATUS_INFET_ON, Reg.ES_STATUS_INFET_TRIP] s t ∧ t = { s with regs := t.regs, store := t.store })) ∧
  (∀ s : State, s.getB Reg.ES_STATUS_INFET_ON = true →
    (∃ t, exec (.infetOpen .overVoltage) s = .next t ∧ t.getF Reg.ES_STATUS_INFET_ON = 0 ∧ t.getF Reg.ES_STATUS_INFET_TRIP = 1 ∧
      t.store.infLatched = s.store.infLatched ∧ RegsKept [Reg.ES_STATUS_INFET_ON, Reg.ES_STATUS_INFET_TRIP] s t ∧
      t = { s with regs := t.regs, store := t.store }) ∧
    (∃ t, exec (.infetOpen .reverse) s = .next t ∧ t.getF Reg.ES_STATUS_INFET_ON = 0 ∧ t.store.ocOpen = false ∧
      RegsKept [Reg.ES_STATUS_INFET_ON, Reg.ES_STATUS_INFET_TRIP] s t) ∧
    (∃ t, exec (.infetOpen .overCurrent) s = .next t ∧ t.getF Reg.ES_STATUS_INFET_ON = 0 ∧ t.store.ocOpen = true ∧
      (t.store.infLatched = true ↔ 2 ≤ (s.store.ocTimes.filter (fun x => decide (s.ms < x + 10000))).length) ∧
      t.getF Reg.ES_STATUS_INFET_TRIP = (if t.store.infLatched then 3 else 2) ∧
      RegsKept [Reg.ES_STATUS_INFET_ON, Reg.ES_STATUS_INFET_TRIP] s t ∧ t = { s with regs := t.regs, store := t.store })) ∧
  (∀ (s : State) (p : Path), s.reach p 0x8060 = true →
    ∃ t, exec (.infetRst p) s = .next t ∧ t.store.infLatched = false ∧
      (s.store.infLatched = false → RegsKept [Reg.DT_SVC_LEFT_S] s t) ∧
      RegsKept [Reg.ES_STATUS_INFET_TRIP, Reg.DT_SVC_LEFT_S] s t ∧ t = { s with regs := t.regs, store := t.store }) ∧
  (∀ s : State, ∃ t, exec .inputCurrentLimit s = .next t ∧ t.therm.grantChg ≤ s.therm.grantChg ∧ t.therm.grantAcc ≤ s.therm.grantAcc ∧
    t.regs = s.regs ∧ t = { s with freeCount := t.freeCount, therm := { s.therm with grantChg := t.therm.grantChg, grantAcc := t.therm.grantAcc } }) ∧
  (∀ (s : State) (v : Nat), v ≤ min (s.getF Reg.ES_IN_VSYS_HOLD) (s.pfLevel - 5) * 100 → s.storeOk = true → s.getB Reg.ES_STATUS_PATH = false →
    (s.mode = .off → exec (.storeTakeover v) s = .next s) ∧ (s.mode ≠ .off → ∃ t, exec (.storeTakeover v) s = .next t ∧ t.getF Reg.ES_STATUS_PATH = 1 ∧
      (t.getF Reg.ES_STATUS_CHG = 0 ∨ t.getF Reg.ES_STATUS_CHG = 4 ∨ t.getF Reg.ES_STATUS_CHG = 5) ∧
      RegsKept [Reg.ES_STATUS_PATH, Reg.ES_STATUS_CHG] s t ∧ t = { s with regs := t.regs })) ∧
  (∀ (s : State) (v : Nat), s.getF Reg.ES_IN_VSYS_HOLD * 100 + 500 < v → s.getB Reg.ES_STATUS_PATH = true →
    ∃ t, exec (.storeRelease v) s = .next t ∧ t.getF Reg.ES_STATUS_PATH = 0 ∧ RegsKept [Reg.ES_STATUS_PATH, Reg.ES_STATUS_CHG] s t ∧
      t = { s with regs := t.regs }) ∧
  (∀ s : State, s.getB Reg.PS_STATUS_VSYS_LOSS = false → s.mode = .run → s.pdState 0 = 1 → s.pdState 1 = 1 → s.pdState 10 = 1 →
    s.entSt 0 = 3 → s.entSt 7 = 3 → ∃ t, exec .vsysLoss s = .next t ∧ t.mode = .run ∧
      t.getF Reg.PS_STATUS_VSYS_LOSS = 1 ∧ t.getF Reg.PS_STATUS_HOLDUP = 1 ∧ t.keep.erasing = [] ∧ t.pd 12 = false ∧ t.pd 13 = false ∧
      t.pd 14 = false ∧ t.nand = s.nand ∧ t.dmk = s.dmk) ∧
  (∀ s : State, s.getB Reg.PS_STATUS_VSYS_LOSS = true → ∃ t, exec .vsysRestore s = .next t ∧ t.getF Reg.PS_STATUS_VSYS_LOSS = 0 ∧
    t.getF Reg.PS_STATUS_HOLDUP = 0 ∧ t.mode = s.mode ∧ t.otp = s.otp ∧ t.rail = s.rail)

/-- STORE_FAILED, STORE_ABSENT, STORE_PRESENT, STORE_RETRY, AUDIT_START, AUDIT_NOW, AUDIT_DONE and AUDIT_DERATE: loss and return of the
store, and its audit (R302 to R306, R313 to R317). -/
def Obligations.StoreHealth : Prop :=
  (∀ (s : State) (cause : Nat), s.storeOk = true → 1 ≤ cause → cause ≤ 4 → s.mode = .run → s.vinRet = true →
    s.getB Reg.PS_STATUS_VSYS_LOSS = false → s.getB Reg.MD_STATUS_BRIDGE = false →
    ∃ t, exec (.storeFailed cause) s = .next t ∧ t.mode = .run ∧ t.getF Reg.ES_STATUS_STORE = 3 ∧ t.getF Reg.ES_STATUS_FAIL_CAUSE = cause ∧
      t.getF Reg.ES_STATUS_AUDIT_BUSY = 0 ∧ t.getF Reg.ES_STATUS_ACC_ON = 0 ∧ t.cover.eAvail = 0 ∧ s.ev.seq < t.ev.seq) ∧
  (∀ s : State, s.storeOk = true → s.mode = .run → s.vinRet = true →
    s.getB Reg.PS_STATUS_VSYS_LOSS = false → s.getB Reg.MD_STATUS_BRIDGE = false →
    ∃ t, exec (.storeAbsent .ntcOpen) s = .next t ∧ t.mode = .run ∧ t.getF Reg.ES_STATUS_STORE = 0 ∧ t.getF Reg.ES_STATUS_ABS_CAUSE = 1 ∧
      t.getF Reg.ES_STATUS_ACC_ON = 0 ∧ t.cover.eAvail = 0 ∧ t.store.removed = true ∧ s.ev.seq < t.ev.seq) ∧
  (∀ s : State, s.getF Reg.ES_STATUS_STORE = 3 → ∃ t, exec (.storeAbsent .tapStep) s = .next t ∧ t.getF Reg.ES_STATUS_STORE = 3 ∧
    t.store.removed = true ∧ t.getF Reg.ES_STATUS_ABS_CAUSE = 2 ∧ RegsKept [Reg.ES_STATUS_ABS_CAUSE] s t ∧
    t = { s with regs := t.regs, store := { s.store with removed := true } }) ∧
  (∀ s : State, s.getF Reg.ES_STATUS_STORE = 0 ∨ (s.getF Reg.ES_STATUS_STORE = 3 ∧ s.store.removed = true) →
    ∃ t, exec .storePresent s = .next t ∧ t.getF Reg.ES_STATUS_STORE = 1 ∧ t.getF Reg.ES_STATUS_FAIL_CAUSE = 0 ∧ t.store.firstCycle = false ∧
      t.store.progUs = 0 ∧ t.store.wallMs = 0 ∧ t.store.removed = false ∧ (s.store.removed = true → t.getF Reg.ES_STATUS_TMR_FAULT = 0) ∧
      RegsKept [Reg.ES_STATUS_STORE, Reg.ES_STATUS_FAIL_CAUSE, Reg.ES_STATUS_CHG, Reg.ES_STATUS_TMR_FAULT] s t ∧
      t = { s with regs := t.regs, store := t.store }) ∧
  (∀ s : State, s.getF Reg.ES_STATUS_STORE = 3 → s.store.removed = false → exec .storePresent s = .next s) ∧
  (∀ (s : State) (p : Path), s.reach p 0x8060 = true → s.getF Reg.ES_STATUS_STORE = 3 →
    ∃ t, exec (.storeRetry p) s = .next t ∧ t.getF Reg.ES_STATUS_STORE = (if s.service = true ∧ s.store.removed = false then 1 else 3) ∧
      RegsKept [Reg.ES_STATUS_STORE, Reg.ES_STATUS_FAIL_CAUSE, Reg.ES_STATUS_CHG, Reg.DT_SVC_LEFT_S] s t ∧ t = { s with regs := t.regs, store := t.store }) ∧
  (∀ (s : State) (p : Path), s.reach p 0x8060 = true →
    ∃ t, exec (.auditNow p) s = .next t ∧ t.store.auditDue = true ∧ RegsKept [Reg.DT_SVC_LEFT_S] s t ∧
      t = { s with regs := t.regs, store := { s.store with auditDue := true } }) ∧
  (∀ s : State, s.mayAudit = true →
    ∃ t, exec .auditStart s = .next t ∧ t.getF Reg.ES_STATUS_AUDIT_BUSY = 1 ∧ t.getF Reg.ES_STATUS_BAL_ACTIVE = 0 ∧
      (t.getF Reg.ES_STATUS_CHG = 4 ∨ t.getF Reg.ES_STATUS_CHG = 0 ∨ t.getF Reg.ES_STATUS_CHG = 5) ∧
      t = { s with regs := t.regs, written := t.written, store := { s.store with auditDue := false } } ∧
      (s.written = [] → t.written = [] ∧ RegsKept [Reg.ES_STATUS_AUDIT_BUSY, Reg.ES_STATUS_BAL_ACTIVE, Reg.ES_STATUS_CHG] s t)) ∧
  (∀ (s : State) (m : AuditMeas), s.getB Reg.ES_STATUS_AUDIT_BUSY = true → s.mode = .run → s.vinRet = true →
    s.getB Reg.PS_STATUS_VSYS_LOSS = false → s.getB Reg.MD_STATUS_BRIDGE = false →
    ∃ t, exec (.auditDone m) s = .next t ∧ t.mode = .run ∧ t.getF Reg.ES_STATUS_AUDIT_BUSY = 0 ∧
      (s.capFails m = true → t.getF Reg.ES_STATUS_STORE = 3 ∧ t.getF Reg.ES_STATUS_FAIL_CAUSE = 1 ∧ t.getF Reg.ES_AUDIT2_RESULT = 2) ∧
      (s.capFails m = false → s.esrFails m = true → t.getF Reg.ES_STATUS_STORE = 3 ∧ t.getF Reg.ES_STATUS_FAIL_CAUSE = 2 ∧ t.getF Reg.ES_AUDIT2_RESULT = 3) ∧
      (s.capFails m = false → s.esrFails m = false → t.getF Reg.ES_STATUS_STORE = 2 ∧ t.getF Reg.ES_AUDIT2_RESULT = 1 ∧ t.store.derates = 0 ∧
        t.store.lastPass = s.ms ∧ t.getF Reg.ES_AUDIT_ESR = min 0xFFFF (s.audEsr m))) ∧
  (∀ s : State, s.storeOk = true → ∃ t, exec .auditDerate s = .next t ∧ t.store.derates = s.store.derates + 1 ∧
    t.ev.seq = s.ev.seq + (if s.store.derates = 0 then 1 else 0) ∧ RegsKept evFlds s t ∧
    t = { s with regs := t.regs, ev := t.ev, store := { s.store with derates := t.store.derates } })

/-- CHARGE_TERMINATE, RECHARGE_START, ZONE_CHANGE, SAFETY_TIMER_EXPIRY, TMR_CLR, ACC_OVERCURRENT, ACC_RETRY and PEER_CHARGE_STOP: charging
and ACC_OUT (R306, R308 to R312, R318 to R320). -/
def Obligations.ChargeRuns : Prop :=
  (∀ s : State, s.getF Reg.ES_STATUS_CHG = 3 → ∃ t, exec .chargeTerminate s = .next t ∧ t.getF Reg.ES_STATUS_CHG = 0 ∧ t.store.firstCycle = true ∧
    (s.store.firstCycle = false → t.store.auditDue = true) ∧ t.store.progUs = 0 ∧ t.store.wallMs = 0 ∧ RegsKept [Reg.ES_STATUS_CHG] s t ∧
    t = { s with regs := t.regs, store := t.store }) ∧
  (∀ s : State, s.getF Reg.ES_STATUS_CHG = 0 → s.store.cycle = false → s.mayCharge = true →
    ∃ t, exec .rechargeStart s = .next t ∧ t.getF Reg.ES_STATUS_CHG = (if s.stackMv < s.vFloor then 1 else
        if s.nCells * s.vCell (s.getF Reg.ES_STATUS_ZONE) ≤ s.stackMv ∨ s.cellsV.any (fun c => decide (s.vCell (s.getF Reg.ES_STATUS_ZONE) ≤ c)) then 3 else 2) ∧
      t.store.cycle = true ∧ t.store.progUs = 0 ∧ t.store.wallMs = 0 ∧ RegsKept [Reg.ES_STATUS_CHG] s t ∧ t = { s with regs := t.regs, store := t.store }) ∧
  (∀ (s : State) (x : Int), ∃ t, exec (.zoneChange x) s = .next t ∧
    t.getF Reg.ES_STATUS_ZONE = (if s.ntcBad then 4 else if s.getF Reg.ES_STATUS_ZONE = 7 ∨ s.getF Reg.ES_STATUS_ZONE < s.zoneOf x then s.zoneOf x
      else min (s.getF Reg.ES_STATUS_ZONE) (s.zoneOf (x + 20))) ∧
    RegsKept [Reg.ES_STATUS_ZONE, Reg.ES_STATUS_CHG] s t ∧ t = { s with regs := t.regs, store := t.store }) ∧
  (∀ s : State, s.getF Reg.ES_STATUS_CHG ≠ 5 → s.timerOut = true →
    ∃ t, exec .safetyTimerExpiry s = .next t ∧ t.getF Reg.ES_STATUS_CHG = 5 ∧ t.getF Reg.ES_STATUS_TMR_FAULT = 1 ∧ t.ev.seq = s.ev.seq + 1 ∧
      RegsKept (Reg.ES_STATUS_CHG :: Reg.ES_STATUS_TMR_FAULT :: evFlds) s t ∧ t = { s with regs := t.regs, ev := t.ev }) ∧
  (∀ (s : State) (p : Path), s.reach p 0x8060 = true → s.getF Reg.ES_STATUS_CHG = 5 →
    ∃ t, exec (.tmrClr p) s = .next t ∧ t.getF Reg.ES_STATUS_CHG ≠ 5 ∧ t.getF Reg.ES_STATUS_TMR_FAULT = 0 ∧ t.store.progUs = 0 ∧ t.store.wallMs = 0 ∧
      RegsKept [Reg.ES_STATUS_CHG, Reg.ES_STATUS_TMR_FAULT, Reg.DT_SVC_LEFT_S] s t ∧ t = { s with regs := t.regs, store := t.store }) ∧
  (∀ s : State, s.getB Reg.ES_STATUS_ACC_ON = true → ∃ t, exec .accOvercurrent s = .next t ∧ t.getF Reg.ES_STATUS_ACC_ON = 0 ∧
    t.store.accOff = some (s.ms + 100) ∧ t.mayAcc = false ∧ RegsKept [Reg.ES_STATUS_ACC_ON] s t ∧ t = { s with regs := t.regs, store := t.store }) ∧
  (∀ (s : State) (e : Nat), s.store.accOff = some e → (s.ms < e → exec .accRetry s = .next s) ∧ (e ≤ s.ms → ∃ t, exec .accRetry s = .next t ∧ t.store.accOff = none ∧
    (t.getF Reg.ES_STATUS_ACC_ON = 1 ↔ ({ s with store := { s.store with accOff := none } } : State).mayAcc = true) ∧
    RegsKept [Reg.ES_STATUS_ACC_ON] s t ∧ t = { s with regs := t.regs, store := { s.store with accOff := none } })) ∧
  (∀ s : State, s.getF Reg.ES_ACC_MODE = 2 → ∃ t, exec .peerChargeStop s = .next t ∧ t.getF Reg.ES_STATUS_ACC_ON = 0 ∧
    RegsKept [Reg.ES_STATUS_ACC_ON] s t ∧ t = { s with regs := t.regs }) ∧
  (∀ s : State, s.getF Reg.ES_ACC_MODE ≠ 2 → exec .peerChargeStop s = .next s)

/-- RAIL_FAULT: a declared fault of a local output is recorded and takes the output out of power-good; a critical one in RUN records
LOCKOUT 0x05 with its rail (R333, R336, R337, R347). -/
def Obligations.RailFaults : Prop :=
  (∀ (s : State) (n : Nat) (kind : FaultKind), ownOut n = true → railEntries.contains n = true → s.entSt n = 3 → s.mode = .run →
    s.getB Reg.PS_STATUS_VSYS_LOSS = false →
    ∃ t, exec (.railFault n kind) s = .next t ∧ t.mode = .run ∧ (t.getF Reg.PS_FLTBITS_FLT).testBit n = true ∧ t.entSt n ≠ 3 ∧
      t.rail.latched.contains n = true ∧
      (s.getF Reg.PS_FIRST_KIND = 0 → t.getF Reg.PS_FIRST_KIND = kind.code ∧ t.getF Reg.PS_FIRST_RAIL = n ∧ t.getF Reg.PS_FIRST_MODE = Mode.run.code) ∧
      (s.getF Reg.PS_FIRST_KIND ≠ 0 → t.getF Reg.PS_FIRST_KIND = s.getF Reg.PS_FIRST_KIND % 2 ^ Reg.PS_FIRST_KIND.w ∧
        t.getF Reg.PS_FIRST_RAIL = s.getF Reg.PS_FIRST_RAIL % 2 ^ Reg.PS_FIRST_RAIL.w) ∧
      (s.critical n = false → s.ev.seq < t.ev.seq) ∧
      (s.critical n = true → (t.getF Reg.MD_LOCKOUT_ALL).testBit 4 = true ∧ t.getF Reg.MD_LOCKOUT_RAIL = n)) ∧
  (∀ (s : State) (n : Nat), n < 12 → n ≠ 9 → s.entSt n = 3 → s.getB Reg.PS_STATUS_VSYS_LOSS = true → railEntries.contains n = true →
    ∃ t, exec (.railFault n .uv) s = .next t ∧ t.getF Reg.PS_FLTBITS_FLT = s.getF Reg.PS_FLTBITS_FLT ||| 2 ^ n ∧
      t.rail.latched.contains n = true ∧
      RegsKept [Reg.PS_FLTBITS_FLT, Reg.PS_FIRST_KIND, Reg.PS_FIRST_RAIL, Reg.PS_FIRST_MODE] s t ∧
      t = { s with regs := t.regs, rail := { s.rail with latched := sadd n s.rail.latched, fresh := sadd n s.rail.fresh } })

/-- ADC_SCAN, ADC_ON_DEMAND, REARM, CLR_FIRST and W1C_WRITE: the scan's results together with what VIO_EXT below 1.5 V holds back, and the
actions on the supervisor's records (R14, R337, R342, R354, R519). -/
def Obligations.SupervisorRecords : Prop :=
  (∀ (s : State) (ch : List Int) (iout : List Nat), s.mode = .run → s.pd 12 = true →
    ∃ t, exec (.adcScan ch iout) s = .next t ∧ t.mode = .run ∧ t.rail.adc = (List.range 48).map (fun c => ch.getD c 0) ∧
      t.getF Reg.PS_VMEAS_VIN_MV = (ch.getD 0 0).toNat % 65536 ∧ t.getF Reg.PS_VMEAS_VSYS_MV = (ch.getD 1 0).toNat % 65536 ∧
      (s.written = [] → t.getF Reg.PS_ADC_SCANS = (s.getF Reg.PS_ADC_SCANS + 1) % 2 ^ Reg.PS_ADC_SCANS.w) ∧ t.rail.adcReq = false ∧
      (s.rail.adcReq = true → t.getF Reg.PS_ADCCH_DONE = 1) ∧
      (s.rail.vioOk = decide (1500 ≤ (ch.getD 12 0).toNat) → t.dram = s.dram ∧ t.nand = s.nand ∧ t.cover = s.cover ∧ t.host = s.host) ∧
      t.rail.vioOk = decide (1500 ≤ (ch.getD 12 0).toNat) ∧
      (s.rail.vioOk = true → (ch.getD 12 0).toNat < 1500 → (s.pins.perstN = true → t.getF Reg.HL_STATUS_LINK_UP = 0) ∧
        (s.hasTwin = true → t.getF Reg.TW_STATUS_BELL_OK = 0) ∧ t.perstHigh = false ∧ t.alertLow = false ∧ t.bellRuns = false)) ∧
  (∀ (s : State) (ch : List Int) (iout : List Nat), s.mode = .off ∨ s.pd 12 = false → exec (.adcScan ch iout) s = .next s) ∧
  (∀ (s : State) (p : Path) (ch : Nat), s.reach p 0x9024 = true →
    ∃ t, exec (.adcOnDemand p ch) s = .next t ∧ t.getF Reg.PS_ADCCH_DONE = 0 ∧ t.getF Reg.PS_ADCCH_CH = ch % 2 ^ Reg.PS_ADCCH_CH.w ∧
      t.rail.adcReq = true ∧ RegsKept [Reg.PS_ADCCH_DONE, Reg.PS_ADCCH_CH, Reg.DT_SVC_LEFT_S] s t ∧
      t = { s with regs := t.regs, rail := { s.rail with adcReq := true } }) ∧
  (∀ (s : State) (p : Path) (n : Nat), s.reach p 0x9028 = true →
    (∃ t, exec (.clrFirst p) s = .next t ∧ t.getF Reg.PS_FIRST_KIND = 0 ∧ t.getF Reg.PS_FIRST_RAIL = 0 ∧ t.getF Reg.PS_FIRST_MODE = 0 ∧
      RegsKept [Reg.PS_FIRST_KIND, Reg.PS_FIRST_RAIL, Reg.PS_FIRST_MODE, Reg.DT_SVC_LEFT_S] s t ∧ t = { s with regs := t.regs }) ∧
    (∃ t, exec (.rearm p n) s = .next t ∧
      (s.service = true → s.mode = .run → ownOut n = true → s.critical n = false → s.entSt n = 5 ∨ s.entSt n = 8 → s.seqForce.broken n = false →
        t.entSt n = 1 ∧ mget 0 t.rail.tries n = 0 ∧ t = { s with regs := t.regs, written := t.written, rail := t.rail }) ∧
      (s.service = false ∨ s.mode ≠ .run ∨ ownOut n = false ∨ s.critical n = true ∨ (s.entSt n ≠ 5 ∧ s.entSt n ≠ 8) →
        RegsKept [Reg.DT_SVC_LEFT_S] s t ∧ t = { s with regs := t.regs }))) ∧
  (∀ (s : State) (p : Path) (v : Word), s.reach p 0x9018 = true →
    ∃ t, exec (.w1cWrite p 0x9018 v) s = .next t ∧
      (∀ i < 24, (t.getF Reg.PS_FLTBITS_FLT).testBit i = ((s.getF Reg.PS_FLTBITS_FLT).testBit i && !v.toNat.testBit i)) ∧
      RegsKept [Reg.PS_FLTBITS_FLT, Reg.DT_SVC_LEFT_S] s t ∧ t = { s with regs := t.regs }) ∧
  (∀ (s : State) (p : Path) (v : Word), s.reach p 0x901C = true →
    ∃ t, exec (.w1cWrite p 0x901C v) s = .next t ∧
      (∀ i < 24, (t.getF Reg.PS_WRNBITS_WRN).testBit i = ((s.getF Reg.PS_WRNBITS_WRN).testBit i && !v.toNat.testBit i)) ∧
      RegsKept [Reg.PS_WRNBITS_WRN, Reg.DT_SVC_LEFT_S] s t ∧ t = { s with regs := t.regs })

/-- THERMAL_SWEEP, LEVEL_CHANGE, SEN_RETRY: sensors, the hottest of them, the throttle level and the orderly stop (R376 to R384). -/
def Obligations.ThermalControl : Prop :=
  (∀ (s : State) (r : List SenReading), s.mode = .off → exec (.thermalSweep r) s = .next s) ∧
  (∀ (s : State) (r : List SenReading) (i : Nat) (u : State), u = s.sweepForce → s.mode = .run → i < 11 → u.senState i false ≠ 0 →
    ∃ t, exec (.thermalSweep r) s = .next t ∧ t.getF (Reg.TH_SEN_STATE i) = u.senState i false ∧ t.dram.cells = s.dram.cells ∧ t.mode = .run) ∧
  (∀ (s : State) (r : List SenReading) (i : Nat) (x : Int) (u : State), u = s.sweepForce → s.mode = .run → i < 11 → u.senState i false = 0 → mget 0 s.therm.bad i = 0 →
    mfind i s.therm.prev = none → i < r.length → -500 ≤ x → x ≤ 1900 →
    ∃ t, exec (.thermalSweep (r.set i (.temp x))) s = .next t ∧ t.getF (Reg.TH_SEN_STATE i) = 0 ∧ t.getS (Reg.TH_SEN_TEMP i) = x ∧ x ≤ t.tMax ∧
      mget 0 t.therm.bad i = 0 ∧ mget 0 t.therm.good i = x) ∧
  (∀ (s : State) (r : List SenReading) (i : Nat) (u : State), u = s.sweepForce → s.mode = .run → i < 9 → u.senState i false = 0 → mget 0 s.therm.bad i = 1 →
    i < r.length → ∃ t, exec (.thermalSweep (r.set i .ntcShort)) s = .next t ∧ t.getF (Reg.TH_SEN_STATE i) = 2 ∧ t.getF (Reg.TH_SEN_CAUSE i) = 1 ∧
      s.ev.seq < t.ev.seq) ∧
  (∀ s : State, s.mode = .run → s.host.ingress = [] → s.host.stage = none → s.isStandby = false → s.nand.refreshQ = [] →
    s.therm.lastChange = none → s.getF Reg.TH_STATUS_LEVEL ≠ s.targetLevel →
    ∃ t, exec .levelChange s = .next t ∧ t.getF Reg.TH_STATUS_LEVEL = s.targetLevel % 4 ∧ t.ev.seq = s.ev.seq + 1 ∧ t.therm.lastChange = some s.ms ∧
      t.dram = s.dram ∧ t.nand = s.nand ∧ t.cover = s.cover ∧ t.host = s.host) ∧
  (∀ (s : State) (x : Nat), s.mode = .run → s.therm.lastChange = some x → s.ms < x + 100 → exec .levelChange s = .next s) ∧
  (∀ (s : State) (p : Path) (i : Nat), s.reach p 0xB03C = true → i < 11 →
    ∃ t, exec (.senRetry p) s = .next t ∧ (s.service = false → t.therm = s.therm ∧ RegsKept [Reg.DT_SVC_LEFT_S] s t) ∧
      (s.service = true → t.therm.bad = [] ∧ t.getF Reg.TH_STATUS_FAILED_N = 0 ∧ t.getF (Reg.TH_SEN_STATE i) = s.senState i false ∧
        t.getF (Reg.TH_SEN_CAUSE i) = 0) ∧ t = { s with regs := t.regs, therm := t.therm })

/-- ARBITER_TICK: the grants never exceed the requests nor, but for a tick that keeps inherited grants, the budget; the classes are served
in the order DRAM, NAND, ACC_OUT, charger (R387 to R389). -/
def Obligations.BudgetGrants : Prop :=
  ∀ (s : State) (b : BudgetIn) (u : State), u = s.arbForce → s.host.ingress = [] → s.host.stage = none → s.isStandby = false → s.nand.refreshQ = [] →
    ∃ t, exec (.arbiterTick b) s = .next t ∧ t.mode = s.mode ∧ t.dram = s.dram ∧ t.nand = s.nand ∧ t.cover = s.cover ∧
      t.getF Reg.BA_SRC_SOURCE = (u.srcLimit).2 ∧
      (t.getF Reg.BA_SRC_OVER = 0 → sumList t.therm.grantDram + sumList t.therm.grantNand + t.therm.grantAcc + t.therm.grantChg ≤
          u.srcLimit.1 - (b.vsysLoad + u.getF Reg.BA_CFG_UNC_MARGIN - b.chgDraw - b.accDraw - (sumList s.therm.grantDram + sumList s.therm.grantNand)) ∧
        t.therm.grantChg ≤ b.chg ∧ t.therm.grantAcc ≤ b.acc ∧ (∀ i < 8, t.therm.grantNand.getD i 0 ≤ b.nand.getD i 0) ∧
        (t.therm.grantDram ≠ (u.arbReqs b).getD 0 [] → sumList t.therm.grantNand = 0 ∧ t.therm.grantAcc = 0 ∧ t.therm.grantChg = 0)) ∧
      (t.getF Reg.BA_SRC_OVER = 1 → t.therm.grantDram = s.therm.grantDram ∧ t.therm.grantNand = s.therm.grantNand ∧
        t.therm.grantAcc = s.therm.grantAcc ∧ t.therm.grantChg = s.therm.grantChg ∧ u.getB Reg.BA_SRC_OVER = false) ∧
      (t.getF Reg.BA_STATUS_SHORT = 0 → ∀ i < 2, t.therm.grantDram.getD i 0 = ((u.arbReqs b).getD 0 []).getD i 0)

/-- SEQUENCER_TICK, ENTRY_POWER_GOOD, ENTRY_UP_TIMEOUT, ENTRY_RETRY, ENTRY_OFF and ENTRY_DOWN_TIMEOUT: the entries of the sequencer with no
sequence running (R333, R353, R354, R357, R360). -/
def Obligations.SequencerEntries : Prop :=
  (∀ s : State, s.mode = .run → s.getF Reg.SQ_STATUS_SEQ = 0 →
    ∃ t, exec .sequencerTick s = .next t ∧ t.mode = .run ∧ t.rail.tick = s.rail.tick + 1 ∧
      ((∀ m ∈ railEntries, s.mayRise m = true → s.slaveGone m = false) → ∀ n ∈ railEntries, (s.entSt n ≠ 1 → t.entSt n = s.entSt n) ∧
        (s.entSt n = 1 → s.rail.seqStart + s.upSlot n ≤ s.rail.tick → s.parentsUp n = true → t.entSt n = 2) ∧
        (s.entSt n = 1 → s.parentsUp n = false → t.entSt n = 1))) ∧
  (∀ (s : State) (n : Nat), railEntries.contains n = true → ownOut n = true → s.entSt n = 2 → s.getF Reg.SQ_STATUS_SEQ = 0 →
    ∃ t, exec (.entryPowerGood n) s = .next t ∧ t.entSt n = 3 ∧ t.getF (Reg.PS_SET_PG n) = 1 ∧ t.getF (Reg.PS_SET_ON n) = 1) ∧
  (∀ (s : State) (n : Nat), s.entSt n ≠ 2 → exec (.entryPowerGood n) s = .next s ∧ exec (.entryUpTimeout n) s = .next s) ∧
  (∀ (s : State) (n : Nat), railEntries.contains n = true → s.entSt n = 2 → s.getF Reg.SQ_STATUS_SEQ = 0 → s.mode = .run →
    (∀ m ∈ s.allDependants n, s.critical m = false) → s.critical n = false →
    ∃ t, exec (.entryUpTimeout n) s = .next t ∧ t.mode = .run ∧ s.ev.seq < t.ev.seq ∧ mget 0 t.rail.tries n = mget 0 s.rail.tries n + 1 ∧
      t.entSt n = (if s.retryOf n < mget 0 s.rail.tries n + 1 then 5 else 4)) ∧
  (∀ (s : State) (n : Nat), railEntries.contains n = true → s.entSt n = 4 → s.mode = .run → s.slaveGone n = false →
    ∃ t, exec (.entryRetry n) s = .next t ∧ t.mode = .run ∧ t.entSt n = (if s.parentsUp n then 2 else 1) ∧
      (∀ m ∈ railEntries, m ≠ n → t.entSt m = s.entSt m) ∧ t.dram = s.dram ∧ t.nand = s.nand) ∧
  (∀ (s : State) (n : Nat), railEntries.contains n = true → s.entSt n = 6 → s.getF Reg.SQ_STATUS_SEQ = 0 →
    (∃ t, exec (.entryOff n) s = .next t ∧ t.entSt n = 0) ∧
    (∃ t, exec (.entryDownTimeout n) s = .next t ∧ t.entSt n = 7 ∧ s.ev.seq < t.ev.seq)) ∧
  (∀ (s : State) (n : Nat), s.entSt n ≠ 6 → exec (.entryOff n) s = .next s ∧ exec (.entryDownTimeout n) s = .next s)

/-- EF_KEY, UNLOCK_EXPIRY, READ, OTP_READ and CLEAR: unlocking and reading through a path's command interface moves neither the flash, nor
the OTP row, nor the other path's registers (R437, R442, R444, R447, R452). -/
def Obligations.KeeperReads : Prop :=
  (∀ (s : State) (p : Path) (v : Word), s.efUp p = true →
    ∃ t, exec (.efKey p v) s = .next t ∧ (v.toNat % 65536 = 0x4C69 → (s.path p).unlock = 0 → (t.path p).unlock = 1) ∧
      (v.toNat % 65536 = 0x6768 → (s.path p).unlock = 1 → (t.path p).unlock = 2) ∧
      (v.toNat % 65536 ≠ 0x4C69 → v.toNat % 65536 ≠ 0x6768 → (t.path p).unlock = 0) ∧
      t.path p = { s.path p with unlock := (t.path p).unlock } ∧ RegsKept [Reg.DT_SVC_LEFT_S] s t ∧ t = ({ s with regs := t.regs } : State).setPath p (t.path p)) ∧
  (∀ (s : State) (p : Path), ∃ t, exec (.unlockExpiry p) s = .next t ∧ (t.path p).unlock = 0 ∧ t = s.setPath p { s.path p with unlock := 0 }) ∧
  (∀ (s : State) (p : Path) (n : Nat), s.efUp p = true → s.efBusy p = true →
    (∃ t, exec (.read p n) s = .next t ∧ (t.path p).efErr = 6 ∧ (t.path p).efLo = (s.path p).efLo ∧ t.keep = s.keep ∧ t.otp = s.otp) ∧
    (∃ t, exec (.otpRead p) s = .next t ∧ (t.path p).efErr = 6 ∧ (t.path p).efLo = (s.path p).efLo ∧ t.keep = s.keep ∧ t.otp = s.otp) ∧
    (∃ t, exec (.clear p) s = .next t ∧ (t.path p).efErr = 6 ∧ t.keep = s.keep)) ∧
  (∀ (s : State) (p : Path) (n : Nat), s.efUp p = true → s.efBusy p = false → (s.path p).efOtp = false →
    ∃ t, exec (.read p n) s = .next t ∧ (t.path p).unlock = 0 ∧ t.keep = s.keep ∧ t.otp = s.otp ∧
      ((s.path p).efAddr / 512 < 256 → (t.path p).efLo = 0 ∧ (t.path p).efHi = 0) ∧
      (256 ≤ (s.path p).efAddr / 512 → (s.sector ((s.path p).efAddr / 512)).pending = true → (t.path p).efUndef = true ∧ t.freeCount = s.freeCount + 1) ∧
      (256 ≤ (s.path p).efAddr / 512 → (s.sector ((s.path p).efAddr / 512)).pending = false → 2 ≤ n → (t.path p).efUncorr = true ∧ t.freeCount = s.freeCount + 1) ∧
      (256 ≤ (s.path p).efAddr / 512 → (s.sector ((s.path p).efAddr / 512)).pending = false → n < 2 → s.keep.uncorr.contains (s.path p).efAddr = false →
        (t.path p).efCorr = decide (n = 1) ∧ (t.path p).efUndef = false ∧ (t.path p).efUncorr = false ∧
        ((s.path p).efAddr / 512 < 768 → (t.path p).efLo = (mget (BitVec.allOnes 64) s.keep.words (s.path p).efAddr).toNat % 2 ^ 32 ∧
          (t.path p).efHi = (mget (BitVec.allOnes 64) s.keep.words (s.path p).efAddr).toNat / 2 ^ 32)) ∧
      RegsKept [Reg.EF_OPS_CORR, Reg.DT_SVC_LEFT_S] s t ∧
      t = ({ s with regs := t.regs, freeCount := t.freeCount } : State).setPath p (t.path p)) ∧
  (∀ (s : State) (p : Path), s.efUp p = true → s.efBusy p = false →
    (∃ t, exec (.otpRead p) s = .next t ∧ (t.path p).efLo = (if (s.path p).efAddr % 256 = 12 ∨ (s.path p).efAddr % 256 = 13 then 0 else
        (s.otp.word ((s.path p).efAddr % 256)).toNat % 2 ^ 32) ∧ t.otp = s.otp ∧ t.keep = s.keep ∧ RegsKept [Reg.DT_SVC_LEFT_S] s t) ∧
    (∃ t, exec (.clear p) s = .next t ∧ (t.path p).efErr = 0 ∧ (t.path p).efCorr = false ∧ (t.path p).efUncorr = false ∧ (t.path p).efUndef = false ∧
      t.keep = s.keep ∧ t.otp = s.otp ∧ RegsKept [Reg.DT_SVC_LEFT_S] s t))

/-- PROGRAM, ERASE, OTP_PROG, SUSPEND and RESUME: what a locked, refused or accepted command of the interface does (R439, R442 to R448, R450). -/
def Obligations.KeeperCommands : Prop :=
  (∀ (s : State) (p : Path), s.efUp p = true → s.efBusy p = false → (s.path p).unlock ≠ 2 →
    (∃ t, exec (.program p) s = .next t ∧ (t.path p).efErr = 1 ∧ t.keep = s.keep ∧ t.otp = s.otp ∧ RegsKept [Reg.DT_SVC_LEFT_S] s t) ∧
    (∃ t, exec (.erase p) s = .next t ∧ (t.path p).efErr = 1 ∧ t.keep = s.keep ∧ t.otp = s.otp ∧ RegsKept [Reg.DT_SVC_LEFT_S] s t) ∧
    (∃ t, exec (.otpProg p) s = .next t ∧ (t.path p).efErr = 1 ∧ t.keep = s.keep ∧ t.otp = s.otp ∧ RegsKept [Reg.DT_SVC_LEFT_S] s t)) ∧
  (∀ (s : State) (p : Path), s.efUp p = true → s.efBusy p = false → (s.path p).unlock = 2 → (s.path p).efOtp = false →
    (s.fwWritable ((s.path p).efAddr / 512) = false →
      (∃ t, exec (.program p) s = .next t ∧ (t.path p).efErr = 2 ∧ t.keep = s.keep) ∧ (∃ t, exec (.erase p) s = .next t ∧ (t.path p).efErr = 2 ∧ t.keep = s.keep)) ∧
    (s.fwWritable ((s.path p).efAddr / 512) = true →
      (mget (BitVec.allOnes 64) s.keep.words (s.path p).efAddr ≠ BitVec.allOnes 64 →
        ∃ t, exec (.program p) s = .next t ∧ (t.path p).efErr = 3 ∧ t.keep = s.keep) ∧
      (mget (BitVec.allOnes 64) s.keep.words (s.path p).efAddr = BitVec.allOnes 64 →
        ∃ t, exec (.program p) s = .next t ∧ (t.path p).efDone = false ∧ (t.path p).unlock = 0 ∧ t.keep.words = s.keep.words ∧
          t.keep.progs = s.keep.progs ++ [⟨(s.path p).efAddr, BitVec.ofNat 64 ((s.path p).efLo + 2 ^ 32 * (s.path p).efHi), .host p, false⟩] ∧
          t.getF (if (s.path p).efAddr / 512 / 128 = 0 then Reg.EF_FW_B0_VALID else Reg.EF_FW_B1_VALID) = 0) ∧
      (∃ t, exec (.erase p) s = .next t ∧ (t.path p).efDone = false ∧ (t.path p).unlock = 0 ∧ t.keep.words = s.keep.words ∧
        t.keep.erasing = s.keep.erasing ++ [⟨(s.path p).efAddr / 512, .host p, false⟩] ∧ (t.sector ((s.path p).efAddr / 512)).pending = true ∧
        (t.sector ((s.path p).efAddr / 512)).erases = (s.sector ((s.path p).efAddr / 512)).erases + 1))) ∧
  (∀ (s : State) (p : Path), s.efUp p = true → s.efBusy p = false → (s.path p).unlock = 2 → (s.path p).efAddr % 256 = 12 → s.service = true →
    (s.otp.moorKey.getD 0 none = none → ∃ t, exec (.otpProg p) s = .next t ∧ (t.path p).efDone = false ∧ t.otp = s.otp ∧
      t.keep.progs = s.keep.progs ++ [⟨12, BitVec.ofNat 64 ((s.path p).efLo + 2 ^ 32 * (s.path p).efHi), .host p, true⟩]) ∧
    (s.otp.moorKey.getD 0 none ≠ none → ∃ t, exec (.otpProg p) s = .next t ∧ (t.path p).efErr = 7 ∧ t.keep = s.keep ∧ t.otp = s.otp)) ∧
  (∀ (s : State) (p : Path), s.efUp p = true →
    (∃ t, exec (.suspend p) s = .next t ∧ (s.keep.erasing.any (ownErase p) = false → (t.path p).efErr = 2 ∧ t.keep = s.keep) ∧
      (∀ e ∈ t.keep.erasing, ownErase p e = true → e.suspended = true) ∧ t.keep.words = s.keep.words ∧ t.keep.sectors = s.keep.sectors) ∧
    (∃ t, exec (.resume p) s = .next t ∧ (s.keep.erasing.any (fun e => ownErase p e && e.suspended) = false → (t.path p).efErr = 2 ∧ t.keep = s.keep) ∧
      (∀ e ∈ t.keep.erasing, ownErase p e = true → e.suspended = false) ∧ t.keep.words = s.keep.words ∧ t.keep.sectors = s.keep.sectors))

/-- WORD_PROGRAM_DONE, SECTOR_ERASE_DONE, ERASE_RESUME and JOURNAL_RECORD_WRITE: the flash engine's ends, and a journal record (R438 to
R440, R450, R455 to R459, R462). -/
def Obligations.KeeperEngine : Prop :=
  (∀ (s : State) (w pulses : Nat) (v : BitVec 64) (p : Path) (rest : List FlashProg),
    (∃ t, exec (.wordProgramDone pulses true) { s with keep := { s.keep with progs := ⟨w, v, .host p, false⟩ :: rest } } = .next t ∧
      mget (BitVec.allOnes 64) t.keep.words w = v ∧
      (∀ x, x ≠ w → mget (BitVec.allOnes 64) t.keep.words x = mget (BitVec.allOnes 64) s.keep.words x) ∧ t.keep.progs = rest ∧ (t.path p).efDone = true ∧
      t.otp = s.otp ∧ t.regs = s.regs) ∧
    (∃ t, exec (.wordProgramDone pulses true) { s with keep := { s.keep with progs := ⟨12, v, .host p, true⟩ :: rest } } = .next t ∧
      t.otp.moorKey = s.otp.moorKey.set 0 (some v.toNat) ∧ t.otp.ident = s.otp.ident ∧ t.keep.words = s.keep.words ∧ (t.path p).efDone = true) ∧
    (∃ t, exec (.wordProgramDone pulses false) { s with keep := { s.keep with progs := ⟨w, v, .host p, false⟩ :: rest } } = .next t ∧
      (t.sector (w / 512)).retired = true ∧ (t.path p).efErr = 4 ∧ (t.path p).efDone = true ∧ t.keep.words = s.keep.words ∧ t.keep.progs = rest) ∧
    (∃ t, exec (.wordProgramDone pulses true) { s with keep := { s.keep with progs := [] } } = .next t ∧
      (t.sector s.keep.head).pulses = max (s.sector s.keep.head).pulses (min 16 pulses) ∧ (∀ k, k ≠ s.keep.head → t.sector k = s.sector k) ∧
      t.keep.words = s.keep.words ∧ t.keep.recs = s.keep.recs) ∧
    (∃ t, exec (.wordProgramDone pulses false) { s with keep := { s.keep with progs := [] } } = .next t ∧
      (t.sector s.keep.head).retired = true ∧ (s.keep.recs = [] → t.keep.slot = 63)) ∧
    (∀ r ∈ s.keep.recs.getLast?, r.sector = s.keep.head → (s.retire s.keep.head).jDead = false →
      (s.retire s.keep.head).jNextSector s.keep.head ≠ s.keep.head →
      ∃ t, exec (.wordProgramDone pulses false) { s with keep := { s.keep with progs := [] } } = .next t ∧
        (t.sector s.keep.head).retired = true ∧ ∃ x ∈ t.keep.recs, x.pay = r.pay ∧ x.seq = r.seq ∧ x.sector ≠ s.keep.head)) ∧
  (∀ (s : State) (sec : Nat) (p : Path) (rest : List FlashErase), 256 ≤ sec →
    (∃ t, exec (.sectorEraseDone true) { s with keep := { s.keep with erasing := ⟨sec, .host p, false⟩ :: rest } } = .next t ∧
      (t.sector sec).pending = false ∧ (∀ x ∈ t.keep.words, x.1 / 512 ≠ sec) ∧ (∀ x ∈ s.keep.words, x.1 / 512 ≠ sec → x ∈ t.keep.words) ∧
      t.keep.erasing = rest ∧ (t.path p).efDone = true ∧ (100000 ≤ (s.sector sec).erases → (t.sector sec).retired = true) ∧ t.keep.recs = s.keep.recs) ∧
    (∃ t, exec (.sectorEraseDone false) { s with keep := { s.keep with erasing := ⟨sec, .host p, false⟩ :: rest } } = .next t ∧
      (t.sector sec).retired = true ∧ (t.sector sec).pending = (s.sector sec).pending ∧ (t.path p).efErr = 5 ∧ t.keep.words = s.keep.words ∧
      t.keep.erasing = rest)) ∧
  (∀ s : State, s.keep.erasing = [] → exec (.sectorEraseDone true) s = .next s) ∧
  (∀ s : State, s.keep.jq = [] → ∃ t, exec .eraseResume s = .next t ∧ (∀ e ∈ t.keep.erasing, 256 ≤ e.sector → e.suspended = false) ∧
    t.keep.erasing.map (fun e => (e.sector, e.owner)) = s.keep.erasing.map (fun e => (e.sector, e.owner)) ∧
    t = { s with keep := { s.keep with erasing := t.keep.erasing } }) ∧
  (∀ (s : State) (j : JPay) (rest : List JPay), s.keep.up = true → s.jDead = false → s.getB Reg.PS_STATUS_VSYS_LOSS = false →
    ∃ t, exec .journalRecordWrite { s with keep := { s.keep with jq := j :: rest } } = .next t ∧
      (∃ r ∈ t.keep.recs, r.pay = j ∧ r.seq = s.keep.nextSeq ∧ r.origSeq = s.keep.nextSeq ∧ r.copy = false) ∧ s.keep.nextSeq < t.keep.nextSeq ∧ t.mode = s.mode ∧
      (s.domState 10 ≠ 0 → t.keep.jq = rest) ∧
      (s.mode = .run ∨ s.mode = .restore ∨ s.mode = .wake → t.keep.jq = rest ∧ RegsKept [Reg.EF_OPS_SUSPENDS] s t ∧
        t = { s with regs := t.regs, keep := t.keep }))

/-- EVENT_RAISE, EVENT_MOVE, RECORD_CLOSE and ARCHIVE_WRITE: the way of an event from its class to the archive (R470 to R474, R477, R479,
R483). -/
def Obligations.EventPath : Prop :=
  (∀ (s : State) (src : EvSource) (cls param : Nat) (sev : Sev),
    ((evSev cls).contains sev = false → exec (.eventRaise src cls sev param) s = .next s) ∧
    ((evSev cls).contains sev = true → ∃ t, exec (.eventRaise src cls sev param) s = .next t ∧ t.ev.seq = s.ev.seq + 1 ∧
      (s.ev.queue = [] → t.ev.queue.map (fun e => (e.cls, e.sev, e.param, e.seq, e.rep)) = [(cls, sev, param % 2 ^ 32, s.ev.seq, 1)]) ∧
      t.ev.queue.length ≤ max 32 s.ev.queue.length ∧ t.ev.ring = s.ev.ring ∧ t.ev.arch = s.ev.arch ∧ RegsKept evFlds s t ∧
      t = { s with regs := t.regs, ev := t.ev })) ∧
  (∀ (s : State) (e : EvRec) (rest : List EvRec), s.evBlocked = false → s.ev.ring.length < 1024 → 1 ≤ e.rep → e.rep ≤ 1000 →
    (∀ x ∈ s.ev.ring, x.2.rep ≤ 1000) →
    ∃ t, exec .eventMove { s with ev := { s.ev with queue := e :: rest } } = .next t ∧ t.ev.queue = rest ∧ t.ev.arch = s.ev.arch ∧
      (∃ x ∈ t.ev.ring, x.2.cls = e.cls ∧ x.2.sev = e.sev ∧ x.2.param = e.param) ∧ (∀ x ∈ s.ev.ring, (mfind x.1 t.ev.ring).isSome = true) ∧
      t.getF Reg.EV_ENTERED_ENTERED = (s.getF Reg.EV_ENTERED_ENTERED + e.rep) % 2 ^ Reg.EV_ENTERED_ENTERED.w ∧
      t = { s with regs := t.regs, ev := t.ev }) ∧
  (∀ (s : State) (e : EvRec) (rest : List EvRec), s.evBlocked = true →
    exec .eventMove { s with ev := { s.ev with queue := e :: rest } } = .next { s with ev := { s.ev with queue := e :: rest } }) ∧
  (∀ (s : State) (k : Nat) (r : EvRec), newest s.ev.ring = some (k, r) → r.opened = true → r.time + r.lastDt + 10 ≤ s.evTime →
    (s.getB Reg.EV_STATUS_FREEZE = false → ∃ t, exec .recordClose s = .next t ∧ mfind k t.ev.ring = some { r with opened := false } ∧
      t = { s with ev := { s.ev with ring := t.ev.ring } }) ∧
    (s.getB Reg.EV_STATUS_FREEZE = true → exec .recordClose s = .next s)) ∧
  (∀ (s : State) (k : Nat) (r : EvRec), oldestOf (s.ev.ring.filter (fun x => !x.2.opened && !x.2.flushed)) = some (k, r) →
    s.evBlocked = false → s.keep.state < 3 → s.keep.jq = [] → s.ev.clearing = none →
    ∃ t, exec .archiveWrite s = .next t ∧ mfind k t.ev.ring = some { r with flushed := true } ∧
      (∃ x ∈ t.ev.arch, x.2 = { r with flushed := true } ∧ t.ev.head = (x.1 + 1) % 8192) ∧ t.ev.queue = s.ev.queue ∧ t.ev.seq = s.ev.seq ∧
      RegsKept [Reg.EV_DROP_CRIT_OVF, Reg.EV_DROP_FLASH_DROP] s t ∧ t = { s with regs := t.regs, ev := t.ev, keep := { s.keep with sectors := t.keep.sectors } })

/-- FREEZE, THAW, FREEZE_EXPIRY, EV_CLEAR, CLEAR_COMPLETE and EV_RDSEL: who may freeze, clear and read the records (R480 to R482, R484). -/
def Obligations.EventControl : Prop :=
  (∀ (s : State) (p : Path), s.reach p 0xE004 = true →
    (s.getB Reg.EV_STATUS_FREEZE = true ∨ s.ev.clearing.isSome = true →
      ∃ t, exec (.freeze p) s = .next t ∧ t.getF Reg.EV_STATUS_FRZ_REFUSED = 1 ∧
        RegsKept [Reg.EV_STATUS_FRZ_REFUSED, Reg.DT_SVC_LEFT_S] s t ∧ t = { s with regs := t.regs }) ∧
    (s.getB Reg.EV_STATUS_FREEZE = false → s.ev.clearing = none → s.ev.frzEnd = none →
      ∃ t, exec (.freeze p) s = .next t ∧ t.getF Reg.EV_STATUS_FREEZE = 1 ∧ t.getF Reg.EV_STATUS_FRZ_MS = 50 ∧ t.ownsFreeze p = true ∧
        (∀ q, q ≠ p → t.ownsFreeze q = false) ∧ (∀ e ∈ t.ev.queue, e.pended = true) ∧ t.ev.ring = s.ev.ring ∧ t.ev.arch = s.ev.arch)) ∧
  (∀ (s : State) (p : Path), s.reach p 0xE004 = true →
    (s.ownsFreeze p = false → ∃ t, exec (.thaw p) s = .next t ∧ t.ev = s.ev ∧ RegsKept [Reg.DT_SVC_LEFT_S] s t) ∧
    (s.ownsFreeze p = true → ∃ t, exec (.thaw p) s = .next t ∧ t.getF Reg.EV_STATUS_FREEZE = 0 ∧ t.ev = { s.ev with frzEnd := some s.ms } ∧
      RegsKept [Reg.EV_STATUS_FREEZE, Reg.EV_STATUS_FRZ_MS, Reg.EV_STATUS_FRZ_PATH, Reg.DT_SVC_LEFT_S] s t)) ∧
  (∀ s : State, s.getB Reg.EV_STATUS_FREEZE = true → ∃ t, exec .freezeExpiry s = .next t ∧ t.getF Reg.EV_STATUS_FREEZE = 0 ∧
    t.ev = { s.ev with frzEnd := some s.ms } ∧ RegsKept [Reg.EV_STATUS_FREEZE, Reg.EV_STATUS_FRZ_MS, Reg.EV_STATUS_FRZ_PATH] s t) ∧
  (∀ (s : State) (v : Word), s.reach .cxl 0xE008 = true → s.reach .spmi 0xE008 = true → v.toNat / 256 % 2 = 1 →
    (∃ t, exec (.evClear .spmi v) s = .next t ∧ t.getF Reg.EV_STATUS_CLR_REFUSED = 1 ∧ RegsKept [Reg.EV_STATUS_CLR_REFUSED] s t ∧ t = { s with regs := t.regs }) ∧
    (s.ticketFor 2 = false ∨ s.getB Reg.EV_STATUS_FREEZE = true → ∃ t, exec (.evClear .cxl v) s = .next t ∧ t.getF Reg.EV_STATUS_CLR_REFUSED = 1 ∧
      t.ev = s.ev ∧ t.host = s.host) ∧
    (s.ticketFor 2 = true → s.getB Reg.EV_STATUS_FREEZE = false → s.ev.clearing = none → s.ev.ring.length < 1024 →
      ∃ t, exec (.evClear .cxl v) s = .next t ∧ t.ev.clearing = some (s.ev.seq, v.toNat % 4) ∧ t.host.auth.ticket = none ∧ t.ev.seq = s.ev.seq + 1 ∧
        (∀ x ∈ t.ev.ring, clearHits s.ev.seq (v.toNat % 4) x.2 = false) ∧ (∃ x ∈ t.ev.ring, x.2.cls = 0x3A ∧ x.2.seq = s.ev.seq ∧ x.2.sev = .critical) ∧
        t.getF Reg.EV_STATUS_CLR_REFUSED = 0)) ∧
  (∀ (s : State) (seq sev : Nat), ∃ t, exec .clearComplete { s with ev := { s.ev with clearing := some (seq, sev) } } = .next t ∧ t.ev.clearing = none ∧
    (∀ x ∈ t.ev.arch, clearHits seq sev x.2 = false ∧ ∃ y ∈ s.ev.arch, x.2 = y.2 ∨ x.2 = { y.2 with copy := true }) ∧
    ((∀ x ∈ s.ev.arch, ∀ y ∈ s.ev.arch, archSector x.1 = archSector y.1 → clearHits seq sev x.2 = clearHits seq sev y.2) →
      ∀ x, x ∈ t.ev.arch ↔ x ∈ s.ev.arch ∧ clearHits seq sev x.2 = false) ∧ t.ev.ring = s.ev.ring ∧ t.regs = s.regs) ∧
  (∀ (s : State) (p : Path) (v : Word), s.reach p 0xE024 = true → s.keep.up = true →
    ∃ t, exec (.evRdsel p v) s = .next t ∧ (t.path p).rdLoaded = true ∧ (t.path p).rdTier = v.toNat.testBit 31 ∧
      (t.path p).rdEmpty = (if v.toNat.testBit 31 then (mfind (v.toNat % 8192) s.ev.arch).isNone else (mfind (min 1023 (v.toNat % 8192)) s.ev.ring).isNone) ∧
      ((t.path p).rdEmpty = true → ∀ w ∈ (t.path p).rdData, w = 0) ∧ (t.path p).rdData.length = 16 ∧ t.ev = s.ev ∧ RegsKept [Reg.DT_SVC_LEFT_S] s t)

/-- MOORING_LINK_UP, MOORING_LINK_DOWN, RETRAIN, NAK, BELL_SILENT, BELL_ALIVE, PAIR_TIMEOUT, HEARTBEAT and HELLO: the link, the bell and
the pairing of a twin (R394 to R403, R425). -/
def Obligations.TwinLink : Prop :=
  (∀ (s : State) (lanes : Nat), s.twinOn = true → s.pd 8 = true → s.twin.heldDown = false → s.getF Reg.TW_STATUS_LINK = 0 →
    (lanes = 4 ∨ lanes = 8 → ∃ t, exec (.mooringLinkUp lanes) s = .next t ∧ t.getF Reg.TW_STATUS_LINK = 2 ∧ t.getF Reg.TW_STATUS_LANES = lanes ∧
      t.getF Reg.TW_STATUS_PARTNER = 0 ∧ t.twin.txf.map (fun f => (f.ty, f.par, f.lseq)) = [(6, s.getF Reg.TW_EPOCH_EPOCH, 0)] ∧ t.twin.lseqTx = 1 ∧ t.twin.sawHello = false ∧
      RegsKept [Reg.TW_STATUS_LINK, Reg.TW_STATUS_LANES, Reg.TW_STATUS_PARTNER, Reg.TW_STATUS_SPLIT] s t ∧ t = { s with regs := t.regs, twin := t.twin }) ∧
    (lanes ≠ 4 → lanes ≠ 8 → exec (.mooringLinkUp lanes) s = .next s)) ∧
  (∀ s : State, s.linkOn = true → s.mode = .burrow →
    ∃ t, exec .mooringLinkDown s = .next t ∧ t.getF Reg.TW_STATUS_LINK = 0 ∧ t.getF Reg.TW_STATUS_LANES = 0 ∧ t.getF Reg.TW_STATUS_LS_ON = 0 ∧
      t.getF Reg.TW_RESYNC_RUNNING = 0 ∧ t.getF Reg.TW_LINK_DOWNS = min (2 ^ Reg.TW_LINK_DOWNS.w - 1) (s.getF Reg.TW_LINK_DOWNS + 1) ∧ t.twin.rsyTodo = [] ∧
      t.getF Reg.TW_STATUS_PARTNER = (if s.getB Reg.TW_STATUS_BELL_OK = false then 3 else if s.twin.partnerFence then 1 else if s.twin.paired then 2 else 3) ∧
      t.dram.cells = s.dram.cells ∧ t.nand = s.nand) ∧
  (∀ s : State, s.getF Reg.TW_STATUS_LINK = 2 → ∃ t, exec .retrain s = .next t ∧ t.getF Reg.TW_STATUS_LINK = 3 ∧
    t.getF Reg.TW_LINK_RETRAINS = min (2 ^ Reg.TW_LINK_RETRAINS.w - 1) (s.getF Reg.TW_LINK_RETRAINS + 1) ∧
    RegsKept [Reg.TW_STATUS_LINK, Reg.TW_LINK_RETRAINS] s t ∧ t = { s with regs := t.regs }) ∧
  (∀ (s : State) (n : Nat), s.linkOn = true → n ≤ s.twin.txf.length → s.twin.txf.length ≤ 64 → s.twin.lseqTx < 4096 → n ≤ s.twin.lseqTx →
    ∃ t, exec (.nak (s.twin.lseqTx - n)) s = .next t ∧ t.getF Reg.TW_LINK_REPLAYS = min (2 ^ Reg.TW_LINK_REPLAYS.w - 1) (s.getF Reg.TW_LINK_REPLAYS + n) ∧
      RegsKept [Reg.TW_LINK_REPLAYS] s t ∧ t = { s with regs := t.regs }) ∧
  (∀ s : State, s.hasTwin = true → s.getB Reg.TW_STATUS_BELL_OK = true →
    (s.linkOn = true → ∃ t, exec .bellSilent s = .next t ∧ t.getF Reg.TW_STATUS_BELL_OK = 0 ∧ t.ev.seq = s.ev.seq + 1 ∧
      RegsKept (Reg.TW_STATUS_BELL_OK :: evFlds) s t ∧ t = { s with regs := t.regs, ev := t.ev }) ∧
    (s.linkOn = false → ∃ t, exec .bellSilent s = .next t ∧ t.getF Reg.TW_STATUS_BELL_OK = 0 ∧ t.getF Reg.TW_STATUS_PARTNER = 3)) ∧
  (∀ s : State, s.hasTwin = true → s.getB Reg.TW_STATUS_BELL_OK = false →
    exec .bellSilent s = .next s ∧ (s.rail.vioOk = false → exec .bellAlive s = .next s) ∧
    (s.rail.vioOk = true → ∃ t, exec .bellAlive s = .next t ∧ t.getF Reg.TW_STATUS_BELL_OK = 1 ∧
      (s.linkOn = true → RegsKept [Reg.TW_STATUS_BELL_OK] s t ∧ t = { s with regs := t.regs }))) ∧
  (∀ s : State, s.twinOn = true → s.mode = .run → s.linkOn = false → s.getB Reg.TW_STATUS_BELL_OK = true → s.twin.partnerFence = false →
    ∃ t, exec .pairTimeout s = .next t ∧ t.getF Reg.TW_STATUS_PARTNER = 2 ∧
      (s.isStandby = true → s.bur.fenced = false → s.getF Reg.TW_STATUS_PARTNER ≠ 2 → t.getF Reg.TW_STATUS_SPLIT = 1 ∧ t.getF Reg.TW_STATUS_MIRROR = 1 ∧
        t.getF Reg.TW_EPOCH_EPOCH = (s.getF Reg.TW_EPOCH_EPOCH + 1) % 2 ^ Reg.TW_EPOCH_EPOCH.w ∧ s.ev.seq < t.ev.seq) ∧
      (s.isSolo = true → RegsKept [Reg.TW_STATUS_PARTNER] s t)) ∧
  (∀ (s : State) (m : BeatMsg), (s.twinUp = false → exec (.heartbeat m) s = .next s) ∧
    (s.twinUp = true → m.mirror ≠ 1 → ∃ t, exec (.heartbeat m) s = .next t ∧ t.twin.beat = some m ∧ t.twin.learned = m.epoch ∧
      (t.twin.txf.head?).map (fun f => (f.ty, f.par, f.lseq, f.cum)) = some (2, 0, s.twin.lseqTx, if s.isStandby then s.twin.apl else s.twin.acc) ∧
      t.twin.lseqTx = (s.twin.lseqTx + 1) % 4096 ∧ t.twin.lseqRx = (s.twin.lseqRx + 1) % 4096 ∧
      (m.store = 0 → s.getF Reg.ES_ACC_MODE = 2 → t.getF Reg.TW_PEER_CAP_OUT = 0 ∧ t.getF Reg.ES_STATUS_ACC_ON = 0) ∧
      RegsKept [Reg.TW_PEER_CAP_OUT, Reg.ES_STATUS_ACC_ON] s t ∧ t = { s with regs := t.regs, twin := t.twin })) ∧
  (∀ (s : State) (m : HelloMsg) (u : State), u = s.blockForce 12 → s.getF Reg.TW_STATUS_LINK = 2 → s.twin.sawHello = false → s.mode = .run → s.bur.fenced = false →
    (m.tagOk = false → ∃ t, exec (.hello m) s = .next t ∧ t.getF Reg.TW_STATUS_PAIR_FAIL = 1 ∧ t.twin.heldDown = true ∧ t.getF Reg.TW_STATUS_LINK = 0 ∧
      t.role = u.role ∧ s.ev.seq < t.ev.seq ∧ t.dram = s.dram) ∧
    (m.tagOk = true → u.twinOn = true → u.isActive = true → m.role = 2 →
      ∃ t, exec (.hello m) s = .next t ∧ t.isActive = true ∧ t.twin.sawHello = true ∧ t.getF Reg.TW_STATUS_PARTNER = 0 ∧
        (m.mirror = 0 → u.getF Reg.TW_EPOCH_EPOCH = m.epoch → s.twin.fenceWsn = m.fenceWsn → t.getF Reg.TW_STATUS_MIRROR = 0 ∧ t.getF Reg.TW_RESYNC_KIND = 1 ∧ t.getF Reg.TW_RESYNC_RUNNING = 0) ∧
        (m.mirror = 1 → t.getF Reg.TW_STATUS_MIRROR = 2 ∧ t.getF Reg.TW_RESYNC_RUNNING = 1)) ∧
    (m.tagOk = true → u.twinOn = true → u.isStandby = true → m.role = 1 →
      ∃ t, exec (.hello m) s = .next t ∧ t.isStandby = true ∧ t.twin.sawHello = true ∧ t.getF Reg.TW_STATUS_PARTNER = 0 ∧ t.getF Reg.TW_STATUS_GOVERN = 0 ∧
        t.dram.cells = s.dram.cells))

/-- INPUT, DECISION, CONTROL_TICK, SELF_TEST_DONE, FENCE_FRAME, FENCE_WAIT_EXPIRY, GRACE_EXPIRY, CTRL, TWIN_SWITCH_OVER and
FORCED_PROMOTION: lockstep control, the fence exchange and changes of role (R408 to R424). -/
def Obligations.TwinControl : Prop :=
  (∀ (s : State) (m : InputMsg) (w : BitVec 64), s.twinUp = true →
    exec (.input m) s = .next { s with twin := { s.twin with inPartner := some m, inFresh := true, lseqRx := (s.twin.lseqRx + 1) % 4096 } } ∧
    exec (.decision w) s = .next { s with twin := { s.twin with wordPartner := some w, lseqRx := (s.twin.lseqRx + 1) % 4096 } }) ∧
  (∀ (s : State) (m : InputMsg), s.twinUp = true → s.isSolo = false → s.twin.inPartner = none →
    ∃ t, exec (.controlTick m) s = .next t ∧ t.twin.inOwn = some m ∧ (t.twin.txf.head?).map (fun f => (f.ty, f.par)) = some (3, 0) ∧ t.twin.wordAgreed = s.twin.wordAgreed ∧
      t.ev.srcs = [] ∧ t.ev.seq = s.ev.seq ∧ RegsKept [Reg.EV_SEQ_SEQ] s t ∧ t = { s with twin := t.twin, ev := t.ev, regs := t.regs }) ∧
  (∀ (s : State) (m p : InputMsg), s.twinUp = true → s.isSolo = false → s.comparing = true → s.twin.selfTest = false →
    ∃ t, exec (.controlTick m) { s with twin := { s.twin with inPartner := some p, inFresh := true, wordPartner := some (s.decide64 m p) } } = .next t ∧
      t.twin.wordOwn = s.decide64 m p ∧ t.twin.wordAgreed = s.decide64 m p ∧ t.twin.mism = 0 ∧ t.twin.inFresh = false ∧ t.getF Reg.TW_STATUS_LS_ON = 1 ∧
      t.getF Reg.TW_LS_MISMATCH = s.getF Reg.TW_LS_MISMATCH) ∧
  (∀ (s : State) (m p : InputMsg) (w : BitVec 64), s.twinUp = true → s.isSolo = false → s.comparing = true → s.twin.selfTest = false → w ≠ s.decide64 m p →
    ∃ t, exec (.controlTick m) { s with twin := { s.twin with inPartner := some p, inFresh := true, wordPartner := some w } } = .next t ∧
      t.getF Reg.TW_LS_MISMATCH = min (2 ^ Reg.TW_LS_MISMATCH.w - 1) (s.getF Reg.TW_LS_MISMATCH + 1) ∧ t.twin.wordAgreed = s.twin.wordAgreed ∧
      (s.twin.mism < 2 → t.twin.mism = s.twin.mism + 1 ∧ t.twin.selfTest = false) ∧ (2 ≤ s.twin.mism → t.twin.selfTest = true ∧ t.twin.mism = 0 ∧ s.ev.seq < t.ev.seq)) ∧
  (∀ (s : State) (own partner : Bool), s.twin.selfTest = true →
    ∃ t, exec (.selfTestDone own partner) s = .next t ∧ t.twin.selfTest = false ∧ t.getF Reg.TW_LS_ST_OWN = (if own then 1 else 2) ∧
      t.getF Reg.TW_LS_ST_PARTNER = (if partner then 1 else 2) ∧
      (own = true → partner = true → t.getB Reg.TW_STATUS_GOVERN = s.isActive ∧ t.getB Reg.TW_STATUS_FOLLOW = !s.isActive) ∧
      (own = true → partner = false → t.getF Reg.TW_STATUS_GOVERN = 1 ∧ t.getF Reg.TW_STATUS_FOLLOW = 0) ∧
      (own = false → partner = true → t.getF Reg.TW_STATUS_GOVERN = 0 ∧ t.getF Reg.TW_STATUS_FOLLOW = 1) ∧
      (own = false → t.getF Reg.TW_STATUS_ST_FAIL = 1 ∧ (t.getF Reg.MD_LOCKOUT_ALL).testBit 7 = true)) ∧
  (∀ (s : State) (cum causes : Nat), s.twinUp = true →
    (s.isActive = true → ∃ t, exec (.fenceFrame cum causes) s = .next t ∧ t.twin.partnerFence = true ∧ s.twin.apl ≤ t.twin.apl ∧
      t.twin.apl ≤ max s.twin.apl cum ∧ (s.bur.fenced = false → t.twin.grace = true ∧ t.regs = s.regs) ∧ (s.bur.fenced = true → t.getF Reg.TW_HELD_FX = 1) ∧
      RegsKept [Reg.TW_HELD_FX] s t ∧ t = { s with regs := t.regs, twin := t.twin }) ∧
    (s.isStandby = true → s.bur.fenced = false → ∃ t, exec (.fenceFrame cum causes) s = .next t ∧ t.twin.partnerFence = true ∧ t.twin.noAck = true ∧
      t.twin.fenceWsn = t.twin.acc ∧ (t.twin.outcome = true ↔ t.twin.mstaged ≠ []))) ∧
  (∀ s : State, s.twin.fenceWait = true → ∃ t, exec .fenceWaitExpiry s = .next t ∧ t.getF Reg.TW_HELD_FX = 2 ∧ t.getF Reg.TW_STATUS_MIRROR = 1 ∧
    t.twin = { s.twin with fenceWait := false } ∧ RegsKept [Reg.TW_HELD_FX, Reg.TW_STATUS_MIRROR] s t) ∧
  (∀ s : State, s.twin.grace = true → s.isActive = true → s.host.ingress = [] → s.host.stage = none → s.host.staged = [] → s.nand.refreshQ = [] →
    ∃ t, exec .graceExpiry s = .next t ∧ t.isActive = true ∧ t.twin.grace = false ∧ t.getF Reg.TW_HELD_FX = 3 ∧ t.getF Reg.TW_STATUS_MIRROR = 1 ∧
      t.getF Reg.TW_STATUS_PARTNER = 1 ∧ s.ev.seq < t.ev.seq ∧ t.cover = s.cover ∧ t.dram = s.dram) ∧
  (∀ (s : State) (off : Bool) (v : List Nat) (k : Nat), s.twinUp = true →
    (s.mode = .run → s.bur.trig = false → s.getB Reg.MD_STATUS_LRST_ACT = false → ∃ t, exec (.ctrl (.hostBurrow off)) s = .next t ∧ t.bur.trig = true ∧
      (off = true → t.bur.offReq = true)) ∧
    (s.isStandby = true → ∃ t, exec (.ctrl (.outcome true)) s = .next t ∧ t.twin.mstaged = [] ∧ t.twin.outcome = false) ∧
    (s.getB Reg.TW_STATUS_GOVERN = false → k < v.length → k < 8 → ∃ t, exec (.ctrl (.nexts v)) s = .next t ∧ t.getF (Reg.SQ_SLVSEQ_NEXT k) = v.getD k 0 % 65536) ∧
    (s.isActive = true → ∃ t, exec (.ctrl .resyncFull) s = .next t ∧ t.getF Reg.TW_RESYNC_KIND = 3 ∧ t.getF Reg.TW_RESYNC_RUNNING = 1 ∧ t.getF Reg.TW_STATUS_MIRROR = 2)) ∧
  (∀ s : State, s.getB Reg.HL_STATUS_LINK_UP = true → s.mboxFree = true →
    (s.hasTwin = false → ∃ t, exec (.twinSwitchOver 1 0) s = .next t ∧ t.host.mbox = ⟨0xC004, 3, .none⟩ ∧ t.twin = s.twin ∧
      RegsKept [Reg.HL_MBOX_OPCODE, Reg.HL_MBOX_RET_CODE, Reg.DT_SVC_LEFT_S] s t) ∧
    (s.hasTwin = true → s.isStandby = true → s.mode = .run → s.bur.trig = false → s.lockHas 8 = false → s.getF Reg.TW_STATUS_PARTNER = 3 →
      s.getF Reg.TW_STATUS_MIRROR = 0 → ∃ t, exec (.twinSwitchOver 1 0) s = .next t ∧ t.isActive = true ∧ t.host.mbox.ret = 0 ∧ t.getF Reg.TW_STATUS_MIRROR = 1 ∧
        t.getF Reg.TW_EPOCH_EPOCH = (s.getF Reg.TW_EPOCH_EPOCH + 1) % 2 ^ Reg.TW_EPOCH_EPOCH.w) ∧
    (s.hasTwin = true → s.isSolo = true → ∃ t, exec (.twinSwitchOver 1 0) s = .next t ∧ t.host.mbox = ⟨0xC004, 6, .none⟩ ∧ t.twin = s.twin ∧ t.role = s.role)) ∧
  (∀ s : State, s.getB Reg.HL_STATUS_LINK_UP = true → s.mboxFree = true → s.hasTwin = true →
    (s.ticketFor 3 = false → ∃ t, exec (.forcedPromotion 0) s = .next t ∧ t.host.mbox.ret = rcSec ∧ t.role = s.role ∧ t.twin = s.twin) ∧
    (s.ticketFor 3 = true → s.isStandby = true → s.mode = .run → s.bur.trig = false → s.lockHas 8 = false → s.getF Reg.TW_STATUS_PARTNER ≠ 0 →
      s.getF Reg.TW_STATUS_MIRROR ≠ 0 → ∃ t, exec (.forcedPromotion 0) s = .next t ∧ t.isActive = true ∧ t.getF Reg.TW_STATUS_FORCED = 1 ∧
        t.host.auth.ticket = none ∧ t.host.mbox.ret = 0 ∧
        t.getF Reg.TW_EPOCH_EPOCH = (max (s.getF Reg.TW_EPOCH_EPOCH) s.twin.learned + 1) % 2 ^ Reg.TW_EPOCH_EPOCH.w ∧ s.ev.seq < t.ev.seq))

/-- MIRROR, CUMULATIVE_ACK, RSY_BEGIN, RSY_DATA, RSY_END and RSY_FULL: mirrored lines at the standby and the resynchronisation of a stale
mirror (R404 to R406, R414, R428, R429). -/
def Obligations.TwinMirror : Prop :=
  (∀ (s : State) (wsn line : Nat) (d : LineData), s.isStandby = true → s.twinUp = true → s.bur.fenced = false → s.lastMirror < wsn → line < s.nLines →
    (s.twin.noAck = true → exec (.mirror wsn line beAll d) s = .next { s with twin := { s.twin with lseqRx := (s.twin.lseqRx + 1) % 4096 } }) ∧
    (s.twin.noAck = false → s.twin.outcome = false → s.host.stage = none → s.twin.mwait = [] → s.twin.rsyPend = [] → s.twin.rsyDone = false →
      s.host.ingress = [] → s.nand.refreshQ = [] → s.twin.acc < wsn → (∀ w ∈ s.twin.mstaged, s.twin.acc < w.wsn) →
      ∃ t, exec (.mirror wsn line beAll d) s = .next t ∧ t.dram.cells = s.dram.cells ∧ t.host.tx = s.host.tx ∧
        (∃ w ∈ t.twin.mstaged ++ t.twin.mwait ++ (t.host.stage.map (·.w)).toList, w.wsn = wsn ∧ w.line = line ∧ w.data = d) ∧
        (∀ w ∈ s.twin.mstaged, w ∈ t.twin.mstaged))) ∧
  (∀ (s : State) (cum : Nat), s.twinUp = true →
    (s.isActive = true → s.twin.noAck = false → ∃ t, exec (.cumulativeAck cum) s = .next t ∧ s.twin.apl ≤ t.twin.apl ∧ t.twin.apl ≤ max s.twin.apl cum ∧
      t = { s with twin := { s.twin with apl := t.twin.apl } }) ∧
    (s.isStandby = true → s.bur.fenced = false → s.twin.outcome = false → s.twin.mwait = [] → s.host.stage = none → s.twin.rsyPend = [] →
      s.nand.refreshQ = [] → s.twin.rsyDone = false → s.host.ingress = [] →
      ∃ t, exec (.cumulativeAck cum) s = .next t ∧ (∀ w ∈ t.twin.mstaged, w ∈ s.twin.mstaged ∧ cum < w.wsn) ∧ t.dram.cells = s.dram.cells)) ∧
  (∀ (s : State) (g : Nat), s.twinUp = true → s.mode = .run → s.twin.rsyMask.length < 64 → mfind g s.twin.rsyMask = none →
    (s.isActive = true → s.getB Reg.TW_RESYNC_RUNNING = true → s.twin.rsyTodo.contains g = true →
      ∃ t, exec (.rsyBegin g) s = .next t ∧ mfind g t.twin.rsyMask = some 0 ∧ (t.twin.txf.head?).map (fun f => (f.ty, f.par)) = some (7, g) ∧ t.regs = s.regs ∧ t = { s with twin := t.twin }) ∧
    (s.isStandby = true → g < s.nUser → ∃ t, exec (.rsyBegin g) s = .next t ∧ mfind g t.twin.rsyMask = some 0 ∧ t.getF Reg.TW_STATUS_MIRROR = 2 ∧
      t.getF Reg.TW_RESYNC_RUNNING = 1 ∧ RegsKept [Reg.TW_STATUS_MIRROR, Reg.TW_RESYNC_RUNNING, Reg.TW_RESYNC_KIND] s t ∧
      t = { s with regs := t.regs, twin := t.twin })) ∧
  (∀ (s : State) (g x ln : Nat) (d : LineData), s.twinUp = true → ln < 256 →
    (s.isActive = true → ∃ t, exec (.rsyData g ln d) { s with twin := { s.twin with rsyMask := [(g, x)] } } = .next t ∧
      (t.twin.txf.head?).map (fun f => (f.ty, f.par)) = some (8, 256 * g + ln) ∧ t.dram = s.dram ∧ t.regs = s.regs) ∧
    (s.isStandby = true → x.testBit ln = true → exec (.rsyData g ln d) { s with twin := { s.twin with rsyMask := [(g, x)] } } =
      .next { s with twin := { s.twin with rsyMask := [(g, x)], lseqRx := (s.twin.lseqRx + 1) % 4096 } }) ∧
    (s.isStandby = true → ∃ t, exec (.rsyData g ln d) { s with twin := { s.twin with rsyMask := [(g, x)] } } = .next t ∧ t.dram.cells = s.dram.cells ∧
      t.nand.map = s.nand.map)) ∧
  (∀ (s : State) (g : Nat), s.twinUp = true → s.getB Reg.TW_RESYNC_RUNNING = true → g ≠ 0xFFFFFFFF → s.isActive = true → (mfind g s.twin.rsyMask).isSome = true →
    ∃ t, exec (.rsyEnd g) s = .next t ∧ mfind g t.twin.rsyMask = none ∧ t.twin.rsyTodo.contains g = false ∧ (t.twin.txf.head?).map (fun f => (f.ty, f.par)) = some (9, g) ∧
      t.getF Reg.TW_RESYNC_LEFT = t.twin.rsyTodo.length % 2 ^ Reg.TW_RESYNC_LEFT.w ∧ RegsKept [Reg.TW_RESYNC_LEFT] s t ∧ t = { s with regs := t.regs, twin := t.twin }) ∧
  (∀ s : State, s.twinUp = true → s.getB Reg.TW_RESYNC_RUNNING = true → s.isActive = true → s.twin.rsyTodo = [] →
    ∃ t, exec (.rsyEnd 0xFFFFFFFF) s = .next t ∧ (t.twin.txf.head?).map (fun f => (f.ty, f.par)) = some (9, 0xFFFFFFFF) ∧ t = { s with regs := t.regs, twin := t.twin } ∧
      (s.twin.acc ≤ s.twin.apl → t.getF Reg.TW_STATUS_MIRROR = 0 ∧ t.getF Reg.TW_RESYNC_RUNNING = 0 ∧ t.getF Reg.TW_RESYNC_LEFT = 0 ∧
        t.getF Reg.TW_EPOCH_EPOCH = (max (s.getF Reg.TW_EPOCH_EPOCH) s.twin.learned + 1) % 2 ^ Reg.TW_EPOCH_EPOCH.w ∧ t.twin.touch = []) ∧
      (s.twin.apl < s.twin.acc → t.twin.rsyDone = true ∧ t.regs = s.regs)) ∧
  (∀ (s : State) (p : Path), s.reach p 0xC034 = true →
    ∃ t, exec (.rsyFull p) s = .next t ∧ (s.isStandby = true → s.service = true → t.getF Reg.TW_STATUS_MIRROR = 1 ∧ t.getF Reg.TW_STALE_EPOCH = 0xFFFFFFFF ∧
        t.getF Reg.TW_RESYNC_RUNNING = 0) ∧
      (s.isStandby = false ∨ s.service = false → RegsKept [Reg.DT_SVC_LEFT_S] s t ∧ t.twin = s.twin) ∧ t = { s with regs := t.regs, twin := t.twin })

/-- RC_READ, CAPTURE_READ, REGISTER_WRITE, FIT_BL_WRITE and POPULATION_WRITE: the register window (R10, R13, R119, R159, R371, R503, R504,
R540, R542). -/
def Obligations.RegisterWindow : Prop :=
  (∀ (s : State) (p : Path) (off : Nat), s.answers p (4 * off) = false → 
    exec (.rcRead p (4 * off) 4) s = .next { s with host := { s.host with rdata := 0 } } ∧
    exec (.captureRead p (4 * off) 4) s = .next { s with host := { s.host with rdata := 0 } }) ∧
  (∀ (s : State) (p : Path), s.reach p 0x2010 = true → s.regLive 0x2010 = true →
    ∃ t, exec (.rcRead p 0x2010 4) s = .next t ∧ t.getF Reg.HL_ERR_DOWN = 0 ∧ t.getF Reg.HL_ERR_RETRAIN = 0 ∧ t.getF Reg.HL_ERR_CRC_ERR = 0 ∧
      t.host.rdata = s.regView p 0x2010 % 2 ^ 32 ∧ RegsKept [Reg.HL_ERR_DOWN, Reg.HL_ERR_RETRAIN, Reg.HL_ERR_CRC_ERR] s t ∧
      t = { s with regs := t.regs, host := { s.host with rdata := t.host.rdata } }) ∧
  (∀ (s : State) (p : Path), s.answers p 0x7034 = true →
    ∃ t, exec (.captureRead p 0x7034 4) s = .next t ∧ t.host.rdata = s.nand.epoch % 2 ^ 32 ∧ t.regs = s.regs ∧ t.nand = s.nand ∧
      ∃ u, exec (.captureRead p 0x7038 4) t = .next u ∧ u.host.rdata = s.nand.epoch / 2 ^ 32 % 2 ^ 16) ∧
  (∀ (s : State) (p : Path) (off size : Nat) (v : BitVec 64), off % 4 ≠ 0 ∨ (size ≠ 4 ∧ size ≠ 8) →
    ∃ t, exec (.registerWrite p off size v) s = .next t ∧ RegsKept [Reg.SQ_SPMIERR_NARROW] s t ∧ t = { s with regs := t.regs } ∧
      (p = .cxl → t = s) ∧ (p = .spmi → s.reach .spmi off = true →
        t.getF Reg.SQ_SPMIERR_NARROW = min (2 ^ Reg.SQ_SPMIERR_NARROW.w - 1) (s.getF Reg.SQ_SPMIERR_NARROW + 1))) ∧
  (∀ (s : State) (v : BitVec 64), s.reach .cxl 0x3004 = true →
    (s.service = false → ∃ t, exec (.registerWrite .cxl 0x3004 4 v) s = .next t ∧ t.written = s.written ∧ RegsKept [Reg.DT_SVC_LEFT_S] s t) ∧
    (s.service = true → s.regLive 0x3004 = true → ∃ t, exec (.registerWrite .cxl 0x3004 4 v) s = .next t ∧ t.getF Reg.LG_CFG_MARGIN = s.getF Reg.LG_CFG_MARGIN ∧
      mget 0 t.written Reg.LG_CFG_MARGIN.key = v.toNat % 2 ^ 32 / 2 ^ Reg.LG_CFG_MARGIN.lo % 2 ^ Reg.LG_CFG_MARGIN.w ∧ t.getF Reg.DT_DMK_SVC_DIRTY = 1 ∧
      RegsKept [Reg.DT_DMK_SVC_DIRTY, Reg.DT_SVC_LEFT_S] s t)) ∧
  (∀ (s : State) (v : Word), s.reach .cxl 0x000C = true → s.service = true →
    ∃ t, exec (.fitBlWrite .cxl 0x000C v) s = .next t ∧ t.getF Reg.DT_DMK_SVC_DIRTY = 1 ∧
      (s.regLive 0x000C = true → s.blHonoured (v.toNat % 256) = true → t.getF Reg.ID_BL_BL = v.toNat % 256 ∧ t.getF Reg.DT_DMK_SVC_REJ = 0) ∧
      (s.regLive 0x000C = true → s.blHonoured (v.toNat % 256) = false → t.getF Reg.ID_BL_BL = s.getF Reg.ID_BL_BL ∧ t.getF Reg.DT_DMK_SVC_REJ = 1)) ∧
  (∀ (s : State) (v : Word), s.reach .cxl 0x7008 = true → s.service = true → s.regLive 0x7008 = true →
    ∃ t, exec (.populationWrite .cxl 0x7008 v) s = .next t ∧ t.getF Reg.DT_DMK_SVC_DIRTY = 1 ∧ t.getF Reg.NB_GEOM_PPB = s.getF Reg.NB_GEOM_PPB ∧
      t.getF Reg.DT_DMK_SVC_REJ = (if geomOk (v.toNat / 2 ^ 16) (v.toNat % 2 ^ 11) then 0 else 1) ∧
      (geomOk (v.toNat / 2 ^ 16) (v.toNat % 2 ^ 11) = true → mget 0 t.written Reg.NB_GEOM_PPB.key = v.toNat % 2 ^ 11 ∧
        mget 0 t.written Reg.NB_GEOM_BLOCKS.key = v.toNat / 2 ^ 16) ∧
      (geomOk (v.toNat / 2 ^ 16) (v.toNat % 2 ^ 11) = false → t.written = s.written))

/-- Each power, link, reset, wake and VIN form completes with its own effect: PERST_N_ASSERT, PERST_N_RELEASE, LINK_UP and HOST_LINK_DOWN
(R72, R75, R80), POR, AON_POWER_LOSS, KRST and VKEEP_GOOD (R16, R352), WAKE_REQ, SERVICE_N_HOLD, LATCH_CLR and THERMAL_LOCKOUT_SCAN
(R47, R62 to R64, R385), VIN_CMP_RELEASE, VIN_CMP_MISMATCH and BRIDGE_CLOSE (R54, R339). -/
def Obligations.PowerAndLinkFormsComplete : Prop :=
  (∀ s : State, ∃ t, exec .perstNAssert s = .next t ∧ t.pins.perstN = false ∧ t.mode = s.mode) ∧
  (∀ s : State, s.mode ≠ .off → s.mode ≠ .den → s.pd 0 = true → s.rail.vioOk = true →
    ∃ t, exec .perstNRelease s = .next t ∧ t.pins.perstN = true ∧ t.getF Reg.HL_STATUS_LTSSM = 1 ∧ t.mode = s.mode) ∧
  (∀ (s : State) (width speed ver : Nat), s.pins.perstN = true → s.rail.vioOk = true → s.pd 0 = true →
    s.getB Reg.HL_STATUS_LINK_UP = false →
    s.getB Reg.MD_STATUS_LRST_ACT = false → width ∈ [1, 2, 4, 8] → 1 ≤ speed → speed ≤ 5 → ver ≤ 2 →
    ∃ t, exec (.linkUp width speed ver) s = .next t ∧ t.getF Reg.HL_STATUS_LINK_UP = 1 ∧ t.getF Reg.HL_STATUS_CXL_VER = ver ∧ t.mode = s.mode) ∧
  (∀ s : State, s.getB Reg.HL_STATUS_LINK_UP = true →
    ∃ t, exec .hostLinkDown s = .next t ∧ t.getF Reg.HL_STATUS_LINK_UP = 0 ∧
      t.getF Reg.HL_ERR_DOWN = min 255 (s.getF Reg.HL_ERR_DOWN + 1) ∧ t.mode = s.mode) ∧
  (∀ (s : State) (v : Bool), ∃ t, exec (.por v) s = .next t ∧ t.mode = (if v then .wake else .off) ∧ t.otp.ident = s.otp.ident) ∧
  (∀ s : State, s.storeOk = false → ∃ t, exec .aonPowerLoss s = .next t ∧ t.mode = .off ∧ t.otp.ident = s.otp.ident) ∧
  (∀ (s : State) (b : BootInfo), s.pd 10 = true →
    ∃ t, exec (.krst b) s = .next t ∧ t.keep.up = (s.bankOk 0 b.ok0 || s.bankOk 1 b.ok1) ∧ t.mode = s.mode) ∧
  (∀ (s : State) (vio : Nat), s.mode = .wake → s.getF Reg.SQ_STATUS_SEQ = 1 → s.entSt 16 = 0 →
    ∃ t, exec (.vkeepGood vio) s = .next t ∧ t.entSt 16 = 2 ∧ t.rail.vioOk = decide (1500 ≤ vio)) ∧
  (∀ s : State, s.mode = .off → s.reach .spmi 0x1010 = true → s.getF Reg.MD_LOCKOUT_ALL &&& wakeReleases = s.getF Reg.MD_LOCKOUT_ALL →
    s.vinRet = true → ∃ t, exec (.wakeReq .spmi) s = .next t ∧ t.mode = .wake ∧ t.getF Reg.DT_WAKE_CAUSE = 2) ∧
  (∀ s : State, s.mode = .off → s.getF Reg.MD_LOCKOUT_ALL &&& wakeReleases = s.getF Reg.MD_LOCKOUT_ALL → s.vinRet = true →
    ∃ t, exec .serviceNHold s = .next t ∧ t.mode = .wake ∧ t.getF Reg.DT_WAKE_CAUSE = 3) ∧
  (∀ (s : State) (p : Path), s.reach p 0x1010 = true → s.mode = .off → s.lockHas 6 = true ∨ s.lockHas 7 = true → s.therm.tempOk = true →
    ∃ t, exec (.latchClr p) s = .next t ∧ t.getF Reg.MD_LOCKOUT_ALL = s.getF Reg.MD_LOCKOUT_ALL - (s.getF Reg.MD_LOCKOUT_ALL &&& 0x60)) ∧
  (∀ (s : State) (temps : List Int), s.mode = .off → s.lockHas 6 = true ∨ s.lockHas 7 = true → temps ≠ [] →
    (∀ x ∈ temps, x < 10 * ((s.thresholds.getD 3 0 : Int) - s.thHyst)) → s.therm.offAt + 60000 ≤ s.ms →
    ∃ t, exec (.thermalLockoutScan temps) s = .next t ∧
      t.getF Reg.MD_LOCKOUT_ALL = s.getF Reg.MD_LOCKOUT_ALL - (s.getF Reg.MD_LOCKOUT_ALL &&& 0x60)) ∧
  (∀ (s : State) (b : Bool), s.getB (if b then Reg.PS_STATUS_CMP_B else Reg.PS_STATUS_CMP_A) = true →
    ∃ t, exec (.vinCmpRelease b) s = .next t ∧ t.getF (if b then Reg.PS_STATUS_CMP_B else Reg.PS_STATUS_CMP_A) = 0 ∧ t.mode = s.mode) ∧
  (∀ s : State, s.getB Reg.PS_STATUS_CMP_A ≠ s.getB Reg.PS_STATUS_CMP_B →
    ∃ t, exec .vinCmpMismatch s = .next t ∧ t.ev.seq = s.ev.seq + 1 ∧ t.mode = s.mode) ∧
  (∀ s : State, s.getB Reg.MD_STATUS_BRIDGE = true → s.vinRet = true → s.twinOn = false →
    ∃ t, exec .bridgeClose s = .next t ∧ t.getF Reg.MD_STATUS_BRIDGE = 0 ∧ t.mode = s.mode)

/-- Each form of the burrow, of its abandon and of DEN completes with its own effect: FENCE, SHED_STEP, P1_END, P1_LATE, BURROW_SWEEP_VISIT
(R194, R206 to R211), PROGRAM_CONFIRM, PROGRAM_STATUS, LUN_NOT_READY, P2_END, P2_TIMEOUT (R216 to R218, R224, R250), P3_END,
P3_TIMEOUT, JOURNAL_COMMIT, P4_TIMEOUT (R219 to R221), the abandon's forms (R57 to R61), DEN_REBASE (R270, R271) and HW_CUT (R386). -/
def Obligations.BurrowFormsComplete : Prop :=
  (∀ s : State, s.bur.trig = true → s.twin.switching = false → s.mode = .run → s.getB Reg.MD_STATUS_LRST_ACT = false →
    ∃ t, exec .fence s = .next t ∧ t.mode = .burrow ∧ t.bur.fenced = true ∧ t.bur.version = s.nand.epoch + 1) ∧
  (∀ (s : State) (k : Nat), s.mode = .burrow → s.bur.abn = .none → s.getF Reg.SQ_STATUS_SEQ = 0 → k < 3 →
    (s.getF Reg.SQ_STATUS_QUEUED).testBit k = true → s.getF Reg.SQ_STATUS_QUEUED % 2 ^ k = 0 → s.rail.downTo = 0 →
    (k = 2 → s.phase = .p3) →
    ∃ t, exec (.shedStep k) s = .next t ∧ t.getF Reg.SQ_STATUS_STEP = k ∧ t.getF Reg.BE_STATUS_SHED = k) ∧
  (∀ s : State, s.mode = .burrow → s.phase = .p0 ∨ s.phase = .p1 → s.twin.fenceWait = false →
    ∃ t, exec .p1End s = .next t ∧ t.phase = .p2 ∧ t.cover.mirrorPend = []) ∧
  (∀ s : State, s.mode = .burrow → s.getB Reg.BE_STATUS_ACTIVE = true → s.shedNo < 3 → s.dram.wbuf ≠ [] →
    ∃ t, exec .p1Late s = .next t ∧ t.getF Reg.BE_STATUS_P1_LATE = 1 ∧ t.dram = s.dram) ∧
  (∀ (s : State) (m b : Bool) (g : Nat), s.mode = .burrow → s.phase = .p2 → s.bur.abn = .none → s.bur.handoff.length ≤ 256 →
    s.bur.inSanitize = false → s.bur.faultTake = [] → s.bur.pass < s.passes → s.nextDirty = some g → s.bur.stopped = true →
    ∃ t, exec (.burrowSweepVisit none m b) s = .next t ∧ mfind g t.bur.staging = some ⟨0, true, false, false⟩ ∧ t.bur.pos = g + 1) ∧
  (∀ (s : State) (n : Nat), (s.ctxOf n).st = .load → s.ctxReading n = false → 0 < s.bur.account → s.lunBusy (locLun (s.ctxOf n).page) = false →
    s.bur.abn = .none → s.lunUp (locLun (s.ctxOf n).page) = true → (s.mode = .run → s.keepsReady (locLun (s.ctxOf n).page) = true) →
    ∃ t, exec (.programConfirm n) s = .next t ∧ (t.ctxOf n).st = .prog ∧
      mfind (s.ctxOf n).page t.nand.pages = some (s.copyPage (s.ctxOf n))) ∧
  (∀ (s : State) (n : Nat), (s.ctxOf n).st = .prog → s.mode = .burrow → (s.ctxOf n).kind = .burrow →
    ∃ t, exec (.programStatus n true) s = .next t ∧
      mfind (s.ctxOf n).gran t.bur.staging = some ⟨(s.ctxOf n).page, false, (s.ctxOf n).poison, (s.ctxOf n).newUe⟩) ∧
  (∀ (s : State) (l : Nat), s.lunProg l = true → s.lunFailed l = false → s.lunPop l = true →
    ∃ t, exec (.lunNotReady l) s = .next t ∧ t.lunFailed l = true ∧ t.mode = s.mode) ∧
  (∀ s : State, s.mode = .burrow → s.phase = .p2 → s.bur.abn = .none → s.sweepDone = true →
    ∃ t, exec .p2End s = .next t ∧ t.phase = .p3 ∧ t.bur.t3 = s.ms) ∧
  (∀ s : State, s.mode = .burrow → s.phase = .p2 → s.bur.abn = .none → s.bur.stopped = false →
    ∃ t, exec .p2Timeout s = .next t ∧ t.bur.stopped = true ∧ t.getF Reg.BE_STATUS_ESTOP = 1) ∧
  (∀ (s : State) (fails : List Nat), s.mode = .burrow → s.phase = .p3 → s.bur.abn = .none →
    s.bur.noManifest = true → ∃ t, exec (.p3End fails) s = .next t ∧ t.bur = s.bur ∧ t.nand = s.nand) ∧
  (∀ (s u : State) (pages fails : List Nat), s.mode = .burrow → s.phase = .p3 → s.bur.abn = .none → s.bur.noManifest = false → 0 < s.bur.account →
    s.putManifest (manPieces s.manEntries s.voidEntries).length fails (manPieces s.manEntries s.voidEntries) 0 noLoc [] = some (u, pages) →
    ∃ t, exec (.p3End fails) s = .next t ∧ t.phase = .p4 ∧ t.getF Reg.BE_STATUS_MAN_CLOSED = 1 ∧ t.bur.manPages = pages) ∧
  (∀ (s : State) (n : Nat), s.mode = .burrow → s.phase = .p3 → s.bur.abn = .none →
    ∃ t, exec (.p3Timeout n) s = .next t ∧ t.phase = .p4 ∧ t.bur.t4 = s.ms) ∧
  (∀ s : State, s.inP4 = true → s.keep.up = true → s.jDead = false → s.vinRet = false →
    ∃ t, exec .journalCommit s = .next t ∧ t.phase = .p5 ∧ t.bur.committed = true ∧
      t.getF Reg.NB_MANPTR_LOC = s.bur.manLoc.getD noLoc % 2 ^ 32) ∧
  (∀ s : State, s.mode = .burrow → s.phase = .p4 → s.bur.manLoc.isSome = true → s.bur.committed = false → s.vinRet = false →
    ∃ t, exec .p4Timeout s = .next t ∧ t.phase = .p5 ∧ t.getF Reg.BE_STATUS_DEFERRED = 1) ∧
  (∀ s : State, s.vinLoss = false → s.mayAbandon = true →
    ∃ t, exec .vinReturnDebounced s = .next t ∧ t.bur.abn = .finishing ∧ t.getF Reg.BE_STATUS_ABANDONING = 1) ∧
  (∀ s : State, s.mode = .burrow → s.bur.abn = .finishing → s.ctxCount (fun c => c.st == .prog || c.st == .check) = 0 →
    (∀ n ∈ railEntries, s.broken n = false) →
    ∃ t, exec .abandonRecordWritten s = .next t ∧ t.bur.abn = .powering ∧ t.bur.manPages = []) ∧
  (∀ s : State, s.abnPowered = true → ∃ t, exec .abandonUpDone s = .next t ∧
      t.bur.abn = (if s.linkAwaited then .settling else .none) ∧ t.mode = (if s.linkAwaited then s.mode else .run)) ∧
  (∀ s : State, s.mode = .burrow → s.bur.abn = .settling →
    ∃ t, exec .abandonLinkWaitExpiry s = .next t ∧ t.mode = .run ∧ t.bur.abn = .none) ∧
  (∀ s : State, ∃ t, exec .abandonWindowExpiry s = .next t ∧ t.bur.abnTimes = s.bur.abnTimes.drop 1 ∧ t.mode = s.mode) ∧
  (∀ s : State, s.mode = .den → s.getF Reg.SQ_STATUS_SEQ ≠ 4 → s.rebaseBooks.denFloor < s.rebaseBooks.cover.eAvail →
    ∃ t, exec .denRebase s = .next t ∧ t.mode = .den ∧ t.getF Reg.LG_EAVAIL_HI_AGE_US = 0) ∧
  (∀ (s : State) (n : Nat), s.mode ≠ .off → n ≤ 8 → ∃ t, exec (.hwCut n) s = .next t ∧ t.mode = .off ∧
    (t.getF Reg.MD_LOCKOUT_ALL).testBit 6 = true)

/-- Each form of a WAKE, of a restore, of the cover engine, of the DRAM and NAND upkeep completes with its own effect: DAYMARK_READ,
DRAM_TRAINING_DONE, NAND_SCAN_DONE (R163, R263, R492), RESTORE_DECISION, MANIFEST_LOAD, GRANULE_FETCH_DONE, VERIFY_GRANULE,
RESTORE_COMPLETE (R274, R279, R283, R289), COVER_STALE, DOUBT_WRITER_DONE, MIRROR_WRITE, TRICKLE_MODE, SWEEP_VISIT, COPY_MAPPED,
CONTEXT_ARM (R131, R144, R152, R153, R198), SCHEDULE, RETRAIN_PAUSE, CA_PARITY_ALERT (R173, R175, R182), ERASE_DONE, ERASE_TIMEOUT,
RELOCATE, NAND_PATROL, CHECKPOINT_START and CHECKPOINT_COMMIT (R236, R247 to R250, R257, R258). -/
def Obligations.WakeAndUpkeepFormsComplete : Prop :=
  (∀ (s : State) (c : DmkCopy) (sfdp x4 : Bool), s.dmkReady = true →
    dmkCause s.otp.dmkHash (s.rail.vioOk && s.entSt 17 == 3) (some c) = 0 → s.fitHonoured c = true → s.blHonoured c.bl = true →
    ∃ t, exec (.daymarkRead (some c) none sfdp x4) s = .next t ∧ t.dmk.inForce = true ∧ t.dmk.svcKey = c.svcKey) ∧
  (∀ (s : State) (ok0 ok1 : Bool) (reads : List (Nat × NandRead)), s.mode = .wake → s.getF Reg.DT_WAKE_STEP = 6 →
    s.getF Reg.SQ_STATUS_SEQ ≠ 4 → s.lampUp = true → s.dmk.inForce = true →
    ∃ t, exec (.dramTrainingDone ok0 ok1 reads) s = .next t ∧ t.dram.trained = true ∧ t.getF Reg.DC_STATUS_HOLD = 0) ∧
  (∀ (s : State) (l ces : List Nat) (reads : List (Nat × NandRead)), s.mode = .wake → 6 ≤ s.getF Reg.DT_WAKE_STEP → s.lampUp = true →
    s.dmk.inForce = true → s.getB Reg.NB_STATUS_SCAN = true →
    ∃ t, exec (.nandScanDone l ces reads) s = .next t ∧ t.getF Reg.NB_STATUS_SCAN = 0 ∧ (∀ n ∈ l, s.lunPop n = true → t.lunFailed n = true)) ∧
  (∀ s : State, s.mayDecide = true → ∃ t, exec .restoreDecision s = .next t ∧ t.rst.decided = true ∧
    t.mode = (if s.sanResume.deferCommit.imageNow then .restore else .run)) ∧
  (∀ (s : State) (bad : List Nat), s.mode = .restore → s.rst.decided = true → s.rst.loaded = false → s.keep.up = true → s.lampUp = true →
    s.getF Reg.SQ_STATUS_SEQ ≠ 4 → s.getF Reg.MD_STATUS_RSTR_FORM = 2 ∨ s.getF Reg.MD_STATUS_RSTR_FORM = 3 →
    ∃ t, exec (.manifestLoad bad) s = .next t ∧ t.rst.loaded = true ∧ t.dram.cells = []) ∧
  (∀ (s : State) (g : Nat) (rd : NandRead), s.restoring = true → s.getF Reg.MD_STATUS_RSTR_FORM ≠ 1 → s.fetchTurn g = true →
    ∃ t, exec (.granuleFetchDone g rd) s = .next t ∧ t.rst.todo = sdel g s.rst.todo ∧ t.mode = s.mode) ∧
  (∀ (s : State) (g : Nat) (rd : NandRead), s.restoring = true → s.getF Reg.MD_STATUS_RSTR_FORM = 1 → g < s.nUser →
    s.ledgerOf g ≠ .lost → s.chanFailed (s.chanOf g) = false → s.rst.pend.contains g = false →
    dataCrc (granCells s.image g (s.granPoison g)) = s.sealOf g →
    ∃ t, exec (.verifyGranule g [] false rd) s = .next t ∧ t.rst.todo = sdel g s.rst.todo ∧ t.dram = s.dram) ∧
  (∀ s : State, s.restoring = true → s.keep.up = true → s.rst.todo = [] → s.bur.trig = false →
    ∃ t, exec .restoreComplete s = .next t ∧ t.mode = .run ∧ t.mediaReady = true) ∧
  (∀ s : State, s.lampUp = true → ∃ t, exec .coverStale s = .next t ∧ t.cover.eLimit = 0 ∧ t.getF Reg.LG_STATUS_STALE = 1) ∧
  (∀ s : State, s.cover.doubtWriter = true → ∃ t, exec .doubtWriterDone s = .next t ∧ t.cover.doubtWriter = false ∧ t.cover.nDirty = s.nReported) ∧
  (∀ (s : State) (g : Nat), ∃ t, exec (.mirrorWrite g) s = .next t ∧ (∀ x ∈ t.cover.mirrorPend, x.1 ≠ g) ∧ t.mode = s.mode) ∧
  (∀ s : State, s.mode = .run → s.lampUp = true → s.bur.fenced = false →
    ∃ t, exec .trickleMode s = .next t ∧ t.trkMode = s.chooseTrickle % 4) ∧
  (∀ (s : State) (a : Nat), s.mode = .run → s.lampUp = true → s.bur.fenced = false → s.trkMode ≠ 0 → s.nand.refreshQ = [] →
    s.trickleFree = true → s.ledgerOf (s.getF Reg.LG_TRKSTAT_HAND) = .dirty a → s.cover.target ≠ some a → s.cover.doubtWriter = false →
    ∃ t, exec .sweepVisit s = .next t ∧ t.ledgerOf (s.getF Reg.LG_TRKSTAT_HAND) = .dirty (if a < 3 then a + 1 else a)) ∧
  (∀ (s : State) (n : Nat), (s.ctxOf n).st = .check → (s.ctxOf n).kind = .trickle ∨ (s.ctxOf n).kind = .refresh ∨ (s.ctxOf n).kind = .reloc →
    s.bur.fenced = false → s.mayMap (s.ctxOf n).gran (s.ctxOf n).ver = true →
    ∃ t, exec (.copyMapped n true) s = .next t ∧ t.mapOf (s.ctxOf n).gran = (s.ctxOf n).page) ∧
  (∀ (s : State) (n loc : Nat), s.lampUp = true → s.mode = .run ∨ s.mode = .restore → s.bur.fenced = false → s.host.stage = none →
    s.idleCtx = some n → s.maySupply = true → s.pickPage n = some loc →
    ∃ t, exec .contextArm s = .next t ∧ (t.ctxOf n).st = .armed ∧ (t.ctxOf n).page = loc) ∧
  (∀ (s : State) (ch sub nowNs line : Nat) (ready : List Nat), s.chRuns ch = true → sub < 2 → s.mode = .run →
    (s.subCh (2 * ch + sub)).replay = none → (s.subCh (2 * ch + sub)).queue = [] →
    (s.subCh (2 * ch + sub)).waiting = [⟨line, false, 2, 0, 0⟩] → (s.subCh (2 * ch + sub)).retry = [] → (s.subCh (2 * ch + sub)).nref = [] →
    (s.subCh (2 * ch + sub)).postponed = [] → s.getB Reg.DC_CFG_RFM_EN = false → s.dram.wbuf = [] → s.dram.wback = [] →
    ready.contains (s.flatBank line) = true →
    ∃ t, exec (.schedule ch sub nowNs ready) s = .next t ∧ (t.subCh (2 * ch + sub)).queue = [] ∧
      (∃ r ∈ t.dram.rdOut, r.line = line ∧ r.issuedAt = nowNs)) ∧
  (∀ (s : State) (ch sub : Nat) (forced dbl hot : Bool), s.chRuns ch = true → sub < 2 → forced = true ∨ (s.subCh (2 * ch + sub)).queue = [] →
    s.replaying (2 * ch + sub) = false → s.mode = .run →
    ∃ t, exec (.retrainPause ch sub forced dbl hot) s = .next t ∧ (t.subCh (2 * ch + sub)).doubled = (dbl || hot)) ∧
  (∀ (s : State) (ch sub nowNs highNs : Nat), s.chRuns ch = true → sub < 2 → (s.subCh (2 * ch + sub)).replay = none →
    ∃ t, exec (.caParityAlert ch sub nowNs highNs) s = .next t ∧ t.getF (chState ch) = 5 ∧
      (∃ r, (t.subCh (2 * ch + sub)).replay = some r ∧ r.first = nowNs)) ∧
  (∀ (s : State) (b : Nat), s.nand.erasing.contains b = true → s.lunUp (blockLun b) = true →
    ∃ t, exec (.eraseDone b true) s = .next t ∧ (t.blkOf b).erases = (s.blkOf b).erases + 1 ∧ (∀ p ∈ t.nand.pages, locBlock p.1 ≠ b)) ∧
  (∀ (s : State) (b : Nat), s.nand.erasing.contains b = true → s.lunUp (blockLun b) = true →
    ∃ t, exec (.eraseTimeout b) s = .next t ∧ t.lunFailed (blockLun b) = true ∧ t.nand.map = s.nand.map) ∧
  (∀ (s : State) (g src : Nat) (rest : List (Nat × Nat)) (rd : NandRead), s.mode = .run → s.lampUp = true → s.bur.fenced = false →
    s.nand.relocQ = (g, src) :: rest → s.mapOf g ≠ src ∨ pageClass rd ≠ .lines [] →
    ∃ t, exec (.relocate rd) s = .next t ∧ t.nand.relocQ = rest ∧ t.nand.map = s.nand.map) ∧
  (∀ (s : State) (g : Nat) (rd : NandRead), s.mode = .run → s.lampUp = true → s.bur.fenced = false → s.getF Reg.NB_POLICY_PATROL_D ≠ 0 →
    isPage (s.mapOf g) = true → s.lunUp (locLun (s.mapOf g)) = true → pageClass rd = .lines [] → 2 ≤ s.readStage rd →
    ∃ t, exec (.nandPatrol g rd) s = .next t ∧ (g, s.mapOf g) ∈ t.nand.relocQ ∧ t.nand.map = s.nand.map) ∧
  (∀ s : State, s.mode = .run → s.lampUp = true → s.bur.fenced = false → s.nand.ckpt = none → s.ckptDue = true →
    s.fMeta + s.ckptFull < s.nand.metaErased →
    ∃ t, exec .checkpointStart s = .next t ∧ t.getF Reg.NB_STATUS_CKPT_BUSY = 1 ∧ t.nand.changed = []) ∧
  (∀ (s : State) (k : Ckpt) (loc : Nat) (p : NPage) (r : RootPage), s.mode = .run → s.bur.fenced = false → s.nand.ckpt = some k →
    k.todo = [] → k.root = some loc → mfind loc s.nand.pages = some p → p.root = some r → s.mayCommitRoot false = true →
    ∃ t, exec .checkpointCommit s = .next t ∧ t.nand.ckpt = none ∧ t.getF Reg.NB_ROOTPTR_LOC = loc % 2 ^ Reg.NB_ROOTPTR_LOC.w)
end

