-- ==== Sys2Proof/Laws/Memory.lean ====
section
/-! SUPPORT. Laws of the sparse maps and of the cache DRAM's bytes: read after write, and the canonical form that every memory
operation keeps. -/

namespace Sys2Proof.Machine

/-! ### Maps -/

theorem mfind_mdel {α : Type} (k j : Nat) (m : List (Nat × α)) : mfind j (mdel k m) = if j = k then none else mfind j m := by
  induction m with
  | nil => simp [mdel, mfind]
  | cons p t ih =>
    obtain ⟨a, v⟩ := p
    simp only [mdel] at ih
    by_cases h : a = k
    · subst h
      by_cases hj : j = a
      · subst hj
        simpa [mdel, mfind] using ih
      · simp [mdel, mfind, ih, hj, Ne.symm hj]
    · by_cases hj : j = k
      · subst hj
        simp [mdel, mfind, h, ih]
      · simp [mdel, mfind, h, hj, ih]

theorem mfind_mins {α : Type} (k j : Nat) (v : α) (m : List (Nat × α)) (h : mfind k m = none) :
    mfind j (mins k v m) = if j = k then some v else mfind j m := by
  induction m with
  | nil => simp [mins, mfind, eq_comm]
  | cons p t ih =>
    obtain ⟨a, w⟩ := p
    simp only [mfind] at h
    split at h
    · simp at h
    · rename_i hak
      simp only [mins]
      split
      · simp only [mfind]
        by_cases hj : j = k
        · simp [hj]
        · simp [hj, Ne.symm hj]
      · simp only [mfind, ih h]
        by_cases hj : j = k
        · subst hj; simp [hak]
        · simp [hj]

/-- Reading a key after it was set gives the value; every other key is as before. -/
theorem mfind_mset {α : Type} (k j : Nat) (v : α) (m : List (Nat × α)) : mfind j (mset k v m) = if j = k then some v else mfind j m := by
  rw [mset, mfind_mins _ _ _ _ (by simp [mfind_mdel]), mfind_mdel]
  split <;> rfl

@[simp] theorem mget_mset_self {α : Type} (d : α) (k : Nat) (v : α) (m : List (Nat × α)) : mget d (mset k v m) k = v := by
  simp [mget, mfind_mset]

theorem mget_mset_ne {α : Type} (d : α) {k j : Nat} (v : α) (m : List (Nat × α)) (h : j ≠ k) : mget d (mset k v m) j = mget d m j := by
  simp [mget, mfind_mset, h]

theorem mget_msetD {α : Type} [DecidableEq α] (d : α) (k j : Nat) (v : α) (m : List (Nat × α)) :
    mget d (msetD d k v m) j = if j = k then v else mget d m j := by
  unfold msetD
  split
  · rename_i h
    simp only [mget, mfind_mdel]
    split <;> simp [h]
  · simp only [mget, mfind_mset]
    split <;> simp

/-! ### Fields -/

/-- A field reads within its width. -/
theorem State.getF_lt (s : State) (f : Fld) : s.getF f < 2 ^ f.w := Nat.mod_lt _ (Nat.two_pow_pos _)

@[simp] theorem State.getF_setF_self (s : State) (f : Fld) (v : Nat) : (s.setF f v).getF f = v % 2 ^ f.w := by
  simp [State.getF, State.setF]

theorem State.getF_setF_ne (s : State) {f g : Fld} (v : Nat) (h : g.key ≠ f.key) : (s.setF f v).getF g = s.getF g := by
  simp [State.getF, State.setF, mget_mset_ne _ _ _ h]

theorem mget_setRegs_ne (d : Nat) (l : List (Fld × Nat)) (m : List (Nat × Nat)) (k : Nat) (h : ∀ p ∈ l, k ≠ p.1.key) :
    mget d (setRegs l m) k = mget d m k := by
  induction l generalizing m with
  | nil => rfl
  | cons p t ih =>
    obtain ⟨f, v⟩ := p
    rw [setRegs, ih _ (fun q hq => h q (List.mem_cons_of_mem _ hq)), mget_mset_ne _ _ _ (h _ List.mem_cons_self)]

/-- A field that a list of assignments does not name reads as before. -/
theorem State.getF_setFs_ne (s : State) (l : List (Fld × Nat)) (g : Fld) (h : ∀ p ∈ l, g.key ≠ p.1.key) :
    (s.setFs l).getF g = s.getF g := congrArg (· % 2 ^ g.w) (mget_setRegs_ne _ l s.regs g.key h)

/-- A field that a list of assignments names reads as the last value given to it. -/
theorem State.getF_setFs_cons (s : State) (f g : Fld) (v : Nat) (l : List (Fld × Nat)) :
    (s.setFs ((f, v) :: l)).getF g = ((s.setF f v).setFs l).getF g := rfl

/-! ### Bytes -/

/-- Read after write, one byte. -/
theorem byteAt_putByte (m : List Host.Cell) (a c : Nat) (b : Byte) : byteAt (putByte m a b) c = if c = a then b else byteAt m c := by
  simp [byteAt, putByte, mget_msetD]

/-- A fold of byte writes leaves every address outside the written ones as it was. -/
theorem byteAt_putBytes_out (m : List Host.Cell) (base : Nat) (be : ByteEn) (d : LineData) (c : Nat)
    (h : c < base ∨ base + 64 ≤ c) : byteAt (putBytes m base be d) c = byteAt m c := by
  unfold putBytes
  have key : ∀ (l : List Nat), (∀ i ∈ l, i < 64) → ∀ m : List Host.Cell,
      byteAt (l.foldl (fun acc i => if be.getLsbD i then putByte acc (base + i) (byteOf d i) else acc) m) c = byteAt m c := by
    intro l
    induction l with
    | nil => intro _ m; rfl
    | cons i t ih =>
      intro hl m
      rw [List.foldl_cons, ih (fun j hj => hl j (List.mem_cons_of_mem _ hj))]
      have hi := hl i List.mem_cons_self
      split
      · rw [byteAt_putByte, if_neg (by omega)]
      · rfl
  exact key _ (fun i hi => List.mem_range.mp hi) m

/-- A line write leaves every byte outside the line. -/
theorem byteAt_putLine_out (m : List Host.Cell) (line : Nat) (be : ByteEn) (d : LineData) (c : Nat) (h : c / 64 ≠ line) :
    byteAt (putLine m line be d) c = byteAt m c := by
  apply byteAt_putBytes_out
  omega

/-! ### The canonical form -/

/-- The canonical form says: addresses strictly rising, and no listed zero. -/
theorem Memory.wf_iff (m : List Host.Cell) :
    Memory.wf m = true ↔ m.Pairwise (fun p q => p.1 < q.1) ∧ ∀ p ∈ m, p.2 ≠ 0 := by
  induction m with
  | nil => simp [Memory.wf]
  | cons p t ih =>
    obtain ⟨a, v⟩ := p
    cases t with
    | nil => simp [Memory.wf]
    | cons q r =>
      obtain ⟨b, w⟩ := q
      simp only [Memory.wf, Bool.and_eq_true, decide_eq_true_eq, bne_iff_ne, ih, List.pairwise_cons, List.mem_cons, forall_eq_or_imp]
      constructor
      · rintro ⟨⟨hv, hab⟩, ⟨hbr, hr⟩, hw, hz⟩
        exact ⟨⟨⟨hab, fun x hx => Nat.lt_trans hab (hbr x hx)⟩, hbr, hr⟩, hv, hw, hz⟩
      · rintro ⟨⟨⟨hab, -⟩, hbr, hr⟩, hv, hw, hz⟩
        exact ⟨⟨hv, hab⟩, ⟨hbr, hr⟩, hw, hz⟩

@[simp] theorem Memory.wf_nil : Memory.wf [] = true := rfl

/-- What is left of a memory is canonical. -/
theorem Memory.wf_filter (m : List Host.Cell) (p : Host.Cell → Bool) (h : Memory.wf m = true) : Memory.wf (m.filter p) = true := by
  rw [Memory.wf_iff] at *
  exact ⟨h.1.filter p, fun x hx => h.2 x (List.mem_filter.mp hx).1⟩

theorem mem_mins {α : Type} (k : Nat) (v : α) (m : List (Nat × α)) (p : Nat × α) : p ∈ mins k v m ↔ p = (k, v) ∨ p ∈ m := by
  induction m with
  | nil => simp [mins]
  | cons q t ih =>
    obtain ⟨a, w⟩ := q
    simp only [mins]
    split
    · simp
    · simp only [List.mem_cons, ih]
      tauto

theorem pairwise_mins {α : Type} (k : Nat) (v : α) (m : List (Nat × α)) (h : m.Pairwise (fun p q => p.1 < q.1)) (hk : ∀ p ∈ m, p.1 ≠ k) :
    (mins k v m).Pairwise (fun p q => p.1 < q.1) := by
  induction m with
  | nil => simp [mins]
  | cons q t ih =>
    obtain ⟨a, w⟩ := q
    rw [List.pairwise_cons] at h
    simp only [mins]
    split
    · rename_i hka
      refine List.pairwise_cons.mpr ⟨?_, List.pairwise_cons.mpr h⟩
      rintro p hp
      rcases List.mem_cons.mp hp with rfl | hp
      · exact hka
      · exact Nat.lt_trans hka (h.1 p hp)
    · rename_i hka
      have hne : a ≠ k := hk _ List.mem_cons_self
      refine List.pairwise_cons.mpr ⟨?_, ih h.2 (fun p hp => hk p (List.mem_cons_of_mem _ hp))⟩
      intro p hp
      rcases (mem_mins k v t p).mp hp with rfl | hp
      · show a < k
        omega
      · exact h.1 p hp

/-- A byte write keeps the canonical form. -/
theorem Memory.wf_putByte (m : List Host.Cell) (a : Nat) (b : Byte) (h : Memory.wf m = true) : Memory.wf (putByte m a b) = true := by
  have hd : Memory.wf (mdel a m) = true := Memory.wf_filter m _ h
  unfold putByte msetD
  split
  · exact hd
  · rename_i hb
    rw [Memory.wf_iff] at hd ⊢
    refine ⟨pairwise_mins a b _ hd.1 (fun p hp => ?_), fun p hp => ?_⟩
    · simpa [mdel] using (List.mem_filter.mp hp).2
    · rcases (mem_mins a b _ p).mp hp with rfl | hp
      · exact hb
      · exact hd.2 p hp

theorem Memory.wf_foldl {α : Type} (f : List Host.Cell → α → List Host.Cell) (l : List α)
    (hf : ∀ m x, Memory.wf m = true → Memory.wf (f m x) = true) (m : List Host.Cell) (h : Memory.wf m = true) :
    Memory.wf (l.foldl f m) = true := by
  induction l generalizing m with
  | nil => exact h
  | cons x t ih => exact ih _ (hf _ _ h)

theorem Memory.wf_putBytes (m : List Host.Cell) (base : Nat) (be : ByteEn) (d : LineData) (h : Memory.wf m = true) :
    Memory.wf (putBytes m base be d) = true := by
  refine Memory.wf_foldl _ _ (fun m i hm => ?_) m h
  split
  · exact Memory.wf_putByte _ _ _ hm
  · exact hm

/-- A line write keeps the canonical form. -/
theorem Memory.wf_putLine (m : List Host.Cell) (line : Nat) (be : ByteEn) (d : LineData) (h : Memory.wf m = true) :
    Memory.wf (putLine m line be d) = true := Memory.wf_putBytes m _ be d h

end Sys2Proof.Machine
end

