-- ==== Sys2Proof/Laws/State.lean ====
section
/-! SUPPORT. One lemma per field of State and per basic update of it: what the update leaves alone, true by definition. -/

namespace Sys2Proof.Machine

/-! ### State.setF -/

@[simp] theorem State.setF_mode (s : State) (f : Fld) (v : Nat) : (s.setF f v).mode = s.mode := rfl
@[simp] theorem State.setF_phase (s : State) (f : Fld) (v : Nat) : (s.setF f v).phase = s.phase := rfl
@[simp] theorem State.setF_ms (s : State) (f : Fld) (v : Nat) : (s.setF f v).ms = s.ms := rfl
@[simp] theorem State.setF_tstamp (s : State) (f : Fld) (v : Nat) : (s.setF f v).tstamp = s.tstamp := rfl
@[simp] theorem State.setF_tsSet (s : State) (f : Fld) (v : Nat) : (s.setF f v).tsSet = s.tsSet := rfl
@[simp] theorem State.setF_written (s : State) (f : Fld) (v : Nat) : (s.setF f v).written = s.written := rfl
@[simp] theorem State.setF_otp (s : State) (f : Fld) (v : Nat) : (s.setF f v).otp = s.otp := rfl
@[simp] theorem State.setF_pins (s : State) (f : Fld) (v : Nat) : (s.setF f v).pins = s.pins := rfl
@[simp] theorem State.setF_cxl (s : State) (f : Fld) (v : Nat) : (s.setF f v).cxl = s.cxl := rfl
@[simp] theorem State.setF_spmiP (s : State) (f : Fld) (v : Nat) : (s.setF f v).spmiP = s.spmiP := rfl
@[simp] theorem State.setF_host (s : State) (f : Fld) (v : Nat) : (s.setF f v).host = s.host := rfl
@[simp] theorem State.setF_cover (s : State) (f : Fld) (v : Nat) : (s.setF f v).cover = s.cover := rfl
@[simp] theorem State.setF_dram (s : State) (f : Fld) (v : Nat) : (s.setF f v).dram = s.dram := rfl
@[simp] theorem State.setF_bur (s : State) (f : Fld) (v : Nat) : (s.setF f v).bur = s.bur := rfl
@[simp] theorem State.setF_nand (s : State) (f : Fld) (v : Nat) : (s.setF f v).nand = s.nand := rfl
@[simp] theorem State.setF_rst (s : State) (f : Fld) (v : Nat) : (s.setF f v).rst = s.rst := rfl
@[simp] theorem State.setF_store (s : State) (f : Fld) (v : Nat) : (s.setF f v).store = s.store := rfl
@[simp] theorem State.setF_rail (s : State) (f : Fld) (v : Nat) : (s.setF f v).rail = s.rail := rfl
@[simp] theorem State.setF_spmi (s : State) (f : Fld) (v : Nat) : (s.setF f v).spmi = s.spmi := rfl
@[simp] theorem State.setF_therm (s : State) (f : Fld) (v : Nat) : (s.setF f v).therm = s.therm := rfl
@[simp] theorem State.setF_twin (s : State) (f : Fld) (v : Nat) : (s.setF f v).twin = s.twin := rfl
@[simp] theorem State.setF_keep (s : State) (f : Fld) (v : Nat) : (s.setF f v).keep = s.keep := rfl
@[simp] theorem State.setF_ev (s : State) (f : Fld) (v : Nat) : (s.setF f v).ev = s.ev := rfl
@[simp] theorem State.setF_dmk (s : State) (f : Fld) (v : Nat) : (s.setF f v).dmk = s.dmk := rfl
@[simp] theorem State.setF_freeCount (s : State) (f : Fld) (v : Nat) : (s.setF f v).freeCount = s.freeCount := rfl
@[simp] theorem State.setF_pending (s : State) (f : Fld) (v : Nat) : (s.setF f v).pending = s.pending := rfl

/-! ### State.setFs -/

@[simp] theorem State.setFs_mode (s : State) (l : List (Fld × Nat)) : (s.setFs l).mode = s.mode := rfl
@[simp] theorem State.setFs_phase (s : State) (l : List (Fld × Nat)) : (s.setFs l).phase = s.phase := rfl
@[simp] theorem State.setFs_ms (s : State) (l : List (Fld × Nat)) : (s.setFs l).ms = s.ms := rfl
@[simp] theorem State.setFs_tstamp (s : State) (l : List (Fld × Nat)) : (s.setFs l).tstamp = s.tstamp := rfl
@[simp] theorem State.setFs_tsSet (s : State) (l : List (Fld × Nat)) : (s.setFs l).tsSet = s.tsSet := rfl
@[simp] theorem State.setFs_written (s : State) (l : List (Fld × Nat)) : (s.setFs l).written = s.written := rfl
@[simp] theorem State.setFs_otp (s : State) (l : List (Fld × Nat)) : (s.setFs l).otp = s.otp := rfl
@[simp] theorem State.setFs_pins (s : State) (l : List (Fld × Nat)) : (s.setFs l).pins = s.pins := rfl
@[simp] theorem State.setFs_cxl (s : State) (l : List (Fld × Nat)) : (s.setFs l).cxl = s.cxl := rfl
@[simp] theorem State.setFs_spmiP (s : State) (l : List (Fld × Nat)) : (s.setFs l).spmiP = s.spmiP := rfl
@[simp] theorem State.setFs_host (s : State) (l : List (Fld × Nat)) : (s.setFs l).host = s.host := rfl
@[simp] theorem State.setFs_cover (s : State) (l : List (Fld × Nat)) : (s.setFs l).cover = s.cover := rfl
@[simp] theorem State.setFs_dram (s : State) (l : List (Fld × Nat)) : (s.setFs l).dram = s.dram := rfl
@[simp] theorem State.setFs_bur (s : State) (l : List (Fld × Nat)) : (s.setFs l).bur = s.bur := rfl
@[simp] theorem State.setFs_nand (s : State) (l : List (Fld × Nat)) : (s.setFs l).nand = s.nand := rfl
@[simp] theorem State.setFs_rst (s : State) (l : List (Fld × Nat)) : (s.setFs l).rst = s.rst := rfl
@[simp] theorem State.setFs_store (s : State) (l : List (Fld × Nat)) : (s.setFs l).store = s.store := rfl
@[simp] theorem State.setFs_rail (s : State) (l : List (Fld × Nat)) : (s.setFs l).rail = s.rail := rfl
@[simp] theorem State.setFs_spmi (s : State) (l : List (Fld × Nat)) : (s.setFs l).spmi = s.spmi := rfl
@[simp] theorem State.setFs_therm (s : State) (l : List (Fld × Nat)) : (s.setFs l).therm = s.therm := rfl
@[simp] theorem State.setFs_twin (s : State) (l : List (Fld × Nat)) : (s.setFs l).twin = s.twin := rfl
@[simp] theorem State.setFs_keep (s : State) (l : List (Fld × Nat)) : (s.setFs l).keep = s.keep := rfl
@[simp] theorem State.setFs_ev (s : State) (l : List (Fld × Nat)) : (s.setFs l).ev = s.ev := rfl
@[simp] theorem State.setFs_dmk (s : State) (l : List (Fld × Nat)) : (s.setFs l).dmk = s.dmk := rfl
@[simp] theorem State.setFs_freeCount (s : State) (l : List (Fld × Nat)) : (s.setFs l).freeCount = s.freeCount := rfl
@[simp] theorem State.setFs_pending (s : State) (l : List (Fld × Nat)) : (s.setFs l).pending = s.pending := rfl

/-! ### State.setB -/

@[simp] theorem State.setB_mode (s : State) (f : Fld) (b : Bool) : (s.setB f b).mode = s.mode := rfl
@[simp] theorem State.setB_phase (s : State) (f : Fld) (b : Bool) : (s.setB f b).phase = s.phase := rfl
@[simp] theorem State.setB_ms (s : State) (f : Fld) (b : Bool) : (s.setB f b).ms = s.ms := rfl
@[simp] theorem State.setB_tstamp (s : State) (f : Fld) (b : Bool) : (s.setB f b).tstamp = s.tstamp := rfl
@[simp] theorem State.setB_tsSet (s : State) (f : Fld) (b : Bool) : (s.setB f b).tsSet = s.tsSet := rfl
@[simp] theorem State.setB_written (s : State) (f : Fld) (b : Bool) : (s.setB f b).written = s.written := rfl
@[simp] theorem State.setB_otp (s : State) (f : Fld) (b : Bool) : (s.setB f b).otp = s.otp := rfl
@[simp] theorem State.setB_pins (s : State) (f : Fld) (b : Bool) : (s.setB f b).pins = s.pins := rfl
@[simp] theorem State.setB_cxl (s : State) (f : Fld) (b : Bool) : (s.setB f b).cxl = s.cxl := rfl
@[simp] theorem State.setB_spmiP (s : State) (f : Fld) (b : Bool) : (s.setB f b).spmiP = s.spmiP := rfl
@[simp] theorem State.setB_host (s : State) (f : Fld) (b : Bool) : (s.setB f b).host = s.host := rfl
@[simp] theorem State.setB_cover (s : State) (f : Fld) (b : Bool) : (s.setB f b).cover = s.cover := rfl
@[simp] theorem State.setB_dram (s : State) (f : Fld) (b : Bool) : (s.setB f b).dram = s.dram := rfl
@[simp] theorem State.setB_bur (s : State) (f : Fld) (b : Bool) : (s.setB f b).bur = s.bur := rfl
@[simp] theorem State.setB_nand (s : State) (f : Fld) (b : Bool) : (s.setB f b).nand = s.nand := rfl
@[simp] theorem State.setB_rst (s : State) (f : Fld) (b : Bool) : (s.setB f b).rst = s.rst := rfl
@[simp] theorem State.setB_store (s : State) (f : Fld) (b : Bool) : (s.setB f b).store = s.store := rfl
@[simp] theorem State.setB_rail (s : State) (f : Fld) (b : Bool) : (s.setB f b).rail = s.rail := rfl
@[simp] theorem State.setB_spmi (s : State) (f : Fld) (b : Bool) : (s.setB f b).spmi = s.spmi := rfl
@[simp] theorem State.setB_therm (s : State) (f : Fld) (b : Bool) : (s.setB f b).therm = s.therm := rfl
@[simp] theorem State.setB_twin (s : State) (f : Fld) (b : Bool) : (s.setB f b).twin = s.twin := rfl
@[simp] theorem State.setB_keep (s : State) (f : Fld) (b : Bool) : (s.setB f b).keep = s.keep := rfl
@[simp] theorem State.setB_ev (s : State) (f : Fld) (b : Bool) : (s.setB f b).ev = s.ev := rfl
@[simp] theorem State.setB_dmk (s : State) (f : Fld) (b : Bool) : (s.setB f b).dmk = s.dmk := rfl
@[simp] theorem State.setB_freeCount (s : State) (f : Fld) (b : Bool) : (s.setB f b).freeCount = s.freeCount := rfl
@[simp] theorem State.setB_pending (s : State) (f : Fld) (b : Bool) : (s.setB f b).pending = s.pending := rfl

/-! ### State.addSat -/

@[simp] theorem State.addSat_mode (s : State) (f : Fld) (n : Nat) : (s.addSat f n).mode = s.mode := rfl
@[simp] theorem State.addSat_phase (s : State) (f : Fld) (n : Nat) : (s.addSat f n).phase = s.phase := rfl
@[simp] theorem State.addSat_ms (s : State) (f : Fld) (n : Nat) : (s.addSat f n).ms = s.ms := rfl
@[simp] theorem State.addSat_tstamp (s : State) (f : Fld) (n : Nat) : (s.addSat f n).tstamp = s.tstamp := rfl
@[simp] theorem State.addSat_tsSet (s : State) (f : Fld) (n : Nat) : (s.addSat f n).tsSet = s.tsSet := rfl
@[simp] theorem State.addSat_written (s : State) (f : Fld) (n : Nat) : (s.addSat f n).written = s.written := rfl
@[simp] theorem State.addSat_otp (s : State) (f : Fld) (n : Nat) : (s.addSat f n).otp = s.otp := rfl
@[simp] theorem State.addSat_pins (s : State) (f : Fld) (n : Nat) : (s.addSat f n).pins = s.pins := rfl
@[simp] theorem State.addSat_cxl (s : State) (f : Fld) (n : Nat) : (s.addSat f n).cxl = s.cxl := rfl
@[simp] theorem State.addSat_spmiP (s : State) (f : Fld) (n : Nat) : (s.addSat f n).spmiP = s.spmiP := rfl
@[simp] theorem State.addSat_host (s : State) (f : Fld) (n : Nat) : (s.addSat f n).host = s.host := rfl
@[simp] theorem State.addSat_cover (s : State) (f : Fld) (n : Nat) : (s.addSat f n).cover = s.cover := rfl
@[simp] theorem State.addSat_dram (s : State) (f : Fld) (n : Nat) : (s.addSat f n).dram = s.dram := rfl
@[simp] theorem State.addSat_bur (s : State) (f : Fld) (n : Nat) : (s.addSat f n).bur = s.bur := rfl
@[simp] theorem State.addSat_nand (s : State) (f : Fld) (n : Nat) : (s.addSat f n).nand = s.nand := rfl
@[simp] theorem State.addSat_rst (s : State) (f : Fld) (n : Nat) : (s.addSat f n).rst = s.rst := rfl
@[simp] theorem State.addSat_store (s : State) (f : Fld) (n : Nat) : (s.addSat f n).store = s.store := rfl
@[simp] theorem State.addSat_rail (s : State) (f : Fld) (n : Nat) : (s.addSat f n).rail = s.rail := rfl
@[simp] theorem State.addSat_spmi (s : State) (f : Fld) (n : Nat) : (s.addSat f n).spmi = s.spmi := rfl
@[simp] theorem State.addSat_therm (s : State) (f : Fld) (n : Nat) : (s.addSat f n).therm = s.therm := rfl
@[simp] theorem State.addSat_twin (s : State) (f : Fld) (n : Nat) : (s.addSat f n).twin = s.twin := rfl
@[simp] theorem State.addSat_keep (s : State) (f : Fld) (n : Nat) : (s.addSat f n).keep = s.keep := rfl
@[simp] theorem State.addSat_ev (s : State) (f : Fld) (n : Nat) : (s.addSat f n).ev = s.ev := rfl
@[simp] theorem State.addSat_dmk (s : State) (f : Fld) (n : Nat) : (s.addSat f n).dmk = s.dmk := rfl
@[simp] theorem State.addSat_freeCount (s : State) (f : Fld) (n : Nat) : (s.addSat f n).freeCount = s.freeCount := rfl
@[simp] theorem State.addSat_pending (s : State) (f : Fld) (n : Nat) : (s.addSat f n).pending = s.pending := rfl

/-! ### State.addWrap -/

@[simp] theorem State.addWrap_mode (s : State) (f : Fld) (n : Nat) : (s.addWrap f n).mode = s.mode := rfl
@[simp] theorem State.addWrap_phase (s : State) (f : Fld) (n : Nat) : (s.addWrap f n).phase = s.phase := rfl
@[simp] theorem State.addWrap_ms (s : State) (f : Fld) (n : Nat) : (s.addWrap f n).ms = s.ms := rfl
@[simp] theorem State.addWrap_tstamp (s : State) (f : Fld) (n : Nat) : (s.addWrap f n).tstamp = s.tstamp := rfl
@[simp] theorem State.addWrap_tsSet (s : State) (f : Fld) (n : Nat) : (s.addWrap f n).tsSet = s.tsSet := rfl
@[simp] theorem State.addWrap_written (s : State) (f : Fld) (n : Nat) : (s.addWrap f n).written = s.written := rfl
@[simp] theorem State.addWrap_otp (s : State) (f : Fld) (n : Nat) : (s.addWrap f n).otp = s.otp := rfl
@[simp] theorem State.addWrap_pins (s : State) (f : Fld) (n : Nat) : (s.addWrap f n).pins = s.pins := rfl
@[simp] theorem State.addWrap_cxl (s : State) (f : Fld) (n : Nat) : (s.addWrap f n).cxl = s.cxl := rfl
@[simp] theorem State.addWrap_spmiP (s : State) (f : Fld) (n : Nat) : (s.addWrap f n).spmiP = s.spmiP := rfl
@[simp] theorem State.addWrap_host (s : State) (f : Fld) (n : Nat) : (s.addWrap f n).host = s.host := rfl
@[simp] theorem State.addWrap_cover (s : State) (f : Fld) (n : Nat) : (s.addWrap f n).cover = s.cover := rfl
@[simp] theorem State.addWrap_dram (s : State) (f : Fld) (n : Nat) : (s.addWrap f n).dram = s.dram := rfl
@[simp] theorem State.addWrap_bur (s : State) (f : Fld) (n : Nat) : (s.addWrap f n).bur = s.bur := rfl
@[simp] theorem State.addWrap_nand (s : State) (f : Fld) (n : Nat) : (s.addWrap f n).nand = s.nand := rfl
@[simp] theorem State.addWrap_rst (s : State) (f : Fld) (n : Nat) : (s.addWrap f n).rst = s.rst := rfl
@[simp] theorem State.addWrap_store (s : State) (f : Fld) (n : Nat) : (s.addWrap f n).store = s.store := rfl
@[simp] theorem State.addWrap_rail (s : State) (f : Fld) (n : Nat) : (s.addWrap f n).rail = s.rail := rfl
@[simp] theorem State.addWrap_spmi (s : State) (f : Fld) (n : Nat) : (s.addWrap f n).spmi = s.spmi := rfl
@[simp] theorem State.addWrap_therm (s : State) (f : Fld) (n : Nat) : (s.addWrap f n).therm = s.therm := rfl
@[simp] theorem State.addWrap_twin (s : State) (f : Fld) (n : Nat) : (s.addWrap f n).twin = s.twin := rfl
@[simp] theorem State.addWrap_keep (s : State) (f : Fld) (n : Nat) : (s.addWrap f n).keep = s.keep := rfl
@[simp] theorem State.addWrap_ev (s : State) (f : Fld) (n : Nat) : (s.addWrap f n).ev = s.ev := rfl
@[simp] theorem State.addWrap_dmk (s : State) (f : Fld) (n : Nat) : (s.addWrap f n).dmk = s.dmk := rfl
@[simp] theorem State.addWrap_freeCount (s : State) (f : Fld) (n : Nat) : (s.addWrap f n).freeCount = s.freeCount := rfl
@[simp] theorem State.addWrap_pending (s : State) (f : Fld) (n : Nat) : (s.addWrap f n).pending = s.pending := rfl

/-! ### State.resetClass -/

@[simp] theorem State.resetClass_mode (s : State) (c : RCls) : (s.resetClass c).mode = s.mode := rfl
@[simp] theorem State.resetClass_phase (s : State) (c : RCls) : (s.resetClass c).phase = s.phase := rfl
@[simp] theorem State.resetClass_ms (s : State) (c : RCls) : (s.resetClass c).ms = s.ms := rfl
@[simp] theorem State.resetClass_tstamp (s : State) (c : RCls) : (s.resetClass c).tstamp = s.tstamp := rfl
@[simp] theorem State.resetClass_tsSet (s : State) (c : RCls) : (s.resetClass c).tsSet = s.tsSet := rfl
@[simp] theorem State.resetClass_written (s : State) (c : RCls) : (s.resetClass c).written = s.written := rfl
@[simp] theorem State.resetClass_otp (s : State) (c : RCls) : (s.resetClass c).otp = s.otp := rfl
@[simp] theorem State.resetClass_pins (s : State) (c : RCls) : (s.resetClass c).pins = s.pins := rfl
@[simp] theorem State.resetClass_cxl (s : State) (c : RCls) : (s.resetClass c).cxl = s.cxl := rfl
@[simp] theorem State.resetClass_spmiP (s : State) (c : RCls) : (s.resetClass c).spmiP = s.spmiP := rfl
@[simp] theorem State.resetClass_host (s : State) (c : RCls) : (s.resetClass c).host = s.host := rfl
@[simp] theorem State.resetClass_cover (s : State) (c : RCls) : (s.resetClass c).cover = s.cover := rfl
@[simp] theorem State.resetClass_dram (s : State) (c : RCls) : (s.resetClass c).dram = s.dram := rfl
@[simp] theorem State.resetClass_bur (s : State) (c : RCls) : (s.resetClass c).bur = s.bur := rfl
@[simp] theorem State.resetClass_nand (s : State) (c : RCls) : (s.resetClass c).nand = s.nand := rfl
@[simp] theorem State.resetClass_rst (s : State) (c : RCls) : (s.resetClass c).rst = s.rst := rfl
@[simp] theorem State.resetClass_store (s : State) (c : RCls) : (s.resetClass c).store = s.store := rfl
@[simp] theorem State.resetClass_rail (s : State) (c : RCls) : (s.resetClass c).rail = s.rail := rfl
@[simp] theorem State.resetClass_spmi (s : State) (c : RCls) : (s.resetClass c).spmi = s.spmi := rfl
@[simp] theorem State.resetClass_therm (s : State) (c : RCls) : (s.resetClass c).therm = s.therm := rfl
@[simp] theorem State.resetClass_twin (s : State) (c : RCls) : (s.resetClass c).twin = s.twin := rfl
@[simp] theorem State.resetClass_keep (s : State) (c : RCls) : (s.resetClass c).keep = s.keep := rfl
@[simp] theorem State.resetClass_ev (s : State) (c : RCls) : (s.resetClass c).ev = s.ev := rfl
@[simp] theorem State.resetClass_dmk (s : State) (c : RCls) : (s.resetClass c).dmk = s.dmk := rfl
@[simp] theorem State.resetClass_freeCount (s : State) (c : RCls) : (s.resetClass c).freeCount = s.freeCount := rfl
@[simp] theorem State.resetClass_pending (s : State) (c : RCls) : (s.resetClass c).pending = s.pending := rfl

/-! ### State.raise -/

@[simp] theorem State.raise_mode (s : State) (src : EvSource) (cls : Nat) (sev : Sev) (param : Nat) : (s.raise src cls sev param).mode = s.mode := rfl
@[simp] theorem State.raise_phase (s : State) (src : EvSource) (cls : Nat) (sev : Sev) (param : Nat) : (s.raise src cls sev param).phase = s.phase := rfl
@[simp] theorem State.raise_ms (s : State) (src : EvSource) (cls : Nat) (sev : Sev) (param : Nat) : (s.raise src cls sev param).ms = s.ms := rfl
@[simp] theorem State.raise_tstamp (s : State) (src : EvSource) (cls : Nat) (sev : Sev) (param : Nat) : (s.raise src cls sev param).tstamp = s.tstamp := rfl
@[simp] theorem State.raise_tsSet (s : State) (src : EvSource) (cls : Nat) (sev : Sev) (param : Nat) : (s.raise src cls sev param).tsSet = s.tsSet := rfl
@[simp] theorem State.raise_written (s : State) (src : EvSource) (cls : Nat) (sev : Sev) (param : Nat) : (s.raise src cls sev param).written = s.written := rfl
@[simp] theorem State.raise_otp (s : State) (src : EvSource) (cls : Nat) (sev : Sev) (param : Nat) : (s.raise src cls sev param).otp = s.otp := rfl
@[simp] theorem State.raise_pins (s : State) (src : EvSource) (cls : Nat) (sev : Sev) (param : Nat) : (s.raise src cls sev param).pins = s.pins := rfl
@[simp] theorem State.raise_cxl (s : State) (src : EvSource) (cls : Nat) (sev : Sev) (param : Nat) : (s.raise src cls sev param).cxl = s.cxl := rfl
@[simp] theorem State.raise_spmiP (s : State) (src : EvSource) (cls : Nat) (sev : Sev) (param : Nat) : (s.raise src cls sev param).spmiP = s.spmiP := rfl
@[simp] theorem State.raise_host (s : State) (src : EvSource) (cls : Nat) (sev : Sev) (param : Nat) : (s.raise src cls sev param).host = s.host := rfl
@[simp] theorem State.raise_cover (s : State) (src : EvSource) (cls : Nat) (sev : Sev) (param : Nat) : (s.raise src cls sev param).cover = s.cover := rfl
@[simp] theorem State.raise_dram (s : State) (src : EvSource) (cls : Nat) (sev : Sev) (param : Nat) : (s.raise src cls sev param).dram = s.dram := rfl
@[simp] theorem State.raise_bur (s : State) (src : EvSource) (cls : Nat) (sev : Sev) (param : Nat) : (s.raise src cls sev param).bur = s.bur := rfl
@[simp] theorem State.raise_nand (s : State) (src : EvSource) (cls : Nat) (sev : Sev) (param : Nat) : (s.raise src cls sev param).nand = s.nand := rfl
@[simp] theorem State.raise_rst (s : State) (src : EvSource) (cls : Nat) (sev : Sev) (param : Nat) : (s.raise src cls sev param).rst = s.rst := rfl
@[simp] theorem State.raise_store (s : State) (src : EvSource) (cls : Nat) (sev : Sev) (param : Nat) : (s.raise src cls sev param).store = s.store := rfl
@[simp] theorem State.raise_rail (s : State) (src : EvSource) (cls : Nat) (sev : Sev) (param : Nat) : (s.raise src cls sev param).rail = s.rail := rfl
@[simp] theorem State.raise_spmi (s : State) (src : EvSource) (cls : Nat) (sev : Sev) (param : Nat) : (s.raise src cls sev param).spmi = s.spmi := rfl
@[simp] theorem State.raise_therm (s : State) (src : EvSource) (cls : Nat) (sev : Sev) (param : Nat) : (s.raise src cls sev param).therm = s.therm := rfl
@[simp] theorem State.raise_twin (s : State) (src : EvSource) (cls : Nat) (sev : Sev) (param : Nat) : (s.raise src cls sev param).twin = s.twin := rfl
@[simp] theorem State.raise_keep (s : State) (src : EvSource) (cls : Nat) (sev : Sev) (param : Nat) : (s.raise src cls sev param).keep = s.keep := rfl
@[simp] theorem State.raise_dmk (s : State) (src : EvSource) (cls : Nat) (sev : Sev) (param : Nat) : (s.raise src cls sev param).dmk = s.dmk := rfl
@[simp] theorem State.raise_freeCount (s : State) (src : EvSource) (cls : Nat) (sev : Sev) (param : Nat) : (s.raise src cls sev param).freeCount = s.freeCount := rfl
@[simp] theorem State.raise_pending (s : State) (src : EvSource) (cls : Nat) (sev : Sev) (param : Nat) : (s.raise src cls sev param).pending = s.pending := rfl

/-! ### State.raiseIf -/

@[simp] theorem State.raiseIf_mode (s : State) (b : Bool) (src : EvSource) (cls : Nat) (sev : Sev) (param : Nat) :
    (s.raiseIf b src cls sev param).mode = s.mode := by cases b <;> rfl
@[simp] theorem State.raiseIf_phase (s : State) (b : Bool) (src : EvSource) (cls : Nat) (sev : Sev) (param : Nat) :
    (s.raiseIf b src cls sev param).phase = s.phase := by cases b <;> rfl
@[simp] theorem State.raiseIf_ms (s : State) (b : Bool) (src : EvSource) (cls : Nat) (sev : Sev) (param : Nat) :
    (s.raiseIf b src cls sev param).ms = s.ms := by cases b <;> rfl
@[simp] theorem State.raiseIf_tstamp (s : State) (b : Bool) (src : EvSource) (cls : Nat) (sev : Sev) (param : Nat) :
    (s.raiseIf b src cls sev param).tstamp = s.tstamp := by cases b <;> rfl
@[simp] theorem State.raiseIf_tsSet (s : State) (b : Bool) (src : EvSource) (cls : Nat) (sev : Sev) (param : Nat) :
    (s.raiseIf b src cls sev param).tsSet = s.tsSet := by cases b <;> rfl
@[simp] theorem State.raiseIf_written (s : State) (b : Bool) (src : EvSource) (cls : Nat) (sev : Sev) (param : Nat) :
    (s.raiseIf b src cls sev param).written = s.written := by cases b <;> rfl
@[simp] theorem State.raiseIf_otp (s : State) (b : Bool) (src : EvSource) (cls : Nat) (sev : Sev) (param : Nat) :
    (s.raiseIf b src cls sev param).otp = s.otp := by cases b <;> rfl
@[simp] theorem State.raiseIf_pins (s : State) (b : Bool) (src : EvSource) (cls : Nat) (sev : Sev) (param : Nat) :
    (s.raiseIf b src cls sev param).pins = s.pins := by cases b <;> rfl
@[simp] theorem State.raiseIf_cxl (s : State) (b : Bool) (src : EvSource) (cls : Nat) (sev : Sev) (param : Nat) :
    (s.raiseIf b src cls sev param).cxl = s.cxl := by cases b <;> rfl
@[simp] theorem State.raiseIf_spmiP (s : State) (b : Bool) (src : EvSource) (cls : Nat) (sev : Sev) (param : Nat) :
    (s.raiseIf b src cls sev param).spmiP = s.spmiP := by cases b <;> rfl
@[simp] theorem State.raiseIf_host (s : State) (b : Bool) (src : EvSource) (cls : Nat) (sev : Sev) (param : Nat) :
    (s.raiseIf b src cls sev param).host = s.host := by cases b <;> rfl
@[simp] theorem State.raiseIf_cover (s : State) (b : Bool) (src : EvSource) (cls : Nat) (sev : Sev) (param : Nat) :
    (s.raiseIf b src cls sev param).cover = s.cover := by cases b <;> rfl
@[simp] theorem State.raiseIf_dram (s : State) (b : Bool) (src : EvSource) (cls : Nat) (sev : Sev) (param : Nat) :
    (s.raiseIf b src cls sev param).dram = s.dram := by cases b <;> rfl
@[simp] theorem State.raiseIf_bur (s : State) (b : Bool) (src : EvSource) (cls : Nat) (sev : Sev) (param : Nat) :
    (s.raiseIf b src cls sev param).bur = s.bur := by cases b <;> rfl
@[simp] theorem State.raiseIf_nand (s : State) (b : Bool) (src : EvSource) (cls : Nat) (sev : Sev) (param : Nat) :
    (s.raiseIf b src cls sev param).nand = s.nand := by cases b <;> rfl
@[simp] theorem State.raiseIf_rst (s : State) (b : Bool) (src : EvSource) (cls : Nat) (sev : Sev) (param : Nat) :
    (s.raiseIf b src cls sev param).rst = s.rst := by cases b <;> rfl
@[simp] theorem State.raiseIf_store (s : State) (b : Bool) (src : EvSource) (cls : Nat) (sev : Sev) (param : Nat) :
    (s.raiseIf b src cls sev param).store = s.store := by cases b <;> rfl
@[simp] theorem State.raiseIf_rail (s : State) (b : Bool) (src : EvSource) (cls : Nat) (sev : Sev) (param : Nat) :
    (s.raiseIf b src cls sev param).rail = s.rail := by cases b <;> rfl
@[simp] theorem State.raiseIf_spmi (s : State) (b : Bool) (src : EvSource) (cls : Nat) (sev : Sev) (param : Nat) :
    (s.raiseIf b src cls sev param).spmi = s.spmi := by cases b <;> rfl
@[simp] theorem State.raiseIf_therm (s : State) (b : Bool) (src : EvSource) (cls : Nat) (sev : Sev) (param : Nat) :
    (s.raiseIf b src cls sev param).therm = s.therm := by cases b <;> rfl
@[simp] theorem State.raiseIf_twin (s : State) (b : Bool) (src : EvSource) (cls : Nat) (sev : Sev) (param : Nat) :
    (s.raiseIf b src cls sev param).twin = s.twin := by cases b <;> rfl
@[simp] theorem State.raiseIf_keep (s : State) (b : Bool) (src : EvSource) (cls : Nat) (sev : Sev) (param : Nat) :
    (s.raiseIf b src cls sev param).keep = s.keep := by cases b <;> rfl
@[simp] theorem State.raiseIf_dmk (s : State) (b : Bool) (src : EvSource) (cls : Nat) (sev : Sev) (param : Nat) :
    (s.raiseIf b src cls sev param).dmk = s.dmk := by cases b <;> rfl
@[simp] theorem State.raiseIf_freeCount (s : State) (b : Bool) (src : EvSource) (cls : Nat) (sev : Sev) (param : Nat) :
    (s.raiseIf b src cls sev param).freeCount = s.freeCount := by cases b <;> rfl
@[simp] theorem State.raiseIf_pending (s : State) (b : Bool) (src : EvSource) (cls : Nat) (sev : Sev) (param : Nat) :
    (s.raiseIf b src cls sev param).pending = s.pending := by cases b <;> rfl

end Sys2Proof.Machine
end

