-- ==== Sys2Proof/Laws/Kept1.lean ====
section
/-! SUPPORT. One lemma per operation on State: what the shared operations and the families of 14, 15, 07, 03 and 04 leave alone: the queue of waiting commands, the
OTP row's fixed words and, but for the operations that store to it, the cache DRAM. -/

set_option linter.unusedSimpArgs false
set_option linter.unusedTactic false
set_option linter.unnecessarySeqFocus false

namespace Sys2Proof.Machine

@[simp] theorem foldl_pending {α : Type} (f : State → α → State) (l : List α) (h : ∀ a x, (f a x).pending = a.pending) (s : State) :
    (l.foldl f s).pending = s.pending := by
  induction l generalizing s with
  | nil => rfl
  | cons x t ih => simp [ih, h]

@[simp] theorem foldl_ident {α : Type} (f : State → α → State) (l : List α) (h : ∀ a x, (f a x).otp.ident = a.otp.ident) (s : State) :
    (l.foldl f s).otp.ident = s.otp.ident := by
  induction l generalizing s with
  | nil => rfl
  | cons x t ih => simp [ih, h]

@[simp] theorem foldl_cells {α : Type} (f : State → α → State) (l : List α) (h : ∀ a x, (f a x).dram.cells = a.dram.cells) (s : State) :
    (l.foldl f s).dram.cells = s.dram.cells := by
  induction l generalizing s with
  | nil => rfl
  | cons x t ih => simp [ih, h]

@[simp] theorem DramSt.noPoison_cells (d : DramSt) : d.noPoison.cells = d.cells := rfl

@[simp] theorem State.setF_kept (s : State) (f : Fld) (v : Nat) :
    (State.setF s f v).pending = s.pending ∧ (State.setF s f v).otp.ident = s.otp.ident ∧ (State.setF s f v).dram.cells = s.dram.cells := by
  simp [State.setF]

@[simp] theorem State.setFs_kept (s : State) (l : List (Fld × Nat)) :
    (State.setFs s l).pending = s.pending ∧ (State.setFs s l).otp.ident = s.otp.ident ∧ (State.setFs s l).dram.cells = s.dram.cells := by
  simp [State.setFs]

@[simp] theorem State.setB_kept (s : State) (f : Fld) (b : Bool) :
    (State.setB s f b).pending = s.pending ∧ (State.setB s f b).otp.ident = s.otp.ident ∧ (State.setB s f b).dram.cells = s.dram.cells := by
  simp [State.setB]

@[simp] theorem State.addSat_kept (s : State) (f : Fld) (n : Nat) :
    (State.addSat s f n).pending = s.pending ∧ (State.addSat s f n).otp.ident = s.otp.ident ∧ (State.addSat s f n).dram.cells = s.dram.cells := by
  simp [State.addSat]

@[simp] theorem State.addWrap_kept (s : State) (f : Fld) (n : Nat) :
    (State.addWrap s f n).pending = s.pending ∧ (State.addWrap s f n).otp.ident = s.otp.ident ∧ (State.addWrap s f n).dram.cells = s.dram.cells := by
  simp [State.addWrap]

@[simp] theorem State.comeInto_kept (s : State) (p : Nat → Bool) :
    (State.comeInto s p).pending = s.pending ∧ (State.comeInto s p).otp.ident = s.otp.ident ∧ (State.comeInto s p).dram.cells = s.dram.cells := by
  simp [State.comeInto, apply_ite State.pending, apply_ite State.otp, apply_ite OtpSt.ident, apply_ite State.dram, apply_ite DramSt.cells]

@[simp] theorem State.blockForce_kept (s : State) (b : Nat) :
    (State.blockForce s b).pending = s.pending ∧ (State.blockForce s b).otp.ident = s.otp.ident ∧ (State.blockForce s b).dram.cells = s.dram.cells := by
  simp [State.blockForce]

@[simp] theorem State.resetClass_kept (s : State) (c : RCls) :
    (State.resetClass s c).pending = s.pending ∧ (State.resetClass s c).otp.ident = s.otp.ident ∧ (State.resetClass s c).dram.cells = s.dram.cells := by
  simp [State.resetClass]

@[simp] theorem State.hostTouch_kept (s : State) :
    (State.hostTouch s).pending = s.pending ∧ (State.hostTouch s).otp.ident = s.otp.ident ∧ (State.hostTouch s).dram.cells = s.dram.cells := by
  simp [State.hostTouch, apply_ite State.pending, apply_ite State.otp, apply_ite OtpSt.ident, apply_ite State.dram, apply_ite DramSt.cells]

@[simp] theorem State.wrote_kept (s : State) (p : Path) :
    (State.wrote s p).pending = s.pending ∧ (State.wrote s p).otp.ident = s.otp.ident ∧ (State.wrote s p).dram.cells = s.dram.cells := by
  unfold State.wrote
  split <;> simp

@[simp] theorem State.setPath_kept (s : State) (p : Path) (x : PathSt) :
    (State.setPath s p x).pending = s.pending ∧ (State.setPath s p x).otp.ident = s.otp.ident ∧ (State.setPath s p x).dram.cells = s.dram.cells := by
  unfold State.setPath
  split <;> simp

@[simp] theorem State.raise_kept (s : State) (src : EvSource) (cls : Nat) (sev : Sev) (param : Nat) :
    (State.raise s src cls sev param).pending = s.pending ∧ (State.raise s src cls sev param).otp.ident = s.otp.ident ∧ (State.raise s src cls sev param).dram.cells = s.dram.cells := by
  simp [State.raise]

@[simp] theorem State.raiseIf_kept (s : State) (b : Bool) (src : EvSource) (cls : Nat) (sev : Sev) (param : Nat) :
    (State.raiseIf s b src cls sev param).pending = s.pending ∧ (State.raiseIf s b src cls sev param).otp.ident = s.otp.ident ∧ (State.raiseIf s b src cls sev param).dram.cells = s.dram.cells := by
  simp [State.raiseIf, apply_ite State.pending, apply_ite State.otp, apply_ite OtpSt.ident, apply_ite State.dram, apply_ite DramSt.cells]

@[simp] theorem State.alertScan_kept (s : State) (before : Nat) :
    (State.alertScan s before).pending = s.pending ∧ (State.alertScan s before).otp.ident = s.otp.ident ∧ (State.alertScan s before).dram.cells = s.dram.cells := by
  simp [State.alertScan]

@[simp] theorem State.jput_kept (s : State) (p : JPay) :
    (State.jput s p).pending = s.pending ∧ (State.jput s p).otp.ident = s.otp.ident ∧ (State.jput s p).dram.cells = s.dram.cells := by
  simp [State.jput]

@[simp] theorem State.setPoison_kept (s : State) (line src : Nat) :
    (State.setPoison s line src).pending = s.pending ∧ (State.setPoison s line src).otp.ident = s.otp.ident ∧ (State.setPoison s line src).dram.cells = s.dram.cells := by
  simp [State.setPoison, apply_ite State.pending, apply_ite State.otp, apply_ite OtpSt.ident, apply_ite State.dram, apply_ite DramSt.cells]

@[simp] theorem State.setPoisons_kept (s : State) (lines : List Nat) :
    (State.setPoisons s lines).pending = s.pending ∧ (State.setPoisons s lines).otp.ident = s.otp.ident ∧ (State.setPoisons s lines).dram.cells = s.dram.cells := by
  simp [State.setPoisons]

@[simp] theorem State.clearPoison_kept (s : State) (line : Nat) :
    (State.clearPoison s line).pending = s.pending ∧ (State.clearPoison s line).otp.ident = s.otp.ident ∧ (State.clearPoison s line).dram.cells = s.dram.cells := by
  simp [State.clearPoison]

@[simp] theorem State.poisonRun_kept (s : State) (line : Nat) :
    (State.poisonRun s line).pending = s.pending ∧ (State.poisonRun s line).otp.ident = s.otp.ident ∧ (State.poisonRun s line).dram.cells = s.dram.cells := by
  simp [State.poisonRun, apply_ite State.pending, apply_ite State.otp, apply_ite OtpSt.ident, apply_ite State.dram, apply_ite DramSt.cells]

@[simp] theorem State.leaveService_kept (s : State) (exit : Nat) :
    (State.leaveService s exit).pending = s.pending ∧ (State.leaveService s exit).otp.ident = s.otp.ident ∧ (State.leaveService s exit).dram.cells = s.dram.cells := by
  simp [State.leaveService, apply_ite State.pending, apply_ite State.otp, apply_ite OtpSt.ident, apply_ite State.dram, apply_ite DramSt.cells]

@[simp] theorem State.setMode_kept (s : State) (m : Mode) (ph : Phase) :
    (State.setMode s m ph).pending = s.pending ∧ (State.setMode s m ph).otp.ident = s.otp.ident ∧ (State.setMode s m ph).dram.cells = s.dram.cells := by
  simp [State.setMode]

@[simp] theorem State.enterMode_kept (s : State) (m : Mode) (ph : Phase) :
    (State.enterMode s m ph).pending = s.pending ∧ (State.enterMode s m ph).otp.ident = s.otp.ident ∧ (State.enterMode s m ph).dram.cells = s.dram.cells := by
  simp [State.enterMode]

@[simp] theorem State.recordLock_kept (s : State) (code rail : Nat) :
    (State.recordLock s code rail).pending = s.pending ∧ (State.recordLock s code rail).otp.ident = s.otp.ident ∧ (State.recordLock s code rail).dram.cells = s.dram.cells := by
  simp [State.recordLock]

@[simp] theorem State.setPd_kept (s : State) (l : List Nat) (v : Nat) :
    (State.setPd s l v).pending = s.pending ∧ (State.setPd s l v).otp.ident = s.otp.ident ∧ (State.setPd s l v).dram.cells = s.dram.cells := by
  simp [State.setPd]

@[simp] theorem State.abortAudit_kept (s : State) :
    (State.abortAudit s).pending = s.pending ∧ (State.abortAudit s).otp.ident = s.otp.ident ∧ (State.abortAudit s).dram.cells = s.dram.cells := by
  simp [State.abortAudit]

@[simp] theorem State.addCause_kept (s : State) (c : Cause) :
    (State.addCause s c).pending = s.pending ∧ (State.addCause s c).otp.ident = s.otp.ident ∧ (State.addCause s c).dram.cells = s.dram.cells := by
  simp [State.addCause]

@[simp] theorem State.joinCause_kept (s : State) (c : Cause) :
    (State.joinCause s c).pending = s.pending ∧ (State.joinCause s c).otp.ident = s.otp.ident ∧ (State.joinCause s c).dram.cells = s.dram.cells := by
  unfold State.joinCause
  (try simp only [])
  (repeat' split) <;> simp

@[simp] theorem State.openBridge_kept (s : State) (c : Cause) :
    (State.openBridge s c).pending = s.pending ∧ (State.openBridge s c).otp.ident = s.otp.ident ∧ (State.openBridge s c).dram.cells = s.dram.cells := by
  simp [State.openBridge]

@[simp] theorem State.startBurrow_kept (s : State) (c : Cause) :
    (State.startBurrow s c).pending = s.pending ∧ (State.startBurrow s c).otp.ident = s.otp.ident ∧ (State.startBurrow s c).dram.cells = s.dram.cells := by
  simp [State.startBurrow]

@[simp] theorem State.recordSlot_kept (s : State) (g : Nat) (x : Slot) :
    (State.recordSlot s g x).pending = s.pending ∧ (State.recordSlot s g x).otp.ident = s.otp.ident ∧ (State.recordSlot s g x).dram.cells = s.dram.cells := by
  unfold State.recordSlot
  (try simp only [])
  (repeat' split) <;> simp

@[simp] theorem State.lostSlot_kept (s : State) (g : Nat) :
    (State.lostSlot s g).pending = s.pending ∧ (State.lostSlot s g).otp.ident = s.otp.ident ∧ (State.lostSlot s g).dram.cells = s.dram.cells := by
  simp [State.lostSlot]

@[simp] theorem State.cancelAbandon_kept (s : State) :
    (State.cancelAbandon s).pending = s.pending ∧ (State.cancelAbandon s).otp.ident = s.otp.ident ∧ (State.cancelAbandon s).dram.cells = s.dram.cells := by
  unfold State.cancelAbandon
  (try simp only [])
  (repeat' split) <;> simp

@[simp] theorem State.trigger_kept (s : State) (c : Cause) :
    (State.trigger s c).pending = s.pending ∧ (State.trigger s c).otp.ident = s.otp.ident ∧ (State.trigger s c).dram.cells = s.dram.cells := by
  unfold State.trigger
  (try simp only [])
  (repeat' split) <;> simp

@[simp] theorem State.ringEnter_kept (s : State) (e : EvRec) :
    (State.ringEnter s e).pending = s.pending ∧ (State.ringEnter s e).otp.ident = s.otp.ident ∧ (State.ringEnter s e).dram.cells = s.dram.cells := by
  simp [State.ringEnter]

@[simp] theorem State.ringTake_kept (s : State) (e : EvRec) :
    (State.ringTake s e).pending = s.pending ∧ (State.ringTake s e).otp.ident = s.otp.ident ∧ (State.ringTake s e).dram.cells = s.dram.cells := by
  unfold State.ringTake
  (try simp only [])
  (repeat' split) <;> simp

@[simp] theorem State.archMove_kept (s : State) (sec : Nat) (go : List EvRec) :
    (State.archMove s sec go).pending = s.pending ∧ (State.archMove s sec go).otp.ident = s.otp.ident ∧ (State.archMove s sec go).dram.cells = s.dram.cells := by
  unfold State.archMove
  (try simp only [])
  (repeat' split) <;> simp

@[simp] theorem State.archReclaim_kept (s : State) :
    (State.archReclaim s).pending = s.pending ∧ (State.archReclaim s).otp.ident = s.otp.ident ∧ (State.archReclaim s).dram.cells = s.dram.cells := by
  unfold State.archReclaim
  split <;> simp

@[simp] theorem State.archRoom_kept (s : State) (n : Nat) :
    (State.archRoom s n).pending = s.pending ∧ (State.archRoom s n).otp.ident = s.otp.ident ∧ (State.archRoom s n).dram.cells = s.dram.cells := by
  induction n generalizing s with
  | zero => simp [State.archRoom]
  | succ n ih => unfold State.archRoom; split <;> simp [ih]

@[simp] theorem State.doFreeze_kept (s : State) (p : Path) :
    (State.doFreeze s p).pending = s.pending ∧ (State.doFreeze s p).otp.ident = s.otp.ident ∧ (State.doFreeze s p).dram.cells = s.dram.cells := by
  simp [State.doFreeze, apply_ite State.pending, apply_ite State.otp, apply_ite OtpSt.ident, apply_ite State.dram, apply_ite DramSt.cells]

@[simp] theorem State.endFreeze_kept (s : State) :
    (State.endFreeze s).pending = s.pending ∧ (State.endFreeze s).otp.ident = s.otp.ident ∧ (State.endFreeze s).dram.cells = s.dram.cells := by
  simp [State.endFreeze]

@[simp] theorem State.doThaw_kept (s : State) (p : Path) :
    (State.doThaw s p).pending = s.pending ∧ (State.doThaw s p).otp.ident = s.otp.ident ∧ (State.doThaw s p).dram.cells = s.dram.cells := by
  simp [State.doThaw, apply_ite State.pending, apply_ite State.otp, apply_ite OtpSt.ident, apply_ite State.dram, apply_ite DramSt.cells]

@[simp] theorem State.useTicket_kept (s : State) :
    (State.useTicket s).pending = s.pending ∧ (State.useTicket s).otp.ident = s.otp.ident ∧ (State.useTicket s).dram.cells = s.dram.cells := by
  simp [State.useTicket]

@[simp] theorem State.startClear_kept (s : State) (sev : Nat) :
    (State.startClear s sev).pending = s.pending ∧ (State.startClear s sev).otp.ident = s.otp.ident ∧ (State.startClear s sev).dram.cells = s.dram.cells := by
  simp [State.startClear]

@[simp] theorem State.doEvClear_kept (s : State) (p : Path) (v : Nat) :
    (State.doEvClear s p v).pending = s.pending ∧ (State.doEvClear s p v).otp.ident = s.otp.ident ∧ (State.doEvClear s p v).dram.cells = s.dram.cells := by
  unfold State.doEvClear
  split
  · simp
  · split <;> simp

@[simp] theorem State.clearArch_kept (s : State) (seq sev : Nat) :
    (State.clearArch s seq sev).pending = s.pending ∧ (State.clearArch s seq sev).otp.ident = s.otp.ident ∧ (State.clearArch s seq sev).dram.cells = s.dram.cells := by
  unfold State.clearArch
  (try simp only [])
  (repeat' split) <;> simp

@[simp] theorem State.doRdsel_kept (s : State) (p : Path) (v : Nat) :
    (State.doRdsel s p v).pending = s.pending ∧ (State.doRdsel s p v).otp.ident = s.otp.ident ∧ (State.doRdsel s p v).dram.cells = s.dram.cells := by
  simp [State.doRdsel]

@[simp] theorem State.startErase_kept (s : State) (sec : Nat) (o : FlashOwner) :
    (State.startErase s sec o).pending = s.pending ∧ (State.startErase s sec o).otp.ident = s.otp.ident ∧ (State.startErase s sec o).dram.cells = s.dram.cells := by
  simp [State.startErase]

@[simp] theorem State.putRec_kept (s : State) (pay : JPay) (orig : Option Nat) (copy relTm : Bool) (time : Nat) :
    (State.putRec s pay orig copy relTm time).pending = s.pending ∧ (State.putRec s pay orig copy relTm time).otp.ident = s.otp.ident ∧ (State.putRec s pay orig copy relTm time).dram.cells = s.dram.cells := by
  simp [State.putRec]

@[simp] theorem State.jAhead_kept (s : State) :
    (State.jAhead s).pending = s.pending ∧ (State.jAhead s).otp.ident = s.otp.ident ∧ (State.jAhead s).dram.cells = s.dram.cells := by
  simp [State.jAhead, apply_ite State.pending, apply_ite State.otp, apply_ite OtpSt.ident, apply_ite State.dram, apply_ite DramSt.cells]

@[simp] theorem State.jWrite_kept (s : State) (p : JPay) :
    (State.jWrite s p).pending = s.pending ∧ (State.jWrite s p).otp.ident = s.otp.ident ∧ (State.jWrite s p).dram.cells = s.dram.cells := by
  simp [State.jWrite, apply_ite State.pending, apply_ite State.otp, apply_ite OtpSt.ident, apply_ite State.dram, apply_ite DramSt.cells]

@[simp] theorem State.jFlush_kept (s : State) :
    (State.jFlush s).pending = s.pending ∧ (State.jFlush s).otp.ident = s.otp.ident ∧ (State.jFlush s).dram.cells = s.dram.cells := by
  simp [State.jFlush]

@[simp] theorem State.jNow_kept (s : State) (p : JPay) :
    (State.jNow s p).pending = s.pending ∧ (State.jNow s p).otp.ident = s.otp.ident ∧ (State.jNow s p).dram.cells = s.dram.cells := by
  unfold State.jNow
  (try simp only [])
  (repeat' split) <;> simp

@[simp] theorem State.flashHealth_kept (s : State) :
    (State.flashHealth s).pending = s.pending ∧ (State.flashHealth s).otp.ident = s.otp.ident ∧ (State.flashHealth s).dram.cells = s.dram.cells := by
  simp [State.flashHealth]

@[simp] theorem State.retire_kept (s : State) (sec : Nat) :
    (State.retire s sec).pending = s.pending ∧ (State.retire s sec).otp.ident = s.otp.ident ∧ (State.retire s sec).dram.cells = s.dram.cells := by
  simp [State.retire]

@[simp] theorem State.lsaStart_kept (s : State) (off : Nat) (data : List Byte) :
    (State.lsaStart s off data).pending = s.pending ∧ (State.lsaStart s off data).otp.ident = s.otp.ident ∧ (State.lsaStart s off data).dram.cells = s.dram.cells := by
  unfold State.lsaStart
  (try simp only [])
  (repeat' split) <;> simp

@[simp] theorem State.lsaStop_kept (s : State) :
    (State.lsaStop s).pending = s.pending ∧ (State.lsaStop s).otp.ident = s.otp.ident ∧ (State.lsaStop s).dram.cells = s.dram.cells := by
  unfold State.lsaStop
  (try simp only [])
  (repeat' split) <;> simp

@[simp] theorem State.lsaEnd_kept (s : State) :
    (State.lsaEnd s).pending = s.pending ∧ (State.lsaEnd s).otp.ident = s.otp.ident ∧ (State.lsaEnd s).dram.cells = s.dram.cells := by
  unfold State.lsaEnd
  (try simp only [])
  (repeat' split) <;> simp

@[simp] theorem State.lsaRetry_kept (s : State) (g : FlashProg) :
    (State.lsaRetry s g).pending = s.pending ∧ (State.lsaRetry s g).otp.ident = s.otp.ident ∧ (State.lsaRetry s g).dram.cells = s.dram.cells := by
  unfold State.lsaRetry
  (try simp only [])
  (repeat' split) <;> simp

@[simp] theorem State.updPath_kept (s : State) (p : Path) (f : PathSt → PathSt) :
    (State.updPath s p f).pending = s.pending ∧ (State.updPath s p f).otp.ident = s.otp.ident ∧ (State.updPath s p f).dram.cells = s.dram.cells := by
  simp [State.updPath]

@[simp] theorem State.efRefuse_kept (s : State) (p : Path) (err : Nat) :
    (State.efRefuse s p err).pending = s.pending ∧ (State.efRefuse s p err).otp.ident = s.otp.ident ∧ (State.efRefuse s p err).dram.cells = s.dram.cells := by
  simp [State.efRefuse]

@[simp] theorem State.efData_kept (s : State) (p : Path) (w : BitVec 64) (undef uncorr corr : Bool) :
    (State.efData s p w undef uncorr corr).pending = s.pending ∧ (State.efData s p w undef uncorr corr).otp.ident = s.otp.ident ∧ (State.efData s p w undef uncorr corr).dram.cells = s.dram.cells := by
  simp [State.efData]

@[simp] theorem State.tick1_kept (s : State) :
    (State.tick1 s).pending = s.pending ∧ (State.tick1 s).otp.ident = s.otp.ident ∧ (State.tick1 s).dram.cells = s.dram.cells := by
  simp [State.tick1]

@[simp] theorem State.doRead_kept (s : State) (p : Path) (bitErrors : Nat) :
    (State.doRead s p bitErrors).pending = s.pending ∧ (State.doRead s p bitErrors).otp.ident = s.otp.ident ∧ (State.doRead s p bitErrors).dram.cells = s.dram.cells := by
  unfold State.doRead
  (try simp only [])
  (repeat' split) <;> simp

@[simp] theorem State.fwTouch_kept (s : State) (sec : Nat) :
    (State.fwTouch s sec).pending = s.pending ∧ (State.fwTouch s sec).otp.ident = s.otp.ident ∧ (State.fwTouch s sec).dram.cells = s.dram.cells := by
  simp [State.fwTouch]

@[simp] theorem State.doProgram_kept (s : State) (p : Path) :
    (State.doProgram s p).pending = s.pending ∧ (State.doProgram s p).otp.ident = s.otp.ident ∧ (State.doProgram s p).dram.cells = s.dram.cells := by
  simp [State.doProgram, apply_ite State.pending, apply_ite State.otp, apply_ite OtpSt.ident, apply_ite State.dram, apply_ite DramSt.cells]

@[simp] theorem State.doErase_kept (s : State) (p : Path) :
    (State.doErase s p).pending = s.pending ∧ (State.doErase s p).otp.ident = s.otp.ident ∧ (State.doErase s p).dram.cells = s.dram.cells := by
  simp [State.doErase, apply_ite State.pending, apply_ite State.otp, apply_ite OtpSt.ident, apply_ite State.dram, apply_ite DramSt.cells]

@[simp] theorem State.doSuspend_kept (s : State) (p : Path) :
    (State.doSuspend s p).pending = s.pending ∧ (State.doSuspend s p).otp.ident = s.otp.ident ∧ (State.doSuspend s p).dram.cells = s.dram.cells := by
  simp [State.doSuspend, apply_ite State.pending, apply_ite State.otp, apply_ite OtpSt.ident, apply_ite State.dram, apply_ite DramSt.cells]

@[simp] theorem State.doResume_kept (s : State) (p : Path) :
    (State.doResume s p).pending = s.pending ∧ (State.doResume s p).otp.ident = s.otp.ident ∧ (State.doResume s p).dram.cells = s.dram.cells := by
  simp [State.doResume, apply_ite State.pending, apply_ite State.otp, apply_ite OtpSt.ident, apply_ite State.dram, apply_ite DramSt.cells]

@[simp] theorem State.doOtpRead_kept (s : State) (p : Path) :
    (State.doOtpRead s p).pending = s.pending ∧ (State.doOtpRead s p).otp.ident = s.otp.ident ∧ (State.doOtpRead s p).dram.cells = s.dram.cells := by
  simp [State.doOtpRead, apply_ite State.pending, apply_ite State.otp, apply_ite OtpSt.ident, apply_ite State.dram, apply_ite DramSt.cells]

@[simp] theorem State.doOtpProg_kept (s : State) (p : Path) :
    (State.doOtpProg s p).pending = s.pending ∧ (State.doOtpProg s p).otp.ident = s.otp.ident ∧ (State.doOtpProg s p).dram.cells = s.dram.cells := by
  simp [State.doOtpProg, apply_ite State.pending, apply_ite State.otp, apply_ite OtpSt.ident, apply_ite State.dram, apply_ite DramSt.cells]

@[simp] theorem State.doClear_kept (s : State) (p : Path) :
    (State.doClear s p).pending = s.pending ∧ (State.doClear s p).otp.ident = s.otp.ident ∧ (State.doClear s p).dram.cells = s.dram.cells := by
  simp [State.doClear, apply_ite State.pending, apply_ite State.otp, apply_ite OtpSt.ident, apply_ite State.dram, apply_ite DramSt.cells]

@[simp] theorem State.doKey_kept (s : State) (p : Path) (v : Nat) :
    (State.doKey s p v).pending = s.pending ∧ (State.doKey s p v).otp.ident = s.otp.ident ∧ (State.doKey s p v).dram.cells = s.dram.cells := by
  simp [State.doKey]

@[simp] theorem State.efEnd_kept (s : State) (o : FlashOwner) (err : Nat) :
    (State.efEnd s o err).pending = s.pending ∧ (State.efEnd s o err).otp.ident = s.otp.ident ∧ (State.efEnd s o err).dram.cells = s.dram.cells := by
  unfold State.efEnd
  split <;> simp

@[simp] theorem State.jClose_kept (s : State) :
    (State.jClose s).pending = s.pending ∧ (State.jClose s).otp.ident = s.otp.ident ∧ (State.jClose s).dram.cells = s.dram.cells := by
  simp [State.jClose]

@[simp] theorem State.headFailed_kept (s : State) :
    (State.headFailed s).pending = s.pending ∧ (State.headFailed s).otp.ident = s.otp.ident ∧ (State.headFailed s).dram.cells = s.dram.cells := by
  unfold State.headFailed
  (try simp only [])
  (repeat' split) <;> simp

@[simp] theorem State.windowStep_kept (s : State) :
    (State.windowStep s).pending = s.pending ∧ (State.windowStep s).otp.ident = s.otp.ident ∧ (State.windowStep s).dram.cells = s.dram.cells := by
  simp [State.windowStep, apply_ite State.pending, apply_ite State.otp, apply_ite OtpSt.ident, apply_ite State.dram, apply_ite DramSt.cells]

@[simp] theorem State.setLedger_kept (s : State) (g : Nat) (e : LState) :
    (State.setLedger s g e).pending = s.pending ∧ (State.setLedger s g e).otp.ident = s.otp.ident ∧ (State.setLedger s g e).dram.cells = s.dram.cells := by
  simp [State.setLedger]

@[simp] theorem State.credit_kept (s : State) :
    (State.credit s).pending = s.pending ∧ (State.credit s).otp.ident = s.otp.ident ∧ (State.credit s).dram.cells = s.dram.cells := by
  simp [State.credit]

@[simp] theorem State.cleanAllCheck_kept (s : State) :
    (State.cleanAllCheck s).pending = s.pending ∧ (State.cleanAllCheck s).otp.ident = s.otp.ident ∧ (State.cleanAllCheck s).dram.cells = s.dram.cells := by
  simp [State.cleanAllCheck, apply_ite State.pending, apply_ite State.otp, apply_ite OtpSt.ident, apply_ite State.dram, apply_ite DramSt.cells]

@[simp] theorem State.mirrorQ_kept (s : State) (g : Nat) (e : LState) :
    (State.mirrorQ s g e).pending = s.pending ∧ (State.mirrorQ s g e).otp.ident = s.otp.ident ∧ (State.mirrorQ s g e).dram.cells = s.dram.cells := by
  simp [State.mirrorQ]

@[simp] theorem State.mapLedger_kept (s : State) (f : Nat → LState → LState) :
    (State.mapLedger s f).pending = s.pending ∧ (State.mapLedger s f).otp.ident = s.otp.ident ∧ (State.mapLedger s f).dram.cells = s.dram.cells := by
  simp [State.mapLedger]

@[simp] theorem State.rebuildBooks_kept (s : State) :
    (State.rebuildBooks s).pending = s.pending ∧ (State.rebuildBooks s).otp.ident = s.otp.ident ∧ (State.rebuildBooks s).dram.cells = s.dram.cells := by
  simp [State.rebuildBooks]

@[simp] theorem State.trickleBack_kept (s : State) (g age : Nat) :
    (State.trickleBack s g age).pending = s.pending ∧ (State.trickleBack s g age).otp.ident = s.otp.ident ∧ (State.trickleBack s g age).dram.cells = s.dram.cells := by
  simp [State.trickleBack]

@[simp] theorem State.openDoubt_kept (s : State) (word : Nat) :
    (State.openDoubt s word).pending = s.pending ∧ (State.openDoubt s word).otp.ident = s.otp.ident ∧ (State.openDoubt s word).dram.cells = s.dram.cells := by
  simp [State.openDoubt]

@[simp] theorem State.recount_kept (s : State) :
    (State.recount s).pending = s.pending ∧ (State.recount s).otp.ident = s.otp.ident ∧ (State.recount s).dram.cells = s.dram.cells := by
  simp [State.recount]

@[simp] theorem State.setBlk_kept (s : State) (b : Nat) (x : Blk) :
    (State.setBlk s b x).pending = s.pending ∧ (State.setBlk s b x).otp.ident = s.otp.ident ∧ (State.setBlk s b x).dram.cells = s.dram.cells := by
  simp [State.setBlk]

@[simp] theorem State.takeLoc_kept (s : State) (loc : Nat) :
    (State.takeLoc s loc).pending = s.pending ∧ (State.takeLoc s loc).otp.ident = s.otp.ident ∧ (State.takeLoc s loc).dram.cells = s.dram.cells := by
  simp [State.takeLoc]

@[simp] theorem State.setSub_kept (s : State) (k : Nat) (x : SubCh) :
    (State.setSub s k x).pending = s.pending ∧ (State.setSub s k x).otp.ident = s.otp.ident ∧ (State.setSub s k x).dram.cells = s.dram.cells := by
  simp [State.setSub]

@[simp] theorem State.ask_kept (s : State) (q : DramQ) :
    (State.ask s q).pending = s.pending ∧ (State.ask s q).otp.ident = s.otp.ident ∧ (State.ask s q).dram.cells = s.dram.cells := by
  simp [State.ask]

@[simp] theorem State.askHost_kept (s : State) (line : Nat) :
    (State.askHost s line).pending = s.pending ∧ (State.askHost s line).otp.ident = s.otp.ident ∧ (State.askHost s line).dram.cells = s.dram.cells := by
  simp [State.askHost]

@[simp] theorem State.askCtx_kept (s : State) (n : Nat) :
    (State.askCtx s n).pending = s.pending ∧ (State.askCtx s n).otp.ident = s.otp.ident ∧ (State.askCtx s n).dram.cells = s.dram.cells := by
  simp [State.askCtx, apply_ite State.pending, apply_ite State.otp, apply_ite OtpSt.ident, apply_ite State.dram, apply_ite DramSt.cells]

@[simp] theorem State.dropCtxReads_kept (s : State) (n : Nat) :
    (State.dropCtxReads s n).pending = s.pending ∧ (State.dropCtxReads s n).otp.ident = s.otp.ident ∧ (State.dropCtxReads s n).dram.cells = s.dram.cells := by
  simp [State.dropCtxReads]

@[simp] theorem State.setCtx_kept (s : State) (n : Nat) (c : Ctx) :
    (State.setCtx s n c).pending = s.pending ∧ (State.setCtx s n c).otp.ident = s.otp.ident ∧ (State.setCtx s n c).dram.cells = s.dram.cells := by
  simp [State.setCtx]

@[simp] theorem State.beginLoad_kept (s : State) (n : Nat) (c : Ctx) :
    (State.beginLoad s n c).pending = s.pending ∧ (State.beginLoad s n c).otp.ident = s.otp.ident ∧ (State.beginLoad s n c).dram.cells = s.dram.cells := by
  unfold State.beginLoad
  (try simp only [])
  (repeat' split) <;> simp

@[simp] theorem State.loadTurn_kept (s : State) (n : Nat) :
    (State.loadTurn s n).pending = s.pending ∧ (State.loadTurn s n).otp.ident = s.otp.ident ∧ (State.loadTurn s n).dram.cells = s.dram.cells := by
  unfold State.loadTurn
  (try simp only [])
  (repeat' split) <;> simp

@[simp] theorem State.loadTurns_kept (s : State) :
    (State.loadTurns s).pending = s.pending ∧ (State.loadTurns s).otp.ident = s.otp.ident ∧ (State.loadTurns s).dram.cells = s.dram.cells := by
  unfold State.loadTurns
  (try simp only [])
  (repeat' split) <;> simp

theorem State.armCtx_kept {s t : State} {n : Nat} (h : s.armCtx n = some t) :
    t.pending = s.pending ∧ t.otp.ident = s.otp.ident ∧ t.dram.cells = s.dram.cells := by
  unfold State.armCtx at h
  split at h
  · simp at h
  · simp only [Option.map_eq_some_iff] at h
    obtain ⟨loc, -, rfl⟩ := h
    simp

@[simp] theorem State.rearm_kept (s : State) (n : Nat) :
    (State.rearm s n).pending = s.pending ∧ (State.rearm s n).otp.ident = s.otp.ident ∧ (State.rearm s n).dram.cells = s.dram.cells := by
  unfold State.rearm
  cases h : s.armCtx n with
  | none => simp
  | some t => simpa using State.armCtx_kept h

@[simp] theorem State.keepPage_kept (s : State) (n : Nat) :
    (State.keepPage s n).pending = s.pending ∧ (State.keepPage s n).otp.ident = s.otp.ident ∧ (State.keepPage s n).dram.cells = s.dram.cells := by
  simp [State.keepPage]

theorem State.takeCtx_kept {s t : State} {n : Nat} (h : s.takeCtx = some (n, t)) :
    t.pending = s.pending ∧ t.otp.ident = s.otp.ident ∧ t.dram.cells = s.dram.cells := by
  unfold State.takeCtx at h
  split at h
  · simp only [Option.some.injEq, Prod.mk.injEq] at h
    simp [h.2]
  · simp only [Option.bind_eq_some_iff, Option.map_eq_some_iff, Prod.mk.injEq] at h
    obtain ⟨m, -, u, hu, h⟩ := h
    split at h
    · cases h
    · cases h
      exact State.armCtx_kept hu

theorem State.armCopy_kept {s t : State} {k : CopyKind} {g age : Nat} (h : s.armCopy k g age = some t) :
    t.pending = s.pending ∧ t.otp.ident = s.otp.ident ∧ t.dram.cells = s.dram.cells := by
  unfold State.armCopy at h
  split at h
  · simp at h
  · simp only [Option.map_eq_some_iff] at h
    obtain ⟨⟨n, u⟩, hu, rfl⟩ := h
    simpa using State.takeCtx_kept hu

theorem State.armReloc_kept {s t : State} {g src ver : Nat} (h : s.armReloc g src ver = some t) :
    t.pending = s.pending ∧ t.otp.ident = s.otp.ident ∧ t.dram.cells = s.dram.cells := by
  unfold State.armReloc at h
  split at h
  · simp at h
  · simp only [Option.map_eq_some_iff] at h
    obtain ⟨⟨n, u⟩, hu, rfl⟩ := h
    simpa using State.takeCtx_kept hu

@[simp] theorem State.armOneRefresh_kept (s : State) (g : Nat) :
    (State.armOneRefresh s g).pending = s.pending ∧ (State.armOneRefresh s g).otp.ident = s.otp.ident ∧ (State.armOneRefresh s g).dram.cells = s.dram.cells := by
  unfold State.armOneRefresh
  split
  · simp
  · split
    · rename_i h; simpa using State.armCopy_kept h
    · simp

@[simp] theorem State.armRefresh_kept (s : State) :
    (State.armRefresh s).pending = s.pending ∧ (State.armRefresh s).otp.ident = s.otp.ident ∧ (State.armRefresh s).dram.cells = s.dram.cells := by
  unfold State.armRefresh
  (try simp only [])
  (repeat' split) <;> simp

@[simp] theorem State.wtTry_kept (s : State) :
    (State.wtTry s).pending = s.pending ∧ (State.wtTry s).otp.ident = s.otp.ident ∧ (State.wtTry s).dram.cells = s.dram.cells := by
  unfold State.wtTry
  split
  · split
    · split
      · rename_i h; simpa using State.takeCtx_kept h
      · simp
    · simp
  · simp

@[simp] theorem State.lookupMap_kept (s : State) (g : Nat) :
    (State.lookupMap s g).pending = s.pending ∧ (State.lookupMap s g).otp.ident = s.otp.ident ∧ (State.lookupMap s g).dram.cells = s.dram.cells := by
  simp [State.lookupMap]

@[simp] theorem State.listOrphan_kept (s : State) (page g : Nat) :
    (State.listOrphan s page g).pending = s.pending ∧ (State.listOrphan s page g).otp.ident = s.otp.ident ∧ (State.listOrphan s page g).dram.cells = s.dram.cells := by
  unfold State.listOrphan
  (try simp only [])
  (repeat' split) <;> simp

@[simp] theorem State.orphanBack_kept (s : State) (page g : Nat) :
    (State.orphanBack s page g).pending = s.pending ∧ (State.orphanBack s page g).otp.ident = s.otp.ident ∧ (State.orphanBack s page g).dram.cells = s.dram.cells := by
  unfold State.orphanBack
  (try simp only [])
  (repeat' split) <;> simp

@[simp] theorem State.mapCopy_kept (s : State) (g loc ver crc : Nat) :
    (State.mapCopy s g loc ver crc).pending = s.pending ∧ (State.mapCopy s g loc ver crc).otp.ident = s.otp.ident ∧ (State.mapCopy s g loc ver crc).dram.cells = s.dram.cells := by
  simp [State.mapCopy]

@[simp] theorem State.putPage_kept (s : State) (loc : Nat) (p : NPage) :
    (State.putPage s loc p).pending = s.pending ∧ (State.putPage s loc p).otp.ident = s.otp.ident ∧ (State.putPage s loc p).dram.cells = s.dram.cells := by
  simp [State.putPage]

@[simp] theorem State.dropPage_kept (s : State) (loc : Nat) :
    (State.dropPage s loc).pending = s.pending ∧ (State.dropPage s loc).otp.ident = s.otp.ident ∧ (State.dropPage s loc).dram.cells = s.dram.cells := by
  simp [State.dropPage]

@[simp] theorem State.handoff_kept (s : State) (g : Nat) :
    (State.handoff s g).pending = s.pending ∧ (State.handoff s g).otp.ident = s.otp.ident ∧ (State.handoff s g).dram.cells = s.dram.cells := by
  simp [State.handoff]

@[simp] theorem State.handBack_kept (s : State) (g : Nat) :
    (State.handBack s g).pending = s.pending ∧ (State.handBack s g).otp.ident = s.otp.ident ∧ (State.handBack s g).dram.cells = s.dram.cells := by
  simp [State.handBack]

@[simp] theorem State.copyAbandoned_kept (s : State) (c : Ctx) :
    (State.copyAbandoned s c).pending = s.pending ∧ (State.copyAbandoned s c).otp.ident = s.otp.ident ∧ (State.copyAbandoned s c).dram.cells = s.dram.cells := by
  unfold State.copyAbandoned
  split <;> simp

@[simp] theorem State.zeroStaging_kept (s : State) :
    (State.zeroStaging s).pending = s.pending ∧ (State.zeroStaging s).otp.ident = s.otp.ident := by
  unfold State.zeroStaging
  (try simp only [])
  (repeat' split) <;> simp

@[simp] theorem State.recordLost_kept (s : State) (g : Nat) :
    (State.recordLost s g).pending = s.pending ∧ (State.recordLost s g).otp.ident = s.otp.ident ∧ (State.recordLost s g).dram.cells = s.dram.cells := by
  simp [State.recordLost]

@[simp] theorem State.takenLost_kept (s : State) (g : Nat) :
    (State.takenLost s g).pending = s.pending ∧ (State.takenLost s g).otp.ident = s.otp.ident ∧ (State.takenLost s g).dram.cells = s.dram.cells := by
  simp [State.takenLost]

@[simp] theorem State.reserveCheck_kept (s : State) :
    (State.reserveCheck s).pending = s.pending ∧ (State.reserveCheck s).otp.ident = s.otp.ident ∧ (State.reserveCheck s).dram.cells = s.dram.cells := by
  unfold State.reserveCheck
  split
  · split <;> simp
  · simp

@[simp] theorem State.lossCheck_kept (s : State) (closed : Bool) :
    (State.lossCheck s closed).pending = s.pending ∧ (State.lossCheck s closed).otp.ident = s.otp.ident ∧ (State.lossCheck s closed).dram.cells = s.dram.cells := by
  unfold State.lossCheck
  (try simp only [])
  (repeat' split) <;> simp

@[simp] theorem State.reserveBack_kept (s : State) :
    (State.reserveBack s).pending = s.pending ∧ (State.reserveBack s).otp.ident = s.otp.ident ∧ (State.reserveBack s).dram.cells = s.dram.cells := by
  simp [State.reserveBack, apply_ite State.pending, apply_ite State.otp, apply_ite OtpSt.ident, apply_ite State.dram, apply_ite DramSt.cells]

@[simp] theorem State.openMeta_kept (s : State) (want n : Nat) :
    (s.openMeta want n).pending = s.pending ∧ (s.openMeta want n).otp.ident = s.otp.ident
      ∧ (s.openMeta want n).dram.cells = s.dram.cells := by
  induction n generalizing s with
  | zero => simp [State.openMeta]
  | succ n ih =>
    unfold State.openMeta
    split
    · simp
    · split
      · simp [ih]
      · simp

@[simp] theorem State.keepMeta_kept (s : State) :
    (State.keepMeta s).pending = s.pending ∧ (State.keepMeta s).otp.ident = s.otp.ident ∧ (State.keepMeta s).dram.cells = s.dram.cells := by
  unfold State.keepMeta
  (try simp only [])
  (repeat' split) <;> simp

@[simp] theorem State.takeMeta_kept (s : State) (loc : Nat) :
    (State.takeMeta s loc).pending = s.pending ∧ (State.takeMeta s loc).otp.ident = s.otp.ident ∧ (State.takeMeta s loc).dram.cells = s.dram.cells := by
  simp [State.takeMeta, apply_ite State.pending, apply_ite State.otp, apply_ite OtpSt.ident, apply_ite State.dram, apply_ite DramSt.cells]

@[simp] theorem State.giveBack_kept (s : State) (n : Nat) :
    (State.giveBack s n).pending = s.pending ∧ (State.giveBack s n).otp.ident = s.otp.ident ∧ (State.giveBack s n).dram.cells = s.dram.cells := by
  unfold State.giveBack
  (try simp only [])
  (repeat' split) <;> simp

@[simp] theorem State.metaTake_kept (s : State) (n loc : Nat) :
    (State.metaTake s n loc).pending = s.pending ∧ (State.metaTake s n loc).otp.ident = s.otp.ident ∧ (State.metaTake s n loc).dram.cells = s.dram.cells := by
  unfold State.metaTake
  split <;> simp

@[simp] theorem State.metaStart_kept (s : State) (l : Nat) :
    (State.metaStart s l).pending = s.pending ∧ (State.metaStart s l).otp.ident = s.otp.ident ∧ (State.metaStart s l).dram.cells = s.dram.cells := by
  unfold State.metaStart
  (try simp only [])
  (repeat' split) <;> simp

@[simp] theorem State.rootWave_kept (s : State) :
    (State.rootWave s).pending = s.pending ∧ (State.rootWave s).otp.ident = s.otp.ident ∧ (State.rootWave s).dram.cells = s.dram.cells := by
  unfold State.rootWave
  (try simp only [])
  (repeat' split) <;> simp

@[simp] theorem State.metaWave_kept (s : State) :
    (State.metaWave s).pending = s.pending ∧ (State.metaWave s).otp.ident = s.otp.ident ∧ (State.metaWave s).dram.cells = s.dram.cells := by
  unfold State.metaWave
  (try simp only [])
  (repeat' split) <;> simp

@[simp] theorem State.metaLanded_kept (s : State) (n : Nat) :
    (State.metaLanded s n).pending = s.pending ∧ (State.metaLanded s n).otp.ident = s.otp.ident ∧ (State.metaLanded s n).dram.cells = s.dram.cells := by
  unfold State.metaLanded
  (try simp only [])
  (repeat' split) <;> simp

@[simp] theorem State.metaBack_kept (s : State) (n : Nat) :
    (State.metaBack s n).pending = s.pending ∧ (State.metaBack s n).otp.ident = s.otp.ident ∧ (State.metaBack s n).dram.cells = s.dram.cells := by
  unfold State.metaBack
  (try simp only [])
  (repeat' split) <;> simp

@[simp] theorem State.ckptDrop_kept (s : State) :
    (State.ckptDrop s).pending = s.pending ∧ (State.ckptDrop s).otp.ident = s.otp.ident ∧ (State.ckptDrop s).dram.cells = s.dram.cells := by
  unfold State.ckptDrop
  (try simp only [])
  (repeat' split) <;> simp

@[simp] theorem State.moveOn_kept (s : State) (n : Nat) (c : Ctx) :
    (State.moveOn s n c).pending = s.pending ∧ (State.moveOn s n c).otp.ident = s.otp.ident ∧ (State.moveOn s n c).dram.cells = s.dram.cells := by
  unfold State.moveOn
  (try simp only [])
  (repeat' split) <;> simp

@[simp] theorem State.loseCtx_kept (s : State) (n : Nat) :
    (State.loseCtx s n).pending = s.pending ∧ (State.loseCtx s n).otp.ident = s.otp.ident ∧ (State.loseCtx s n).dram.cells = s.dram.cells := by
  unfold State.loseCtx
  (try simp only [])
  (repeat' split) <;> simp

@[simp] theorem State.failLun_kept (s : State) (l : Nat) :
    (State.failLun s l).pending = s.pending ∧ (State.failLun s l).otp.ident = s.otp.ident ∧ (State.failLun s l).dram.cells = s.dram.cells := by
  simp [State.failLun, apply_ite State.pending, apply_ite State.otp, apply_ite OtpSt.ident, apply_ite State.dram, apply_ite DramSt.cells]

@[simp] theorem State.lunFine_kept (s : State) (l : Nat) :
    (State.lunFine s l).pending = s.pending ∧ (State.lunFine s l).otp.ident = s.otp.ident ∧ (State.lunFine s l).dram.cells = s.dram.cells := by
  unfold State.lunFine
  (try simp only [])
  (repeat' split) <;> simp

@[simp] theorem State.failMarks_kept (s : State) (page : Nat) :
    (State.failMarks s page).pending = s.pending ∧ (State.failMarks s page).otp.ident = s.otp.ident ∧ (State.failMarks s page).dram.cells = s.dram.cells := by
  unfold State.failMarks
  (try simp only [])
  (repeat' split) <;> simp

@[simp] theorem State.failEnds_kept (s : State) (n : Nat) (c : Ctx) :
    (State.failEnds s n c).pending = s.pending ∧ (State.failEnds s n c).otp.ident = s.otp.ident ∧ (State.failEnds s n c).dram.cells = s.dram.cells := by
  unfold State.failEnds
  (try simp only [])
  (repeat' split) <;> simp

@[simp] theorem State.failRetry_kept (s : State) (n : Nat) (c : Ctx) :
    (State.failRetry s n c).pending = s.pending ∧ (State.failRetry s n c).otp.ident = s.otp.ident ∧ (State.failRetry s n c).dram.cells = s.dram.cells := by
  unfold State.failRetry
  (try simp only [])
  (repeat' split) <;> simp

@[simp] theorem State.programFailed_kept (s : State) (n : Nat) :
    (State.programFailed s n).pending = s.pending ∧ (State.programFailed s n).otp.ident = s.otp.ident ∧ (State.programFailed s n).dram.cells = s.dram.cells := by
  unfold State.programFailed
  (try simp only [])
  (repeat' split) <;> simp

@[simp] theorem State.pageFailed_kept (s : State) (loc : Nat) :
    (State.pageFailed s loc).pending = s.pending ∧ (State.pageFailed s loc).otp.ident = s.otp.ident ∧ (State.pageFailed s loc).dram.cells = s.dram.cells := by
  unfold State.pageFailed
  (try simp only [])
  (repeat' split) <;> simp

@[simp] theorem State.eraseOne_kept (s : State) (b : Nat) :
    (State.eraseOne s b).pending = s.pending ∧ (State.eraseOne s b).otp.ident = s.otp.ident ∧ (State.eraseOne s b).dram.cells = s.dram.cells := by
  unfold State.eraseOne
  (try simp only [])
  (repeat' split) <;> simp

@[simp] theorem State.eraseGo_kept (s : State) :
    (State.eraseGo s).pending = s.pending ∧ (State.eraseGo s).otp.ident = s.otp.ident ∧ (State.eraseGo s).dram.cells = s.dram.cells := by
  unfold State.eraseGo
  (try simp only [])
  (repeat' split) <;> simp [apply_ite State.pending, apply_ite State.otp, apply_ite OtpSt.ident, apply_ite State.dram, apply_ite DramSt.cells]

@[simp] theorem State.retireBad_kept (s : State) :
    (State.retireBad s).pending = s.pending ∧ (State.retireBad s).otp.ident = s.otp.ident ∧ (State.retireBad s).dram.cells = s.dram.cells := by
  unfold State.retireBad
  (try simp only [])
  (repeat' split) <;> simp [apply_ite State.pending, apply_ite State.otp, apply_ite OtpSt.ident, apply_ite State.dram, apply_ite DramSt.cells]

@[simp] theorem State.serveReads_kept (s : State) :
    (State.serveReads s).pending = s.pending ∧ (State.serveReads s).otp.ident = s.otp.ident ∧ (State.serveReads s).dram.cells = s.dram.cells := by
  simp [State.serveReads]

theorem State.ledgerTake_kept {s t : State} {g : Nat} (h : s.ledgerTake g = some t) :
    t.pending = s.pending ∧ t.otp.ident = s.otp.ident ∧ t.dram.cells = s.dram.cells := by
  unfold State.ledgerTake at h
  split at h
  · cases h; simp
  · cases h; simp
  · cases h; simp
  · split at h
    · cases h; simp
    · split at h
      · cases h; simp
      · simp at h

@[simp] theorem State.frame_kept (s : State) (ty par : Nat) :
    (State.frame s ty par).pending = s.pending ∧ (State.frame s ty par).otp.ident = s.otp.ident ∧ (State.frame s ty par).dram.cells = s.dram.cells := by
  simp [State.frame]

@[simp] theorem State.got_kept (s : State) :
    (State.got s).pending = s.pending ∧ (State.got s).otp.ident = s.otp.ident ∧ (State.got s).dram.cells = s.dram.cells := by
  unfold State.got
  (try simp only [])
  (repeat' split) <;> simp

@[simp] theorem State.frameIf_kept (s : State) (b : Bool) (ty par : Nat) :
    (State.frameIf s b ty par).pending = s.pending ∧ (State.frameIf s b ty par).otp.ident = s.otp.ident ∧ (State.frameIf s b ty par).dram.cells = s.dram.cells := by
  simp [State.frameIf, apply_ite State.pending, apply_ite State.otp, apply_ite OtpSt.ident, apply_ite State.dram, apply_ite DramSt.cells]

@[simp] theorem State.stageWrite_kept (s : State) (w : Wr) :
    (State.stageWrite s w).pending = s.pending ∧ (State.stageWrite s w).otp.ident = s.otp.ident ∧ (State.stageWrite s w).dram.cells = s.dram.cells := by
  simp [State.stageWrite]

@[simp] theorem State.stageWsn_kept (s : State) :
    (State.stageWsn s).pending = s.pending ∧ (State.stageWsn s).otp.ident = s.otp.ident ∧ (State.stageWsn s).dram.cells = s.dram.cells := by
  unfold State.stageWsn
  (try simp only [])
  (repeat' split) <;> simp

@[simp] theorem State.startWt_kept (s : State) (w : Wr) :
    (State.startWt s w).pending = s.pending ∧ (State.startWt s w).otp.ident = s.otp.ident ∧ (State.startWt s w).dram.cells = s.dram.cells := by
  simp [State.startWt]

@[simp] theorem State.creditWait_kept (s : State) (w : Wr) :
    (State.creditWait s w).pending = s.pending ∧ (State.creditWait s w).otp.ident = s.otp.ident ∧ (State.creditWait s w).dram.cells = s.dram.cells := by
  simp [State.creditWait, apply_ite State.pending, apply_ite State.otp, apply_ite OtpSt.ident, apply_ite State.dram, apply_ite DramSt.cells]

@[simp] theorem State.leaveIngress_kept (s : State) (rest : List Wr) :
    (State.leaveIngress s rest).pending = s.pending ∧ (State.leaveIngress s rest).otp.ident = s.otp.ident ∧ (State.leaveIngress s rest).dram.cells = s.dram.cells := by
  simp [State.leaveIngress]

@[simp] theorem State.bufStep_kept (s : State) (w : Wr) :
    (State.bufStep s w).pending = s.pending ∧ (State.bufStep s w).otp.ident = s.otp.ident ∧ (State.bufStep s w).dram.cells = s.dram.cells := by
  unfold State.bufStep
  (try simp only [])
  (repeat' split) <;> simp

@[simp] theorem State.bufLeave_kept (s : State) :
    (State.bufLeave s).pending = s.pending ∧ (State.bufLeave s).otp.ident = s.otp.ident ∧ (State.bufLeave s).dram.cells = s.dram.cells := by
  unfold State.bufLeave
  (try simp only [])
  (repeat' split) <;> simp

@[simp] theorem ledgerRun_kept (n : Nat) (s : State) :
    (ledgerRun n s).pending = s.pending ∧ (ledgerRun n s).otp.ident = s.otp.ident ∧ (ledgerRun n s).dram.cells = s.dram.cells := by
  induction n generalizing s with
  | zero => simp [ledgerRun]
  | succ n ih =>
    unfold ledgerRun
    split
    · split
      · simp
      · split
        · rename_i h; simpa [ih] using State.ledgerTake_kept h
        · simp
    · simp

@[simp] theorem State.commitWr_kept (s : State) (w : Wr) :
    (State.commitWr s w).pending = s.pending ∧ (State.commitWr s w).otp.ident = s.otp.ident ∧ (State.commitWr s w).dram.cells = s.dram.cells := by
  simp [State.commitWr]

@[simp] theorem State.markWt_kept (s : State) (line : Nat) :
    (State.markWt s line).pending = s.pending ∧ (State.markWt s line).otp.ident = s.otp.ident ∧ (State.markWt s line).dram.cells = s.dram.cells := by
  unfold State.markWt
  (try simp only [])
  (repeat' split) <;> simp

@[simp] theorem State.stageMirror_kept (s : State) (w : Wr) :
    (State.stageMirror s w).pending = s.pending ∧ (State.stageMirror s w).otp.ident = s.otp.ident ∧ (State.stageMirror s w).dram.cells = s.dram.cells := by
  simp [State.stageMirror]

@[simp] theorem State.commitLine_kept (s : State) (line : Nat) (be : ByteEn) (d : LineData) :
    (State.commitLine s line be d).pending = s.pending ∧ (State.commitLine s line be d).otp.ident = s.otp.ident ∧ (State.commitLine s line be d).dram.cells = s.dram.cells := by
  simp [State.commitLine]

@[simp] theorem State.mirrorWt_kept (s : State) :
    (State.mirrorWt s).pending = s.pending ∧ (State.mirrorWt s).otp.ident = s.otp.ident ∧ (State.mirrorWt s).dram.cells = s.dram.cells := by
  unfold State.mirrorWt
  (try simp only [])
  (repeat' split) <;> simp

@[simp] theorem State.commitTo_kept (s : State) (wsn : Nat) :
    (State.commitTo s wsn).pending = s.pending ∧ (State.commitTo s wsn).otp.ident = s.otp.ident ∧ (State.commitTo s wsn).dram.cells = s.dram.cells := by
  simp [State.commitTo]

@[simp] theorem State.learnCommit_kept (s : State) (cum : Nat) :
    (State.learnCommit s cum).pending = s.pending ∧ (State.learnCommit s cum).otp.ident = s.otp.ident ∧ (State.learnCommit s cum).dram.cells = s.dram.cells := by
  simp [State.learnCommit]

@[simp] theorem State.mirrorStep_kept (s : State) (w : Wr) :
    (State.mirrorStep s w).pending = s.pending ∧ (State.mirrorStep s w).otp.ident = s.otp.ident ∧ (State.mirrorStep s w).dram.cells = s.dram.cells := by
  unfold State.mirrorStep
  (try simp only [])
  (repeat' split) <;> simp

@[simp] theorem State.mirrorLeave_kept (s : State) :
    (State.mirrorLeave s).pending = s.pending ∧ (State.mirrorLeave s).otp.ident = s.otp.ident ∧ (State.mirrorLeave s).dram.cells = s.dram.cells := by
  unfold State.mirrorLeave
  (try simp only [])
  (repeat' split) <;> simp

@[simp] theorem mirrorRun_kept (n : Nat) (s : State) :
    (mirrorRun n s).pending = s.pending ∧ (mirrorRun n s).otp.ident = s.otp.ident ∧ (mirrorRun n s).dram.cells = s.dram.cells := by
  induction n generalizing s with
  | zero => simp [mirrorRun]
  | succ n ih =>
    unfold mirrorRun
    split
    · split
      · simp
      · simp only []
        split
        · rename_i h; simpa [ih] using State.ledgerTake_kept h
        · simp
    · simp

@[simp] theorem State.rsyFinish_kept (s : State) :
    (State.rsyFinish s).pending = s.pending ∧ (State.rsyFinish s).otp.ident = s.otp.ident ∧ (State.rsyFinish s).dram.cells = s.dram.cells := by
  simp [State.rsyFinish]

@[simp] theorem State.rsyLead_kept (s : State) :
    (State.rsyLead s).pending = s.pending ∧ (State.rsyLead s).otp.ident = s.otp.ident ∧ (State.rsyLead s).dram.cells = s.dram.cells := by
  unfold State.rsyLead
  (try simp only [])
  (repeat' split) <;> simp

@[simp] theorem rsyRun_kept (n : Nat) (s : State) :
    (rsyRun n s).pending = s.pending ∧ (rsyRun n s).otp.ident = s.otp.ident ∧ (rsyRun n s).dram.cells = s.dram.cells := by
  induction n generalizing s with
  | zero => simp [rsyRun]
  | succ n ih =>
    unfold rsyRun
    split
    · split
      · simp
      · split
        · rename_i h; simpa [ih] using State.ledgerTake_kept h
        · simp
    · split <;> simp

@[simp] theorem State.mirrorGo_kept (s : State) :
    (State.mirrorGo s).pending = s.pending ∧ (State.mirrorGo s).otp.ident = s.otp.ident ∧ (State.mirrorGo s).dram.cells = s.dram.cells := by
  simp [State.mirrorGo]

@[simp] theorem State.regrouped_kept (s : State) :
    (State.regrouped s).pending = s.pending ∧ (State.regrouped s).otp.ident = s.otp.ident ∧ (State.regrouped s).dram.cells = s.dram.cells := by
  unfold State.regrouped
  (try simp only [])
  (repeat' split) <;> simp

@[simp] theorem State.ledgerGo_kept (s : State) :
    (State.ledgerGo s).pending = s.pending ∧ (State.ledgerGo s).otp.ident = s.otp.ident ∧ (State.ledgerGo s).dram.cells = s.dram.cells := by
  unfold State.ledgerGo
  (try simp only [])
  (repeat' split) <;> simp

@[simp] theorem State.cdatRole_kept (s : State) :
    (State.cdatRole s).pending = s.pending ∧ (State.cdatRole s).otp.ident = s.otp.ident ∧ (State.cdatRole s).dram.cells = s.dram.cells := by
  unfold State.cdatRole
  (try simp only [])
  (repeat' split) <;> simp

@[simp] theorem State.twinRec_kept (s : State) :
    (State.twinRec s).pending = s.pending ∧ (State.twinRec s).otp.ident = s.otp.ident ∧ (State.twinRec s).dram.cells = s.dram.cells := by
  simp [State.twinRec, apply_ite State.pending, apply_ite State.otp, apply_ite OtpSt.ident, apply_ite State.dram, apply_ite DramSt.cells]

@[simp] theorem State.mboxEnd_kept (s : State) (op ret : Nat) (out : MOut) :
    (State.mboxEnd s op ret out).pending = s.pending ∧ (State.mboxEnd s op ret out).otp.ident = s.otp.ident ∧ (State.mboxEnd s op ret out).dram.cells = s.dram.cells := by
  simp [State.mboxEnd]

@[simp] theorem State.switchReply_kept (s : State) (ret : Nat) :
    (State.switchReply s ret).pending = s.pending ∧ (State.switchReply s ret).otp.ident = s.otp.ident ∧ (State.switchReply s ret).dram.cells = s.dram.cells := by
  simp [State.switchReply, apply_ite State.pending, apply_ite State.otp, apply_ite OtpSt.ident, apply_ite State.dram, apply_ite DramSt.cells]

@[simp] theorem State.closeCredits_kept (s : State) :
    (State.closeCredits s).pending = s.pending ∧ (State.closeCredits s).otp.ident = s.otp.ident ∧ (State.closeCredits s).dram.cells = s.dram.cells := by
  simp [State.closeCredits]

@[simp] theorem State.openCredits_kept (s : State) :
    (State.openCredits s).pending = s.pending ∧ (State.openCredits s).otp.ident = s.otp.ident ∧ (State.openCredits s).dram.cells = s.dram.cells := by
  simp [State.openCredits]

@[simp] theorem State.cdatLink_kept (s : State) :
    (State.cdatLink s).pending = s.pending ∧ (State.cdatLink s).otp.ident = s.otp.ident ∧ (State.cdatLink s).dram.cells = s.dram.cells := by
  unfold State.cdatLink
  (try simp only [])
  (repeat' split) <;> simp

@[simp] theorem State.creditsIfDue_kept (s : State) :
    (State.creditsIfDue s).pending = s.pending ∧ (State.creditsIfDue s).otp.ident = s.otp.ident ∧ (State.creditsIfDue s).dram.cells = s.dram.cells := by
  simp [State.creditsIfDue, apply_ite State.pending, apply_ite State.otp, apply_ite OtpSt.ident, apply_ite State.dram, apply_ite DramSt.cells]

@[simp] theorem State.switchEnd_kept (s : State) :
    (State.switchEnd s).pending = s.pending ∧ (State.switchEnd s).otp.ident = s.otp.ident ∧ (State.switchEnd s).dram.cells = s.dram.cells := by
  simp [State.switchEnd, apply_ite State.pending, apply_ite State.otp, apply_ite OtpSt.ident, apply_ite State.dram, apply_ite DramSt.cells]

@[simp] theorem State.startTouch_kept (s : State) :
    (State.startTouch s).pending = s.pending ∧ (State.startTouch s).otp.ident = s.otp.ident ∧ (State.startTouch s).dram.cells = s.dram.cells := by
  simp [State.startTouch]

@[simp] theorem State.goSolo_kept (s : State) (partner : Nat) :
    (State.goSolo s partner).pending = s.pending ∧ (State.goSolo s partner).otp.ident = s.otp.ident ∧ (State.goSolo s partner).dram.cells = s.dram.cells := by
  unfold State.goSolo
  split <;> simp

@[simp] theorem State.soloStart_kept (s : State) (partner : Nat) :
    (State.soloStart s partner).pending = s.pending ∧ (State.soloStart s partner).otp.ident = s.otp.ident ∧ (State.soloStart s partner).dram.cells = s.dram.cells := by
  unfold State.soloStart
  (try simp only [])
  (repeat' split) <;> simp

@[simp] theorem State.want_kept (s : State) (line : Nat) :
    (State.want s line).pending = s.pending ∧ (State.want s line).otp.ident = s.otp.ident ∧ (State.want s line).dram.cells = s.dram.cells := by
  unfold State.want
  (try simp only [])
  (repeat' split) <;> simp

@[simp] theorem State.arrive_kept (s : State) (w : Wr) :
    (State.arrive s w).pending = s.pending ∧ (State.arrive s w).otp.ident = s.otp.ident ∧ (State.arrive s w).dram.cells = s.dram.cells := by
  simp [State.arrive]

@[simp] theorem State.gpf_kept (s : State) (phase : Nat) :
    (State.gpf s phase).pending = s.pending ∧ (State.gpf s phase).otp.ident = s.otp.ident ∧ (State.gpf s phase).dram.cells = s.dram.cells := by
  simp [State.gpf, apply_ite State.pending, apply_ite State.otp, apply_ite OtpSt.ident, apply_ite State.dram, apply_ite DramSt.cells]

@[simp] theorem State.linkReset_kept (s : State) :
    (State.linkReset s).pending = s.pending ∧ (State.linkReset s).otp.ident = s.otp.ident ∧ (State.linkReset s).dram.cells = s.dram.cells := by
  simp [State.linkReset]

@[simp] theorem State.discardAll_kept (s : State) :
    (State.discardAll s).pending = s.pending ∧ (State.discardAll s).otp.ident = s.otp.ident ∧ (State.discardAll s).dram.cells = s.dram.cells := by
  unfold State.discardAll
  (try simp only [])
  (repeat' split) <;> simp

@[simp] theorem State.discardHeld_kept (s : State) :
    (State.discardHeld s).pending = s.pending ∧ (State.discardHeld s).otp.ident = s.otp.ident ∧ (State.discardHeld s).dram.cells = s.dram.cells := by
  unfold State.discardHeld
  (repeat' split) <;> simp

@[simp] theorem State.dropHostReads_kept (s : State) :
    (State.dropHostReads s).pending = s.pending ∧ (State.dropHostReads s).otp.ident = s.otp.ident ∧ (State.dropHostReads s).dram.cells = s.dram.cells := by
  simp [State.dropHostReads]

@[simp] theorem State.perstFell_kept (s : State) :
    (State.perstFell s).pending = s.pending ∧ (State.perstFell s).otp.ident = s.otp.ident ∧ (State.perstFell s).dram.cells = s.dram.cells := by
  unfold State.perstFell
  (try simp only [])
  (repeat' split) <;> simp

@[simp] theorem State.perstRose_kept (s : State) :
    (State.perstRose s).pending = s.pending ∧ (State.perstRose s).otp.ident = s.otp.ident ∧ (State.perstRose s).dram.cells = s.dram.cells := by
  unfold State.perstRose
  (try simp only [])
  (repeat' split) <;> simp

theorem State.mboxRun_kept (s : State) (op : Nat) (f : State → State)
    (h1 : ∀ a, (f a).pending = a.pending) (h2 : ∀ a, (f a).otp.ident = a.otp.ident) (h3 : ∀ a, (f a).dram.cells = a.dram.cells) :
    (s.mboxRun op f).pending = s.pending ∧ (s.mboxRun op f).otp.ident = s.otp.ident
      ∧ (s.mboxRun op f).dram.cells = s.dram.cells := by
  unfold State.mboxRun
  split
  · simp
  · split <;> simp [h1, h2, h3]

@[simp] theorem State.consume_kept (s : State) (log : Sev) (p : EvRec → Bool) :
    (State.consume s log p).pending = s.pending ∧ (State.consume s log p).otp.ident = s.otp.ident ∧ (State.consume s log p).dram.cells = s.dram.cells := by
  simp [State.consume]

@[simp] theorem State.sanRecord_kept (s : State) :
    (State.sanRecord s).pending = s.pending ∧ (State.sanRecord s).otp.ident = s.otp.ident ∧ (State.sanRecord s).dram.cells = s.dram.cells := by
  unfold State.sanRecord
  (try simp only [])
  (repeat' split) <;> simp

@[simp] theorem State.startSanitize_kept (s : State) :
    (State.startSanitize s).pending = s.pending ∧ (State.startSanitize s).otp.ident = s.otp.ident ∧ (State.startSanitize s).dram.cells = s.dram.cells := by
  simp [State.startSanitize]

@[simp] theorem State.sanitizeOwn_kept (s : State) :
    (State.sanitizeOwn s).pending = s.pending ∧ (State.sanitizeOwn s).otp.ident = s.otp.ident := by
  simp [State.sanitizeOwn]

@[simp] theorem State.doubtCheck_kept (s : State) :
    (State.doubtCheck s).pending = s.pending ∧ (State.doubtCheck s).otp.ident = s.otp.ident ∧ (State.doubtCheck s).dram.cells = s.dram.cells := by
  simp [State.doubtCheck, apply_ite State.pending, apply_ite State.otp, apply_ite OtpSt.ident, apply_ite State.dram, apply_ite DramSt.cells]

@[simp] theorem State.shortCheck_kept (s : State) :
    (State.shortCheck s).pending = s.pending ∧ (State.shortCheck s).otp.ident = s.otp.ident ∧ (State.shortCheck s).dram.cells = s.dram.cells := by
  simp [State.shortCheck]

@[simp] theorem State.rebaseBooks_kept (s : State) :
    (State.rebaseBooks s).pending = s.pending ∧ (State.rebaseBooks s).otp.ident = s.otp.ident ∧ (State.rebaseBooks s).dram.cells = s.dram.cells := by
  simp [State.rebaseBooks]

@[simp] theorem State.stopSweep_kept (s : State) :
    (State.stopSweep s).pending = s.pending ∧ (State.stopSweep s).otp.ident = s.otp.ident ∧ (State.stopSweep s).dram.cells = s.dram.cells := by
  simp [State.stopSweep, apply_ite State.pending, apply_ite State.otp, apply_ite OtpSt.ident, apply_ite State.dram, apply_ite DramSt.cells]

@[simp] theorem State.energyStop_kept (s : State) :
    (State.energyStop s).pending = s.pending ∧ (State.energyStop s).otp.ident = s.otp.ident ∧ (State.energyStop s).dram.cells = s.dram.cells := by
  simp [State.energyStop, apply_ite State.pending, apply_ite State.otp, apply_ite OtpSt.ident, apply_ite State.dram, apply_ite DramSt.cells]

@[simp] theorem State.rebase_kept (s : State) :
    (State.rebase s).pending = s.pending ∧ (State.rebase s).otp.ident = s.otp.ident ∧ (State.rebase s).dram.cells = s.dram.cells := by
  simp [State.rebase]

@[simp] theorem State.storeOff_kept (s : State) :
    (State.storeOff s).pending = s.pending ∧ (State.storeOff s).otp.ident = s.otp.ident ∧ (State.storeOff s).dram.cells = s.dram.cells := by
  simp [State.storeOff]

end Sys2Proof.Machine
end

