-- ==== Sys2Proof/Laws/Kept2.lean ====
section
/-! SUPPORT. One lemma per operation on State: what the families of 10, 11, 09, 02 and 06 leave alone: the queue of waiting commands, the
OTP row's fixed words and, but for the operations that store to it, the cache DRAM. -/

set_option linter.unusedSimpArgs false
set_option linter.unusedTactic false
set_option linter.unnecessarySeqFocus false

namespace Sys2Proof.Machine

theorem State.manTake_kept {s t : State} {loc : Nat} (h : s.manTake = some (t, loc)) :
    t.pending = s.pending ∧ t.otp.ident = s.otp.ident ∧ t.dram.cells = s.dram.cells := by
  unfold State.manTake at h
  split at h
  · cases h; simp
  · cases h; simp
  · cases h; simp
  · split at h
    · simp at h
    · simp only [Option.map_eq_some_iff, Prod.mk.injEq] at h
      obtain ⟨_, -, rfl, -⟩ := h
      simp

theorem State.manPick_kept (k : Nat) {s t : State} {loc : Nat} (h : s.manPick k = some (t, loc)) :
    t.pending = s.pending ∧ t.otp.ident = s.otp.ident ∧ t.dram.cells = s.dram.cells := by
  induction k generalizing s with
  | zero => exact State.manTake_kept h
  | succ k ih =>
    simp only [State.manPick, Option.bind_eq_some_iff] at h
    obtain ⟨⟨a, l⟩, ha, h⟩ := h
    have hk := State.manTake_kept ha
    simpa [hk.1, hk.2.1, hk.2.2] using ih h

@[simp] theorem State.setEnt_kept (s : State) (n st : Nat) :
    (State.setEnt s n st).pending = s.pending ∧ (State.setEnt s n st).otp.ident = s.otp.ident ∧ (State.setEnt s n st).dram.cells = s.dram.cells := by
  simp [State.setEnt, apply_ite State.pending, apply_ite State.otp, apply_ite OtpSt.ident, apply_ite State.dram, apply_ite DramSt.cells]

@[simp] theorem State.setEnts_kept (s : State) (l : List Nat) (st : Nat) :
    (State.setEnts s l st).pending = s.pending ∧ (State.setEnts s l st).otp.ident = s.otp.ident ∧ (State.setEnts s l st).dram.cells = s.dram.cells := by
  simp [State.setEnts]

@[simp] theorem State.lampLost_kept (s : State) :
    (State.lampLost s).pending = s.pending ∧ (State.lampLost s).otp.ident = s.otp.ident ∧ (State.lampLost s).dram.cells = s.dram.cells := by
  simp [State.lampLost]

@[simp] theorem State.keeperLost_kept (s : State) :
    (State.keeperLost s).pending = s.pending ∧ (State.keeperLost s).otp.ident = s.otp.ident ∧ (State.keeperLost s).dram.cells = s.dram.cells := by
  simp [State.keeperLost]

@[simp] theorem State.repower_kept (s : State) :
    (State.repower s).pending = s.pending ∧ (State.repower s).otp.ident = s.otp.ident ∧ (State.repower s).dram.cells = s.dram.cells := by
  simp [State.repower, apply_ite State.pending, apply_ite State.otp, apply_ite OtpSt.ident, apply_ite State.dram, apply_ite DramSt.cells]

@[simp] theorem State.awayPower_kept (s : State) :
    (State.awayPower s).pending = s.pending ∧ (State.awayPower s).otp.ident = s.otp.ident ∧ (State.awayPower s).dram.cells = s.dram.cells := by
  unfold State.awayPower
  (try simp only [])
  (repeat' split) <;> simp

@[simp] theorem State.dropDram_kept (s : State) :
    (State.dropDram s).pending = s.pending ∧ (State.dropDram s).otp.ident = s.otp.ident := by
  simp [State.dropDram]

@[simp] theorem State.wakeBase_kept (s : State) (cause : Nat) (warm : Bool) :
    (State.wakeBase s cause warm).pending = s.pending ∧ (State.wakeBase s cause warm).otp.ident = s.otp.ident ∧ (State.wakeBase s cause warm).dram.cells = s.dram.cells := by
  simp [State.wakeBase]

@[simp] theorem State.enterWake_kept (s : State) (cause : Nat) (warm : Bool) :
    (State.enterWake s cause warm).pending = s.pending ∧ (State.enterWake s cause warm).otp.ident = s.otp.ident ∧ (State.enterWake s cause warm).dram.cells = s.dram.cells := by
  simp [State.enterWake, apply_ite State.pending, apply_ite State.otp, apply_ite OtpSt.ident, apply_ite State.dram, apply_ite DramSt.cells]

@[simp] theorem State.pendLock_kept (s : State) :
    (State.pendLock s).pending = s.pending ∧ (State.pendLock s).otp.ident = s.otp.ident ∧ (State.pendLock s).dram.cells = s.dram.cells := by
  simp [State.pendLock, apply_ite State.pending, apply_ite State.otp, apply_ite OtpSt.ident, apply_ite State.dram, apply_ite DramSt.cells]

@[simp] theorem State.offBase_kept (s : State) :
    (State.offBase s).pending = s.pending ∧ (State.offBase s).otp.ident = s.otp.ident := by
  simp [State.offBase]

@[simp] theorem State.reachOff_kept (s : State) :
    (State.reachOff s).pending = s.pending ∧ (State.reachOff s).otp.ident = s.otp.ident := by
  simp [State.reachOff, apply_ite State.pending, apply_ite State.otp, apply_ite OtpSt.ident, apply_ite State.dram, apply_ite DramSt.cells]

@[simp] theorem State.enterDen_kept (s : State) :
    (State.enterDen s).pending = s.pending ∧ (State.enterDen s).otp.ident = s.otp.ident ∧ (State.enterDen s).dram.cells = s.dram.cells := by
  simp [State.enterDen]

@[simp] theorem State.spmiPut_kept (s : State) (m op target arg cls : Nat) :
    (State.spmiPut s m op target arg cls).pending = s.pending ∧ (State.spmiPut s m op target arg cls).otp.ident = s.otp.ident ∧ (State.spmiPut s m op target arg cls).dram.cells = s.dram.cells := by
  simp [State.spmiPut]

@[simp] theorem State.spmiAll_kept (s : State) (op arg cls : Nat) :
    (State.spmiAll s op arg cls).pending = s.pending ∧ (State.spmiAll s op arg cls).otp.ident = s.otp.ident ∧ (State.spmiAll s op arg cls).dram.cells = s.dram.cells := by
  simp [State.spmiAll]

@[simp] theorem State.seqForce_kept (s : State) :
    (State.seqForce s).pending = s.pending ∧ (State.seqForce s).otp.ident = s.otp.ident ∧ (State.seqForce s).dram.cells = s.dram.cells := by
  simp [State.seqForce]

@[simp] theorem State.trainStart_kept (s : State) :
    (State.trainStart s).pending = s.pending ∧ (State.trainStart s).otp.ident = s.otp.ident ∧ (State.trainStart s).dram.cells = s.dram.cells := by
  unfold State.trainStart
  (try simp only [])
  (repeat' split) <;> simp

@[simp] theorem State.upEnd_kept (s : State) :
    (State.upEnd s).pending = s.pending ∧ (State.upEnd s).otp.ident = s.otp.ident ∧ (State.upEnd s).dram.cells = s.dram.cells := by
  simp [State.upEnd, apply_ite State.pending, apply_ite State.otp, apply_ite OtpSt.ident, apply_ite State.dram, apply_ite DramSt.cells]

@[simp] theorem State.startDown_kept (s : State) (target : Nat) :
    (State.startDown s target).pending = s.pending ∧ (State.startDown s target).otp.ident = s.otp.ident ∧ (State.startDown s target).dram.cells = s.dram.cells := by
  unfold State.startDown
  (try simp only [])
  (repeat' split) <;> simp [apply_ite State.pending, apply_ite State.otp, apply_ite OtpSt.ident, apply_ite State.dram, apply_ite DramSt.cells]

@[simp] theorem State.p5Decide_kept (s : State) :
    (State.p5Decide s).pending = s.pending ∧ (State.p5Decide s).otp.ident = s.otp.ident ∧ (State.p5Decide s).dram.cells = s.dram.cells := by
  simp [State.p5Decide, apply_ite State.pending, apply_ite State.otp, apply_ite OtpSt.ident, apply_ite State.dram, apply_ite DramSt.cells]

@[simp] theorem State.p5_kept (s : State) :
    (State.p5 s).pending = s.pending ∧ (State.p5 s).otp.ident = s.otp.ident ∧ (State.p5 s).dram.cells = s.dram.cells := by
  simp [State.p5]

@[simp] theorem State.abnRise_kept (s : State) :
    (State.abnRise s).pending = s.pending ∧ (State.abnRise s).otp.ident = s.otp.ident ∧ (State.abnRise s).dram.cells = s.dram.cells := by
  have h : ∀ (b : Nat → Bool) (a : State) (n : Nat),
      (if a.entEn n && [0, 6, 7].contains (a.entSt n) then a.setEnt n (if b n then 8 else 1) else a).pending = a.pending
      ∧ (if a.entEn n && [0, 6, 7].contains (a.entSt n) then a.setEnt n (if b n then 8 else 1) else a).otp.ident = a.otp.ident
      ∧ (if a.entEn n && [0, 6, 7].contains (a.entSt n) then a.setEnt n (if b n then 8 else 1) else a).dram.cells = a.dram.cells := by
    intro b a n
    split <;> simp
  simp only [State.abnRise, State.repower_kept]
  rw [foldl_pending _ _ (fun a x => (h _ a x).1), foldl_ident _ _ (fun a x => (h _ a x).2.1), foldl_cells _ _ (fun a x => (h _ a x).2.2)]
  simp

@[simp] theorem State.denTurned_kept (s : State) :
    (State.denTurned s).pending = s.pending ∧ (State.denTurned s).otp.ident = s.otp.ident := by
  unfold State.denTurned
  (try simp only [])
  (repeat' split) <;> simp

@[simp] theorem State.downAgain_kept (s : State) :
    (State.downAgain s).pending = s.pending ∧ (State.downAgain s).otp.ident = s.otp.ident := by
  unfold State.downAgain
  (try simp only [])
  (repeat' split) <;> simp

@[simp] theorem State.downLand_kept (s : State) :
    (State.downLand s).pending = s.pending ∧ (State.downLand s).otp.ident = s.otp.ident := by
  unfold State.downLand
  (try simp only [])
  (repeat' split) <;> simp

@[simp] theorem State.afterShed3_kept (s : State) :
    (State.afterShed3 s).pending = s.pending ∧ (State.afterShed3 s).otp.ident = s.otp.ident := by
  unfold State.afterShed3
  (try simp only [])
  (repeat' split) <;> simp

@[simp] theorem State.seqCheck_kept (s : State) :
    (State.seqCheck s).pending = s.pending ∧ (State.seqCheck s).otp.ident = s.otp.ident := by
  unfold State.seqCheck
  (try simp only [])
  (repeat' split) <;> simp

@[simp] theorem State.goDown_kept (s : State) (target : Nat) :
    (State.goDown s target).pending = s.pending ∧ (State.goDown s target).otp.ident = s.otp.ident := by
  simp [State.goDown]

@[simp] theorem State.switchOn_kept (s : State) (n : Nat) :
    (State.switchOn s n).pending = s.pending ∧ (State.switchOn s n).otp.ident = s.otp.ident ∧ (State.switchOn s n).dram.cells = s.dram.cells := by
  simp [State.switchOn, apply_ite State.pending, apply_ite State.otp, apply_ite OtpSt.ident, apply_ite State.dram, apply_ite DramSt.cells]

@[simp] theorem State.switchOff_kept (s : State) (n : Nat) :
    (State.switchOff s n).pending = s.pending ∧ (State.switchOff s n).otp.ident = s.otp.ident ∧ (State.switchOff s n).dram.cells = s.dram.cells := by
  simp [State.switchOff, apply_ite State.pending, apply_ite State.otp, apply_ite OtpSt.ident, apply_ite State.dram, apply_ite DramSt.cells]

@[simp] theorem State.startUp_kept (s : State) :
    (State.startUp s).pending = s.pending ∧ (State.startUp s).otp.ident = s.otp.ident ∧ (State.startUp s).dram.cells = s.dram.cells := by
  simp [State.startUp, apply_ite State.pending, apply_ite State.otp, apply_ite OtpSt.ident, apply_ite State.dram, apply_ite DramSt.cells]

@[simp] theorem State.vinLost_kept (s : State) :
    (State.vinLost s).pending = s.pending ∧ (State.vinLost s).otp.ident = s.otp.ident := by
  unfold State.vinLost
  split
  · simp
  · split
    · split <;> simp
    · simp

@[simp] theorem State.denDrop_kept (s : State) (cause : Nat) :
    (State.denDrop s cause).pending = s.pending ∧ (State.denDrop s cause).otp.ident = s.otp.ident := by
  simp [State.denDrop, apply_ite State.pending, apply_ite State.otp, apply_ite OtpSt.ident, apply_ite State.dram, apply_ite DramSt.cells]

@[simp] theorem State.markFault_kept (s : State) (n kind : Nat) :
    (State.markFault s n kind).pending = s.pending ∧ (State.markFault s n kind).otp.ident = s.otp.ident ∧ (State.markFault s n kind).dram.cells = s.dram.cells := by
  simp [State.markFault]

@[simp] theorem State.haltGroup_kept (s : State) (p : Nat → Bool) :
    (State.haltGroup s p).pending = s.pending ∧ (State.haltGroup s p).otp.ident = s.otp.ident ∧ (State.haltGroup s p).dram.cells = s.dram.cells := by
  simp [State.haltGroup]

@[simp] theorem State.loseChannels_kept (s : State) :
    (State.loseChannels s).pending = s.pending ∧ (State.loseChannels s).otp.ident = s.otp.ident ∧ (State.loseChannels s).dram.cells = s.dram.cells := by
  unfold State.loseChannels
  (try simp only [])
  (repeat' split) <;> simp [apply_ite State.pending, apply_ite State.otp, apply_ite OtpSt.ident, apply_ite State.dram, apply_ite DramSt.cells]

@[simp] theorem State.lampStops_kept (s : State) :
    (State.lampStops s).pending = s.pending ∧ (State.lampStops s).otp.ident = s.otp.ident ∧ (State.lampStops s).dram.cells = s.dram.cells := by
  simp [State.lampStops]

@[simp] theorem State.burrowRail_kept (s : State) (n : Nat) :
    (State.burrowRail s n).pending = s.pending ∧ (State.burrowRail s n).otp.ident = s.otp.ident ∧ (State.burrowRail s n).dram.cells = s.dram.cells := by
  simp [State.burrowRail, apply_ite State.pending, apply_ite State.otp, apply_ite OtpSt.ident, apply_ite State.dram, apply_ite DramSt.cells]

@[simp] theorem State.shedDeps_kept (s : State) (n : Nat) :
    (State.shedDeps s n).pending = s.pending ∧ (State.shedDeps s n).otp.ident = s.otp.ident ∧ (State.shedDeps s n).dram.cells = s.dram.cells := by
  unfold State.shedDeps
  (try simp only [])
  (repeat' split) <;> simp

@[simp] theorem State.critFault_kept (s : State) (n : Nat) :
    (State.critFault s n).pending = s.pending ∧ (State.critFault s n).otp.ident = s.otp.ident := by
  unfold State.critFault
  (try simp only [])
  (repeat' split) <;> simp

@[simp] theorem State.countFail_kept (s : State) (n kind : Nat) :
    (State.countFail s n kind).pending = s.pending ∧ (State.countFail s n kind).otp.ident = s.otp.ident ∧ (State.countFail s n kind).dram.cells = s.dram.cells := by
  unfold State.countFail
  (try simp only [])
  (repeat' split) <;> simp

@[simp] theorem State.critDeps_kept (s : State) (l : List Nat) (kind : Nat) :
    (State.critDeps s l kind).pending = s.pending ∧ (State.critDeps s l kind).otp.ident = s.otp.ident := by
  unfold State.critDeps
  (try simp only [])
  (repeat' split) <;> simp

@[simp] theorem State.leaveOff_kept (s : State) (n : Nat) :
    (State.leaveOff s n).pending = s.pending ∧ (State.leaveOff s n).otp.ident = s.otp.ident := by
  unfold State.leaveOff
  (try simp only [])
  (repeat' split) <;> simp

@[simp] theorem State.failUp_kept (s : State) (n : Nat) (final : Bool) :
    (State.failUp s n final).pending = s.pending ∧ (State.failUp s n final).otp.ident = s.otp.ident := by
  simp [State.failUp, apply_ite State.pending, apply_ite State.otp, apply_ite OtpSt.ident, apply_ite State.dram, apply_ite DramSt.cells]

@[simp] theorem State.failDown_kept (s : State) (n : Nat) :
    (State.failDown s n).pending = s.pending ∧ (State.failDown s n).otp.ident = s.otp.ident := by
  simp [State.failDown]

@[simp] theorem State.riseEnt_kept (s : State) (n : Nat) :
    (State.riseEnt s n).pending = s.pending ∧ (State.riseEnt s n).otp.ident = s.otp.ident := by
  unfold State.riseEnt
  (try simp only [])
  (repeat' split) <;> simp

@[simp] theorem State.goOffNow_kept (s : State) :
    (State.goOffNow s).pending = s.pending ∧ (State.goOffNow s).otp.ident = s.otp.ident ∧ (State.goOffNow s).dram.cells = s.dram.cells := by
  simp [State.goOffNow]

@[simp] theorem State.brokenFail_kept (s : State) :
    (State.brokenFail s).pending = s.pending ∧ (State.brokenFail s).otp.ident = s.otp.ident := by
  unfold State.brokenFail
  (try simp only [])
  (repeat' split) <;> simp

@[simp] theorem State.beginUp_kept (s : State) :
    (State.beginUp s).pending = s.pending ∧ (State.beginUp s).otp.ident = s.otp.ident := by
  simp [State.beginUp]

@[simp] theorem State.nandLost_kept (s : State) (before : Bool) :
    (State.nandLost s before).pending = s.pending ∧ (State.nandLost s before).otp.ident = s.otp.ident ∧ (State.nandLost s before).dram.cells = s.dram.cells := by
  simp [State.nandLost]

@[simp] theorem State.localFault_kept (s : State) (n kind : Nat) :
    (State.localFault s n kind).pending = s.pending ∧ (State.localFault s n kind).otp.ident = s.otp.ident := by
  unfold State.localFault
  (try simp only [])
  (repeat' split) <;> simp

@[simp] theorem State.tickOn_kept (s : State) :
    (State.tickOn s).pending = s.pending ∧ (State.tickOn s).otp.ident = s.otp.ident ∧ (State.tickOn s).dram.cells = s.dram.cells := by
  unfold State.tickOn
  (try simp only [])
  (repeat' split) <;> simp

@[simp] theorem State.gotPg_kept (s : State) (n : Nat) :
    (State.gotPg s n).pending = s.pending ∧ (State.gotPg s n).otp.ident = s.otp.ident := by
  simp [State.gotPg, apply_ite State.pending, apply_ite State.otp, apply_ite OtpSt.ident, apply_ite State.dram, apply_ite DramSt.cells]

@[simp] theorem State.slaveLost_kept (s : State) (m : Nat) :
    (State.slaveLost s m).pending = s.pending ∧ (State.slaveLost s m).otp.ident = s.otp.ident := by
  simp [State.slaveLost, apply_ite State.pending, apply_ite State.otp, apply_ite OtpSt.ident, apply_ite State.dram, apply_ite DramSt.cells]

@[simp] theorem State.spmiResult_kept (s : State) (q : SpmiCmd) (result : Nat) :
    (State.spmiResult s q result).pending = s.pending ∧ (State.spmiResult s q result).otp.ident = s.otp.ident := by
  unfold State.spmiResult
  split
  · simp
  · split
    · split
      · split <;> simp
      · simp
    · simp

@[simp] theorem State.pgSeen_kept (s : State) (n : Nat) (up : Bool) :
    (State.pgSeen s n up).pending = s.pending ∧ (State.pgSeen s n up).otp.ident = s.otp.ident := by
  unfold State.pgSeen
  (try simp only [])
  (repeat' split) <;> simp

@[simp] theorem State.pgAll_kept (s : State) (m pg : Nat) :
    (State.pgAll s m pg).pending = s.pending ∧ (State.pgAll s m pg).otp.ident = s.otp.ident := by
  unfold State.pgAll
  (try simp only [])
  (repeat' split) <;> simp

@[simp] theorem State.probeAll_kept (s : State) :
    (State.probeAll s).pending = s.pending ∧ (State.probeAll s).otp.ident = s.otp.ident ∧ (State.probeAll s).dram.cells = s.dram.cells := by
  simp [State.probeAll, apply_ite State.pending, apply_ite State.otp, apply_ite OtpSt.ident, apply_ite State.dram, apply_ite DramSt.cells]

@[simp] theorem State.doRescan_kept (s : State) :
    (State.doRescan s).pending = s.pending ∧ (State.doRescan s).otp.ident = s.otp.ident ∧ (State.doRescan s).dram.cells = s.dram.cells := by
  simp [State.doRescan, apply_ite State.pending, apply_ite State.otp, apply_ite OtpSt.ident, apply_ite State.dram, apply_ite DramSt.cells]

@[simp] theorem State.responderOff_kept (s : State) :
    (State.responderOff s).pending = s.pending ∧ (State.responderOff s).otp.ident = s.otp.ident ∧ (State.responderOff s).dram.cells = s.dram.cells := by
  simp [State.responderOff, apply_ite State.pending, apply_ite State.otp, apply_ite OtpSt.ident, apply_ite State.dram, apply_ite DramSt.cells]

@[simp] theorem State.chargeStep_kept (s : State) :
    (State.chargeStep s).pending = s.pending ∧ (State.chargeStep s).otp.ident = s.otp.ident ∧ (State.chargeStep s).dram.cells = s.dram.cells := by
  simp [State.chargeStep, apply_ite State.pending, apply_ite State.otp, apply_ite OtpSt.ident, apply_ite State.dram, apply_ite DramSt.cells]

@[simp] theorem State.newCycle_kept (s : State) :
    (State.newCycle s).pending = s.pending ∧ (State.newCycle s).otp.ident = s.otp.ident ∧ (State.newCycle s).dram.cells = s.dram.cells := by
  simp [State.newCycle]

@[simp] theorem State.endCycle_kept (s : State) :
    (State.endCycle s).pending = s.pending ∧ (State.endCycle s).otp.ident = s.otp.ident ∧ (State.endCycle s).dram.cells = s.dram.cells := by
  unfold State.endCycle
  (try simp only [])
  (repeat' split) <;> simp

@[simp] theorem State.timerStep_kept (s : State) :
    (State.timerStep s).pending = s.pending ∧ (State.timerStep s).otp.ident = s.otp.ident ∧ (State.timerStep s).dram.cells = s.dram.cells := by
  simp [State.timerStep, apply_ite State.pending, apply_ite State.otp, apply_ite OtpSt.ident, apply_ite State.dram, apply_ite DramSt.cells]

@[simp] theorem State.accEval_kept (s : State) :
    (State.accEval s).pending = s.pending ∧ (State.accEval s).otp.ident = s.otp.ident ∧ (State.accEval s).dram.cells = s.dram.cells := by
  simp [State.accEval]

@[simp] theorem State.takeZone_kept (s : State) (z : Nat) :
    (State.takeZone s z).pending = s.pending ∧ (State.takeZone s z).otp.ident = s.otp.ident ∧ (State.takeZone s z).dram.cells = s.dram.cells := by
  simp [State.takeZone, apply_ite State.pending, apply_ite State.otp, apply_ite OtpSt.ident, apply_ite State.dram, apply_ite DramSt.cells]

@[simp] theorem State.balanceStep_kept (s : State) :
    (State.balanceStep s).pending = s.pending ∧ (State.balanceStep s).otp.ident = s.otp.ident ∧ (State.balanceStep s).dram.cells = s.dram.cells := by
  simp [State.balanceStep]

@[simp] theorem State.ntcStep_kept (s : State) :
    (State.ntcStep s).pending = s.pending ∧ (State.ntcStep s).otp.ident = s.otp.ident ∧ (State.ntcStep s).dram.cells = s.dram.cells := by
  unfold State.ntcStep
  (try simp only [])
  (repeat' split) <;> simp

@[simp] theorem State.storeScan_kept (s : State) :
    (State.storeScan s).pending = s.pending ∧ (State.storeScan s).otp.ident = s.otp.ident ∧ (State.storeScan s).dram.cells = s.dram.cells := by
  simp [State.storeScan, apply_ite State.pending, apply_ite State.otp, apply_ite OtpSt.ident, apply_ite State.dram, apply_ite DramSt.cells]

@[simp] theorem State.infRelease_kept (s : State) :
    (State.infRelease s).pending = s.pending ∧ (State.infRelease s).otp.ident = s.otp.ident ∧ (State.infRelease s).dram.cells = s.dram.cells := by
  unfold State.infRelease
  (try simp only [])
  (repeat' split) <;> simp

@[simp] theorem State.doInfetRst_kept (s : State) :
    (State.doInfetRst s).pending = s.pending ∧ (State.doInfetRst s).otp.ident = s.otp.ident ∧ (State.doInfetRst s).dram.cells = s.dram.cells := by
  simp [State.doInfetRst, apply_ite State.pending, apply_ite State.otp, apply_ite OtpSt.ident, apply_ite State.dram, apply_ite DramSt.cells]

@[simp] theorem State.keeperHold_kept (s : State) :
    (State.keeperHold s).pending = s.pending ∧ (State.keeperHold s).otp.ident = s.otp.ident ∧ (State.keeperHold s).dram.cells = s.dram.cells := by
  unfold State.keeperHold
  (try simp only [])
  (repeat' split) <;> simp

@[simp] theorem State.holdDone_kept (s : State) :
    (State.holdDone s).pending = s.pending ∧ (State.holdDone s).otp.ident = s.otp.ident ∧ (State.holdDone s).dram.cells = s.dram.cells := by
  unfold State.holdDone
  (try simp only [])
  (repeat' split) <;> simp

@[simp] theorem State.storeLoss_kept (s : State) (kind : Nat) :
    (State.storeLoss s kind).pending = s.pending ∧ (State.storeLoss s kind).otp.ident = s.otp.ident := by
  simp [State.storeLoss, apply_ite State.pending, apply_ite State.otp, apply_ite OtpSt.ident, apply_ite State.dram, apply_ite DramSt.cells]

@[simp] theorem State.present_kept (s : State) :
    (State.present s).pending = s.pending ∧ (State.present s).otp.ident = s.otp.ident ∧ (State.present s).dram.cells = s.dram.cells := by
  simp [State.present]

@[simp] theorem State.tmrRelease_kept (s : State) :
    (State.tmrRelease s).pending = s.pending ∧ (State.tmrRelease s).otp.ident = s.otp.ident ∧ (State.tmrRelease s).dram.cells = s.dram.cells := by
  simp [State.tmrRelease, apply_ite State.pending, apply_ite State.otp, apply_ite OtpSt.ident, apply_ite State.dram, apply_ite DramSt.cells]

@[simp] theorem State.doStoreRetry_kept (s : State) :
    (State.doStoreRetry s).pending = s.pending ∧ (State.doStoreRetry s).otp.ident = s.otp.ident ∧ (State.doStoreRetry s).dram.cells = s.dram.cells := by
  simp [State.doStoreRetry, apply_ite State.pending, apply_ite State.otp, apply_ite OtpSt.ident, apply_ite State.dram, apply_ite DramSt.cells]

@[simp] theorem State.doAuditNow_kept (s : State) :
    (State.doAuditNow s).pending = s.pending ∧ (State.doAuditNow s).otp.ident = s.otp.ident ∧ (State.doAuditNow s).dram.cells = s.dram.cells := by
  simp [State.doAuditNow]

@[simp] theorem State.wakeAudited_kept (s : State) :
    (State.wakeAudited s).pending = s.pending ∧ (State.wakeAudited s).otp.ident = s.otp.ident ∧ (State.wakeAudited s).dram.cells = s.dram.cells := by
  simp [State.wakeAudited, apply_ite State.pending, apply_ite State.otp, apply_ite OtpSt.ident, apply_ite State.dram, apply_ite DramSt.cells]

@[simp] theorem State.auditPass_kept (s : State) (m : AuditMeas) (t : State) :
    (State.auditPass s m t).pending = t.pending ∧ (State.auditPass s m t).otp.ident = t.otp.ident ∧ (State.auditPass s m t).dram.cells = t.dram.cells := by
  simp [State.auditPass]

@[simp] theorem State.keepQ_kept (s : State) (q : Nat) :
    (State.keepQ s q).pending = s.pending ∧ (State.keepQ s q).otp.ident = s.otp.ident ∧ (State.keepQ s q).dram.cells = s.dram.cells := by
  unfold State.keepQ
  (try simp only [])
  (repeat' split) <;> simp

@[simp] theorem State.putVset_kept (s : State) (n v : Nat) :
    (State.putVset s n v).pending = s.pending ∧ (State.putVset s n v).otp.ident = s.otp.ident ∧ (State.putVset s n v).dram.cells = s.dram.cells := by
  unfold State.putVset
  (try simp only [])
  (repeat' split) <;> simp

@[simp] theorem State.latchFault_kept (s : State) (n : Nat) :
    (State.latchFault s n).pending = s.pending ∧ (State.latchFault s n).otp.ident = s.otp.ident ∧ (State.latchFault s n).dram.cells = s.dram.cells := by
  unfold State.latchFault
  (try simp only [])
  (repeat' split) <;> simp

@[simp] theorem State.oneFault_kept (s : State) (st n : Nat) (kind : FaultKind) :
    (State.oneFault s st n kind).pending = s.pending ∧ (State.oneFault s st n kind).otp.ident = s.otp.ident := by
  unfold State.oneFault
  (try simp only [])
  (repeat' split) <;> simp

@[simp] theorem State.warnLevel_kept (s : State) (n lvl v i : Nat) :
    (State.warnLevel s n lvl v i).pending = s.pending ∧ (State.warnLevel s n lvl v i).otp.ident = s.otp.ident ∧ (State.warnLevel s n lvl v i).dram.cells = s.dram.cells := by
  unfold State.warnLevel
  (try simp only [])
  (repeat' split) <;> simp

@[simp] theorem State.warnStep_kept (s : State) (n : Nat) :
    (State.warnStep s n).pending = s.pending ∧ (State.warnStep s n).otp.ident = s.otp.ident ∧ (State.warnStep s n).dram.cells = s.dram.cells := by
  simp [State.warnStep, apply_ite State.pending, apply_ite State.otp, apply_ite OtpSt.ident, apply_ite State.dram, apply_ite DramSt.cells]

@[simp] theorem State.vinLow_kept (s : State) (vin : Nat) :
    (State.vinLow s vin).pending = s.pending ∧ (State.vinLow s vin).otp.ident = s.otp.ident ∧ (State.vinLow s vin).dram.cells = s.dram.cells := by
  simp [State.vinLow, apply_ite State.pending, apply_ite State.otp, apply_ite OtpSt.ident, apply_ite State.dram, apply_ite DramSt.cells]

@[simp] theorem State.xchkStep_kept (s : State) (r : Int) :
    (State.xchkStep s r).pending = s.pending ∧ (State.xchkStep s r).otp.ident = s.otp.ident ∧ (State.xchkStep s r).dram.cells = s.dram.cells := by
  simp [State.xchkStep, apply_ite State.pending, apply_ite State.otp, apply_ite OtpSt.ident, apply_ite State.dram, apply_ite DramSt.cells]

@[simp] theorem State.vioSeen_kept (s : State) (mv : Nat) :
    (State.vioSeen s mv).pending = s.pending ∧ (State.vioSeen s mv).otp.ident = s.otp.ident ∧ (State.vioSeen s mv).dram.cells = s.dram.cells := by
  unfold State.vioSeen
  (try simp only [])
  (repeat' split) <;> simp

@[simp] theorem State.vioStep_kept (s : State) (mv : Nat) :
    (State.vioStep s mv).pending = s.pending ∧ (State.vioStep s mv).otp.ident = s.otp.ident ∧ (State.vioStep s mv).dram.cells = s.dram.cells := by
  unfold State.vioStep
  (try simp only [])
  (repeat' split) <;> simp

@[simp] theorem State.scanRegs_kept (s : State) (iout : List Nat) (den : Bool) :
    (State.scanRegs s iout den).pending = s.pending ∧ (State.scanRegs s iout den).otp.ident = s.otp.ident ∧ (State.scanRegs s iout den).dram.cells = s.dram.cells := by
  simp [State.scanRegs]

@[simp] theorem State.adcDemand_kept (s : State) (ch : List Int) :
    (State.adcDemand s ch).pending = s.pending ∧ (State.adcDemand s ch).otp.ident = s.otp.ident ∧ (State.adcDemand s ch).dram.cells = s.dram.cells := by
  simp [State.adcDemand, apply_ite State.pending, apply_ite State.otp, apply_ite OtpSt.ident, apply_ite State.dram, apply_ite DramSt.cells]

@[simp] theorem State.scanForce_kept (s : State) :
    (State.scanForce s).pending = s.pending ∧ (State.scanForce s).otp.ident = s.otp.ident ∧ (State.scanForce s).dram.cells = s.dram.cells := by
  simp [State.scanForce]

@[simp] theorem State.adcScan_kept (s : State) (ch : List Int) (iout : List Nat) :
    (State.adcScan s ch iout).pending = s.pending ∧ (State.adcScan s ch iout).otp.ident = s.otp.ident ∧ (State.adcScan s ch iout).dram.cells = s.dram.cells := by
  unfold State.adcScan
  (try simp only [])
  (repeat' split) <;> simp

@[simp] theorem State.doAdcCh_kept (s : State) (ch : Nat) :
    (State.doAdcCh s ch).pending = s.pending ∧ (State.doAdcCh s ch).otp.ident = s.otp.ident ∧ (State.doAdcCh s ch).dram.cells = s.dram.cells := by
  simp [State.doAdcCh]

@[simp] theorem State.doRearm_kept (s : State) (n : Nat) :
    (State.doRearm s n).pending = s.pending ∧ (State.doRearm s n).otp.ident = s.otp.ident := by
  simp [State.doRearm, apply_ite State.pending, apply_ite State.otp, apply_ite OtpSt.ident, apply_ite State.dram, apply_ite DramSt.cells]

@[simp] theorem State.doClrFirst_kept (s : State) :
    (State.doClrFirst s).pending = s.pending ∧ (State.doClrFirst s).otp.ident = s.otp.ident ∧ (State.doClrFirst s).dram.cells = s.dram.cells := by
  simp [State.doClrFirst]

@[simp] theorem State.doW1c_kept (s : State) (f : Fld) (v : Nat) :
    (State.doW1c s f v).pending = s.pending ∧ (State.doW1c s f v).otp.ident = s.otp.ident ∧ (State.doW1c s f v).dram.cells = s.dram.cells := by
  simp [State.doW1c]

@[simp] theorem State.flashCut_kept (s : State) :
    (State.flashCut s).pending = s.pending ∧ (State.flashCut s).otp.ident = s.otp.ident ∧ (State.flashCut s).dram.cells = s.dram.cells := by
  have h := (State.lsaStop_kept s).2.1
  simp only [OtpSt.ident] at h
  simpa [State.flashCut, OtpSt.ident] using h

@[simp] theorem State.dark_kept (s : State) :
    (State.dark s).pending = s.pending ∧ (State.dark s).otp.ident = s.otp.ident := by
  simp [State.dark]

@[simp] theorem State.reErase_kept (s : State) :
    (State.reErase s).pending = s.pending ∧ (State.reErase s).otp.ident = s.otp.ident ∧ (State.reErase s).dram.cells = s.dram.cells := by
  simp [State.reErase]

@[simp] theorem State.reClear_kept (s : State) :
    (State.reClear s).pending = s.pending ∧ (State.reClear s).otp.ident = s.otp.ident ∧ (State.reClear s).dram.cells = s.dram.cells := by
  simp [State.reClear]

@[simp] theorem State.krstMode_kept (s : State) :
    (State.krstMode s).pending = s.pending ∧ (State.krstMode s).otp.ident = s.otp.ident ∧ (State.krstMode s).dram.cells = s.dram.cells := by
  unfold State.krstMode
  (try simp only [])
  (repeat' split) <;> simp

@[simp] theorem State.krst_kept (s : State) (b : BootInfo) :
    (State.krst s b).pending = s.pending ∧ (State.krst s b).otp.ident = s.otp.ident ∧ (State.krst s b).dram.cells = s.dram.cells := by
  simp [State.krst]

@[simp] theorem State.lampReset_kept (s : State) :
    (State.lampReset s).pending = s.pending ∧ (State.lampReset s).otp.ident = s.otp.ident ∧ (State.lampReset s).dram.cells = s.dram.cells := by
  simp [State.lampReset]

@[simp] theorem State.mirrorLost_kept (s : State) (stage : Option LStage) :
    (State.mirrorLost s stage).pending = s.pending ∧ (State.mirrorLost s stage).otp.ident = s.otp.ident ∧ (State.mirrorLost s stage).dram.cells = s.dram.cells := by
  unfold State.mirrorLost
  split <;> simp

@[simp] theorem State.takeHold_kept (s : State) :
    (State.takeHold s).pending = s.pending ∧ (State.takeHold s).otp.ident = s.otp.ident ∧ (State.takeHold s).dram.cells = s.dram.cells := by
  unfold State.takeHold
  (try simp only [])
  (repeat' split) <;> simp

@[simp] theorem State.fireLatched_kept (s : State) :
    (State.fireLatched s).pending = s.pending ∧ (State.fireLatched s).otp.ident = s.otp.ident ∧ (State.fireLatched s).dram.cells = s.dram.cells := by
  simp [State.fireLatched]

@[simp] theorem State.armIdle_kept (s : State) (n : Nat) :
    (State.armIdle s n).pending = s.pending ∧ (State.armIdle s n).otp.ident = s.otp.ident ∧ (State.armIdle s n).dram.cells = s.dram.cells := by
  unfold State.armIdle
  split
  · cases h : s.armCtx n with
    | none => simp
    | some t => simpa using State.armCtx_kept h
  · simp

@[simp] theorem State.armAll_kept (s : State) :
    (State.armAll s).pending = s.pending ∧ (State.armAll s).otp.ident = s.otp.ident ∧ (State.armAll s).dram.cells = s.dram.cells := by
  simp [State.armAll]

@[simp] theorem State.lampBack_kept (s : State) :
    (State.lampBack s).pending = s.pending ∧ (State.lampBack s).otp.ident = s.otp.ident ∧ (State.lampBack s).dram.cells = s.dram.cells := by
  unfold State.lampBack
  (try simp only [])
  (repeat' split) <;> simp

@[simp] theorem State.releaseLock_kept (s : State) (bits : Nat) :
    (State.releaseLock s bits).pending = s.pending ∧ (State.releaseLock s bits).otp.ident = s.otp.ident ∧ (State.releaseLock s bits).dram.cells = s.dram.cells := by
  simp [State.releaseLock]

@[simp] theorem State.wakeAct_kept (s : State) (cause : Nat) :
    (State.wakeAct s cause).pending = s.pending ∧ (State.wakeAct s cause).otp.ident = s.otp.ident ∧ (State.wakeAct s cause).dram.cells = s.dram.cells := by
  simp [State.wakeAct, apply_ite State.pending, apply_ite State.otp, apply_ite OtpSt.ident, apply_ite State.dram, apply_ite DramSt.cells]

@[simp] theorem State.thermRelease_kept (s : State) :
    (State.thermRelease s).pending = s.pending ∧ (State.thermRelease s).otp.ident = s.otp.ident ∧ (State.thermRelease s).dram.cells = s.dram.cells := by
  simp [State.thermRelease, apply_ite State.pending, apply_ite State.otp, apply_ite OtpSt.ident, apply_ite State.dram, apply_ite DramSt.cells]

@[simp] theorem State.latchClear_kept (s : State) :
    (State.latchClear s).pending = s.pending ∧ (State.latchClear s).otp.ident = s.otp.ident ∧ (State.latchClear s).dram.cells = s.dram.cells := by
  simp [State.latchClear, apply_ite State.pending, apply_ite State.otp, apply_ite OtpSt.ident, apply_ite State.dram, apply_ite DramSt.cells]

@[simp] theorem State.partFilled_kept (s : State) :
    (State.partFilled s).pending = s.pending ∧ (State.partFilled s).otp.ident = s.otp.ident ∧ (State.partFilled s).dram.cells = s.dram.cells := by
  unfold State.partFilled
  (try simp only [])
  (repeat' split) <;> simp

@[simp] theorem State.vinGone_kept (s : State) :
    (State.vinGone s).pending = s.pending ∧ (State.vinGone s).otp.ident = s.otp.ident := by
  unfold State.vinGone
  split
  · simp
  · split <;> simp
  · simp

@[simp] theorem State.handoffClean_kept (s : State) (g : Nat) :
    (State.handoffClean s g).pending = s.pending ∧ (State.handoffClean s g).otp.ident = s.otp.ident ∧ (State.handoffClean s g).dram.cells = s.dram.cells := by
  simp [State.handoffClean, apply_ite State.pending, apply_ite State.otp, apply_ite OtpSt.ident, apply_ite State.dram, apply_ite DramSt.cells]

@[simp] theorem State.addOrphan_kept (s : State) (page g : Nat) :
    (State.addOrphan s page g).pending = s.pending ∧ (State.addOrphan s page g).otp.ident = s.otp.ident ∧ (State.addOrphan s page g).dram.cells = s.dram.cells := by
  simp [State.addOrphan, apply_ite State.pending, apply_ite State.otp, apply_ite OtpSt.ident, apply_ite State.dram, apply_ite DramSt.cells]

@[simp] theorem State.fenceCtx_kept (s : State) (n : Nat) :
    (State.fenceCtx s n).pending = s.pending ∧ (State.fenceCtx s n).otp.ident = s.otp.ident ∧ (State.fenceCtx s n).dram.cells = s.dram.cells := by
  unfold State.fenceCtx
  (try simp only [])
  (repeat' split) <;> simp

@[simp] theorem State.strand_kept (s : State) :
    (State.strand s).pending = s.pending ∧ (State.strand s).otp.ident = s.otp.ident ∧ (State.strand s).dram.cells = s.dram.cells := by
  have h : ∀ (a : State) (g : Nat), (if a.bur.handoff.contains g then a else a.handoffClean g).pending = a.pending
      ∧ (if a.bur.handoff.contains g then a else a.handoffClean g).otp.ident = a.otp.ident
      ∧ (if a.bur.handoff.contains g then a else a.handoffClean g).dram.cells = a.dram.cells := by
    intro a g
    split <;> simp
  exact ⟨foldl_pending _ _ (fun a x => (h a x).1) _, foldl_ident _ _ (fun a x => (h a x).2.1) _, foldl_cells _ _ (fun a x => (h a x).2.2) _⟩

@[simp] theorem State.setupCh_kept (s : State) (ch : Nat) :
    (State.setupCh s ch).pending = s.pending ∧ (State.setupCh s ch).otp.ident = s.otp.ident ∧ (State.setupCh s ch).dram.cells = s.dram.cells := by
  unfold State.setupCh
  split <;> simp

@[simp] theorem State.setupAll_kept (s : State) :
    (State.setupAll s).pending = s.pending ∧ (State.setupAll s).otp.ident = s.otp.ident ∧ (State.setupAll s).dram.cells = s.dram.cells := by
  simp [State.setupAll]

@[simp] theorem State.fenceBur_kept (s : State) :
    (State.fenceBur s).pending = s.pending ∧ (State.fenceBur s).otp.ident = s.otp.ident ∧ (State.fenceBur s).dram.cells = s.dram.cells := by
  simp [State.fenceBur]

@[simp] theorem State.fenceRegs_kept (s : State) :
    (State.fenceRegs s).pending = s.pending ∧ (State.fenceRegs s).otp.ident = s.otp.ident ∧ (State.fenceRegs s).dram.cells = s.dram.cells := by
  simp [State.fenceRegs]

@[simp] theorem State.fenceTwin_kept (s : State) :
    (State.fenceTwin s).pending = s.pending ∧ (State.fenceTwin s).otp.ident = s.otp.ident ∧ (State.fenceTwin s).dram.cells = s.dram.cells := by
  simp [State.fenceTwin, apply_ite State.pending, apply_ite State.otp, apply_ite OtpSt.ident, apply_ite State.dram, apply_ite DramSt.cells]

@[simp] theorem State.noRetry_kept (s : State) :
    (State.noRetry s).pending = s.pending ∧ (State.noRetry s).otp.ident = s.otp.ident ∧ (State.noRetry s).dram.cells = s.dram.cells := by
  simp [State.noRetry, apply_ite State.pending, apply_ite State.otp, apply_ite OtpSt.ident, apply_ite State.dram, apply_ite DramSt.cells]

@[simp] theorem State.fence_kept (s : State) :
    (State.fence s).pending = s.pending ∧ (State.fence s).otp.ident = s.otp.ident := by
  simp [State.fence]

@[simp] theorem State.holdDram_kept (s : State) :
    (State.holdDram s).pending = s.pending ∧ (State.holdDram s).otp.ident = s.otp.ident ∧ (State.holdDram s).dram.cells = s.dram.cells := by
  simp [State.holdDram]

@[simp] theorem State.shed_kept (s : State) (k : Nat) :
    (State.shed s k).pending = s.pending ∧ (State.shed s k).otp.ident = s.otp.ident := by
  simp [State.shed, apply_ite State.pending, apply_ite State.otp, apply_ite OtpSt.ident, apply_ite State.dram, apply_ite DramSt.cells]

@[simp] theorem State.mirrorFlush_kept (s : State) :
    (State.mirrorFlush s).pending = s.pending ∧ (State.mirrorFlush s).otp.ident = s.otp.ident ∧ (State.mirrorFlush s).dram.cells = s.dram.cells := by
  simp [State.mirrorFlush]

@[simp] theorem State.wordFault_kept (s : State) (w : Nat) (mirrorUe : Bool) :
    (State.wordFault s w mirrorUe).pending = s.pending ∧ (State.wordFault s w mirrorUe).otp.ident = s.otp.ident ∧ (State.wordFault s w mirrorUe).dram.cells = s.dram.cells := by
  simp [State.wordFault, apply_ite State.pending, apply_ite State.otp, apply_ite OtpSt.ident, apply_ite State.dram, apply_ite DramSt.cells]

@[simp] theorem State.fetchMap_kept (s : State) (n g : Nat) :
    (State.fetchMap s n g).pending = s.pending ∧ (State.fetchMap s n g).otp.ident = s.otp.ident ∧ (State.fetchMap s n g).dram.cells = s.dram.cells := by
  unfold State.fetchMap
  (try simp only [])
  (repeat' split) <;> simp

@[simp] theorem State.cacheParity_kept (s : State) (fault : Bool) (g : Nat) :
    (State.cacheParity s fault g).pending = s.pending ∧ (State.cacheParity s fault g).otp.ident = s.otp.ident ∧ (State.cacheParity s fault g).dram.cells = s.dram.cells := by
  unfold State.cacheParity
  (try simp only [])
  (repeat' split) <;> simp

@[simp] theorem State.assign_kept (s : State) (n g : Nat) :
    (State.assign s n g).pending = s.pending ∧ (State.assign s n g).otp.ident = s.otp.ident ∧ (State.assign s n g).dram.cells = s.dram.cells := by
  unfold State.assign
  (try simp only [])
  (repeat' split) <;> simp [apply_ite State.pending, apply_ite State.otp, apply_ite OtpSt.ident, apply_ite State.dram, apply_ite DramSt.cells]

theorem State.land_kept {s t : State} {g : Nat} (h : s.land g = some t) :
    t.pending = s.pending ∧ t.otp.ident = s.otp.ident ∧ t.dram.cells = s.dram.cells := by
  unfold State.land at h
  split at h
  · cases h; simp
  · split at h
    · rename_i n u hu
      cases h; simpa using State.takeCtx_kept hu
    · split at h
      · simp at h
      · cases h; simp

@[simp] theorem State.sweepHandoff_kept (s : State) :
    (State.sweepHandoff s).pending = s.pending ∧ (State.sweepHandoff s).otp.ident = s.otp.ident ∧ (State.sweepHandoff s).dram.cells = s.dram.cells := by
  unfold State.sweepHandoff
  split
  · simp
  · rename_i g t _
    cases h : State.land ({ s with bur := { s.bur with handoff := t } } : State) g with
    | none => simp
    | some u => simpa using State.land_kept h

@[simp] theorem State.burrowVisit_kept (s : State) :
    (State.burrowVisit s).pending = s.pending ∧ (State.burrowVisit s).otp.ident = s.otp.ident ∧ (State.burrowVisit s).dram.cells = s.dram.cells := by
  unfold State.burrowVisit
  split
  · simp
  · split
    · rename_i g l _
      cases h : State.land ({ s with bur := { s.bur with faultTake := l } } : State) g with
      | none => simp
      | some u => simpa using State.land_kept h
    · split
      · simp
      · split
        · split
          · rename_i g _
            cases h : s.land g with
            | none => simp
            | some u => simpa using State.land_kept h
          · simp
        · simp

@[simp] theorem State.sweepRead_kept (s : State) (faultWord : Option Nat) (mirrorUe : Bool) :
    (State.sweepRead s faultWord mirrorUe).pending = s.pending ∧ (State.sweepRead s faultWord mirrorUe).otp.ident = s.otp.ident ∧ (State.sweepRead s faultWord mirrorUe).dram.cells = s.dram.cells := by
  unfold State.sweepRead
  (try simp only [])
  (repeat' split) <;> simp

@[simp] theorem State.spend_kept (s : State) (n : Nat) :
    (State.spend s n).pending = s.pending ∧ (State.spend s n).otp.ident = s.otp.ident ∧ (State.spend s n).dram.cells = s.dram.cells := by
  unfold State.spend
  (try simp only [])
  (repeat' split) <;> simp

@[simp] theorem State.landed_kept (s : State) (n : Nat) :
    (State.landed s n).pending = s.pending ∧ (State.landed s n).otp.ident = s.otp.ident ∧ (State.landed s n).dram.cells = s.dram.cells := by
  simp [State.landed]

@[simp] theorem State.programFine_kept (s : State) (c : Ctx) :
    (State.programFine s c).pending = s.pending ∧ (State.programFine s c).otp.ident = s.otp.ident ∧ (State.programFine s c).dram.cells = s.dram.cells := by
  unfold State.programFine
  (try simp only [])
  (repeat' split) <;> simp

@[simp] theorem State.queueShed_kept (s : State) (k : Nat) :
    (State.queueShed s k).pending = s.pending ∧ (State.queueShed s k).otp.ident = s.otp.ident ∧ (State.queueShed s k).dram.cells = s.dram.cells := by
  simp [State.queueShed]

theorem State.putManifest_kept (total : Nat) (fails : List Nat) (l : List (List MEnt)) (s t : State) (no prev : Nat) (done r : List Nat)
    (h : s.putManifest total fails l no prev done = some (t, r)) :
    t.pending = s.pending ∧ t.otp.ident = s.otp.ident ∧ t.dram.cells = s.dram.cells := by
  induction l generalizing s no prev done with
  | nil => simp only [State.putManifest, Option.some.injEq, Prod.mk.injEq] at h; simp [h.1]
  | cons e l ih =>
    unfold State.putManifest at h
    split at h
    · simp at h
    · rename_i a loc ha
      have hk := State.manPick_kept _ ha
      simpa [hk.1, hk.2.1, hk.2.2] using ih _ _ _ _ h

@[simp] theorem State.beginP4_kept (s : State) :
    (State.beginP4 s).pending = s.pending ∧ (State.beginP4 s).otp.ident = s.otp.ident ∧ (State.beginP4 s).dram.cells = s.dram.cells := by
  simp [State.beginP4]

@[simp] theorem State.shutdownEnd_kept (s : State) (loss : Bool) :
    (State.shutdownEnd s loss).pending = s.pending ∧ (State.shutdownEnd s loss).otp.ident = s.otp.ident ∧ (State.shutdownEnd s loss).dram.cells = s.dram.cells := by
  simp [State.shutdownEnd, apply_ite State.pending, apply_ite State.otp, apply_ite OtpSt.ident, apply_ite State.dram, apply_ite DramSt.cells]

@[simp] theorem State.endP4_kept (s : State) :
    (State.endP4 s).pending = s.pending ∧ (State.endP4 s).otp.ident = s.otp.ident ∧ (State.endP4 s).dram.cells = s.dram.cells := by
  simp [State.endP4]

@[simp] theorem State.abandonCtx_kept (s : State) (n : Nat) :
    (State.abandonCtx s n).pending = s.pending ∧ (State.abandonCtx s n).otp.ident = s.otp.ident ∧ (State.abandonCtx s n).dram.cells = s.dram.cells := by
  simp [State.abandonCtx, apply_ite State.pending, apply_ite State.otp, apply_ite OtpSt.ident, apply_ite State.dram, apply_ite DramSt.cells]

@[simp] theorem State.abandon_kept (s : State) :
    (State.abandon s).pending = s.pending ∧ (State.abandon s).otp.ident = s.otp.ident ∧ (State.abandon s).dram.cells = s.dram.cells := by
  simp [State.abandon]

@[simp] theorem State.vinBack_kept (s : State) :
    (State.vinBack s).pending = s.pending ∧ (State.vinBack s).otp.ident = s.otp.ident ∧ (State.vinBack s).dram.cells = s.dram.cells := by
  unfold State.vinBack
  (try simp only [])
  (repeat' split) <;> simp

@[simp] theorem State.askReads_kept (s : State) :
    (State.askReads s).pending = s.pending ∧ (State.askReads s).otp.ident = s.otp.ident ∧ (State.askReads s).dram.cells = s.dram.cells := by
  simp [State.askReads, apply_ite State.pending, apply_ite State.otp, apply_ite OtpSt.ident, apply_ite State.dram, apply_ite DramSt.cells]

@[simp] theorem State.abandonEnd_kept (s : State) :
    (State.abandonEnd s).pending = s.pending ∧ (State.abandonEnd s).otp.ident = s.otp.ident := by
  simp [State.abandonEnd, apply_ite State.pending, apply_ite State.otp, apply_ite OtpSt.ident, apply_ite State.dram, apply_ite DramSt.cells]

end Sys2Proof.Machine
end

