-- ==== Sys2Proof/Laws/Kept3.lean ====
section
/-! SUPPORT. One lemma per operation on State: what the families of 12, 04, 05, 07, 16, 08, 13 and 18 leave alone: the queue of waiting commands, the
OTP row's fixed words and, but for the operations that store to it, the cache DRAM. -/

set_option linter.unusedSimpArgs false
set_option linter.unusedTactic false
set_option linter.unnecessarySeqFocus false

namespace Sys2Proof.Machine

@[simp] theorem State.eccCount_kept (s : State) (rd : NandRead) :
    (State.eccCount s rd).pending = s.pending ∧ (State.eccCount s rd).otp.ident = s.otp.ident ∧ (State.eccCount s rd).dram.cells = s.dram.cells := by
  unfold State.eccCount
  (try simp only [])
  (repeat' split) <;> simp [apply_ite State.pending, apply_ite State.otp, apply_ite OtpSt.ident, apply_ite State.dram, apply_ite DramSt.cells]

@[simp] theorem State.readPages_kept (s : State) (rds : List (Nat × NandRead)) :
    (State.readPages s rds).pending = s.pending ∧ (State.readPages s rds).otp.ident = s.otp.ident ∧ (State.readPages s rds).dram.cells = s.dram.cells := by
  unfold State.readPages
  (try simp only [])
  (repeat' split) <;> simp

@[simp] theorem State.eaCheck_kept (s : State) :
    (State.eaCheck s).pending = s.pending ∧ (State.eaCheck s).otp.ident = s.otp.ident ∧ (State.eaCheck s).dram.cells = s.dram.cells := by
  simp [State.eaCheck]

@[simp] theorem State.senStep_kept (s : State) (i : Nat) (r : SenReading) :
    (State.senStep s i r).pending = s.pending ∧ (State.senStep s i r).otp.ident = s.otp.ident ∧ (State.senStep s i r).dram.cells = s.dram.cells := by
  simp [State.senStep, apply_ite State.pending, apply_ite State.otp, apply_ite OtpSt.ident, apply_ite State.dram, apply_ite DramSt.cells]

@[simp] theorem State.senRegs_kept (s : State) :
    (State.senRegs s).pending = s.pending ∧ (State.senRegs s).otp.ident = s.otp.ident ∧ (State.senRegs s).dram.cells = s.dram.cells := by
  unfold State.senRegs
  split <;> simp

@[simp] theorem State.upStep_kept (s : State) (k : Nat) :
    (State.upStep s k).pending = s.pending ∧ (State.upStep s k).otp.ident = s.otp.ident ∧ (State.upStep s k).dram.cells = s.dram.cells := by
  simp [State.upStep]

@[simp] theorem State.setLevel_kept (s : State) (n : Nat) :
    (State.setLevel s n).pending = s.pending ∧ (State.setLevel s n).otp.ident = s.otp.ident ∧ (State.setLevel s n).dram.cells = s.dram.cells := by
  simp [State.setLevel, apply_ite State.pending, apply_ite State.otp, apply_ite OtpSt.ident, apply_ite State.dram, apply_ite DramSt.cells]

@[simp] theorem State.orderlyStop_kept (s : State) :
    (State.orderlyStop s).pending = s.pending ∧ (State.orderlyStop s).otp.ident = s.otp.ident := by
  unfold State.orderlyStop
  (try simp only [])
  (repeat' split) <;> simp

@[simp] theorem State.pendStop_kept (s : State) :
    (State.pendStop s).pending = s.pending ∧ (State.pendStop s).otp.ident = s.otp.ident ∧ (State.pendStop s).dram.cells = s.dram.cells := by
  simp [State.pendStop, apply_ite State.pending, apply_ite State.otp, apply_ite OtpSt.ident, apply_ite State.dram, apply_ite DramSt.cells]

@[simp] theorem State.sweepForce_kept (s : State) :
    (State.sweepForce s).pending = s.pending ∧ (State.sweepForce s).otp.ident = s.otp.ident ∧ (State.sweepForce s).dram.cells = s.dram.cells := by
  unfold State.sweepForce
  (try simp only [])
  (repeat' split) <;> simp

@[simp] theorem State.doSenRetry_kept (s : State) :
    (State.doSenRetry s).pending = s.pending ∧ (State.doSenRetry s).otp.ident = s.otp.ident ∧ (State.doSenRetry s).dram.cells = s.dram.cells := by
  simp [State.doSenRetry, apply_ite State.pending, apply_ite State.otp, apply_ite OtpSt.ident, apply_ite State.dram, apply_ite DramSt.cells]

@[simp] theorem State.pacerTick_kept (s : State) :
    (State.pacerTick s).pending = s.pending ∧ (State.pacerTick s).otp.ident = s.otp.ident ∧ (State.pacerTick s).dram.cells = s.dram.cells := by
  simp [State.pacerTick]

@[simp] theorem State.paceTick_kept (s : State) (grant : Nat) :
    (State.paceTick s grant).pending = s.pending ∧ (State.paceTick s grant).otp.ident = s.otp.ident ∧ (State.paceTick s grant).dram.cells = s.dram.cells := by
  simp [State.paceTick]

@[simp] theorem State.applyGrants_kept (s : State) (dram nand : List Nat) (acc chg : Nat) :
    (State.applyGrants s dram nand acc chg).pending = s.pending ∧ (State.applyGrants s dram nand acc chg).otp.ident = s.otp.ident ∧ (State.applyGrants s dram nand acc chg).dram.cells = s.dram.cells := by
  simp [State.applyGrants]

@[simp] theorem State.arbitrate_kept (s : State) (b : BudgetIn) :
    (State.arbitrate s b).pending = s.pending ∧ (State.arbitrate s b).otp.ident = s.otp.ident ∧ (State.arbitrate s b).dram.cells = s.dram.cells := by
  simp [State.arbitrate]

@[simp] theorem State.arbForce_kept (s : State) :
    (State.arbForce s).pending = s.pending ∧ (State.arbForce s).otp.ident = s.otp.ident ∧ (State.arbForce s).dram.cells = s.dram.cells := by
  unfold State.arbForce
  (try simp only [])
  (repeat' split) <;> simp

@[simp] theorem State.doRebaseNow_kept (s : State) :
    (State.doRebaseNow s).pending = s.pending ∧ (State.doRebaseNow s).otp.ident = s.otp.ident ∧ (State.doRebaseNow s).dram.cells = s.dram.cells := by
  simp [State.doRebaseNow, apply_ite State.pending, apply_ite State.otp, apply_ite OtpSt.ident, apply_ite State.dram, apply_ite DramSt.cells]

@[simp] theorem State.handOn_kept (s : State) :
    (State.handOn s).pending = s.pending ∧ (State.handOn s).otp.ident = s.otp.ident ∧ (State.handOn s).dram.cells = s.dram.cells := by
  simp [State.handOn]

@[simp] theorem State.sweepVisit_kept (s : State) :
    (State.sweepVisit s).pending = s.pending ∧ (State.sweepVisit s).otp.ident = s.otp.ident ∧ (State.sweepVisit s).dram.cells = s.dram.cells := by
  unfold State.sweepVisit
  (try simp only [])
  split
  · simp
  · split
    · simp
    · split
      · split
        · split
          · rename_i h; simpa using State.armCopy_kept h
          · simp
        · split <;> simp
      · simp

@[simp] theorem State.trickleDone_kept (s : State) (g : Nat) :
    (State.trickleDone s g).pending = s.pending ∧ (State.trickleDone s g).otp.ident = s.otp.ident ∧ (State.trickleDone s g).dram.cells = s.dram.cells := by
  unfold State.trickleDone
  split <;> simp

@[simp] theorem State.calStep_kept (s : State) :
    (State.calStep s).pending = s.pending ∧ (State.calStep s).otp.ident = s.otp.ident ∧ (State.calStep s).dram.cells = s.dram.cells := by
  simp [State.calStep, apply_ite State.pending, apply_ite State.otp, apply_ite OtpSt.ident, apply_ite State.dram, apply_ite DramSt.cells]

@[simp] theorem State.copyDone_kept (s : State) (n : Nat) :
    (State.copyDone s n).pending = s.pending ∧ (State.copyDone s n).otp.ident = s.otp.ident ∧ (State.copyDone s n).dram.cells = s.dram.cells := by
  simp [State.copyDone, apply_ite State.pending, apply_ite State.otp, apply_ite OtpSt.ident, apply_ite State.dram, apply_ite DramSt.cells]

@[simp] theorem State.doCleanAll_kept (s : State) :
    (State.doCleanAll s).pending = s.pending ∧ (State.doCleanAll s).otp.ident = s.otp.ident ∧ (State.doCleanAll s).dram.cells = s.dram.cells := by
  simp [State.doCleanAll, apply_ite State.pending, apply_ite State.otp, apply_ite OtpSt.ident, apply_ite State.dram, apply_ite DramSt.cells]

@[simp] theorem State.doStopCleanAll_kept (s : State) :
    (State.doStopCleanAll s).pending = s.pending ∧ (State.doStopCleanAll s).otp.ident = s.otp.ident ∧ (State.doStopCleanAll s).dram.cells = s.dram.cells := by
  simp [State.doStopCleanAll]

@[simp] theorem State.freeEntries_kept (s : State) (k nowNs : Nat) :
    (State.freeEntries s k nowNs).pending = s.pending ∧ (State.freeEntries s k nowNs).otp.ident = s.otp.ident ∧ (State.freeEntries s k nowNs).dram.cells = s.dram.cells := by
  simp [State.freeEntries]

@[simp] theorem State.backLine_kept (s : State) (line : Nat) :
    (State.backLine s line).pending = s.pending ∧ (State.backLine s line).otp.ident = s.otp.ident ∧ (State.backLine s line).dram.cells = s.dram.cells := by
  unfold State.backLine
  (try simp only [])
  (repeat' split) <;> simp

@[simp] theorem State.backWaiting_kept (s : State) :
    (State.backWaiting s).pending = s.pending ∧ (State.backWaiting s).otp.ident = s.otp.ident ∧ (State.backWaiting s).dram.cells = s.dram.cells := by
  unfold State.backWaiting
  (try simp only [])
  (repeat' split) <;> simp

@[simp] theorem State.takeIn_kept (s : State) (k : Nat) :
    (State.takeIn s k).pending = s.pending ∧ (State.takeIn s k).otp.ident = s.otp.ident ∧ (State.takeIn s k).dram.cells = s.dram.cells := by
  unfold State.takeIn
  (try simp only [])
  (repeat' split) <;> simp

@[simp] theorem State.issue_kept (s : State) (k nowNs : Nat) (c : DramCmd) :
    (State.issue s k nowNs c).pending = s.pending ∧ (State.issue s k nowNs c).otp.ident = s.otp.ident ∧ (State.issue s k nowNs c).dram.cells = s.dram.cells := by
  unfold State.issue
  (try simp only [])
  (repeat' split) <;> simp

@[simp] theorem State.issueAll_kept (s : State) (k nowNs : Nat) (l : List DramCmd) :
    (State.issueAll s k nowNs l).pending = s.pending ∧ (State.issueAll s k nowNs l).otp.ident = s.otp.ident ∧ (State.issueAll s k nowNs l).dram.cells = s.dram.cells := by
  unfold State.issueAll
  (try simp only [])
  (repeat' split) <;> simp

@[simp] theorem State.act_kept (s : State) (ch sub nowNs b row : Nat) :
    (State.act s ch sub nowNs b row).pending = s.pending ∧ (State.act s ch sub nowNs b row).otp.ident = s.otp.ident ∧ (State.act s ch sub nowNs b row).dram.cells = s.dram.cells := by
  simp [State.act, apply_ite State.pending, apply_ite State.otp, apply_ite OtpSt.ident, apply_ite State.dram, apply_ite DramSt.cells]

@[simp] theorem State.actPending_kept (ch sub nowNs b n : Nat) (s : State) :
    (State.actPending ch sub nowNs b n s).pending = s.pending ∧ (State.actPending ch sub nowNs b n s).otp.ident = s.otp.ident
      ∧ (State.actPending ch sub nowNs b n s).dram.cells = s.dram.cells := by
  induction n generalizing s with
  | zero => simp [State.actPending]
  | succ n ih =>
    unfold State.actPending
    (try simp only [])
    split
    · simp
    · split
      · simp [ih]
      · simp

@[simp] theorem State.readIssued_kept (s : State) (nowNs : Nat) (q : DramQ) :
    (State.readIssued s nowNs q).pending = s.pending ∧ (State.readIssued s nowNs q).otp.ident = s.otp.ident ∧ (State.readIssued s nowNs q).dram.cells = s.dram.cells := by
  unfold State.readIssued
  (try simp only [])
  (repeat' split) <;> simp

@[simp] theorem State.column_kept (s : State) (k nowNs : Nat) (q : DramQ) (ap : Bool) :
    (State.column s k nowNs q ap).pending = s.pending ∧ (State.column s k nowNs q ap).otp.ident = s.otp.ident := by
  unfold State.column
  (try simp only [])
  (repeat' split) <;> simp

@[simp] theorem State.columns_kept (k nowNs : Nat) (l : List DramQ) (s : State) :
    (State.columns k nowNs l s).pending = s.pending ∧ (State.columns k nowNs l s).otp.ident = s.otp.ident := by
  induction l generalizing s with
  | nil => simp [State.columns]
  | cons q t ih => simp [State.columns, ih]

@[simp] theorem State.rfm_kept (s : State) (k nowNs b : Nat) :
    (State.rfm s k nowNs b).pending = s.pending ∧ (State.rfm s k nowNs b).otp.ident = s.otp.ident ∧ (State.rfm s k nowNs b).dram.cells = s.dram.cells := by
  unfold State.rfm
  (try simp only [])
  (repeat' split) <;> simp

@[simp] theorem State.refreshNow_kept (s : State) (k nowNs rank : Nat) :
    (State.refreshNow s k nowNs rank).pending = s.pending ∧ (State.refreshNow s k nowNs rank).otp.ident = s.otp.ident ∧ (State.refreshNow s k nowNs rank).dram.cells = s.dram.cells := by
  unfold State.refreshNow
  (try simp only [])
  (repeat' split) <;> simp

@[simp] theorem State.serveGroup_kept (s : State) (ch sub nowNs : Nat) (r : DramQ) :
    (State.serveGroup s ch sub nowNs r).pending = s.pending ∧ (State.serveGroup s ch sub nowNs r).otp.ident = s.otp.ident := by
  unfold State.serveGroup
  (try simp only [])
  (repeat' split) <;> simp

@[simp] theorem State.scheduleOne_kept (s : State) (ch sub nowNs : Nat) (ready : List Nat) :
    (State.scheduleOne s ch sub nowNs ready).pending = s.pending ∧ (State.scheduleOne s ch sub nowNs ready).otp.ident = s.otp.ident := by
  unfold State.scheduleOne
  (try simp only [])
  (repeat' split) <;> simp

@[simp] theorem State.reissue_kept (s : State) (ch sub nowNs first : Nat) (c : DramCmd) :
    (State.reissue s ch sub nowNs first c).pending = s.pending ∧ (State.reissue s ch sub nowNs first c).otp.ident = s.otp.ident ∧ (State.reissue s ch sub nowNs first c).dram.cells = s.dram.cells := by
  unfold State.reissue
  (try simp only [])
  (repeat' split) <;> simp

@[simp] theorem State.reissueAll_kept (ch sub nowNs first : Nat) (l : List DramCmd) (s : State) :
    (State.reissueAll ch sub nowNs first l s).1.pending = s.pending ∧ (State.reissueAll ch sub nowNs first l s).1.otp.ident = s.otp.ident
      ∧ (State.reissueAll ch sub nowNs first l s).1.dram.cells = s.dram.cells := by
  induction l generalizing s with
  | nil => simp [State.reissueAll]
  | cons c l ih =>
    unfold State.reissueAll
    split
    · simpa using ih (s.reissue ch sub nowNs first c)
    · simp

@[simp] theorem State.replayGo_kept (s : State) (ch sub nowNs : Nat) (r : Replay) :
    (State.replayGo s ch sub nowNs r).pending = s.pending ∧ (State.replayGo s ch sub nowNs r).otp.ident = s.otp.ident ∧ (State.replayGo s ch sub nowNs r).dram.cells = s.dram.cells := by
  unfold State.replayGo
  (try simp only [])
  (repeat' split) <;> simp

@[simp] theorem State.cycle_kept (s : State) (ch sub nowNs : Nat) (ready : List Nat) :
    (State.cycle s ch sub nowNs ready).pending = s.pending ∧ (State.cycle s ch sub nowNs ready).otp.ident = s.otp.ident := by
  unfold State.cycle
  (try simp only [])
  (repeat' split) <;> simp

@[simp] theorem State.pauseForce_kept (s : State) :
    (State.pauseForce s).pending = s.pending ∧ (State.pauseForce s).otp.ident = s.otp.ident ∧ (State.pauseForce s).dram.cells = s.dram.cells := by
  unfold State.pauseForce
  (try simp only [])
  (repeat' split) <;> simp

@[simp] theorem State.dropLoad_kept (s : State) (ch n : Nat) :
    (State.dropLoad s ch n).pending = s.pending ∧ (State.dropLoad s ch n).otp.ident = s.otp.ident ∧ (State.dropLoad s ch n).dram.cells = s.dram.cells := by
  simp [State.dropLoad, apply_ite State.pending, apply_ite State.otp, apply_ite OtpSt.ident, apply_ite State.dram, apply_ite DramSt.cells]

@[simp] theorem State.loseLedger_kept (s : State) (ch : Nat) :
    (State.loseLedger s ch).pending = s.pending ∧ (State.loseLedger s ch).otp.ident = s.otp.ident ∧ (State.loseLedger s ch).dram.cells = s.dram.cells := by
  simp [State.loseLedger]

@[simp] theorem State.failReads_kept (s : State) (ch : Nat) :
    (State.failReads s ch).pending = s.pending ∧ (State.failReads s ch).otp.ident = s.otp.ident ∧ (State.failReads s ch).dram.cells = s.dram.cells := by
  simp [State.failReads]

@[simp] theorem State.burrowLosesChannel_kept (s : State) (ch : Nat) :
    (State.burrowLosesChannel s ch).pending = s.pending ∧ (State.burrowLosesChannel s ch).otp.ident = s.otp.ident ∧ (State.burrowLosesChannel s ch).dram.cells = s.dram.cells := by
  unfold State.burrowLosesChannel
  (try simp only [])
  (repeat' split) <;> simp

@[simp] theorem State.restoreLoses_kept (s : State) (ch : Nat) :
    (State.restoreLoses s ch).pending = s.pending ∧ (State.restoreLoses s ch).otp.ident = s.otp.ident ∧ (State.restoreLoses s ch).dram.cells = s.dram.cells := by
  unfold State.restoreLoses
  (try simp only [])
  (repeat' split) <;> simp

@[simp] theorem State.failChannel_kept (s : State) (ch : Nat) :
    (State.failChannel s ch).pending = s.pending ∧ (State.failChannel s ch).otp.ident = s.otp.ident ∧ (State.failChannel s ch).dram.cells = s.dram.cells := by
  simp [State.failChannel, apply_ite State.pending, apply_ite State.otp, apply_ite OtpSt.ident, apply_ite State.dram, apply_ite DramSt.cells]

@[simp] theorem State.alertSeen_kept (s : State) (ch sub nowNs highNs : Nat) :
    (State.alertSeen s ch sub nowNs highNs).pending = s.pending ∧ (State.alertSeen s ch sub nowNs highNs).otp.ident = s.otp.ident ∧ (State.alertSeen s ch sub nowNs highNs).dram.cells = s.dram.cells := by
  unfold State.alertSeen
  (try simp only [])
  (repeat' split) <;> simp

@[simp] theorem State.markDev_kept (s : State) (line dev : Nat) :
    (State.markDev s line dev).pending = s.pending ∧ (State.markDev s line dev).otp.ident = s.otp.ident ∧ (State.markDev s line dev).dram.cells = s.dram.cells := by
  simp [State.markDev, apply_ite State.pending, apply_ite State.otp, apply_ite OtpSt.ident, apply_ite State.dram, apply_ite DramSt.cells]

@[simp] theorem State.countCe_kept (s : State) (ch : Nat) :
    (State.countCe s ch).pending = s.pending ∧ (State.countCe s ch).otp.ident = s.otp.ident ∧ (State.countCe s ch).dram.cells = s.dram.cells := by
  unfold State.countCe
  (try simp only [])
  (repeat' split) <;> simp

@[simp] theorem State.corrected_kept (s : State) (line dev : Nat) :
    (State.corrected s line dev).pending = s.pending ∧ (State.corrected s line dev).otp.ident = s.otp.ident ∧ (State.corrected s line dev).dram.cells = s.dram.cells := by
  simp [State.corrected, apply_ite State.pending, apply_ite State.otp, apply_ite OtpSt.ident, apply_ite State.dram, apply_ite DramSt.cells]

@[simp] theorem State.writeBack_kept (s : State) (line : Nat) (newer : Bool) :
    (State.writeBack s line newer).pending = s.pending ∧ (State.writeBack s line newer).otp.ident = s.otp.ident ∧ (State.writeBack s line newer).dram.cells = s.dram.cells := by
  simp [State.writeBack, apply_ite State.pending, apply_ite State.otp, apply_ite OtpSt.ident, apply_ite State.dram, apply_ite DramSt.cells]

@[simp] theorem State.countUe_kept (s : State) (line : Nat) :
    (State.countUe s line).pending = s.pending ∧ (State.countUe s line).otp.ident = s.otp.ident ∧ (State.countUe s line).dram.cells = s.dram.cells := by
  simp [State.countUe]

@[simp] theorem State.decodeRead_kept (s : State) (line : Nat) (e : DramErr) :
    (s.decodeRead line e).1.pending = s.pending ∧ (s.decodeRead line e).1.otp.ident = s.otp.ident
      ∧ (s.decodeRead line e).1.dram.cells = s.dram.cells := by
  unfold State.decodeRead
  (try simp only [])
  (repeat' split) <;> simp

@[simp] theorem State.afterRead_kept (s : State) (line : Nat) (newer : Bool) (out : DramOut) :
    (State.afterRead s line newer out).pending = s.pending ∧ (State.afterRead s line newer out).otp.ident = s.otp.ident ∧ (State.afterRead s line newer out).dram.cells = s.dram.cells := by
  unfold State.afterRead
  split <;> simp

@[simp] theorem State.hostData_kept (s : State) (tag line : Nat) (lost : Bool) :
    (State.hostData s tag line lost).pending = s.pending ∧ (State.hostData s tag line lost).otp.ident = s.otp.ident ∧ (State.hostData s tag line lost).dram.cells = s.dram.cells := by
  simp [State.hostData, apply_ite State.pending, apply_ite State.otp, apply_ite OtpSt.ident, apply_ite State.dram, apply_ite DramSt.cells]

@[simp] theorem State.rmwData_kept (s : State) (line : Nat) (lost : Bool) :
    (State.rmwData s line lost).pending = s.pending ∧ (State.rmwData s line lost).otp.ident = s.otp.ident ∧ (State.rmwData s line lost).dram.cells = s.dram.cells := by
  simp [State.rmwData, apply_ite State.pending, apply_ite State.otp, apply_ite OtpSt.ident, apply_ite State.dram, apply_ite DramSt.cells]

@[simp] theorem State.ctxUe_kept (s : State) (n line : Nat) :
    (State.ctxUe s n line).pending = s.pending ∧ (State.ctxUe s n line).otp.ident = s.otp.ident ∧ (State.ctxUe s n line).dram.cells = s.dram.cells := by
  unfold State.ctxUe
  (try simp only [])
  (repeat' split) <;> simp

@[simp] theorem State.mapUe_kept (s : State) (line : Nat) :
    (State.mapUe s line).pending = s.pending ∧ (State.mapUe s line).otp.ident = s.otp.ident ∧ (State.mapUe s line).dram.cells = s.dram.cells := by
  simp [State.mapUe, apply_ite State.pending, apply_ite State.otp, apply_ite OtpSt.ident, apply_ite State.dram, apply_ite DramSt.cells]

@[simp] theorem State.setMirror_kept (s : State) (m : List (Nat × LState)) :
    (State.setMirror s m).pending = s.pending ∧ (State.setMirror s m).otp.ident = s.otp.ident ∧ (State.setMirror s m).dram.cells = s.dram.cells := by
  unfold State.setMirror
  (try simp only [])
  (repeat' split) <;> simp

@[simp] theorem State.mirrorRewrite_kept (s : State) (line : Nat) :
    (State.mirrorRewrite s line).pending = s.pending ∧ (State.mirrorRewrite s line).otp.ident = s.otp.ident ∧ (State.mirrorRewrite s line).dram.cells = s.dram.cells := by
  exact State.setMirror_kept s _

@[simp] theorem State.stagingUe_kept (s : State) (line : Nat) :
    (State.stagingUe s line).pending = s.pending ∧ (State.stagingUe s line).otp.ident = s.otp.ident ∧ (State.stagingUe s line).dram.cells = s.dram.cells := by
  unfold State.stagingUe
  (try simp only [])
  (repeat' split) <;> simp

@[simp] theorem State.scrubMove_kept (s : State) (ch : Nat) :
    (State.scrubMove s ch).pending = s.pending ∧ (State.scrubMove s ch).otp.ident = s.otp.ident ∧ (State.scrubMove s ch).dram.cells = s.dram.cells := by
  unfold State.scrubMove
  (try simp only [])
  (repeat' split) <;> simp

@[simp] theorem State.bitmapUe_kept (s : State) (line : Nat) :
    (State.bitmapUe s line).pending = s.pending ∧ (State.bitmapUe s line).otp.ident = s.otp.ident ∧ (State.bitmapUe s line).dram.cells = s.dram.cells := by
  unfold State.bitmapUe
  (try simp only [])
  (repeat' split) <;> simp

@[simp] theorem State.scrubUe_kept (s : State) (line : Nat) :
    (State.scrubUe s line).pending = s.pending ∧ (State.scrubUe s line).otp.ident = s.otp.ident ∧ (State.scrubUe s line).dram.cells = s.dram.cells := by
  unfold State.scrubUe
  (try simp only [])
  (repeat' split) <;> simp

@[simp] theorem State.ctxRead_kept (s : State) (n : Nat) :
    (State.ctxRead s n).pending = s.pending ∧ (State.ctxRead s n).otp.ident = s.otp.ident ∧ (State.ctxRead s n).dram.cells = s.dram.cells := by
  unfold State.ctxRead
  (try simp only [])
  (repeat' split) <;> simp

theorem State.delivered_kept (s t : State) (req : DramReq) (line : Nat) (newer : Bool) (out : DramOut) (hp : t.pending = s.pending)
    (hi : t.otp.ident = s.otp.ident) (hc : t.dram.cells = s.dram.cells) :
    (State.delivered s t req line newer out).pending = s.pending ∧ (State.delivered s t req line newer out).otp.ident = s.otp.ident
      ∧ (State.delivered s t req line newer out).dram.cells = s.dram.cells := by
  cases req <;> simp only [State.delivered] <;> (repeat' split) <;> simp [hp, hi, hc]

@[simp] theorem State.readBack_kept (s : State) (req : DramReq) (line : Nat) (err : DramErr) (atNs : Option Nat) :
    (State.readBack s req line err atNs).pending = s.pending ∧ (State.readBack s req line err atNs).otp.ident = s.otp.ident ∧ (State.readBack s req line err atNs).dram.cells = s.dram.cells := by
  unfold State.readBack
  split
  · simp
  · simp only []
    split
    · simp
    · rename_i r _
      have h := State.delivered_kept { s with dram := { s.dram with rdOut := takeRd (isRd line req) s.dram.rdOut, now := max s.dram.now r } }
        (State.decodeRead { s with dram := { s.dram with rdOut := takeRd (isRd line req) s.dram.rdOut, now := max s.dram.now r } } line err).1
        req line (match s.dram.rdOut.find? (isRd line req) with | some x => x.newer | none => false)
        (State.decodeRead { s with dram := { s.dram with rdOut := takeRd (isRd line req) s.dram.rdOut, now := max s.dram.now r } } line err).2
        (by simp) (by simp) (by simp)
      exact h

@[simp] theorem State.scrubAsk_kept (s : State) (ch : Nat) :
    (State.scrubAsk s ch).pending = s.pending ∧ (State.scrubAsk s ch).otp.ident = s.otp.ident ∧ (State.scrubAsk s ch).dram.cells = s.dram.cells := by
  unfold State.scrubAsk
  (try simp only [])
  (repeat' split) <;> simp

@[simp] theorem State.erased_kept (s : State) (b : Nat) :
    (State.erased s b).pending = s.pending ∧ (State.erased s b).otp.ident = s.otp.ident ∧ (State.erased s b).dram.cells = s.dram.cells := by
  simp [State.erased]

@[simp] theorem State.relocNext_kept (s : State) (rd : NandRead) :
    (State.relocNext s rd).pending = s.pending ∧ (State.relocNext s rd).otp.ident = s.otp.ident ∧ (State.relocNext s rd).dram.cells = s.dram.cells := by
  unfold State.relocNext
  split
  · simp
  · rename_i g src t _
    simp only []
    split
    · simp
    · split
      · simp
      · cases h : State.armReloc ({ s with nand := { s.nand with relocQ := t } } : State) g src (s.pageVer src) with
        | none => simp
        | some u => simpa using State.armReloc_kept h

@[simp] theorem State.pagesCame_kept (s : State) :
    (State.pagesCame s).pending = s.pending ∧ (State.pagesCame s).otp.ident = s.otp.ident ∧ (State.pagesCame s).dram.cells = s.dram.cells := by
  unfold State.pagesCame
  split <;> simp

@[simp] theorem State.eraseFailed_kept (s : State) (b : Nat) :
    (State.eraseFailed s b).pending = s.pending ∧ (State.eraseFailed s b).otp.ident = s.otp.ident ∧ (State.eraseFailed s b).dram.cells = s.dram.cells := by
  unfold State.eraseFailed
  (try simp only [])
  (repeat' split) <;> simp

theorem State.landMeta_kept (fails : List Nat) (l : List (Nat × Nat)) (no : Nat) (k c : Ckpt) (s t : State)
    (h : State.landMeta fails l no k s = some (t, c)) :
    t.pending = s.pending ∧ t.otp.ident = s.otp.ident ∧ t.dram.cells = s.dram.cells := by
  induction l generalizing s k no with
  | nil => simp only [State.landMeta, Option.some.injEq, Prod.mk.injEq] at h; simp [h.1]
  | cons x l ih =>
    obtain ⟨kind, i⟩ := x
    simp only [State.landMeta, Option.bind_eq_some_iff] at h
    obtain ⟨⟨a, loc⟩, ha, h⟩ := h
    have hk := State.manPick_kept _ ha
    simpa [hk.1, hk.2.1, hk.2.2] using ih _ _ _ h

@[simp] theorem State.rootCommits_kept (s : State) (loc : Nat) (r : RootPage) :
    (State.rootCommits s loc r).pending = s.pending ∧ (State.rootCommits s loc r).otp.ident = s.otp.ident ∧ (State.rootCommits s loc r).dram.cells = s.dram.cells := by
  simp [State.rootCommits]

@[simp] theorem State.ckptRoot_kept (s : State) (k : Ckpt) (restoring : Bool) :
    (State.ckptRoot s k restoring).pending = s.pending ∧ (State.ckptRoot s k restoring).otp.ident = s.otp.ident ∧ (State.ckptRoot s k restoring).dram.cells = s.dram.cells := by
  unfold State.ckptRoot
  split
  · simp only []
    split <;> simp
  · simp

@[simp] theorem State.nbForce_kept (s : State) :
    (State.nbForce s).pending = s.pending ∧ (State.nbForce s).otp.ident = s.otp.ident ∧ (State.nbForce s).dram.cells = s.dram.cells := by
  unfold State.nbForce
  (try simp only [])
  (repeat' split) <;> simp

@[simp] theorem State.fullCheckpoint_kept (s : State) (fails : List Nat) :
    (State.fullCheckpoint s fails).pending = s.pending ∧ (State.fullCheckpoint s fails).otp.ident = s.otp.ident ∧ (State.fullCheckpoint s fails).dram.cells = s.dram.cells := by
  unfold State.fullCheckpoint
  (try simp only [])
  split
  · rename_i h
    split at h
    · simpa using State.landMeta_kept _ _ _ _ _ _ _ h
    · simp at h
  · simp

@[simp] theorem State.dmkLockout_kept (s : State) (code : Nat) :
    (State.dmkLockout s code).pending = s.pending ∧ (State.dmkLockout s code).otp.ident = s.otp.ident := by
  simp [State.dmkLockout]

@[simp] theorem State.dropCl_kept (s : State) :
    (State.dropCl s).pending = s.pending ∧ (State.dropCl s).otp.ident = s.otp.ident ∧ (State.dropCl s).dram.cells = s.dram.cells := by
  simp [State.dropCl]

@[simp] theorem State.applyReg_kept (s : State) (e : Nat × Nat) :
    (State.applyReg s e).pending = s.pending ∧ (State.applyReg s e).otp.ident = s.otp.ident ∧ (State.applyReg s e).dram.cells = s.dram.cells := by
  simp [State.applyReg]

@[simp] theorem State.sanitiseMasks_kept (s : State) :
    (State.sanitiseMasks s).pending = s.pending ∧ (State.sanitiseMasks s).otp.ident = s.otp.ident ∧ (State.sanitiseMasks s).dram.cells = s.dram.cells := by
  simp [State.sanitiseMasks, apply_ite State.pending, apply_ite State.otp, apply_ite OtpSt.ident, apply_ite State.dram, apply_ite DramSt.cells]

@[simp] theorem State.loadTwin_kept (s : State) :
    (State.loadTwin s).pending = s.pending ∧ (State.loadTwin s).otp.ident = s.otp.ident ∧ (State.loadTwin s).dram.cells = s.dram.cells := by
  unfold State.loadTwin
  (try simp only [])
  (repeat' split) <;> simp

@[simp] theorem State.wakeTwin_kept (s : State) :
    (State.wakeTwin s).pending = s.pending ∧ (State.wakeTwin s).otp.ident = s.otp.ident ∧ (State.wakeTwin s).dram.cells = s.dram.cells := by
  simp [State.wakeTwin]

@[simp] theorem State.loadJournal_kept (s : State) :
    (State.loadJournal s).pending = s.pending ∧ (State.loadJournal s).otp.ident = s.otp.ident ∧ (State.loadJournal s).dram.cells = s.dram.cells := by
  simp [State.loadJournal]

@[simp] theorem State.ringReload_kept (s : State) :
    (State.ringReload s).pending = s.pending ∧ (State.ringReload s).otp.ident = s.otp.ident ∧ (State.ringReload s).dram.cells = s.dram.cells := by
  simp [State.ringReload, apply_ite State.pending, apply_ite State.otp, apply_ite OtpSt.ident, apply_ite State.dram, apply_ite DramSt.cells]

@[simp] theorem State.dmkApply_kept (s : State) (k : Nat) (c : DmkCopy) :
    (State.dmkApply s k c).pending = s.pending ∧ (State.dmkApply s k c).otp.ident = s.otp.ident ∧ (State.dmkApply s k c).dram.cells = s.dram.cells := by
  unfold State.dmkApply
  refine ⟨by simp, ?_, by simp⟩
  simp only [State.setFs_otp, State.sanitiseMasks_kept, foldl_ident, State.applyReg_kept, State.dropCl_kept, implies_true]
  rfl

@[simp] theorem State.trained_kept (s : State) :
    (State.trained s).pending = s.pending ∧ (State.trained s).otp.ident = s.otp.ident := by
  unfold State.trained
  (try simp only [])
  (repeat' split) <;> simp

@[simp] theorem State.rootLuns_kept (s : State) :
    (State.rootLuns s).pending = s.pending ∧ (State.rootLuns s).otp.ident = s.otp.ident ∧ (State.rootLuns s).dram.cells = s.dram.cells := by
  unfold State.rootLuns
  (try simp only [])
  (repeat' split) <;> simp

@[simp] theorem State.scanTakes_kept (s : State) :
    (State.scanTakes s).pending = s.pending ∧ (State.scanTakes s).otp.ident = s.otp.ident ∧ (State.scanTakes s).dram.cells = s.dram.cells := by
  unfold State.scanTakes
  (try simp only [])
  (repeat' split) <;> simp

@[simp] theorem State.emptyImage_kept (s : State) :
    (State.emptyImage s).pending = s.pending ∧ (State.emptyImage s).otp.ident = s.otp.ident := by
  simp [State.emptyImage]

@[simp] theorem State.unhold_kept (s : State) :
    (State.unhold s).pending = s.pending ∧ (State.unhold s).otp.ident = s.otp.ident ∧ (State.unhold s).dram.cells = s.dram.cells := by
  simp [State.unhold]

@[simp] theorem State.sanResume_kept (s : State) :
    (State.sanResume s).pending = s.pending ∧ (State.sanResume s).otp.ident = s.otp.ident := by
  simp [State.sanResume, apply_ite State.pending, apply_ite State.otp, apply_ite OtpSt.ident, apply_ite State.dram, apply_ite DramSt.cells]

@[simp] theorem State.deferCommit_kept (s : State) :
    (State.deferCommit s).pending = s.pending ∧ (State.deferCommit s).otp.ident = s.otp.ident ∧ (State.deferCommit s).dram.cells = s.dram.cells := by
  unfold State.deferCommit
  (try simp only [])
  (repeat' split) <;> simp

@[simp] theorem State.countOpen_kept (s : State) :
    (State.countOpen s).pending = s.pending ∧ (State.countOpen s).otp.ident = s.otp.ident := by
  simp [State.countOpen, apply_ite State.pending, apply_ite State.otp, apply_ite OtpSt.ident, apply_ite State.dram, apply_ite DramSt.cells]

@[simp] theorem State.resumeEpoch_kept (s : State) :
    (State.resumeEpoch s).pending = s.pending ∧ (State.resumeEpoch s).otp.ident = s.otp.ident ∧ (State.resumeEpoch s).dram.cells = s.dram.cells := by
  simp [State.resumeEpoch]

@[simp] theorem State.unpoison_kept (s : State) (g : Nat) :
    (State.unpoison s g).pending = s.pending ∧ (State.unpoison s g).otp.ident = s.otp.ident ∧ (State.unpoison s g).dram.cells = s.dram.cells := by
  simp [State.unpoison]

@[simp] theorem State.setLost_kept (s : State) (g : Nat) :
    (State.setLost s g).pending = s.pending ∧ (State.setLost s g).otp.ident = s.otp.ident := by
  simp [State.setLost]

@[simp] theorem State.setZero_kept (s : State) (g : Nat) :
    (State.setZero s g).pending = s.pending ∧ (State.setZero s g).otp.ident = s.otp.ident := by
  simp [State.setZero]

@[simp] theorem State.fillGran_kept (s : State) (g loc : Nat) (p : NPage) (bad : List Nat) :
    (State.fillGran s g loc p bad).pending = s.pending ∧ (State.fillGran s g loc p bad).otp.ident = s.otp.ident := by
  simp [State.fillGran]

@[simp] theorem State.fetch_kept (s : State) (g loc : Nat) (rd rd2 : NandRead) :
    (State.fetch s g loc rd rd2).pending = s.pending ∧ (State.fetch s g loc rd rd2).otp.ident = s.otp.ident := by
  unfold State.fetch
  (try simp only [])
  (repeat' split) <;> simp

@[simp] theorem State.adoptOpen_kept (s : State) :
    (State.adoptOpen s).pending = s.pending ∧ (State.adoptOpen s).otp.ident = s.otp.ident ∧ (State.adoptOpen s).dram.cells = s.dram.cells := by
  simp [State.adoptOpen]

@[simp] theorem State.lifeNow_kept (s : State) :
    (State.lifeNow s).pending = s.pending ∧ (State.lifeNow s).otp.ident = s.otp.ident ∧ (State.lifeNow s).dram.cells = s.dram.cells := by
  unfold State.lifeNow
  (try simp only [])
  (repeat' split) <;> simp

@[simp] theorem State.goLive_kept (s : State) :
    (State.goLive s).pending = s.pending ∧ (State.goLive s).otp.ident = s.otp.ident ∧ (State.goLive s).dram.cells = s.dram.cells := by
  simp [State.goLive, apply_ite State.pending, apply_ite State.otp, apply_ite OtpSt.ident, apply_ite State.dram, apply_ite DramSt.cells]

@[simp] theorem State.toRun_kept (s : State) :
    (State.toRun s).pending = s.pending ∧ (State.toRun s).otp.ident = s.otp.ident := by
  simp [State.toRun, apply_ite State.pending, apply_ite State.otp, apply_ite OtpSt.ident, apply_ite State.dram, apply_ite DramSt.cells]

@[simp] theorem State.applyEnt_kept (s : State) (e : MEnt) :
    (State.applyEnt s e).pending = s.pending ∧ (State.applyEnt s e).otp.ident = s.otp.ident := by
  unfold State.applyEnt
  split <;> simp

@[simp] theorem State.applyRange_kept (s0 : State) (ver : Nat) (s : State) (g : Nat) :
    (State.applyRange s0 ver s g).pending = s.pending ∧ (State.applyRange s0 ver s g).otp.ident = s.otp.ident := by
  unfold State.applyRange
  split <;> simp

@[simp] theorem State.applyMan_kept (s : State) :
    (State.applyMan s).pending = s.pending ∧ (State.applyMan s).otp.ident = s.otp.ident := by
  unfold State.applyMan
  (try simp only [])
  (repeat' split) <;> simp

@[simp] theorem State.applyManifest_kept (s : State) :
    (State.applyManifest s).pending = s.pending ∧ (State.applyManifest s).otp.ident = s.otp.ident := by
  simp [State.applyManifest, apply_ite State.pending, apply_ite State.otp, apply_ite OtpSt.ident, apply_ite State.dram, apply_ite DramSt.cells]

@[simp] theorem State.prepare_kept (s : State) :
    (State.prepare s).pending = s.pending ∧ (State.prepare s).otp.ident = s.otp.ident := by
  simp [State.prepare]

@[simp] theorem State.applySel_kept (s : State) :
    (State.applySel s).pending = s.pending ∧ (State.applySel s).otp.ident = s.otp.ident := by
  simp [State.applySel]

@[simp] theorem State.granDone_kept (s : State) (g : Nat) :
    (State.granDone s g).pending = s.pending ∧ (State.granDone s g).otp.ident = s.otp.ident ∧ (State.granDone s g).dram.cells = s.dram.cells := by
  simp [State.granDone, apply_ite State.pending, apply_ite State.otp, apply_ite OtpSt.ident, apply_ite State.dram, apply_ite DramSt.cells]

@[simp] theorem State.wentAhead_kept (s : State) (g : Nat) :
    (State.wentAhead s g).pending = s.pending ∧ (State.wentAhead s g).otp.ident = s.otp.ident ∧ (State.wentAhead s g).dram.cells = s.dram.cells := by
  unfold State.wentAhead
  (try simp only [])
  (repeat' split) <;> simp

@[simp] theorem State.refetch_kept (s : State) (g : Nat) (rd rd2 : NandRead) :
    (State.refetch s g rd rd2).pending = s.pending ∧ (State.refetch s g rd rd2).otp.ident = s.otp.ident := by
  unfold State.refetch
  (try simp only [])
  (repeat' split) <;> simp

@[simp] theorem State.sealAll_kept (s : State) :
    (State.sealAll s).pending = s.pending ∧ (State.sealAll s).otp.ident = s.otp.ident ∧ (State.sealAll s).dram.cells = s.dram.cells := by
  simp [State.sealAll]

@[simp] theorem State.logPoison_kept (s : State) :
    (State.logPoison s).pending = s.pending ∧ (State.logPoison s).otp.ident = s.otp.ident ∧ (State.logPoison s).dram.cells = s.dram.cells := by
  let f := fun (a : State) (g : Nat) => a.raise .keeper 0x2E .error (g % 2 ^ 23 + ((s.granPoison g).length - 1) * 2 ^ 23)
  exact ⟨foldl_pending f _ (fun _ _ => rfl) s, foldl_ident f _ (fun _ _ => rfl) s, foldl_cells f _ (fun _ _ => rfl) s⟩

@[simp] theorem State.closeRestore_kept (s : State) (fails : List Nat) :
    (State.closeRestore s fails).pending = s.pending ∧ (State.closeRestore s fails).otp.ident = s.otp.ident ∧ (State.closeRestore s fails).dram.cells = s.dram.cells := by
  simp [State.closeRestore]

@[simp] theorem State.dropStage_kept (s : State) :
    (State.dropStage s).pending = s.pending ∧ (State.dropStage s).otp.ident = s.otp.ident ∧ (State.dropStage s).dram.cells = s.dram.cells := by
  unfold State.dropStage
  (try simp only [])
  (repeat' split) <;> simp

@[simp] theorem State.dropUnacked_kept (s : State) :
    (State.dropUnacked s).pending = s.pending ∧ (State.dropUnacked s).otp.ident = s.otp.ident ∧ (State.dropUnacked s).dram.cells = s.dram.cells := by
  simp [State.dropUnacked, apply_ite State.pending, apply_ite State.otp, apply_ite OtpSt.ident, apply_ite State.dram, apply_ite DramSt.cells]

@[simp] theorem State.commitAcked_kept (s : State) :
    (State.commitAcked s).pending = s.pending ∧ (State.commitAcked s).otp.ident = s.otp.ident ∧ (State.commitAcked s).dram.cells = s.dram.cells := by
  simp [State.commitAcked]

@[simp] theorem State.splitStandby_kept (s : State) :
    (State.splitStandby s).pending = s.pending ∧ (State.splitStandby s).otp.ident = s.otp.ident ∧ (State.splitStandby s).dram.cells = s.dram.cells := by
  simp [State.splitStandby]

@[simp] theorem State.deadActive_kept (s : State) :
    (State.deadActive s).pending = s.pending ∧ (State.deadActive s).otp.ident = s.otp.ident ∧ (State.deadActive s).dram.cells = s.dram.cells := by
  simp [State.deadActive]

@[simp] theorem State.partnerIs_kept (s : State) (p : Nat) :
    (State.partnerIs s p).pending = s.pending ∧ (State.partnerIs s p).otp.ident = s.otp.ident ∧ (State.partnerIs s p).dram.cells = s.dram.cells := by
  simp [State.partnerIs, apply_ite State.pending, apply_ite State.otp, apply_ite OtpSt.ident, apply_ite State.dram, apply_ite DramSt.cells]

@[simp] theorem State.switchCancel_kept (s : State) :
    (State.switchCancel s).pending = s.pending ∧ (State.switchCancel s).otp.ident = s.otp.ident ∧ (State.switchCancel s).dram.cells = s.dram.cells := by
  simp [State.switchCancel, apply_ite State.pending, apply_ite State.otp, apply_ite OtpSt.ident, apply_ite State.dram, apply_ite DramSt.cells]

@[simp] theorem State.linkLost_kept (s : State) :
    (State.linkLost s).pending = s.pending ∧ (State.linkLost s).otp.ident = s.otp.ident ∧ (State.linkLost s).dram.cells = s.dram.cells := by
  simp [State.linkLost]

@[simp] theorem State.doRetrain_kept (s : State) :
    (State.doRetrain s).pending = s.pending ∧ (State.doRetrain s).otp.ident = s.otp.ident ∧ (State.doRetrain s).dram.cells = s.dram.cells := by
  simp [State.doRetrain, apply_ite State.pending, apply_ite State.otp, apply_ite OtpSt.ident, apply_ite State.dram, apply_ite DramSt.cells]

@[simp] theorem State.bellSilent_kept (s : State) :
    (State.bellSilent s).pending = s.pending ∧ (State.bellSilent s).otp.ident = s.otp.ident ∧ (State.bellSilent s).dram.cells = s.dram.cells := by
  unfold State.bellSilent
  (try simp only [])
  (repeat' split) <;> simp

@[simp] theorem State.startResync_kept (s : State) (kind : Nat) :
    (State.startResync s kind).pending = s.pending ∧ (State.startResync s kind).otp.ident = s.otp.ident ∧ (State.startResync s kind).dram.cells = s.dram.cells := by
  simp [State.startResync]

@[simp] theorem State.pastWsn_kept (s : State) (cum : Nat) :
    (State.pastWsn s cum).pending = s.pending ∧ (State.pastWsn s cum).otp.ident = s.otp.ident ∧ (State.pastWsn s cum).dram.cells = s.dram.cells := by
  unfold State.pastWsn
  (try simp only [])
  (repeat' split) <;> simp

@[simp] theorem State.frameStage_kept (s : State) (anew : Bool) :
    (State.frameStage s anew).pending = s.pending ∧ (State.frameStage s anew).otp.ident = s.otp.ident ∧ (State.frameStage s anew).dram.cells = s.dram.cells := by
  unfold State.frameStage
  (try simp only [])
  (repeat' split) <;> simp

@[simp] theorem State.helloLead_kept (s : State) (kind : Nat) (m : HelloMsg) :
    (State.helloLead s kind m).pending = s.pending ∧ (State.helloLead s kind m).otp.ident = s.otp.ident ∧ (State.helloLead s kind m).dram.cells = s.dram.cells := by
  simp [State.helloLead, apply_ite State.pending, apply_ite State.otp, apply_ite OtpSt.ident, apply_ite State.dram, apply_ite DramSt.cells]

@[simp] theorem State.helloActive_kept (s : State) (kind : Nat) (m : HelloMsg) :
    (State.helloActive s kind m).pending = s.pending ∧ (State.helloActive s kind m).otp.ident = s.otp.ident := by
  simp [State.helloActive, apply_ite State.pending, apply_ite State.otp, apply_ite OtpSt.ident, apply_ite State.dram, apply_ite DramSt.cells]

@[simp] theorem State.helloStandby_kept (s : State) (kind : Nat) (m : HelloMsg) :
    (State.helloStandby s kind m).pending = s.pending ∧ (State.helloStandby s kind m).otp.ident = s.otp.ident ∧ (State.helloStandby s kind m).dram.cells = s.dram.cells := by
  simp [State.helloStandby, apply_ite State.pending, apply_ite State.otp, apply_ite OtpSt.ident, apply_ite State.dram, apply_ite DramSt.cells]

@[simp] theorem State.holdDown_kept (s : State) :
    (State.holdDown s).pending = s.pending ∧ (State.holdDown s).otp.ident = s.otp.ident ∧ (State.holdDown s).dram.cells = s.dram.cells := by
  simp [State.holdDown]

@[simp] theorem State.outcomeMissed_kept (s : State) :
    (State.outcomeMissed s).pending = s.pending ∧ (State.outcomeMissed s).otp.ident = s.otp.ident ∧ (State.outcomeMissed s).dram.cells = s.dram.cells := by
  simp [State.outcomeMissed, apply_ite State.pending, apply_ite State.otp, apply_ite OtpSt.ident, apply_ite State.dram, apply_ite DramSt.cells]

@[simp] theorem State.wordBurrow_kept (s : State) (w : BitVec 64) :
    (State.wordBurrow s w).pending = s.pending ∧ (State.wordBurrow s w).otp.ident = s.otp.ident ∧ (State.wordBurrow s w).dram.cells = s.dram.cells := by
  simp [State.wordBurrow, apply_ite State.pending, apply_ite State.otp, apply_ite OtpSt.ident, apply_ite State.dram, apply_ite DramSt.cells]

@[simp] theorem State.applyWord_kept (s : State) (w : BitVec 64) :
    (State.applyWord s w).pending = s.pending ∧ (State.applyWord s w).otp.ident = s.otp.ident := by
  simp [State.applyWord, apply_ite State.pending, apply_ite State.otp, apply_ite OtpSt.ident, apply_ite State.dram, apply_ite DramSt.cells]

@[simp] theorem State.compareWord_kept (s : State) (own : BitVec 64) :
    (State.compareWord s own).pending = s.pending ∧ (State.compareWord s own).otp.ident = s.otp.ident ∧ (State.compareWord s own).dram.cells = s.dram.cells := by
  unfold State.compareWord
  (try simp only [])
  (repeat' split) <;> simp

@[simp] theorem State.shareSeq_kept (s : State) :
    (State.shareSeq s).pending = s.pending ∧ (State.shareSeq s).otp.ident = s.otp.ident ∧ (State.shareSeq s).dram.cells = s.dram.cells := by
  unfold State.shareSeq
  (try simp only [])
  (repeat' split) <;> simp

@[simp] theorem State.dropMirrored_kept (s : State) :
    (State.dropMirrored s).pending = s.pending ∧ (State.dropMirrored s).otp.ident = s.otp.ident ∧ (State.dropMirrored s).dram.cells = s.dram.cells := by
  unfold State.dropMirrored
  (try simp only [])
  (repeat' split) <;> simp

@[simp] theorem State.settle_kept (s : State) (completed : Bool) :
    (State.settle s completed).pending = s.pending ∧ (State.settle s completed).otp.ident = s.otp.ident ∧ (State.settle s completed).dram.cells = s.dram.cells := by
  unfold State.settle
  (try simp only [])
  (repeat' split) <;> simp

@[simp] theorem State.takeOver_kept (s : State) (cum : Nat) :
    (State.takeOver s cum).pending = s.pending ∧ (State.takeOver s cum).otp.ident = s.otp.ident ∧ (State.takeOver s cum).dram.cells = s.dram.cells := by
  simp [State.takeOver]

@[simp] theorem State.switchStart_kept (s : State) :
    (State.switchStart s).pending = s.pending ∧ (State.switchStart s).otp.ident = s.otp.ident ∧ (State.switchStart s).dram.cells = s.dram.cells := by
  simp [State.switchStart]

@[simp] theorem State.promote_kept (s : State) (epoch : Nat) (forced : Bool) :
    (State.promote s epoch forced).pending = s.pending ∧ (State.promote s epoch forced).otp.ident = s.otp.ident ∧ (State.promote s epoch forced).dram.cells = s.dram.cells := by
  simp [State.promote]

@[simp] theorem State.twinReply_kept (s : State) :
    (State.twinReply s).pending = s.pending ∧ (State.twinReply s).otp.ident = s.otp.ident ∧ (State.twinReply s).dram.cells = s.dram.cells := by
  simp [State.twinReply]

@[simp] theorem State.switchBusy_kept (s : State) :
    (State.switchBusy s).pending = s.pending ∧ (State.switchBusy s).otp.ident = s.otp.ident ∧ (State.switchBusy s).dram.cells = s.dram.cells := by
  simp [State.switchBusy]

@[simp] theorem State.doRsyFull_kept (s : State) :
    (State.doRsyFull s).pending = s.pending ∧ (State.doRsyFull s).otp.ident = s.otp.ident ∧ (State.doRsyFull s).dram.cells = s.dram.cells := by
  simp [State.doRsyFull, apply_ite State.pending, apply_ite State.otp, apply_ite OtpSt.ident, apply_ite State.dram, apply_ite DramSt.cells]

@[simp] theorem State.vioRead_kept (s : State) (mv : Nat) :
    (State.vioRead s mv).pending = s.pending ∧ (State.vioRead s mv).otp.ident = s.otp.ident ∧ (State.vioRead s mv).dram.cells = s.dram.cells := by
  unfold State.vioRead
  (try simp only [])
  (repeat' split) <;> simp

@[simp] theorem State.capture_kept (s : State) (p : Path) (off : Nat) :
    (State.capture s p off).pending = s.pending ∧ (State.capture s p off).otp.ident = s.otp.ident ∧ (State.capture s p off).dram.cells = s.dram.cells := by
  simp [State.capture, apply_ite State.pending, apply_ite State.otp, apply_ite OtpSt.ident, apply_ite State.dram, apply_ite DramSt.cells]

@[simp] theorem State.readEffect_kept (s : State) (p : Path) (off a b : Nat) :
    (State.readEffect s p off a b).pending = s.pending ∧ (State.readEffect s p off a b).otp.ident = s.otp.ident ∧ (State.readEffect s p off a b).dram.cells = s.dram.cells := by
  simp [State.readEffect, apply_ite State.pending, apply_ite State.otp, apply_ite OtpSt.ident, apply_ite State.dram, apply_ite DramSt.cells]

@[simp] theorem readWord_kept (p : Path) (off size i : Nat) (acc : State × Nat) :
    (readWord p off size i acc).1.pending = acc.1.pending ∧ (readWord p off size i acc).1.otp.ident = acc.1.otp.ident
      ∧ (readWord p off size i acc).1.dram.cells = acc.1.dram.cells := by
  simp only [readWord]
  split <;> simp

@[simp] theorem State.regRead_kept (s : State) (p : Path) (off size : Nat) :
    (State.regRead s p off size).pending = s.pending ∧ (State.regRead s p off size).otp.ident = s.otp.ident ∧ (State.regRead s p off size).dram.cells = s.dram.cells := by
  simp [State.regRead, List.range_succ]

@[simp] theorem State.putCl_kept (s : State) (f : Fld) (v : Nat) :
    (State.putCl s f v).pending = s.pending ∧ (State.putCl s f v).otp.ident = s.otp.ident ∧ (State.putCl s f v).dram.cells = s.dram.cells := by
  simp [State.putCl, apply_ite State.pending, apply_ite State.otp, apply_ite OtpSt.ident, apply_ite State.dram, apply_ite DramSt.cells]

@[simp] theorem State.setCl_kept (s : State) (off v : Nat) :
    (State.setCl s off v).pending = s.pending ∧ (State.setCl s off v).otp.ident = s.otp.ident ∧ (State.setCl s off v).dram.cells = s.dram.cells := by
  simp [State.setCl, apply_ite State.pending, apply_ite State.otp, apply_ite OtpSt.ident, apply_ite State.dram, apply_ite DramSt.cells]

@[simp] theorem State.writeCl_kept (s : State) (off v : Nat) :
    (State.writeCl s off v).pending = s.pending ∧ (State.writeCl s off v).otp.ident = s.otp.ident ∧ (State.writeCl s off v).dram.cells = s.dram.cells := by
  simp [State.writeCl, apply_ite State.pending, apply_ite State.otp, apply_ite OtpSt.ident, apply_ite State.dram, apply_ite DramSt.cells]

@[simp] theorem State.onBit_cells (s : State) (v bit : Nat) (f : State → State) (h : ∀ a, (f a).dram.cells = a.dram.cells) :
    (s.onBit v bit f).dram.cells = s.dram.cells := by
  unfold State.onBit
  split <;> simp [h]

@[simp] theorem State.onBit_pending (s : State) (v bit : Nat) (f : State → State) (h : ∀ a, (f a).pending = a.pending) :
    (s.onBit v bit f).pending = s.pending := by
  unfold State.onBit
  split <;> simp [h]

@[simp] theorem State.onBit_ident (s : State) (v bit : Nat) (f : State → State) (h : ∀ a, (f a).otp.ident = a.otp.ident) :
    (s.onBit v bit f).otp.ident = s.otp.ident := by
  unfold State.onBit
  split <;> simp [h]

@[simp] theorem State.efCmd_kept (s : State) (p : Path) (code : Nat) :
    (State.efCmd s p code).pending = s.pending ∧ (State.efCmd s p code).otp.ident = s.otp.ident ∧ (State.efCmd s p code).dram.cells = s.dram.cells := by
  unfold State.efCmd
  split <;> simp

@[simp] theorem State.writeKeeper_kept (s : State) (p : Path) (off v : Nat) :
    (State.writeKeeper s p off v).pending = s.pending ∧ (State.writeKeeper s p off v).otp.ident = s.otp.ident ∧ (State.writeKeeper s p off v).dram.cells = s.dram.cells := by
  simp [State.writeKeeper, apply_ite State.pending, apply_ite State.otp, apply_ite OtpSt.ident, apply_ite State.dram, apply_ite DramSt.cells]

@[simp] theorem State.writeAct_kept (s : State) (p : Path) (off v : Nat) :
    (State.writeAct s p off v).pending = s.pending ∧ (State.writeAct s p off v).otp.ident = s.otp.ident := by
  unfold State.writeAct
  (try simp only [])
  (repeat' split) <;> simp [apply_ite State.pending, apply_ite State.otp, apply_ite OtpSt.ident, apply_ite State.dram, apply_ite DramSt.cells]

@[simp] theorem State.wordWrite_kept (s : State) (p : Path) (off v : Nat) :
    (State.wordWrite s p off v).pending = s.pending ∧ (State.wordWrite s p off v).otp.ident = s.otp.ident := by
  simp [State.wordWrite, apply_ite State.pending, apply_ite State.otp, apply_ite OtpSt.ident, apply_ite State.dram, apply_ite DramSt.cells]

@[simp] theorem State.narrowWrite_kept (s : State) (p : Path) (off : Nat) :
    (State.narrowWrite s p off).pending = s.pending ∧ (State.narrowWrite s p off).otp.ident = s.otp.ident ∧ (State.narrowWrite s p off).dram.cells = s.dram.cells := by
  cases p
  · simp [State.narrowWrite]
  · unfold State.narrowWrite
    simp only []
    split <;> simp

@[simp] theorem State.idleTick_kept (s : State) :
    (State.idleTick s).pending = s.pending ∧ (State.idleTick s).otp.ident = s.otp.ident ∧ (State.idleTick s).dram.cells = s.dram.cells := by
  simp [State.idleTick]

end Sys2Proof.Machine
end

