-- ==== Sys2Proof/Laws/Wf.lean ====
section
/-! SUPPORT. The operations that store to the cache DRAM keep its canonical form. -/

set_option linter.unusedSimpArgs false
set_option linter.unusedTactic false
set_option linter.unnecessarySeqFocus false
set_option linter.unusedVariables false

namespace Sys2Proof.Machine

theorem foldl_wf {α : Type} (f : State → α → State) (l : List α)
    (h : ∀ a x, Memory.wf a.dram.cells = true → Memory.wf (f a x).dram.cells = true) (s : State) (hs : Memory.wf s.dram.cells = true) :
    Memory.wf (l.foldl f s).dram.cells = true := by
  induction l generalizing s with
  | nil => exact hs
  | cons x t ih => exact ih _ (h _ _ hs)

theorem State.image_wf (s : State) (h : Memory.wf s.dram.cells = true) : Memory.wf s.image = true :=
  Memory.wf_foldl _ _ (fun m _ hm => Memory.wf_putLine m _ _ _ hm) _ h

theorem clearGran_wf (m : List Host.Cell) (g : Nat) (h : Memory.wf m = true) : Memory.wf (clearGran m g) = true :=
  Memory.wf_filter m _ h

@[simp] theorem State.zeroStaging_wf (s : State) (hs : Memory.wf s.dram.cells = true) :
    Memory.wf (State.zeroStaging s).dram.cells = true := Memory.wf_filter _ _ hs

@[simp] theorem State.fence_wf (s : State) (hs : Memory.wf s.dram.cells = true) :
    Memory.wf (State.fence s).dram.cells = true := by
  unfold State.fence
  (try simp only [])
  (repeat' split) <;> simp [hs]

@[simp] theorem State.abandonEnd_wf (s : State) (hs : Memory.wf s.dram.cells = true) :
    Memory.wf (State.abandonEnd s).dram.cells = true := by
  unfold State.abandonEnd
  (try simp only [])
  (repeat' split) <;> simp [hs]

@[simp] theorem State.sanitizeOwn_wf (s : State) (hs : Memory.wf s.dram.cells = true) :
    Memory.wf (State.sanitizeOwn s).dram.cells = true := by
  simp [State.sanitizeOwn]

@[simp] theorem State.dropDram_wf (s : State) (hs : Memory.wf s.dram.cells = true) :
    Memory.wf (State.dropDram s).dram.cells = true := by
  simp [State.dropDram]

@[simp] theorem State.offBase_wf (s : State) (hs : Memory.wf s.dram.cells = true) :
    Memory.wf (State.offBase s).dram.cells = true := by
  simp [State.offBase, hs]

@[simp] theorem State.reachOff_wf (s : State) (hs : Memory.wf s.dram.cells = true) :
    Memory.wf (State.reachOff s).dram.cells = true := by
  unfold State.reachOff
  (try simp only [])
  (repeat' split) <;> simp [hs]

@[simp] theorem State.denTurned_wf (s : State) (hs : Memory.wf s.dram.cells = true) :
    Memory.wf (State.denTurned s).dram.cells = true := by
  unfold State.denTurned
  (try simp only [])
  (repeat' split) <;> simp [hs]

@[simp] theorem State.downAgain_wf (s : State) (hs : Memory.wf s.dram.cells = true) :
    Memory.wf (State.downAgain s).dram.cells = true := by
  unfold State.downAgain
  (try simp only [])
  (repeat' split) <;> simp [hs]

@[simp] theorem State.downLand_wf (s : State) (hs : Memory.wf s.dram.cells = true) :
    Memory.wf (State.downLand s).dram.cells = true := by
  unfold State.downLand
  (try simp only [])
  (repeat' split) <;> simp [hs]

@[simp] theorem State.afterShed3_wf (s : State) (hs : Memory.wf s.dram.cells = true) :
    Memory.wf (State.afterShed3 s).dram.cells = true := by
  unfold State.afterShed3
  (try simp only [])
  (repeat' split) <;> simp [hs]

@[simp] theorem State.seqCheck_wf (s : State) (hs : Memory.wf s.dram.cells = true) :
    Memory.wf (State.seqCheck s).dram.cells = true := by
  unfold State.seqCheck
  (try simp only [])
  (repeat' split) <;> simp [hs]

@[simp] theorem State.goDown_wf (s : State) (target : Nat) (hs : Memory.wf s.dram.cells = true) :
    Memory.wf (State.goDown s target).dram.cells = true := by
  simp [State.goDown, hs]

@[simp] theorem State.vinLost_wf (s : State) (hs : Memory.wf s.dram.cells = true) :
    Memory.wf (State.vinLost s).dram.cells = true := by
  unfold State.vinLost
  split
  · exact hs
  · split
    · split <;> simp [hs]
    · simp [hs]

@[simp] theorem State.denDrop_wf (s : State) (cause : Nat) (hs : Memory.wf s.dram.cells = true) :
    Memory.wf (State.denDrop s cause).dram.cells = true := by
  unfold State.denDrop
  (try simp only [])
  (repeat' split) <;> simp [hs]

@[simp] theorem State.critFault_wf (s : State) (n : Nat) (hs : Memory.wf s.dram.cells = true) :
    Memory.wf (State.critFault s n).dram.cells = true := by
  unfold State.critFault
  (try simp only [])
  (repeat' split) <;> simp [hs]

@[simp] theorem State.critDeps_wf (s : State) (l : List Nat) (kind : Nat) (hs : Memory.wf s.dram.cells = true) :
    Memory.wf (State.critDeps s l kind).dram.cells = true := by
  unfold State.critDeps
  (try simp only [])
  split <;> simp [hs]

@[simp] theorem State.leaveOff_wf (s : State) (n : Nat) (hs : Memory.wf s.dram.cells = true) :
    Memory.wf (State.leaveOff s n).dram.cells = true := by
  simp [State.leaveOff, hs]

@[simp] theorem State.failUp_wf (s : State) (n : Nat) (final : Bool) (hs : Memory.wf s.dram.cells = true) :
    Memory.wf (State.failUp s n final).dram.cells = true := by
  unfold State.failUp
  (try simp only [])
  (repeat' split) <;> simp [hs]

@[simp] theorem State.failDown_wf (s : State) (n : Nat) (hs : Memory.wf s.dram.cells = true) :
    Memory.wf (State.failDown s n).dram.cells = true := by
  simp [State.failDown, hs]

@[simp] theorem State.brokenFail_wf (s : State) (hs : Memory.wf s.dram.cells = true) :
    Memory.wf (State.brokenFail s).dram.cells = true := by
  simp only [State.brokenFail, State.setEnts_kept]
  exact foldl_wf _ _ (fun a n ha => by simp [ha]) _ hs

@[simp] theorem State.beginUp_wf (s : State) (hs : Memory.wf s.dram.cells = true) :
    Memory.wf (State.beginUp s).dram.cells = true := by
  simp [State.beginUp, hs]

@[simp] theorem State.riseEnt_wf (s : State) (n : Nat) (hs : Memory.wf s.dram.cells = true) :
    Memory.wf (State.riseEnt s n).dram.cells = true := by
  unfold State.riseEnt
  split <;> simp [hs]

@[simp] theorem State.localFault_wf (s : State) (n kind : Nat) (hs : Memory.wf s.dram.cells = true) :
    Memory.wf (State.localFault s n kind).dram.cells = true := by
  simp only [State.localFault, State.nandLost_kept]
  split
  · simp [hs]
  · split <;> simp [hs]

@[simp] theorem State.gotPg_wf (s : State) (n : Nat) (hs : Memory.wf s.dram.cells = true) :
    Memory.wf (State.gotPg s n).dram.cells = true := by
  unfold State.gotPg
  (try simp only [])
  (repeat' split) <;> simp [hs]

@[simp] theorem State.slaveLost_wf (s : State) (m : Nat) (hs : Memory.wf s.dram.cells = true) :
    Memory.wf (State.slaveLost s m).dram.cells = true := by
  simp only [State.slaveLost, State.awayPower_kept]
  refine foldl_wf _ _ (fun a n ha => ?_) _ (by simp [hs])
  split
  · simp [ha]
  · split <;> simp [ha]

@[simp] theorem State.pgSeen_wf (s : State) (n : Nat) (up : Bool) (hs : Memory.wf s.dram.cells = true) :
    Memory.wf (State.pgSeen s n up).dram.cells = true := by
  unfold State.pgSeen
  (repeat' split) <;> simp [hs]

@[simp] theorem State.pgAll_wf (s : State) (m pg : Nat) (hs : Memory.wf s.dram.cells = true) :
    Memory.wf (State.pgAll s m pg).dram.cells = true := by
  exact foldl_wf _ _ (fun a n ha => by simp [ha]) _ hs

@[simp] theorem State.oneFault_wf (s : State) (st n : Nat) (kind : FaultKind) (hs : Memory.wf s.dram.cells = true) :
    Memory.wf (State.oneFault s st n kind).dram.cells = true := by
  unfold State.oneFault
  split
  · simp [hs]
  · split
    · exact hs
    · simp only []
      split <;> simp [hs]

@[simp] theorem State.doRearm_wf (s : State) (n : Nat) (hs : Memory.wf s.dram.cells = true) :
    Memory.wf (State.doRearm s n).dram.cells = true := by
  unfold State.doRearm
  split
  · simp only []
    split <;> simp [hs]
  · exact hs

@[simp] theorem State.spmiResult_wf (s : State) (q : SpmiCmd) (result : Nat) (hs : Memory.wf s.dram.cells = true) :
    Memory.wf (State.spmiResult s q result).dram.cells = true := by
  unfold State.spmiResult
  split
  · exact hs
  · split
    · split
      · split <;> simp [hs]
      · exact hs
    · exact hs

@[simp] theorem State.storeLoss_wf (s : State) (kind : Nat) (hs : Memory.wf s.dram.cells = true) :
    Memory.wf (State.storeLoss s kind).dram.cells = true := by
  unfold State.storeLoss
  (try simp only [])
  (repeat' split) <;> simp [hs]

@[simp] theorem State.dark_wf (s : State) (hs : Memory.wf s.dram.cells = true) :
    Memory.wf (State.dark s).dram.cells = true := by
  rfl

@[simp] theorem State.vinGone_wf (s : State) (hs : Memory.wf s.dram.cells = true) :
    Memory.wf (State.vinGone s).dram.cells = true := by
  unfold State.vinGone
  split
  · simp [hs]
  · split <;> simp [hs]
  · exact hs

@[simp] theorem State.shed_wf (s : State) (k : Nat) (hs : Memory.wf s.dram.cells = true) :
    Memory.wf (State.shed s k).dram.cells = true := by
  unfold State.shed
  (try simp only [])
  (repeat' split) <;> simp [hs]

@[simp] theorem State.orderlyStop_wf (s : State) (hs : Memory.wf s.dram.cells = true) :
    Memory.wf (State.orderlyStop s).dram.cells = true := by
  unfold State.orderlyStop
  (try simp only [])
  (repeat' split) <;> simp [hs]

@[simp] theorem State.column_wf (s : State) (k nowNs : Nat) (q : DramQ) (ap : Bool) (hs : Memory.wf s.dram.cells = true) :
    Memory.wf (State.column s k nowNs q ap).dram.cells = true := by
  unfold State.column
  (try simp only [])
  split
  · split
    · simpa using Memory.wf_putLine _ _ _ _ hs
    · simpa using hs
  · simp [hs]

@[simp] theorem State.columns_wf (k nowNs : Nat) (l : List DramQ) (s : State) (hs : Memory.wf s.dram.cells = true) :
    Memory.wf (State.columns k nowNs l s).dram.cells = true := by
  induction l generalizing s with
  | nil => exact hs
  | cons q t ih => exact ih _ (State.column_wf s k nowNs q _ hs)

@[simp] theorem State.serveGroup_wf (s : State) (ch sub nowNs : Nat) (r : DramQ) (hs : Memory.wf s.dram.cells = true) :
    Memory.wf (State.serveGroup s ch sub nowNs r).dram.cells = true := by
  unfold State.serveGroup
  (try simp only [])
  (repeat' split) <;> simp [hs]

@[simp] theorem State.scheduleOne_wf (s : State) (ch sub nowNs : Nat) (ready : List Nat) (hs : Memory.wf s.dram.cells = true) :
    Memory.wf (State.scheduleOne s ch sub nowNs ready).dram.cells = true := by
  unfold State.scheduleOne
  (try simp only [])
  (repeat' split) <;> simp [hs]

@[simp] theorem State.cycle_wf (s : State) (ch sub nowNs : Nat) (ready : List Nat) (hs : Memory.wf s.dram.cells = true) :
    Memory.wf (State.cycle s ch sub nowNs ready).dram.cells = true := by
  unfold State.cycle
  (try simp only [])
  (repeat' split) <;> simp [hs]

@[simp] theorem State.dmkLockout_wf (s : State) (code : Nat) (hs : Memory.wf s.dram.cells = true) :
    Memory.wf (State.dmkLockout s code).dram.cells = true := by
  simp [State.dmkLockout, hs]

@[simp] theorem State.emptyImage_wf (s : State) (hs : Memory.wf s.dram.cells = true) :
    Memory.wf (State.emptyImage s).dram.cells = true := by
  simp [State.emptyImage, hs]

@[simp] theorem State.sanResume_wf (s : State) (hs : Memory.wf s.dram.cells = true) :
    Memory.wf (State.sanResume s).dram.cells = true := by
  unfold State.sanResume
  split <;> simp [hs]

@[simp] theorem State.countOpen_wf (s : State) (hs : Memory.wf s.dram.cells = true) :
    Memory.wf (State.countOpen s).dram.cells = true := by
  unfold State.countOpen
  (try simp only [])
  (repeat' split) <;> simp [hs]

@[simp] theorem State.setLost_wf (s : State) (g : Nat) (hs : Memory.wf s.dram.cells = true) :
    Memory.wf (State.setLost s g).dram.cells = true := by
  exact clearGran_wf _ _ hs

@[simp] theorem State.setZero_wf (s : State) (g : Nat) (hs : Memory.wf s.dram.cells = true) :
    Memory.wf (State.setZero s g).dram.cells = true := by
  exact clearGran_wf _ _ hs

@[simp] theorem State.fillGran_wf (s : State) (g loc : Nat) (p : NPage) (bad : List Nat) (hs : Memory.wf s.dram.cells = true) :
    Memory.wf (State.fillGran s g loc p bad).dram.cells = true := by
  exact Memory.wf_foldl _ _ (fun m _ hm => Memory.wf_putByte m _ _ hm) _ (clearGran_wf _ _ hs)

@[simp] theorem State.fetch_wf (s : State) (g loc : Nat) (rd rd2 : NandRead) (hs : Memory.wf s.dram.cells = true) :
    Memory.wf (State.fetch s g loc rd rd2).dram.cells = true := by
  unfold State.fetch
  (try simp only [])
  (repeat' split) <;> simp [hs]

@[simp] theorem State.applyEnt_wf (s : State) (e : MEnt) (hs : Memory.wf s.dram.cells = true) :
    Memory.wf (State.applyEnt s e).dram.cells = true := by
  unfold State.applyEnt
  split <;> simp [hs]

@[simp] theorem State.applyRange_wf (s0 : State) (ver : Nat) (s : State) (g : Nat) (hs : Memory.wf s.dram.cells = true) :
    Memory.wf (State.applyRange s0 ver s g).dram.cells = true := by
  unfold State.applyRange
  split <;> simp [hs]

@[simp] theorem State.applyMan_wf (s : State) (hs : Memory.wf s.dram.cells = true) :
    Memory.wf (State.applyMan s).dram.cells = true := by
  unfold State.applyMan
  (try simp only [])
  split
  · exact foldl_wf _ _ (fun a e ha => State.applyEnt_wf a e ha) _ hs
  · exact foldl_wf _ _ (fun a g ha => by simp [ha]) _ (foldl_wf _ _ (fun a e ha => State.applyEnt_wf a e ha) _ hs)

@[simp] theorem State.applyManifest_wf (s : State) (hs : Memory.wf s.dram.cells = true) :
    Memory.wf (State.applyManifest s).dram.cells = true := by
  exact State.applyMan_wf s hs

@[simp] theorem State.prepare_wf (s : State) (hs : Memory.wf s.dram.cells = true) :
    Memory.wf (State.prepare s).dram.cells = true := by
  simp [State.prepare, hs]

@[simp] theorem State.applySel_wf (s : State) (hs : Memory.wf s.dram.cells = true) :
    Memory.wf (State.applySel s).dram.cells = true := by
  simp [State.applySel, hs]

@[simp] theorem State.refetch_wf (s : State) (g : Nat) (rd rd2 : NandRead) (hs : Memory.wf s.dram.cells = true) :
    Memory.wf (State.refetch s g rd rd2).dram.cells = true := by
  unfold State.refetch
  (try simp only [])
  (repeat' split) <;> simp [hs]

@[simp] theorem State.applyWord_wf (s : State) (w : BitVec 64) (hs : Memory.wf s.dram.cells = true) :
    Memory.wf (State.applyWord s w).dram.cells = true := by
  unfold State.applyWord
  simp only [State.accEval_kept, State.setFs_dram]
  refine foldl_wf _ _ (fun a k ha => ?_) _ ?_
  · split <;> simp [ha]
  · split <;> simp [hs]

@[simp] theorem State.trained_wf (s : State) (hs : Memory.wf s.dram.cells = true) :
    Memory.wf (State.trained s).dram.cells = true := by
  unfold State.trained
  (try simp only [])
  (repeat' split) <;> simp [hs]

@[simp] theorem State.helloActive_wf (s : State) (kind : Nat) (m : HelloMsg) (hs : Memory.wf s.dram.cells = true) :
    Memory.wf (State.helloActive s kind m).dram.cells = true := by
  unfold State.helloActive
  (try simp only [])
  split <;> simp [hs]

@[simp] theorem State.toRun_wf (s : State) (hs : Memory.wf s.dram.cells = true) :
    Memory.wf (State.toRun s).dram.cells = true := by
  simp only [State.toRun, State.goLive_kept]
  refine State.zeroStaging_wf _ ?_
  split <;> simp [hs]

end Sys2Proof.Machine
end

