-- ==== Sys2Proof/Tests/Slice0.lean ====
section
/-! SUPPORT. Tests of the model: ill-formed commands, and for each statement states and operands that meet its hypotheses. -/

namespace Sys2Proof.Tests

open Sys2Proof.Machine

set_option maxRecDepth 20000

/-- One ill-formed command for each check of WellFormed. -/
theorem test_ill_formed :
    (Instr.memRd 65536 0).wf = false ∧ (Instr.memRd 0 (2 ^ 46)).wf = false ∧ (Instr.mirrorWrite (2 ^ 23)).wf = false ∧
    (Instr.rcRead .cxl 65536 4).wf = false ∧ (Instr.rcRead .cxl 0 9).wf = false ∧ (Instr.shedStep 4).wf = false ∧
    (Instr.programConfirm 256).wf = false ∧ (Instr.lunNotReady 64).wf = false ∧ (Instr.entryOff 12).wf = false ∧
    (Instr.railFault 24 .uv).wf = false ∧ (Instr.spmiAckTimeout 8).wf = false ∧ (Instr.hwCut 11).wf = false ∧
    (Instr.refresh 2 0 0).wf = false ∧ (Instr.refresh 0 0 2).wf = false ∧ (Instr.patrolScrub 2 none).wf = false ∧
    (Instr.dramReadDone .scrub 0 ⟨[80], none⟩).wf = false ∧ (Instr.thermalSweep []).wf = false ∧ (Instr.adcScan [] []).wf = false ∧
    (Instr.setEventInterruptPolicy [0]).wf = false ∧ (Instr.linkUp 16 0 0).wf = false ∧ (Instr.pgPoll 23 0).wf = false ∧
    (Instr.wordProgramDone 0 true).wf = false ∧ (Instr.eventRaise .keeper 256 .info 0).wf = false ∧
    (Instr.fitBlWrite .cxl 0x0010 0).wf = false ∧ (Instr.populationWrite .cxl 0x4004 0).wf = false ∧
    (Instr.mooringLinkUp 16).wf = false ∧ (Instr.fenceFrame 0 1024).wf = false ∧ (Instr.unsupportedCommand 65536).wf = false := by decide

/-- The table gives no row bits: no word spells a command. -/
theorem test_no_word : decodeTableWord 16 0x1234 = none := by decide

/-- A state with register fields set. -/
def fx (l : List (Fld × Nat)) (s : State) : State := s.setFs l

/-- A device in RUN with its media ready and its host link up. -/
def sRun : State := fx [(Reg.HL_STATUS_LINK_UP, 1), (Reg.HL_STATUS_CREDITS_OPEN, 1), (Reg.MD_STATUS_MEDIA_READY, 1),
  (Reg.PS_STATUS_VIN_RET, 1)] { State.reset with mode := .run, host := { HostSt.reset with reqCredits := 128 } }

/-- A device in a phase of a burrow. -/
def sBur (p : Phase) : State := { sRun with mode := .burrow, phase := p }

/-- The hypotheses of StepRunsFront, StepKeepsDramForm and ExecKeepsIdentity are met at reset. -/
theorem test_meets_step : State.reset.pending = [] ∧ State.reset.dramWf = true ∧ step State.reset = .next State.reset.idleTick ∧
    exec .sequencerTick State.reset = exec .sequencerTick State.reset := ⟨rfl, rfl, rfl, rfl⟩

/-- RUN with enough energy and erased pages for one more dirty granule. -/
def sCover : State := { sRun with cover := { CoverSt.reset with eLimit := 1000, eg := 10 }, nand := { NandSt.reset with pErased := 66 } }

theorem test_meets_write : sCover.mayArrive 0 = true ∧ sCover.pathOpen = true ∧ sCover.host.stage = none ∧ sCover.host.ingress = [] ∧
    sCover.headWaits ⟨1, 0, true, beAll, 0, 0, false, 0⟩ = false ∧ sCover.ledgerOf (granOf 0) = .clean ∧ sCover.cover.doubtWriter = false ∧
    sCover.energyOk = true ∧ sCover.landOk = true ∧ sCover.bur.regroup = false ∧
    ({ sCover with mode := .burrow } : State).mayArrive 0 = true ∧ ({ sCover with mode := .burrow } : State).pathOpen = false ∧
    ({ sCover with mode := .burrow } : State).mirrorOpen = false ∧ sCover.bufFull 0 = false ∧
    ({ sCover with dram := { DramSt.reset with wbuf := List.replicate 128 ⟨0, beAll, 0, false, none, false⟩ } } : State).bufFull 0 = true := by decide

def wr0 : Wr := ⟨1, 0, true, beAll, 5, 0, false, 0⟩

theorem test_meets_ndr (s : State) (h : s = { sCover with host := { sCover.host with staged := [wr0] } }) : s.mayCommit = true ∧
    s.lineFailed wr0.line = false ∧ s.acked wr0.wsn = true ∧ s.isStandby = false ∧ s.host.ingress = [] ∧ s.host.stage = none ∧ s.twin.switching = false := by
  subst h; decide

theorem test_meets_cwait (s : State) (h : s = { sCover with host := { sCover.host with stage := some ⟨wr0, .cwait⟩ } }) : s.pathOpen = true ∧
    s.lineFailed wr0.line = false ∧ s.ledgerOf (granOf wr0.line) = .clean ∧ s.cover.doubtWriter = false ∧ s.energyOk = true ∧ s.landOk = true ∧ s.host.ingress = [] ∧
    s.bufFull wr0.line = false ∧ (({ s with nand := NandSt.reset } : State).ledgerTake (granOf wr0.line)).isNone = true := by
  subst h; decide

theorem test_meets_wt (s : State) (h : s = { sCover with host := { sCover.host with stage := some ⟨wr0, .wtBusy 0⟩ }, bur := { BurrowSt.reset with ctx := [(0, { Ctx.idle with st := .check, kind := .wt })] } }) : s.isStandby = false ∧
    (s.ctxOf 0).st = .check ∧ (s.ctxOf 0).kind = .wt ∧ s.host.staged = [] ∧ s.mayCommit = true ∧ s.lineFailed wr0.line = false ∧
    s.acked wr0.wsn = true ∧ s.bufFull wr0.line = false ∧ s.bur.fenced = false ∧ s.host.ingress = [] ∧ s.twin.switching = false := by
  subst h; decide

theorem test_meets_read : sRun.getB Reg.HL_STATUS_LINK_UP = true ∧ sRun.getB Reg.HL_STATUS_CREDITS_OPEN = true ∧ 0 < sRun.host.reqCredits ∧
    0 < sRun.nLines ∧ sRun.getB Reg.MD_STATUS_LRST_ACT = false ∧ sRun.readBlocked ⟨1, 0, 0, none, false⟩ = false ∧
    ({ sRun with dram := { DramSt.reset with poison := [(0, 2)] } } : State).poisoned 0 = true ∧
    ({ sRun with bur := { BurrowSt.reset with fenced := true } } : State).bur.fenced = true ∧
    ({ sRun with host := { sRun.host with reads := [⟨1, 0, 0, some (0, false), true⟩] } } : State).host.reads =
      [] ++ ⟨1, 0, 0, some (0, false), true⟩ :: [] ∧ sRun.bur.fenced = false := by decide

theorem test_meets_link (s : State) (h : s = fx [(Reg.PS_DOM_PD, 1)] { State.reset with mode := .wake }) : s.mode ≠ .off ∧ s.mode ≠ .den ∧
    s.pd 0 = true ∧ s.pins.perstN = true ∧ s.rail.vioOk = true ∧ s.getB Reg.HL_STATUS_LINK_UP = false ∧ s.getB Reg.MD_STATUS_LRST_ACT = false ∧ s.written = [] ∧
    s.getF Reg.HL_CFG_MAX_WIDTH ∈ [1, 2, 4, 8] ∧ s.getF Reg.HL_CFG_MAX_SPEED ∈ [1, 2, 3, 4, 5] ∧ s.mediaReady = false ∧
    (fx [(Reg.MD_STATUS_MEDIA_READY, 1)] s).mediaReady = true ∧ s.isStandby = false ∧ s.bur.fenced = false ∧ s.host.sanitize = 0 ∧
    s.twin.switching = false := by
  subst h; decide

theorem test_meets_link_modes : State.reset.mode = .off ∧ sRun.mode = .run ∧ (sBur .p0).mode = .burrow ∧
    sRun.getB Reg.HL_STATUS_LINK_UP = true := by decide

theorem test_meets_mailbox : mboxOp .sanitize = some 0x4400 ∧ State.reset.getB Reg.HL_STATUS_LINK_UP = false ∧
    sRun.getB Reg.HL_STATUS_LINK_UP = true ∧ sRun.mboxFree = true ∧
    ({ sRun with bur := { BurrowSt.reset with fenced := true } } : State).bur.fenced = true ∧
    ({ sRun with host := { sRun.host with mboxBusy := some 0x4302 } } : State).host.mboxBusy.isSome = true := by decide

theorem test_meets_queries : supportedOps.contains 0xC007 = false ∧ sRun.mode ≠ .restore ∧ 0 + 1 ≤ sRun.nLines ∧ 131072 + 0 ≤ 131072 ∧ sRun.jDead = false ∧
    ({ sRun with mode := .restore } : State).mboxFree = true ∧ ((ksort (·.seq) (({ sRun with keep := { KeeperSt.reset with recs := [⟨1, 1, false, false, 0, .dscInc 1, 256, 0⟩] } } : State).keep.recs.filter (fun r => decide (1 ≤ r.seq)))).take 63).length = 1 := by
  decide

/-- RUN in service mode. -/
def sSvc : State := fx [(Reg.MD_STATUS_SERVICE, 1)] sCover

theorem test_meets_settings : (lsaSectors 131071 1).any sRun.host.lsaDead.contains = false ∧
    (lsaSectors 131071 1).any sRun.host.lsaDirty.contains = false ∧ sRun.keep.state ≠ 4 ∧
    ([1].all (fun h => (sRun.logRecs .info).any (fun r => r.handle == h))) = false ∧
    ({ sRun with host := { sRun.host with lsaSet := some (0, [1]), mboxBusy := some 0x4103 }, keep := { KeeperSt.reset with progs := [⟨0, 1, .lsa, false⟩] } } : State).keep.progs =
      [⟨0, 1, .lsa, false⟩] := by decide

theorem test_meets_poison (u : State) (h : u = sSvc.hostTouch) : sRun.service = false ∧ sSvc.service = true ∧ sSvc.mboxFree = true ∧
    u.service = true ∧ 0 < u.nLines ∧ u.pathOpen = true ∧ u.bur.regroup = false ∧ u.host.stage = none ∧ u.host.ingress = [] ∧
    u.headWaits ⟨1, 0, true, beAll, 0, u.host.nextSeq, true, 0⟩ = false ∧ u.ledgerOf (granOf 0) = .clean ∧ u.cover.doubtWriter = false ∧
    u.energyOk = true ∧ u.landOk = true ∧ u.bufFull 0 = false := by
  subst h; decide

theorem test_meets_sanitize : sRun.mode = .run ∧ sRun.isStandby = false ∧ sRun.host.decoder = false ∧ sRun.host.sanitize = 0 ∧
    ({ sRun with host := { sRun.host with sanitize := 1 } } : State).host.sanitize = 1 ∧ sRun.nand.eraseQ = [] ∧ sRun.framing = false ∧
    (sBur .p0).mode ≠ .run := by decide

theorem test_meets_auth (s : State) (h : s = { sRun with host := { sRun.host with auth := ⟨some (7, 1, 0), some (1, 5), [0, 0]⟩ }, dmk := { DmkSt.reset with svcKey := some 1 } }) : s.mboxFree = true ∧ s.getB Reg.HL_AUTH_REFUSING = false ∧
    (fx [(Reg.HL_AUTH_REFUSING, 1)] s).getB Reg.HL_AUTH_REFUSING = true ∧ s.ms ≤ 0 + 10000 ∧ s.dmk.svcKey.isSome = true ∧
    2 ≤ s.failWindow.length ∧ s.mode ≠ .wake ∧ s.ms < 5 ∧ sRun.host.auth.ticket = none ∧ sSvc.service = true := by
  subst h; decide

/-- OFF with VIN back and one LOCKOUT reason recorded. -/
def sLock (n : Nat) : State := fx [(Reg.MD_LOCKOUT_ALL, n), (Reg.PS_STATUS_VIN_RET, 1), (Reg.SQ_SPMI_ROLE, 2)]
  { State.reset with ms := 60000, spmi := { SpmiSt.reset with awake := true } }

theorem test_meets_lockout : (sLock 0x100).reach .spmi 0x1010 = true ∧ (sLock 0x100).vinRet = true ∧
    (sLock 0x100).getF Reg.MD_LOCKOUT_ALL &&& wakeReleases = (sLock 0x100).getF Reg.MD_LOCKOUT_ALL ∧ (sLock 0x20).lockHas 6 = true ∧
    (sLock 0x20).therm.tempOk = false ∧ ({ sLock 0x40 with therm := { ThermSt.reset with tempOk := true } } : State).therm.tempOk = true ∧
    (sLock 0x40).lockHas 7 = true ∧ (sLock 0x60).getF Reg.MD_LOCKOUT_ALL &&& 0x60 = (sLock 0x60).getF Reg.MD_LOCKOUT_ALL ∧
    (sLock 0x60).therm.offAt + 60000 ≤ (sLock 0x60).ms ∧
    10 * (((sLock 0x60).thresholds.getD 3 0 : Int) - (sLock 0x60).thHyst) ≤ 2000 ∧ -400 < 10 * (((sLock 0x60).thresholds.getD 3 0 : Int) - (sLock 0x60).thHyst) := by
  decide

theorem test_meets_triggers : sRun.getB Reg.MD_CFG_PRED_EN = true ∧ sRun.getB Reg.MD_CFG_PFW_EN = true ∧ sRun.rail.vioOk = true ∧ sRun.getB Reg.PS_STATUS_CMP_A = false ∧
    sRun.getB Reg.PS_STATUS_CMP_B = false ∧ sRun.getB Reg.MD_STATUS_LRST_ACT = false ∧ sRun.bur.trig = false ∧
    sRun.getB Reg.MD_STATUS_BRIDGE = false ∧ sRun.getF Reg.MD_CFG_BRIDGE_MS = 0 ∧
    0 < (fx [(Reg.MD_CFG_BRIDGE_MS, 1)] sRun).getF Reg.MD_CFG_BRIDGE_MS ∧
    (fx [(Reg.MD_STATUS_BRIDGE, 1)] sRun).getB Reg.MD_STATUS_BRIDGE = true ∧ sRun.twinUp = false ∧ sRun.vinRet = true ∧ sRun.twinOn = false ∧
    (fx [(Reg.PS_STATUS_CMP_A, 1)] sRun).getB Reg.PS_STATUS_CMP_A = true ∧ (fx [(Reg.PS_STATUS_CMP_B, 1)] sRun).getB Reg.PS_STATUS_CMP_B = true := by
  decide

theorem test_meets_resets : State.reset.storeOk = false ∧ (fx [(Reg.ES_STATUS_STORE, 2)] State.reset).storeOk = true ∧
    (fx [(Reg.PS_DOM_PD, 4 ^ 10)] State.reset).pd 10 = true ∧
    (fx [(Reg.SQ_STATUS_SEQ, 1)] { State.reset with mode := .wake }).getF Reg.SQ_STATUS_SEQ = 1 ∧ State.reset.entSt 16 = 0 ∧
    State.reset.entSt 9 = 0 ∧ State.reset.written = [] := by decide

theorem test_meets_lrst (s : State) (h : s = fx [(Reg.MD_STATUS_LRST_ACT, 1)] sRun) : s.draining = true ∧ s.bur.trig = false ∧
    s.getB Reg.MD_STATUS_BRIDGE = false ∧ (fx [(Reg.PS_DOM_PD, 4)] { State.reset with mode := .wake }).pd 1 = true ∧ sRun.bur.trig = false ∧
    (fx [(Reg.DC_STATUS_HOLD, 1)] s).inLrst = true ∧ sRun.mode ≠ .off ∧ s.dram.wbuf = [] ∧ s.dram.sub = [] ∧
    ({ s with bur := { BurrowSt.reset with released := true, latched := [.vinA] } } : State).bur.latched ≠ [] ∧
    (fx ((List.range 24).map (fun n => (Reg.SQ_ENT_ST_STATE n, 3))) s).domState 1 ≠ 0 ∧ s.getF Reg.MD_CFG_BRIDGE_MS = 0 := by
  subst h; decide

theorem test_meets_fence : ({ sRun with bur := { BurrowSt.reset with trig := true } } : State).bur.trig = true ∧ sRun.twin.switching = false ∧
    sRun.getB Reg.MD_STATUS_LRST_ACT = false := by decide

theorem test_meets_shed (s : State) (h : s = fx [(Reg.SQ_STATUS_QUEUED, 4)] (sBur .p3)) : s.bur.abn = .none ∧ s.getF Reg.SQ_STATUS_SEQ = 0 ∧
    (s.getF Reg.SQ_STATUS_QUEUED).testBit 2 = true ∧ s.getF Reg.SQ_STATUS_QUEUED % 2 ^ 2 = 0 ∧ s.rail.downTo = 0 ∧ s.written = [] ∧
    (fx [(Reg.SQ_STATUS_QUEUED, 1)] (sBur .p0)).getF Reg.SQ_STATUS_QUEUED % 2 ^ 0 = 0 ∧ (sBur .p0).twin.fenceWait = false ∧
    (fx [(Reg.BE_STATUS_ACTIVE, 1), (Reg.BE_STATUS_SHED, 2)] s).shedNo = 3 ∧ (fx [(Reg.BE_STATUS_ACTIVE, 1), (Reg.BE_STATUS_SHED, 15)] s).shedNo < 3 ∧
    ({ s with dram := { DramSt.reset with wbuf := [⟨0, beAll, 0, false, none, false⟩] } } : State).dram.wbuf ≠ [] := by
  subst h; decide

/-- P2 with one dirty granule and one armed context on a powered LUN. -/
def sP2 : State := fx ((List.range 8).map (fun n => (Reg.SQ_ENT_ST_STATE n, 3)))
  { sBur .p2 with cover := { CoverSt.reset with ledger := [(0, .dirty 0)] }, bur := { BurrowSt.reset with ctx := [(0, { Ctx.idle with st := .armed })] } }

theorem test_meets_sweep : sP2.bur.handoff.length ≤ 256 ∧ sP2.bur.pass < sP2.passes ∧ sP2.nextDirty = some 0 ∧ sP2.bur.stopped = false ∧
    sP2.chanFailed (sP2.chanOf 0) = false ∧ sP2.bur.dramBad.contains (sP2.chanOf 0) = false ∧
    ((sP2.loadTurns.cacheParity false 0).takeCtx.map (·.1)) = some 0 ∧ sP2.bur.inSanitize = false ∧ sP2.bur.faultTake = [] ∧ sP2.loadTurns.wordNext 0 = true ∧
    ({ sP2 with bur := { sP2.bur with inSanitize := true } } : State).bur.inSanitize = true ∧
    ({ sP2 with cover := CoverSt.reset } : State).nextDirty = none ∧ ({ sP2 with bur := { sP2.bur with stopped := true } } : State).bur.stopped = true := by
  decide

theorem test_meets_programs (s u : State) (hs : s = { sP2 with bur := { sP2.bur with ctx := [(0, { Ctx.idle with st := .load, kind := .burrow })], account := 1 } })
    (hu : u = { sP2 with bur := { sP2.bur with ctx := [(0, { Ctx.idle with st := .prog, kind := .burrow })] } }) : (s.ctxOf 0).st = .load ∧
    s.ctxReading 0 = false ∧ 0 < s.bur.account ∧ s.lunBusy (locLun (s.ctxOf 0).page) = false ∧ s.keepsReady (locLun (s.ctxOf 0).page) = true ∧ s.lunUp (locLun (s.ctxOf 0).page) = true ∧
    (u.ctxOf 0).st = .prog ∧ (u.ctxOf 0).kind = .burrow ∧ ({ u with mode := .run } : State).mode ≠ .burrow ∧ mfind (locLun (u.ctxOf 0).page) u.nand.lastProgFail = none ∧ u.lunProg 0 = true ∧
    u.lunFailed 0 = false ∧ u.lunPop 0 = true ∧ ({ sBur .p2 with bur := { BurrowSt.reset with pass := 1 } } : State).sweepDone = true := by
  subst hs hu; decide

/-- P3 with an erased META page. -/
def sP3 : State := fx ((Reg.NB_GEOM_PPB, 1) :: (List.range 8).map (fun n => (Reg.SQ_ENT_ST_STATE n, 3)))
  { sBur .p3 with bur := { BurrowSt.reset with account := 1 }, nand := { NandSt.reset with blocks := [(0, ⟨.metaBlk, 0, 0, false, true⟩)] } }

theorem test_meets_p3 : sP3.bur.noManifest = false ∧ 0 < sP3.bur.account ∧
    (sP3.putManifest (manPieces sP3.manEntries sP3.voidEntries).length [] (manPieces sP3.manEntries sP3.voidEntries) 0 noLoc []).isSome = true := by
  decide

theorem test_meets_p4 (s : State) (h : s = fx [(Reg.BE_STATUS_SHED, 2), (Reg.PS_STATUS_VIN_RET, 0)] { sBur .p4 with bur := { BurrowSt.reset with manLoc := some 0 }, keep := { KeeperSt.reset with up := true } }) : s.inP4 = true ∧ s.bur.manLoc.isSome = true ∧ s.bur.committed = false ∧ s.keep.up = true ∧
    s.jDead = false ∧ s.vinRet = false ∧ s.burrowLoss = false ∧ (fx [(Reg.BE_LOST_LOST, 1)] s).burrowLoss = true := by
  subst h; decide

theorem test_meets_abandon (s : State) (h : s = sBur .p2) : s.vinLoss = false ∧ s.mayAbandon = true ∧
    (fx [(Reg.PS_STATUS_CMP_A, 1)] s).vinLoss = true ∧ (sBur .p4).mayAbandon = false ∧ (fx [(Reg.SQ_STATUS_SEQ, 3)] (sBur .p5)).goingDown = true ∧
    State.reset.vinLoss = false ∧
    (sLock 0).lockFree = true ∧ (sLock 0).vinRet = true ∧ (sLock 0).getB Reg.MD_CFG_WAKE_ON_RET = true ∧
    s.ctxCount (fun c => c.st == .prog || c.st == .check) = 0 ∧
    ({ s with bur := { BurrowSt.reset with abn := .powering } } : State).abnPowered = true ∧ (∀ n ∈ railEntries, s.broken n = false) ∧
    ({ s with bur := { BurrowSt.reset with abn := .powering } } : State).linkAwaited = false ∧
    (fx [(Reg.TW_STATUS_ROLE, 1), (Reg.TW_STATUS_PARTNER, 0), (Reg.TW_STATUS_MIRROR, 0)] s).linkAwaited = true ∧
    (fx [(Reg.SQ_STATUS_SEQ, 3)] s).getF Reg.SQ_STATUS_SEQ = 3 ∧ s.getF Reg.SQ_STATUS_SEQ ≠ 3 := by
  subst h; decide

/-- DEN with a store that holds energy. -/
def sDen : State := fx [(Reg.ES_STATUS_STORE, 2), (Reg.ES_CFG_NCELLS, 8), (Reg.ES_CFG_V_FLOOR, 8000), (Reg.ES_AUDIT2_ETA, 95)]
  { State.reset with mode := .den, store := { StoreSt.reset with cAud := List.replicate 8 100000 }, rail := { RailSt.reset with adc := List.replicate 48 2700 }, dmk := { DmkSt.reset with storeT := List.replicate 8 (1000, 1000) } }

theorem test_meets_den : sDen.rebaseBooks.denFloor < sDen.rebaseBooks.cover.eAvail ∧
    ({ State.reset with mode := .den } : State).rebaseBooks.cover.eAvail ≤ ({ State.reset with mode := .den } : State).rebaseBooks.denFloor ∧
    sDen.getF Reg.SQ_STATUS_SEQ ≠ 4 := by decide

/-- Every power domain on, the keeper up. -/
def sPow : State := fx [(Reg.PS_DOM_PD, 0x55555555), (Reg.DC_STATUS_CH0_STATE, 2), (Reg.DC_STATUS_CH1_STATE, 2)] { sCover with keep := { KeeperSt.reset with up := true } }

/-- WAKE at a step of its table. -/
def sWake (n : Nat) : State := fx [(Reg.DT_WAKE_STEP, n), (Reg.SQ_ENT_ST_STATE 17, 3)] { sPow with mode := .wake, dmk := { DmkSt.reset with inForce := true }, dram := { DramSt.reset with trained := true } }

/-- A daymark copy that passes every check. -/
def dmkGood (fit : Nat) : DmkCopy := { readOk := true, hdrOk := true, crcOk := true, keyHash := [1, 2, 3, 4], sigOk := true, sectOk := true, bl := 1, fitReq := fit, imgVer := 1, boardId := 1, crc := 7, regs := [(0x7008, 0x03E80100)], svcKey := none, storeT := List.replicate 8 (1000, 1000), ltoOcv := [] }

theorem test_meets_daymark : (sWake 4).dmkReady = true ∧ dmkCause (sWake 4).otp.dmkHash ((sWake 4).rail.vioOk && (sWake 4).entSt 17 == 3) none ≠ 0 ∧
    dmkCause (sWake 4).otp.dmkHash ((sWake 4).rail.vioOk && (sWake 4).entSt 17 == 3) (some (dmkGood 0)) = 0 ∧ (sWake 4).fitHonoured (dmkGood 0) = false ∧
    dmkCause (sWake 4).otp.dmkHash ((sWake 4).rail.vioOk && (sWake 4).entSt 17 == 3) (some (dmkGood 0x460C8100)) = 0 ∧
    (sWake 4).fitHonoured (dmkGood 0x460C8100) = true ∧ (sWake 4).blHonoured (dmkGood 0x460C8100).bl = true := by decide

theorem test_meets_training : (sWake 6).mode = .wake ∧ (sWake 6).getF Reg.DT_WAKE_STEP = 6 ∧ (sWake 6).getF Reg.SQ_STATUS_SEQ ≠ 4 ∧
    (sWake 6).lampUp = true ∧ (sWake 6).dmk.inForce = true ∧ (sWake 6).dmkChanged = true ∧ (sWake 6).lunPop 0 = true ∧
    (fx [(Reg.MD_STATUS_DRAM_HELD, 1)] (sWake 6)).getB Reg.MD_STATUS_DRAM_HELD = true ∧ (sWake 6).getB Reg.MD_STATUS_DRAM_HELD = false ∧
    (fx [(Reg.NB_STATUS_SCAN, 1), (Reg.NB_MANPTR_LOC, 5)] (sWake 6)).scanForPtr = true := by decide

/-- The commit record of a burrow's manifest. -/
def recMan : JRec := ⟨1, 1, false, false, 0, .manifestPtr 5 3 0 0 0 0 false true false 0, 256, 0⟩

/-- WAKE with a committed image, held when told so. -/
def sImage (held : Nat) : State := fx [(Reg.MD_STATUS_DRAM_HELD, held)] { sWake 9 with keep := { KeeperSt.reset with up := true, recs := [recMan] }, bur := { BurrowSt.reset with heldVer := 3 } }

theorem test_meets_decision : (sWake 9).mayDecide = true ∧ (sWake 9).sanResume.deferCommit.imageNow = false ∧ (sImage 1).mayDecide = true ∧
    (sImage 1).sanResume.deferCommit.imageNow = true ∧ (sImage 1).sanResume.deferCommit.heldNow = true ∧ (sImage 0).mayDecide = true ∧
    (sImage 0).sanResume.deferCommit.imageNow = true ∧ (sImage 0).sanResume.deferCommit.heldNow = false := by decide

/-- A restore of the form f that runs. -/
def sRest (f : Nat) : State := fx [(Reg.MD_STATUS_RSTR_FORM, f)] { sPow with mode := .restore, rst := { RestoreSt.reset with decided := true, loaded := true, todo := [3] } }

/-- RESTORE with the granule's seal in the table. -/
def sVer : State := { sRest 1 with nand := { NandSt.reset with sealTbl := [(3, dataCrc (granCells (sRest 1).image 3 ((sRest 1).granPoison 3 ++ [])))] } }

theorem test_meets_load : (fx [(Reg.MD_STATUS_MEDIA_READY, 1)] ({ sRest 3 with rst := { RestoreSt.reset with loaded := true } } : State)).mediaReady = true ∧ (sRest 2).mode = .restore ∧ (sRest 2).rst.decided = true ∧ ({ sRest 2 with rst := { RestoreSt.reset with decided := true } } : State).rst.loaded = false ∧
    (sRest 2).keep.up = true ∧ (sRest 2).lampUp = true ∧ (sRest 2).getF Reg.SQ_STATUS_SEQ ≠ 4 ∧ (sRest 2).getF Reg.MD_STATUS_RSTR_FORM = 2 ∧
    (sRest 2).restoring = true ∧ (sRest 2).getF Reg.MD_STATUS_RSTR_FORM ≠ 1 ∧ (sRest 2).fetchTurn 3 = true ∧ (sRest 2).rst.pend.contains 3 = false ∧
    (sRest 2).twinCopy 3 ((sRest 2).mapOf 3) = none ∧ 3 < (sRest 2).nUser ∧ pageGone ⟨1, false, true, false, [], false⟩ = true ∧ pageGone ⟨0, false, false, false, [], false⟩ = false ∧
    ({ sRest 2 with nand := { NandSt.reset with map := [(3, 1)], pages := [(1, ⟨0x10, 3, 1, 0, [], [], none, none⟩)] } } : State).readPage 1 ≠ none := by decide

theorem test_meets_verify : sVer.restoring = true ∧ sVer.getF Reg.MD_STATUS_RSTR_FORM = 1 ∧ 3 < sVer.nUser ∧ sVer.ledgerOf 3 ≠ .lost ∧
    sVer.chanFailed (sVer.chanOf 3) = false ∧ sVer.rst.pend.contains 3 = false ∧ 4096 ≤ ({ sVer with rst := { sVer.rst with refetched := 4096 } } : State).rst.refetched ∧
    ({ sVer with rst := { sVer.rst with todo := [] } } : State).rst.todo = [] ∧ sVer.bur.trig = false ∧ sVer.keep.up = true := by decide

/-- Whatever the CRC of the granule's lines is, the seal table can hold it. -/
theorem test_meets_seal (x : Nat) : ({ sRest 1 with nand := { NandSt.reset with sealTbl := [(3, x)] } } : State).sealOf 3 = x := by
  simp [State.sealOf, mget, mfind]

theorem test_meets_books : sPow.coverRuns = true ∧ sPow.reach .cxl 0x3058 = true ∧ sPow.lampUp = true ∧ sPow.host.ingress = [] ∧
    sPow.isStandby = false ∧ 0 < sPow.cover.eDebt + sPow.cover.eg ∧ (fx [(Reg.LG_STATUS_STALE, 1)] sPow).getB Reg.LG_STATUS_STALE = true ∧
    sPow.mode = .run ∧ ({ sPow with cover := { CoverSt.reset with doubtWriter := true } } : State).cover.doubtWriter = true := by decide

/-- RUN with the sweep at granule 0, which is dirty, and a trickle copy of it on context 0. -/
def sTrk (x : LState) (c : CtxSt) : State := fx [(Reg.LG_STATUS_TRK_MODE, 2), (Reg.MD_STATUS_SERVICE, 1)] { sPow with cover := { CoverSt.reset with ledger := [(0, x)], calCount := 1024 }, bur := { BurrowSt.reset with ctx := [(0, { Ctx.idle with st := c, kind := .trickle })] } }

theorem test_meets_trickle (s : State) (h : s = sTrk (.dirty 1) .idle) : s.mode = .run ∧ s.lampUp = true ∧ s.bur.fenced = false ∧ s.trkMode ≠ 0 ∧
    s.nand.refreshQ = [] ∧ s.trickleFree = true ∧ s.ledgerOf (s.getF Reg.LG_TRKSTAT_HAND) = .dirty 1 ∧ s.cover.target ≠ some 1 ∧
    s.cover.doubtWriter = false ∧ (fx [(Reg.LG_CFG_CAL_EN, 1)] s).getB Reg.LG_CFG_CAL_EN = true ∧ s.cover.calCount = 1024 ∧ s.service = true ∧ s.host.stage = none ∧ (s.getF Reg.LG_TRKSTAT_HAND + 1 < s.nUser) := by
  subst h; decide

theorem test_meets_copy_mapped (s : State) (h : s = sTrk .cleaning .check) : (s.ctxOf 0).st = .check ∧ (s.ctxOf 0).kind = .trickle ∧
    s.bur.fenced = false ∧ (s.ctxOf 0).gran < s.nUser ∧ mfind (locLun (s.ctxOf 0).page) s.nand.lastProgFail = none ∧ s.ledgerOf (s.ctxOf 0).gran = .cleaning ∧ s.mayMap (s.ctxOf 0).gran (s.ctxOf 0).ver = true ∧
    (sTrk (.dirtyCleaning 2) .check).ledgerOf 0 = .dirtyCleaning 2 := by
  subst h; decide

/-- RUN with one erased page in an open block of the plan. -/
def sArm : State := fx [(Reg.NB_GEOM_PPB, 4), (Reg.NB_GEOM_BLOCKS, 4), (Reg.SQ_ENT_ST_STATE 6, 3), (Reg.SQ_ENT_ST_STATE 4, 3), (Reg.SQ_ENT_ST_STATE 5, 3)] { sPow with nand := { NandSt.reset with plan := [0, 1], blocks := [(0, ⟨.opened, 0, 0, false, false⟩)], pErased := 400 } }

theorem test_meets_arm : sArm.lampUp = true ∧ sArm.mode = .run ∧ sArm.bur.fenced = false ∧ sArm.host.stage = none ∧ sArm.idleCtx = some 0 ∧
    sArm.maySupply = true ∧ (sArm.pickPage 0).isSome = true := by decide

theorem test_meets_maintenance (q : DramQ) (h : q = ⟨0, false, 2, 0, 0⟩) : sPow.chRuns 0 = true ∧ sPow.written = [] ∧ sPow.mode = .run ∧
    (0 ≤ b2n (sPow.getB Reg.DC_CFG_RANKS)) ∧ (sPow.subCh 0).queue = [] ∧ mget 0 (sPow.subCh 0).postponed 0 < 4 ∧
    (({ sPow with dram := { DramSt.reset with sub := [(0, { SubCh.reset with queue := [q] })] } } : State).subCh 0).queue ≠ [] ∧
    (fx [(Reg.DC_CFG_SR_IDLE_EN, 1)] sPow).getB Reg.DC_CFG_SR_IDLE_EN = true ∧ sPow.chIdle 0 = true ∧ sPow.getF (chState 0) = 2 ∧ sPow.lampUp = true ∧ 0 < sPow.channels ∧
    (fx [(chState 0, 3)] sPow).getF (chState 0) = 3 ∧ sPow.getB Reg.DC_STATUS_HOLD = false ∧
    sPow.replaying 0 = false ∧ sPow.room 0 sPow.dram.now ((mget 0 (sPow.subCh 0).postponed 0 + 1) * (sPow.refCmds 0).length) = true ∧
    ({ sPow with dram := { DramSt.reset with sub := [(0, { SubCh.reset with replay := some ⟨0, 0, 2, [], none, 0⟩ })] } } : State).replaying 0 = true ∧ (sPow.subCh 0).replay = none := by
  subst h; decide

theorem test_meets_reads_done (s : State) (h : s = { sPow with host := { HostSt.reset with reads := [⟨1, 2, 0, some (5, false), false⟩] } }) :
    s.lampUp = true ∧ s.lineFailed 2 = false ∧ s.lineReplays 2 = false ∧ s.hostTime = true ∧ s.mode = .run ∧ s.eccOut 2 ⟨[], none⟩ = .clean ∧
    s.eccOut 2 ⟨[1, 3], none⟩ = .corrected 0 ∧ s.eccOut 2 ⟨[1, 17], none⟩ = .ue ∧
    ({ s with dram := { DramSt.reset with scrub := [(0, 2)], scrubAsked := [0] } } : State).scrubOut (s.chanOf (granOf 2)) 2 = true ∧ granOf 2 < s.nUser ∧
    s.isMapLine s.mapBase = true ∧ s.isMirrorLine s.mirrorBase = true ∧ s.isStagingLine s.stagingBase = true ∧ s.dram.scrubAsked.contains 0 = false ∧
    s.noDram (mget 0 s.dram.scrub 0) = false ∧ ({ s with dram := { DramSt.reset with wbuf := [⟨0, beAll, 0, false, none, false⟩] } } : State).noDram 0 = true ∧
    s.host.reads.any (fun r => r.tag == 1 && r.line == 2 && r.value.isSome && !r.ready) = true ∧
    s.asked (fun q => !q.write && q.line == 2 && q.cls == 2 && q.src == 0) = false ∧ s.chRuns 0 = true ∧ s.getF Reg.DC_ECCCFG_SCRUB_H ≠ 0 := by
  subst h; decide

/-- RUN with block 0 waiting for its erase, a relocation waiting and granule 0 on page 1. -/
def sNand : State := fx [(Reg.NB_GEOM_PPB, 4), (Reg.NB_GEOM_BLOCKS, 4), (Reg.NB_POLICY_PATROL_D, 1), (Reg.SQ_ENT_ST_STATE 6, 3), (Reg.SQ_ENT_ST_STATE 4, 3), (Reg.SQ_ENT_ST_STATE 5, 3)] { sPow with nand := { NandSt.reset with erasing := [0], relocQ := [(0, 1)], map := [(0, 1)], blocks := [(0, ⟨.full, 1, 4, false, false⟩), (3, ⟨.metaBlk, 0, 0, false, true⟩)], metaErased := 1000000 } }

theorem test_meets_nand (s : State) (h : s = sNand) : s.nand.erasing.contains 0 = true ∧ s.lunUp (blockLun 0) = true ∧
    ({ s with nand := { s.nand with relocQ := [], blocks := [] } } : State).relocPick = none ∧ pageClass ⟨0, false, false, false, [], false⟩ = .lines [] ∧
    pageClass ⟨1, false, true, false, [], false⟩ ≠ .lines [] ∧ s.readStage ⟨3, false, false, false, [], false⟩ = 3 ∧ s.mode = .run ∧ s.lampUp = true ∧ s.bur.fenced = false ∧
    s.nand.relocQ = [(0, 1)] ∧ s.mapOf 0 = 1 ∧ s.getF Reg.NB_POLICY_PATROL_D ≠ 0 ∧ isPage (s.mapOf 0) = true ∧ s.lunUp (locLun (s.mapOf 0)) = true := by
  subst h; decide

/-- A checkpoint whose root page has landed. -/
def sRoot : State := { sNand with nand := { sNand.nand with ckpt := some ⟨[], [], [], [], 0, [], some 7⟩, pages := [(7, ⟨0x13, 0, 0, 0, [], [], none, some ⟨5, 1234, 0, [], 0, [], [], [], 3, [], []⟩⟩)] } }

theorem test_meets_checkpoint (s : State) (h : s = sNand) : s.nand.ckpt = none ∧ s.ckptDue = true ∧ s.fMeta + s.ckptFull < s.nand.metaErased ∧
    s.written = [] ∧ s.mayCommitRoot false = true ∧ (mfind 7 sRoot.nand.pages).isSome = true ∧ ((mfind 7 sRoot.nand.pages).bind (·.root)).isSome = true ∧ sRoot.mayCommitRoot false = true ∧
    sRoot.nand.ckpt = some ⟨[], [], [], [], 0, [], some 7⟩ ∧ sRoot.mode = .run ∧ sRoot.bur.fenced = false := by
  subst h; decide

theorem test_meets_spmi : (fx [(Reg.SQ_SPMI_ROLE, 2)] State.reset).getF Reg.SQ_SPMI_ROLE = 2 ∧
    (fx [(Reg.SQ_SPMI_ROLE, 1)] State.reset).getF Reg.SQ_SPMI_ROLE = 1 ∧ State.reset.mode = .off ∧ State.reset.pdState 0 = 0 ∧
    State.reset.pdState 1 = 0 ∧ sRun.mode = .run ∧ (sLock 1).spmi.awake = true := by decide

/-- An SPMI master with a command to slave 0 waiting and one sent r times again. -/
def sMas (r st : Nat) : State := fx [(Reg.SQ_SPMI_ROLE, 1), (Reg.SQ_SLV_STATE 0, st), (Reg.SQ_ENT_ST_STATE 24, 2), (Reg.MD_STATUS_SERVICE, 1)] { sPow with spmi := { SpmiSt.reset with queue := [⟨0, 2, 1, 0, 0, 1, 0, 0⟩], out := [⟨0, 1, 1, 0, 0, 1, r, 0⟩], probeFails := [(0, r)] } }

theorem test_meets_spmi_master : (sMas 0 1).spmiMaster = true ∧ (sMas 0 1).spmiNext = some ⟨0, 2, 1, 0, 0, 1, 0, 0⟩ ∧
    (sMas 0 1).getF (Reg.SQ_SLV_STATE 0) = 1 ∧ (sMas 0 2).getF (Reg.SQ_SLV_STATE 0) = 2 ∧ mget 0 (sMas 0 1).spmi.probeFails 0 < 3 ∧
    3 ≤ mget 0 (sMas 3 1).spmi.probeFails 0 ∧ (sMas 3 2).spmi.out.find? (fun x => x.slave == 0) = some ⟨0, 1, 1, 0, 0, 1, 3, 0⟩ ∧
    (sMas 3 2).spmiTurn ((sMas 3 2).readCls 0) = true ∧ ({ sMas 3 2 with spmi := SpmiSt.reset } : State).spmiTurn 3 = true ∧ (sMas 3 2).reach .cxl 0xA010 = true ∧ (sMas 3 2).service = true ∧ (sMas 3 2).getF Reg.SQ_STATUS_SEQ = 0 ∧ (sMas 3 2).entSt 24 = 2 ∧
    (1 : Nat).testBit ((sMas 3 2).xrRail 24) = true ∧ (fx [(Reg.SQ_ENT_ST_STATE 24, 3)] (sMas 3 2)).entSt 24 = 3 ∧
    (fx [(Reg.SQ_ENT_ST_STATE 24, 6)] (sMas 3 2)).entSt 24 = 6 := by decide

/-- RUN with a store of the given state, an input path and the energy-store fields of l. -/
def sSto (l : List (Fld × Nat)) : State := fx ((Reg.ES_STATUS_STORE, 2) :: (Reg.ES_CFG_NCELLS, 8) :: (Reg.ES_CFG_V_FLOOR, 8000) :: (Reg.ES_STATUS_INFET_ON, 1) :: l) { sPow with ms := 5000, store := { StoreSt.reset with auditDue := true } }

/-- A charge cycle whose progress has reached TMR_MIN. -/
def sTmo : State := { sSto [(Reg.ES_STATUS_CHG, 2), (Reg.ES_CHG_TMR_MIN, 1)] with store := { StoreSt.reset with cycle := true, progUs := 60000000 } }

theorem test_meets_infet : (sSto [(Reg.ES_STATUS_INFET_ON, 0)]).getB Reg.ES_STATUS_INFET_ON = false ∧ (sSto []).store.ocOpen = false ∧ (sSto []).store.openAt + 100 ≤ (sSto []).ms ∧
    (sSto []).store.infLatched = false ∧ (sSto []).getB Reg.ES_STATUS_INFET_ON = true ∧ (sSto []).reach .cxl 0x8060 = true ∧
    ({ sSto [] with store := { StoreSt.reset with ocOpen := true } } : State).store.ocOpen = true ∧
    ({ sSto [] with store := { StoreSt.reset with infLatched := true } } : State).store.infLatched = true ∧
    2 ≤ ([0, 1].filter (fun x => decide ((sSto []).ms < x + 10000))).length ∧ (([] : List Nat).filter (fun x => decide ((sSto []).ms < x + 10000))).length < 2 := by decide

theorem test_meets_path : 0 ≤ min ((sSto []).getF Reg.ES_IN_VSYS_HOLD) ((sSto []).pfLevel - 5) * 100 ∧ (sSto []).getF Reg.ES_IN_VSYS_HOLD * 100 + 500 < 100000 ∧ (sSto []).storeOk = true ∧ (sSto []).getB Reg.ES_STATUS_PATH = false ∧ (sSto [(Reg.ES_STATUS_PATH, 1)]).getB Reg.ES_STATUS_PATH = true ∧
    (sSto []).getB Reg.PS_STATUS_VSYS_LOSS = false ∧ (sSto []).mode = .run ∧ (sSto []).pdState 0 = 1 ∧ (sSto []).pdState 1 = 1 ∧ (sSto []).pdState 10 = 1 ∧
    (sSto [(Reg.SQ_ENT_ST_STATE 0, 3), (Reg.SQ_ENT_ST_STATE 7, 3)]).entSt 0 = 3 ∧ (sSto [(Reg.SQ_ENT_ST_STATE 0, 3), (Reg.SQ_ENT_ST_STATE 7, 3)]).entSt 7 = 3 ∧
    (sSto [(Reg.PS_STATUS_VSYS_LOSS, 1)]).getB Reg.PS_STATUS_VSYS_LOSS = true := by decide

theorem test_meets_store : (sSto []).vinRet = true ∧ (sSto []).getB Reg.MD_STATUS_BRIDGE = false ∧ (sSto [(Reg.ES_STATUS_STORE, 3)]).getF Reg.ES_STATUS_STORE = 3 ∧
    (sSto [(Reg.ES_STATUS_STORE, 0)]).getF Reg.ES_STATUS_STORE = 0 ∧ ({ sSto [] with store := { StoreSt.reset with removed := true } } : State).store.removed = true ∧
    (sSto []).store.removed = false ∧ (sSto []).service = false ∧ (sSto [(Reg.MD_STATUS_SERVICE, 1)]).service = true ∧ ({ sSto [(Reg.ES_STATUS_STORE, 1)] with mode := .wake } : State).mayAudit = true ∧
    (sSto []).written = [] ∧ (sSto [(Reg.ES_STATUS_AUDIT_BUSY, 1)]).getB Reg.ES_STATUS_AUDIT_BUSY = true := by decide

/-- A store whose tables read 1000 and whose limits are 80 % of 100 mF and 200 % of 10 in the register's unit. -/
def sAud : State := { sSto [(Reg.ES_AUDCFG_C_MIN_PCT, 80), (Reg.ES_AUDCFG_ESR_MAX_PCT, 200), (Reg.ES_RATED_CAP_RATED, 100), (Reg.ES_RATED_ESR_RATED, 10), (Reg.ES_STATUS_AUDIT_BUSY, 1)] with dmk := { DmkSt.reset with storeT := List.replicate 8 (1000, 1000) } }

theorem test_meets_audit : sAud.capFails ⟨[], [], [1000], [999], 0, 0, 0, 0⟩ = false ∧ sAud.esrFails ⟨[], [], [1000], [999], 0, 0, 0, 0⟩ = false ∧
    sAud.capFails ⟨[], [], [1000], [1000], 0, 0, 0, 0⟩ = true ∧ sAud.esrFails ⟨[100000], [0], [1000], [999], 0, 0, 0, 0⟩ = true ∧
    sAud.capFails ⟨[100000], [0], [1000], [999], 0, 0, 0, 0⟩ = false := by decide

theorem test_meets_charge : (sSto [(Reg.ES_STATUS_CHG, 3)]).getF Reg.ES_STATUS_CHG = 3 ∧ (sSto [(Reg.ES_STATUS_CHG, 5)]).getF Reg.ES_STATUS_CHG = 5 ∧
    (sSto []).getF Reg.ES_STATUS_CHG = 0 ∧ (sSto []).store.cycle = false ∧ sTmo.timerOut = true ∧ sTmo.getF Reg.ES_STATUS_CHG ≠ 5 ∧ (sSto [(Reg.ES_ZONE_I_RATE 2, 10), (Reg.ES_STATUS_ZONE, 2)]).mayCharge = true ∧
    (sSto [(Reg.ES_STATUS_ACC_ON, 1)]).getB Reg.ES_STATUS_ACC_ON = true ∧ (sSto [(Reg.ES_ACC_MODE, 2)]).getF Reg.ES_ACC_MODE = 2 ∧ (sSto []).getF Reg.ES_ACC_MODE ≠ 2 ∧
    ({ sSto [] with store := { StoreSt.reset with accOff := some 3 } } : State).store.accOff.isSome = true ∧ (sSto [(Reg.ES_ACC_MODE, 1), (Reg.ES_ACC_ACC_EN, 1)]).mayAcc = true := by decide

/-- The powered device with the entries l in the state x. -/
def sEnt (l : List Nat) (x : Nat) : State := fx (l.map (fun n => (Reg.SQ_ENT_ST_STATE n, x))) sPow

theorem test_meets_rail : ownOut 11 = true ∧ railEntries.contains 11 = true ∧ ownOut 23 = true ∧ railEntries.contains 23 = true ∧ (sEnt [0, 11] 3).entSt 11 = 3 ∧ (sEnt [0, 11] 3).entSt 0 = 3 ∧
    (sEnt [0] 3).mode = .run ∧ (sEnt [0] 3).getB Reg.PS_STATUS_VSYS_LOSS = false ∧ (sEnt [0] 3).getF Reg.PS_FIRST_KIND = 0 ∧
    (fx [(Reg.PS_FIRST_KIND, 3)] (sEnt [0] 3)).getF Reg.PS_FIRST_KIND ≠ 0 ∧ (sEnt [0] 3).critical 0 = true ∧ (sEnt [0] 3).critical 11 = false ∧
    (fx [(Reg.PS_STATUS_VSYS_LOSS, 1)] (sEnt [0] 3)).getB Reg.PS_STATUS_VSYS_LOSS = true := by decide

theorem test_meets_scan : sPow.written = [] ∧ sPow.mode = .run ∧ sPow.pd 12 = true ∧ State.reset.written = [] ∧ State.reset.mode = .off ∧
    ({ sPow with rail := { RailSt.reset with adcReq := true } } : State).rail.adcReq = true ∧ sPow.rail.vioOk = true ∧ sPow.pins.perstN = true ∧
    ([0, 0, 0, 0, 0, 0, 0, 0, 0, 0, 0, 0, 1499] : List Int).getD 12 0 = 1499 ∧ ({ sPow with pins := { sPow.pins with perstN := false } } : State).mode = .run ∧
    sPow.hasTwin = true := by decide

theorem test_meets_records : sPow.reach .cxl 0x9024 = true ∧ sPow.reach .cxl 0x9028 = true ∧ sPow.reach .cxl 0x9018 = true ∧ sPow.reach .cxl 0x901C = true ∧
    (fx [(Reg.MD_STATUS_SERVICE, 1)] (sEnt [11] 5)).service = true ∧ (sEnt [11] 5).entSt 11 = 5 ∧ (sEnt [11] 5).critical 11 = false ∧ sPow.service = false ∧ (sEnt [11] 5).seqForce.broken 11 = false := by decide

/-- RUN at 0.5 s with a store present and sensor 0 read b times out of range. -/
def sThm (b : Nat) : State := fx [(Reg.ES_STATUS_STORE, 2)] { sPow with ms := 500, therm := { ThermSt.reset with bad := [(0, b)] } }

theorem test_meets_sweep_sensors : (sThm 0).sweepForce = sThm 0 ∧ (sThm 0).mode = .run ∧ (sThm 0).senState 0 false = 0 ∧ (sThm 0).senState 8 false = 0 ∧
    (fx [(Reg.TH_CFG_TS10_EN, 0)] (sThm 0)).senState 10 false ≠ 0 ∧ (fx [(Reg.PS_DOM_PD, 0)] (sThm 0)).senState 0 false ≠ 0 ∧ mget 0 (sThm 0).therm.bad 0 = 0 ∧ mget 0 (sThm 1).therm.bad 0 = 1 ∧
    mfind 0 (sThm 0).therm.prev = none ∧ ({ State.reset with mode := .off } : State).written = [] := by decide

theorem test_meets_level : (sThm 0).host.ingress = [] ∧ (sThm 0).host.stage = none ∧ (sThm 0).isStandby = false ∧ (sThm 0).nand.refreshQ = [] ∧
    (sThm 0).therm.lastChange = none ∧ (fx [(Reg.TH_STATUS_PEND, 1)] (sThm 0)).getF Reg.TH_STATUS_LEVEL ≠ (fx [(Reg.TH_STATUS_PEND, 1)] (sThm 0)).targetLevel ∧
    (sThm 0).ms < 401 + 100 ∧ (sThm 0).reach .cxl 0xB03C = true ∧ (sThm 0).service = false ∧ (fx [(Reg.MD_STATUS_SERVICE, 1)] (sThm 0)).service = true := by decide

theorem test_meets_budget (u : State) (h : u = fx [(Reg.PS_VMEAS_VIN_MV, 12000), (Reg.ES_IN_ILIM, 50), (Reg.BA_CFG_P_IN_MAX, 65535)] (sThm 0)) :
    u.written = [] ∧ u.host.ingress = [] ∧ u.host.stage = none ∧ u.isStandby = false ∧ u.nand.refreshQ = [] ∧ u.srcLimit = (6000, 1) := by
  subst h; decide

theorem test_meets_entries : (sEnt [11, 31] 1).mode = .run ∧ (sEnt [11] 1).getF Reg.SQ_STATUS_SEQ = 0 ∧ (sEnt [11] 1).written = [] ∧ (sEnt [11] 1).entSt 11 = 1 ∧
    (sEnt [11] 1).rail.seqStart + (sEnt [11] 1).upSlot 11 ≤ ({ RailSt.reset with tick := 200 } : RailSt).tick ∧ (sEnt [11] 1).parentsUp 11 = true ∧
    (fx [(Reg.SQ_ENT_PAR_PARENTS 11, 128)] (sEnt [11] 1)).parentsUp 11 = false ∧ (sEnt [31, 23] 2).entSt 23 = 2 ∧ railEntries.contains 31 = true ∧ railEntries.contains 23 = true ∧ ownOut 23 = true ∧
    (sEnt [11] 2).entSt 11 = 2 ∧ (sEnt [11] 1).entSt 11 ≠ 2 ∧ (sEnt [11] 2).allDependants 11 = [] ∧ (sEnt [11] 2).critical 11 = false ∧
    (sEnt [11] 4).slaveGone 11 = false ∧ (∀ m ∈ railEntries, (sEnt [11] 1).mayRise m = true → (sEnt [11] 1).slaveGone m = false) ∧ (sEnt [11] 4).entSt 11 = 4 ∧ (sEnt [11] 6).entSt 11 = 6 ∧ (sEnt [11] 4).entSt 11 ≠ 6 := by decide

/-- The keeper up, and the host's path with the given unlock state, address and end of its last command. -/
def sKef (u a : Nat) (done : Bool) : State := fx [(Reg.MD_STATUS_SERVICE, 1), (Reg.EF_FW_BANK, 0), (Reg.EF_FW_B0_VALID, 1)] { sPow with keep := { KeeperSt.reset with up := true, words := [(66000, 3), (200000, 77)], sectors := [(391, ⟨0, true, false, 0⟩)], erasing := [⟨300, .host .cxl, true⟩] }, cxl := { PathSt.reset with unlock := u, efAddr := a, efDone := done } }

theorem test_meets_keeper_reads : (sKef 0 0 true).efUp .cxl = true ∧ ((sKef 0 0 true).path .cxl).unlock = 0 ∧ ((sKef 1 0 true).path .cxl).unlock = 1 ∧
    (0x4C69#32).toNat % 65536 = 0x4C69 ∧ (0x6768#32).toNat % 65536 = 0x6768 ∧ (0#32).toNat % 65536 ≠ 0x4C69 ∧ (sKef 0 0 false).efBusy .cxl = true ∧
    (sKef 0 100 true).efBusy .cxl = false ∧ ((sKef 0 100 true).path .cxl).efOtp = false ∧ ((sKef 0 100 true).path .cxl).efAddr / 512 < 256 ∧
    256 ≤ ((sKef 0 200000 true).path .cxl).efAddr / 512 ∧ ((sKef 0 200000 true).sector 390).pending = false ∧ ((sKef 0 200200 true).sector 391).pending = true ∧
    (200000 / 512 = 390) ∧ (200200 / 512 = 391) ∧ (sKef 0 0 true).keep.uncorr.contains 200000 = false ∧ 390 < 768 := by decide

theorem test_meets_keeper_commands : ((sKef 2 66001 true).path .cxl).unlock = 2 ∧ (sKef 2 66001 true).fwWritable (66001 / 512) = true ∧ (sKef 2 100 true).fwWritable (100 / 512) = false ∧
    mget (BitVec.allOnes 64) (sKef 2 66001 true).keep.words 66001 = BitVec.allOnes 64 ∧ mget (BitVec.allOnes 64) (sKef 2 66000 true).keep.words 66000 ≠ BitVec.allOnes 64 ∧
    (12 % 256 = 12) ∧ (sKef 2 12 true).service = true ∧ (sKef 2 12 true).otp.moorKey.getD 0 none = none ∧
    ({ sKef 2 12 true with otp := { OtpSt.reset with moorKey := [some 3, none] } } : State).otp.moorKey.getD 0 none ≠ none ∧
    (sKef 0 0 true).keep.erasing.any (ownErase .cxl) = true ∧ (sKef 0 0 true).keep.erasing.any (ownErase .spmi) = false ∧
    ((sKef 0 0 true).keep.erasing.any (fun e => ownErase .spmi e && e.suspended)) = false := by decide

theorem test_meets_keeper_engine : (sKef 0 0 true).keep.up = true ∧ (sKef 0 0 true).jDead = false ∧ (sKef 0 0 true).getB Reg.PS_STATUS_VSYS_LOSS = false ∧
    (sKef 0 0 true).keep.jq = [] ∧ sPow.keep.erasing = [] ∧ 256 ≤ (256 : Nat) := by decide

/-- The event service running with one closed and one open record in the ring, and the freeze bit f. -/
def sEvs (f : Nat) (o : Bool) : State := fx [(Reg.EV_STATUS_FREEZE, f), (Reg.SQ_SPMI_ROLE, 2)] { sPow with ms := 5000, ev := { EventSt.reset with reload := false, ring := [(3, ⟨7, 1, .info, false, false, false, false, false, 0, 0, 0, 0, 1, 0, 0, [], 0, false, false, o⟩)] }, host := { HostSt.reset with auth := ⟨none, some (2, 6000), []⟩ } }

theorem test_meets_event_path (e : EvRec) (h : e = ⟨7, 1, .info, false, false, false, false, false, 0, 0, 0, 0, 1, 0, 0, [], 0, false, false, true⟩) :
    (evSev 1).contains .info ≠ (evSev 1).contains .critical ∧ (sEvs 0 true).evBlocked = false ∧ (sEvs 0 true).ev.ring.length < 1024 ∧ e.rep = 1 ∧
    (∀ x ∈ (sEvs 0 true).ev.ring, x.2.rep ≤ 1000) ∧ (sEvs 1 true).evBlocked = true ∧ newest (sEvs 0 true).ev.ring = some (3, e) ∧ e.opened = true ∧
    e.time + e.lastDt + 10 ≤ (sEvs 0 true).evTime ∧ (sEvs 0 true).getB Reg.EV_STATUS_FREEZE = false ∧ (sEvs 1 true).getB Reg.EV_STATUS_FREEZE = true ∧
    oldestOf ((sEvs 0 false).ev.ring.filter (fun x => !x.2.opened && !x.2.flushed)) = some (3, { e with opened := false }) ∧
    (sEvs 0 false).keep.state < 3 ∧ (sEvs 0 false).keep.jq = [] ∧ (sEvs 0 false).ev.clearing = none := by
  subst h; decide

theorem test_meets_event_control : (sEvs 0 false).reach .cxl 0xE004 = true ∧ (sEvs 0 false).ev.frzEnd = none ∧ (sEvs 1 false).ownsFreeze .cxl = true ∧
    (sEvs 0 false).ownsFreeze .cxl = false ∧ (sEvs 0 false).reach .cxl 0xE008 = true ∧ (sEvs 0 false).reach .spmi 0xE008 = true ∧
    (0x101#32).toNat / 256 % 2 = 1 ∧ (sEvs 0 false).ticketFor 2 = true ∧ ({ sEvs 0 false with ms := 6000 } : State).ticketFor 2 = false ∧
    (sEvs 0 false).reach .cxl 0xE024 = true ∧ (sEvs 0 false).keep.up = true := by decide

/-- A VX8460 with the twin role r, the mooring link in state l, and the fields f. -/
def sTwn (r l : Nat) (f : List (Fld × Nat)) : State := fx ((Reg.TW_CFG_TWIN_EN, 1) :: (Reg.TW_STATUS_ROLE, r) :: (Reg.TW_STATUS_LINK, l) :: f) { sPow with ms := 500, twin := { TwinSt.reset with sawHello := true, lseqTx := 20, txf := [⟨2, 0, 0, 0, 0⟩, ⟨3, 0, 0, 0, 0⟩], beat := some ⟨1, 2, 0, 2, 5⟩, selfTest := true } }

/-- The inputs of a tick, all at rest. -/
def inRest : InputMsg := ⟨false, 0, 0, false, 0, 0, false, false, false, false, 0, 0, 0, 0, 0, false⟩

theorem test_meets_twin_link : (sTwn 1 0 []).twinOn = true ∧ (sTwn 1 0 []).pd 8 = true ∧ (sTwn 1 0 []).twin.heldDown = false ∧ (sTwn 1 0 []).getF Reg.TW_STATUS_LINK = 0 ∧
    (sTwn 1 2 []).linkOn = true ∧ ({ sTwn 1 3 [] with mode := .burrow } : State).linkOn = true ∧ (sTwn 1 2 []).getF Reg.TW_STATUS_LINK = 2 ∧ 2 ≤ (sTwn 1 2 []).twin.txf.length ∧
    (sTwn 1 2 []).twin.txf.length ≤ 64 ∧ (sTwn 1 2 []).twin.lseqTx < 4096 ∧ 2 ≤ (sTwn 1 2 []).twin.lseqTx ∧ (sTwn 1 2 []).hasTwin = true ∧
    (sTwn 1 2 [(Reg.TW_STATUS_BELL_OK, 1)]).getB Reg.TW_STATUS_BELL_OK = true ∧ (sTwn 1 0 [(Reg.TW_STATUS_BELL_OK, 1)]).linkOn = false ∧
    (sTwn 1 2 [(Reg.TW_STATUS_BELL_OK, 0)]).getB Reg.TW_STATUS_BELL_OK = false ∧ (sTwn 1 2 []).rail.vioOk = true ∧
    ({ sTwn 1 2 [] with rail := { (sTwn 1 2 []).rail with vioOk := false } } : State).getB Reg.TW_STATUS_BELL_OK = false := by decide

theorem test_meets_pairing : (sTwn 2 0 []).mode = .run ∧ (sTwn 2 0 []).twin.partnerFence = false ∧ (sTwn 2 0 []).isStandby = true ∧ (sTwn 2 0 []).bur.fenced = false ∧
    (sTwn 2 0 []).getF Reg.TW_STATUS_PARTNER ≠ 2 ∧ (sTwn 0 0 []).isSolo = true ∧ (sTwn 1 0 []).twinUp = false ∧ (sTwn 1 2 []).twinUp = true ∧
    ((⟨1, 2, 0, 0, 5⟩ : BeatMsg).mirror ≠ 1 ∧ (⟨1, 2, 0, 0, 5⟩ : BeatMsg).store = 0) ∧ (sTwn 1 2 [(Reg.ES_ACC_MODE, 2)]).getF Reg.ES_ACC_MODE = 2 ∧
    (sTwn 1 2 []).isActive = true ∧ (sTwn 1 2 []).written = [] ∧ ({ sTwn 1 2 [] with twin := TwinSt.reset } : State).twin.sawHello = false ∧
    ((⟨2, 0, 0, 0, true, 0, 0, 0⟩ : HelloMsg).tagOk = true ∧ (⟨2, 0, 0, 0, true, 0, 0, 0⟩ : HelloMsg).role = 2 ∧ (⟨2, 0, 1, 0, true, 0, 0, 0⟩ : HelloMsg).mirror = 1) ∧
    (sTwn 1 2 []).getF Reg.TW_EPOCH_EPOCH = (⟨2, 0, 0, 0, true, 0, 0, 0⟩ : HelloMsg).epoch ∧ (⟨2, 0, 0, 0, false, 0, 0, 0⟩ : HelloMsg).tagOk = false := by decide

theorem test_meets_control : (sTwn 1 2 []).isSolo = false ∧ (sTwn 1 2 []).twin.inPartner = none ∧ (sTwn 1 2 []).comparing = true ∧ (sTwn 1 2 []).twin.selfTest = true ∧
    ({ sTwn 1 2 [] with twin := { (sTwn 1 2 []).twin with selfTest := false, mism := 2 } } : State).comparing = true ∧ (sTwn 1 2 []).twin.mism < 2 ∧ (∃ w : BitVec 64, w ≠ (sTwn 1 2 []).decide64 inRest inRest) ∧
    (sTwn 1 2 []).host.ingress = [] ∧ (sTwn 1 2 []).host.stage = none ∧ (sTwn 1 2 []).host.staged = [] ∧ (sTwn 1 2 []).nand.refreshQ = [] ∧
    ({ sTwn 1 2 [] with twin := { (sTwn 1 2 []).twin with grace := true, fenceWait := true } } : State).isActive = true ∧ (sTwn 1 2 []).bur.trig = false ∧
    (sTwn 1 2 []).getB Reg.MD_STATUS_LRST_ACT = false ∧ (sTwn 1 2 []).getB Reg.TW_STATUS_GOVERN = false :=
  ⟨by decide, by decide, by decide, by decide, by decide, by decide, ⟨(sTwn 1 2 []).decide64 inRest inRest + 1, by simp⟩, by decide, by decide, by decide, by decide, by decide, by decide, by decide, by decide⟩

/-- A standby with a ticket for a forced promotion. -/
def sPro (p m : Nat) : State := { sTwn 2 0 [(Reg.TW_STATUS_PARTNER, p), (Reg.TW_STATUS_MIRROR, m)] with host := { HostSt.reset with auth := ⟨none, some (3, 600), []⟩ } }

theorem test_meets_promotion : (sPro 3 0).getB Reg.HL_STATUS_LINK_UP = true ∧ (sPro 3 0).mboxFree = true ∧ (sPro 3 0).hasTwin = true ∧ (sPro 3 0).isStandby = true ∧
    ({ sPro 3 0 with otp := { OtpSt.reset with part := 0x8450 } } : State).hasTwin = false ∧ (sPro 3 0).mode = .run ∧ (sPro 3 0).lockHas 8 = false ∧ (sPro 3 0).getF Reg.TW_STATUS_PARTNER = 3 ∧
    (sPro 3 0).getF Reg.TW_STATUS_MIRROR = 0 ∧ (sPro 2 1).ticketFor 3 = true ∧ (sPro 2 1).getF Reg.TW_STATUS_PARTNER ≠ 0 ∧ (sPro 2 1).getF Reg.TW_STATUS_MIRROR ≠ 0 ∧
    ({ sPro 2 1 with ms := 600 } : State).ticketFor 3 = false := by decide

/-- A twin whose resynchronisation runs on granule 5. -/
def sRsy (r : Nat) : State := { sTwn r 2 [(Reg.TW_RESYNC_RUNNING, 1), (Reg.MD_STATUS_SERVICE, 1)] with twin := { TwinSt.reset with sawHello := true, rsyMask := [(5, 3)], rsyTodo := [5, 6] } }

theorem test_meets_mirror : (sRsy 2).isStandby = true ∧ (sRsy 2).twinUp = true ∧ (sRsy 2).bur.fenced = false ∧ (sRsy 2).lastMirror < 1 ∧ 0 < (sRsy 2).nLines ∧
    (sRsy 2).twin.noAck = false ∧ (sRsy 2).twin.outcome = false ∧ (sRsy 2).twin.mwait = [] ∧ (sRsy 2).twin.rsyPend = [] ∧ (sRsy 2).twin.rsyDone = false ∧ (sRsy 2).twin.acc < 1 ∧ (sRsy 2).twin.mstaged = [] ∧
    ({ sRsy 2 with twin := { (sRsy 2).twin with noAck := true } } : State).twinUp = true ∧ (sRsy 1).isActive = true ∧ (sRsy 1).twin.noAck = false ∧
    (sRsy 1).twin.rsyMask.length < 64 ∧ mfind 6 (sRsy 1).twin.rsyMask = none ∧ (sRsy 1).getB Reg.TW_RESYNC_RUNNING = true ∧ (sRsy 1).twin.rsyTodo.contains 6 = true ∧
    6 < (sRsy 2).nUser ∧ (3 : Nat).testBit 1 = true ∧ (mfind 5 (sRsy 1).twin.rsyMask).isSome = true ∧ (sTwn 1 2 [(Reg.TW_RESYNC_RUNNING, 1)]).twin.rsyTodo = [] ∧
    (sRsy 2).reach .cxl 0xC034 = true ∧ (sRsy 2).service = true ∧ (sTwn 2 2 []).service = false := by decide

theorem test_meets_window : State.reset.answers .spmi (4 * 4) = false ∧ (fx [(Reg.PS_DOM_PD, 0)] sPow).answers .cxl (4 * 0x1C0D) = false ∧ sPow.reach .cxl 0x2010 = true ∧ sPow.regLive 0x2010 = true ∧ sPow.answers .cxl 0x7034 = true ∧
    (2 : Nat) % 4 ≠ 0 ∧ (2 : Nat) ≠ 4 ∧ (fx [(Reg.SQ_SPMI_ROLE, 2)] sPow).reach .spmi 0x10 = true ∧ sPow.reach .cxl 0x3004 = true ∧ sPow.service = false ∧
    (fx [(Reg.MD_STATUS_SERVICE, 1)] sPow).service = true ∧ sPow.regLive 0x3004 = true ∧ sPow.reach .cxl 0x000C = true ∧ sPow.regLive 0x000C = true ∧
    sPow.blHonoured ((1#32).toNat % 256) = true ∧ sPow.blHonoured ((2#32).toNat % 256) = false ∧ sPow.reach .cxl 0x7008 = true ∧ sPow.regLive 0x7008 = true ∧
    geomOk ((0x00400040#32).toNat / 2 ^ 16) ((0x00400040#32).toNat % 2 ^ 11) = true ∧ geomOk ((0x003F0040#32).toNat / 2 ^ 16) ((0x003F0040#32).toNat % 2 ^ 11) = false := by decide

theorem test_meets_power_forms (s : State) (h : s = { sLock 0x60 with therm := { ThermSt.reset with tempOk := true } }) : s.reach .spmi 0x1010 = true ∧ s.mode = .off ∧
    s.lockHas 6 = true ∧ s.therm.tempOk = true ∧ ([-400] : List Int) ≠ [] ∧ s.therm.offAt + 60000 ≤ s.ms ∧ s.vinRet = true ∧
    (∀ x ∈ ([-400] : List Int), x < 10 * ((s.thresholds.getD 3 0 : Int) - s.thHyst)) ∧
    (fx [(Reg.PS_DOM_PD, 1)] { State.reset with mode := .wake }).pd 0 = true ∧ (4 : Nat) ∈ [1, 2, 4, 8] := by
  subst h; decide

theorem test_meets_burrow_forms (s : State) (h : s = { sBur .p3 with bur := { BurrowSt.reset with noManifest := true } }) : s.bur.abn = .none ∧ s.bur.noManifest = true ∧
    ({ sP2 with bur := { sP2.bur with stopped := true } } : State).nextDirty = some 0 ∧
    ({ sBur .p3 with bur := { BurrowSt.reset with abn := .settling } } : State).bur.abn = .settling ∧
    (fx [(Reg.BE_STATUS_ACTIVE, 1), (Reg.BE_STATUS_SHED, 15)] s).getB Reg.BE_STATUS_ACTIVE = true := by
  subst h; decide

theorem test_meets_upkeep_forms (q : SubCh) (h : q = { SubCh.reset with waiting := [⟨0, false, 2, 0, 0⟩] }) (s : State) (hs : s = fx [(Reg.DC_CFG_RFM_EN, 0)] { sPow with dram := { DramSt.reset with sub := [(0, q)] } }) :
    s.chRuns 0 = true ∧ s.mode = .run ∧ (s.subCh 0).replay = none ∧ (s.subCh 0).queue = [] ∧ (s.subCh 0).waiting = [⟨0, false, 2, 0, 0⟩] ∧ (s.subCh 0).retry = [] ∧
    (s.subCh 0).nref = [] ∧ (s.subCh 0).postponed = [] ∧ s.getB Reg.DC_CFG_RFM_EN = false ∧ s.dram.wbuf = [] ∧ s.dram.wback = [] ∧ [s.flatBank 0].contains (s.flatBank 0) = true ∧
    (fx [(Reg.NB_STATUS_SCAN, 1)] (sWake 6)).getB Reg.NB_STATUS_SCAN = true ∧ sNand.mapOf 0 ≠ 2 := by
  subst h hs; decide

end Sys2Proof.Tests
end

/-! SUPPORT. Register frames and the operations behind the power, link, supervisor and register-window commands, and the proofs of the statements
of the scope family. -/

namespace Sys2Proof.Machine

/-! ### Register frames -/

theorem RegsKept.refl (l : List Fld) (s : State) : RegsKept l s s := fun _ _ => rfl

theorem RegsKept.trans {l : List Fld} {s t u : State} (h : RegsKept l s t) (h' : RegsKept l t u) : RegsKept l s u :=
  fun g hg => (h' g hg).trans (h g hg)

theorem RegsKept.mono {l m : List Fld} {s t : State} (h : RegsKept l s t) (hlm : l ⊆ m) : RegsKept m s t :=
  fun g hg => h g fun f hf => hg f (hlm hf)

theorem RegsKept.of_regs {l : List Fld} {s t : State} (h : t.regs = s.regs) : RegsKept l s t :=
  fun g _ => by simp only [State.getF, h]

theorem regsKept_setF {l : List Fld} {s : State} {f : Fld} {v : Nat} (h : f ∈ l) : RegsKept l s (s.setF f v) :=
  fun _ hg => State.getF_setF_ne s v (hg f h)

theorem regsKept_setFs {l : List Fld} {s : State} {a : List (Fld × Nat)} (h : ∀ p ∈ a, p.1 ∈ l) : RegsKept l s (s.setFs a) :=
  fun _ hg => State.getF_setFs_ne s a _ fun p hp => hg p.1 (h p hp)

theorem regsKept_addSat {l : List Fld} {s : State} {f : Fld} {n : Nat} (h : f ∈ l) : RegsKept l s (s.addSat f n) := regsKept_setF h

theorem State.getF_addSat_self (s : State) (f : Fld) (n : Nat) : (s.addSat f n).getF f = min (2 ^ f.w - 1) (s.getF f + n) := by
  rw [State.addSat, State.getF_setF_self]
  exact Nat.mod_eq_of_lt (Nat.lt_of_le_of_lt (Nat.min_le_left _ _) (Nat.sub_one_lt (Nat.two_pow_pos _).ne'))

theorem regsKept_raise {s : State} {src : EvSource} {cls : Nat} {sev : Sev} {param : Nat} : RegsKept evFlds s (s.raise src cls sev param) :=
  regsKept_setFs (s := s) (by simp [evFlds])

theorem regsKept_wrote {s : State} {p : Path} : RegsKept [Reg.DT_SVC_LEFT_S] s (s.wrote p) := by
  cases p
  · simp only [State.wrote, State.hostTouch]
    split
    · exact regsKept_setF List.mem_cons_self
    · exact .refl _ _
  · exact .refl _ _

@[simp] theorem State.setFs_nil (s : State) : s.setFs [] = s := rfl

/-- A one-bit field is set or not as its register reads. -/
theorem State.getB_congr {s t : State} {f : Fld} (h : t.getF f = s.getF f) : t.getB f = s.getB f := by
  simp only [State.getB, h]

/-! ### Class resets (R16) -/

theorem Fld.key_mod_four (f : Fld) : f.key % 4 = f.cls.code := by
  have : f.cls.code < 4 := by cases f.cls <;> decide
  unfold Fld.key
  omega

theorem RCls.code_injective {c d : RCls} (h : c.code = d.code) : c = d := by
  revert h
  cases c <;> cases d <;> decide

theorem mfind_filter_key (p : Nat → Bool) (k : Nat) (m : List (Nat × Nat)) :
    mfind k (m.filter fun x => p x.1) = if p k then mfind k m else none := by
  induction m with
  | nil => simp [mfind]
  | cons x t ih =>
    obtain ⟨a, v⟩ := x
    by_cases ha : p a <;> by_cases hk : a = k
    · subst hk; simp [List.filter, ha, mfind]
    · simp [List.filter, ha, mfind, hk, ih]
    · subst hk; simp [List.filter, ha, ih]
    · simp [List.filter, ha, mfind, hk, ih]

theorem State.getF_resetClass_self (s : State) {f : Fld} {c : RCls} (h : f.cls = c) : (s.resetClass c).getF f = f.rst % 2 ^ f.w := by
  simp only [State.getF, State.resetClass, mget, mfind_filter_key (fun k => k % 4 != c.code), f.key_mod_four, h, bne_self_eq_false,
    Bool.false_eq_true, if_false, Option.getD_none]

theorem State.getF_resetClass_ne (s : State) {f : Fld} {c : RCls} (h : f.cls ≠ c) : (s.resetClass c).getF f = s.getF f := by
  have hc : (f.cls.code != c.code) = true := bne_iff_ne.mpr fun e => h (RCls.code_injective e)
  simp only [State.getF, State.resetClass, mget, mfind_filter_key (fun k => k % 4 != c.code), f.key_mod_four, hc, if_true]

/-! ### What a loss of power, the host link and the write path leave alone -/

/-- The mode, the pins, the OTP row, the supervisor, the store, the sequencer's and the thermal unit's own state and the written fields are as
before: only registers, host link, cover, DRAM, burrow engine, NAND, twin, keeper flash, recorder and the paths' own state may have moved. -/
def BoardKept (s t : State) : Prop :=
  t = { s with
    regs := t.regs, host := t.host, cover := t.cover, dram := t.dram, bur := t.bur, cxl := t.cxl, spmiP := t.spmiP, nand := t.nand,
    twin := t.twin, keep := t.keep, ev := t.ev }

theorem BoardKept.refl (s : State) : BoardKept s s := rfl

theorem BoardKept.trans {s t u : State} (h : BoardKept s t) (h' : BoardKept t u) : BoardKept s u := by
  unfold BoardKept at *
  rw [h', h]

section
variable {s t : State} (h : BoardKept s t)
include h

theorem BoardKept.mode : t.mode = s.mode := by rw [show t = _ from h]
theorem BoardKept.pins : t.pins = s.pins := by rw [show t = _ from h]
theorem BoardKept.rail : t.rail = s.rail := by rw [show t = _ from h]
theorem BoardKept.otp : t.otp = s.otp := by rw [show t = _ from h]
theorem BoardKept.hasTwin : t.hasTwin = s.hasTwin := by simp only [State.hasTwin, h.otp]

end

/-- The fields that the end of service mode sets (R119). -/
def serviceFlds : List Fld := [Reg.MD_STATUS_SERVICE, Reg.DT_SVC_EXIT, Reg.DT_SVC_LEFT_S] ++ evFlds

theorem State.leaveService_frame (s : State) (exit : Nat) :
    s.leaveService exit = { s with regs := (s.leaveService exit).regs, ev := { s.ev with
      queue := (s.leaveService exit).ev.queue, seq := (s.leaveService exit).ev.seq, ownHandle := (s.leaveService exit).ev.ownHandle,
      srcs := (s.leaveService exit).ev.srcs, lastSrc := (s.leaveService exit).ev.lastSrc } } := by
  unfold State.leaveService
  split <;> rfl

theorem regsKept_leaveService (s : State) (exit : Nat) : RegsKept serviceFlds s (s.leaveService exit) := by
  unfold State.leaveService
  split
  · exact (regsKept_setFs (by simp [serviceFlds])).trans (regsKept_raise.mono (List.subset_append_right _ _))
  · exact .refl _ _

theorem foldl_startErase_frame (l : List Nat) (o : FlashOwner) (k : State → Nat → Nat) (s : State) :
    let t := l.foldl (fun (a : State) j => a.startErase (k a j) o) s
    t = { s with keep := { s.keep with erasing := t.keep.erasing, sectors := t.keep.sectors } } := by
  induction l generalizing s with
  | nil => rfl
  | cons j l ih =>
    simp only [List.foldl_cons]
    rw [ih]
    rfl

/-- A Set LSA that stops leaves everything but its own bookkeeping and its sectors' erases (R111, R453). -/
theorem State.lsaStop_frame (s : State) :
    s.lsaStop = { s with
      host := { s.host with lsaSet := s.lsaStop.host.lsaSet, lsaDirty := s.lsaStop.host.lsaDirty }
      keep := { s.keep with erasing := s.lsaStop.keep.erasing, sectors := s.lsaStop.keep.sectors, progs := s.lsaStop.keep.progs } } := by
  unfold State.lsaStop
  split
  · rfl
  · dsimp only
    rw [foldl_startErase_frame]

/-- What a reset of class LINK may touch (R16, R72). -/
theorem State.linkReset_frame (s : State) :
    s.linkReset = { s with
      regs := s.linkReset.regs
      ev := { s.ev with
        queue := s.linkReset.ev.queue, seq := s.linkReset.ev.seq, ownHandle := s.linkReset.ev.ownHandle, srcs := s.linkReset.ev.srcs,
        lastSrc := s.linkReset.ev.lastSrc }
      host := { s.host with
        tx := [], reqCredits := 0, mbox := ⟨0, 0, .none⟩, mboxBusy := none, decoder := false
        auth := { s.host.auth with chal := none, ticket := none }
        lsaSet := s.linkReset.host.lsaSet, lsaDirty := s.linkReset.host.lsaDirty }
      keep := { s.keep with
        erasing := s.linkReset.keep.erasing, sectors := s.linkReset.keep.sectors, progs := s.linkReset.keep.progs } } := by
  unfold State.linkReset
  dsimp only
  rw [State.lsaStop_frame, State.leaveService_frame]
  rfl

theorem boardKept_linkReset (s : State) : BoardKept s s.linkReset := by
  unfold BoardKept
  rw [State.linkReset_frame]

/-- Every field of class LINK reads its reset value after that reset. -/
theorem State.getF_linkReset_link (s : State) {f : Fld} (h : f.cls = .link) : s.linkReset.getF f = f.rst % 2 ^ f.w :=
  State.getF_resetClass_self _ h

/-- A field of another class keeps its value, but for what the end of service mode sets. -/
theorem State.getF_linkReset (s : State) {g : Fld} (hc : g.cls ≠ .link) (hg : ∀ f ∈ serviceFlds, g.key ≠ f.key) :
    s.linkReset.getF g = s.getF g := by
  have hstop : (s.leaveService 3).lsaStop.regs = (s.leaveService 3).regs := by rw [State.lsaStop_frame]
  calc s.linkReset.getF g = ((s.leaveService 3).lsaStop.resetClass .link).getF g := rfl
    _ = (s.leaveService 3).lsaStop.getF g := State.getF_resetClass_ne _ hc
    _ = (s.leaveService 3).getF g := RegsKept.of_regs (l := []) hstop g (by simp)
    _ = s.getF g := regsKept_leaveService s 3 g hg

/-! ### The loss of a domain's power (R331, R332) -/

theorem boardKept_lampLost (s : State) : BoardKept s s.lampLost := by
  unfold BoardKept State.lampLost State.resetClass
  dsimp only
  rw [State.linkReset_frame]

theorem boardKept_keeperLost (s : State) : BoardKept s s.keeperLost := rfl

/-- The PS_DOM word that the modes, shed steps and supplies give. -/
def State.domWord (s : State) : Nat := (List.range 16).foldl (fun n k => n + s.domState k * 4 ^ k) 0

/-- The fabric's, or else the host link's, share of a change of PS_DOM. -/
def State.fabricOff (s t : State) : State :=
  if s.pdState 1 != 0 && t.pdState 1 == 0 then t.lampLost
  else if s.pdState 0 != 0 && t.pdState 0 == 0 then { t.linkReset with host := { t.linkReset.host with tx := t.host.tx } } else t

theorem State.repower_eq (s : State) :
    s.repower = (let t := s.setF Reg.PS_DOM_PD s.domWord
      if s.pdState 10 != 0 && t.pdState 10 == 0 then (s.fabricOff t).keeperLost else s.fabricOff t) := rfl

theorem boardKept_fabricOff (s t : State) : BoardKept t (s.fabricOff t) := by
  unfold State.fabricOff
  split
  · exact boardKept_lampLost t
  · split
    · exact (boardKept_linkReset t).trans rfl
    · exact .refl t

theorem boardKept_repower (s : State) : BoardKept s s.repower := by
  have hset : BoardKept s (s.setF Reg.PS_DOM_PD s.domWord) := rfl
  have hoff := hset.trans (boardKept_fabricOff s _)
  rw [State.repower_eq]
  dsimp only
  split
  · exact hoff.trans (boardKept_keeperLost _)
  · exact hoff

@[simp] theorem State.repower_mode (s : State) : s.repower.mode = s.mode := (boardKept_repower s).mode
@[simp] theorem State.repower_rail (s : State) : s.repower.rail = s.rail := (boardKept_repower s).rail

/-- The keeper flash's records outlive every domain. -/
@[simp] theorem State.repower_recs (s : State) : s.repower.keep.recs = s.keep.recs := by
  have hlink (t : State) : t.linkReset.keep.recs = t.keep.recs := by rw [State.linkReset_frame]
  have hoff (t : State) : (s.fabricOff t).keep.recs = t.keep.recs := by
    unfold State.fabricOff
    split
    · exact hlink t
    · split
      · exact hlink t
      · rfl
  rw [State.repower_eq]
  dsimp only
  split <;> exact hoff _

/-- The fields of the classes POR and KRST that a change of PS_DOM sets. -/
def powerFlds : List Fld :=
  [Reg.PS_DOM_PD, Reg.HL_CREDIT_HELD_LAST, Reg.EV_STATUS_FREEZE, Reg.EV_STATUS_FRZ_MS] ++ serviceFlds

/-- The field keeps its value whatever domain goes off: it is reset neither with the link nor with the lamp die, and nothing else sets it. -/
def Fld.outlastsPower (g : Fld) : Bool := g.cls != .link && g.cls != .lrst && powerFlds.all (fun f => g.key != f.key)

theorem regsKept_keeperLost (s : State) : RegsKept powerFlds s s.keeperLost :=
  regsKept_setFs (s := s) (a := [(Reg.EV_STATUS_FREEZE, 0), (Reg.EV_STATUS_FRZ_MS, 0)]) (by simp [powerFlds])

/-- Beside its resets the lamp die's loss sets HL_CREDIT.HELD_LAST alone. -/
theorem regsKept_lampLost_resets (s : State) : RegsKept powerFlds (s.linkReset.resetClass .lrst) s.lampLost :=
  regsKept_setFs (s := s.linkReset.resetClass .lrst) (by simp [powerFlds])

/-- The keeper's share of a change of PS_DOM aside, a field reads what the fabric's share leaves. -/
theorem State.getF_repower_eq (s : State) {g : Fld} (hk : ∀ f ∈ powerFlds, g.key ≠ f.key) :
    s.repower.getF g = (s.fabricOff (s.setF Reg.PS_DOM_PD s.domWord)).getF g := by
  rw [State.repower_eq]
  dsimp only
  split
  · exact regsKept_keeperLost _ g hk
  · rfl

section
variable {g : Fld} (h : g.outlastsPower = true)
include h

theorem Fld.outlastsPower.cls_ne_link : g.cls ≠ .link := by
  simp only [Fld.outlastsPower, Bool.and_eq_true, bne_iff_ne] at h
  exact h.1.1

theorem Fld.outlastsPower.cls_ne_lrst : g.cls ≠ .lrst := by
  simp only [Fld.outlastsPower, Bool.and_eq_true, bne_iff_ne] at h
  exact h.1.2

theorem Fld.outlastsPower.key_ne : ∀ f ∈ powerFlds, g.key ≠ f.key := by
  simp only [Fld.outlastsPower, Bool.and_eq_true, List.all_eq_true, bne_iff_ne] at h
  exact h.2

theorem State.getF_linkReset_of_outlasts (s : State) : s.linkReset.getF g = s.getF g :=
  s.getF_linkReset (Fld.outlastsPower.cls_ne_link h) fun f hf => Fld.outlastsPower.key_ne h f (List.mem_append_right _ hf)

theorem State.getF_lampLost (s : State) : s.lampLost.getF g = s.getF g := by
  rw [regsKept_lampLost_resets s g (Fld.outlastsPower.key_ne h), State.getF_resetClass_ne _ (Fld.outlastsPower.cls_ne_lrst h),
    State.getF_linkReset_of_outlasts h]

theorem State.getF_fabricOff (s t : State) : (s.fabricOff t).getF g = t.getF g := by
  unfold State.fabricOff
  split
  · exact State.getF_lampLost h t
  · split
    · exact State.getF_linkReset_of_outlasts h t
    · rfl

theorem State.getF_repower (s : State) : s.repower.getF g = s.getF g := by
  have hkey := Fld.outlastsPower.key_ne h
  rw [State.getF_repower_eq s hkey, State.getF_fabricOff h, State.getF_setF_ne _ _ (hkey _ (by simp [powerFlds]))]

end

/-- With the fabric, the host link and the keeper already off, PS_DOM is all that changes. -/
theorem State.repower_of_off (s : State) (h0 : s.pdState 0 = 0) (h1 : s.pdState 1 = 0) (h10 : s.pdState 10 = 0) :
    s.repower = s.setF Reg.PS_DOM_PD s.domWord := by
  simp [State.repower_eq, State.fabricOff, h0, h1, h10]

/-- A field of class LINK that reads its reset value still does once the domains have followed. -/
theorem State.getF_repower_link (s : State) {f : Fld} (hf : f.cls = .link) (hs : s.getF f = f.rst % 2 ^ f.w)
    (hk : ∀ g ∈ powerFlds, f.key ≠ g.key) : s.repower.getF f = f.rst % 2 ^ f.w := by
  rw [State.getF_repower_eq s hk]
  unfold State.fabricOff
  split
  · rw [regsKept_lampLost_resets _ f hk, State.getF_resetClass_ne _ (by rw [hf]; decide), State.getF_linkReset_link _ hf]
  · split
    · exact State.getF_linkReset_link _ hf
    · rw [State.getF_setF_ne _ _ (hk _ (by simp [powerFlds])), hs]

/-! ### PERST_N and the host link (R72, R75, R80) -/

theorem State.frameIf_frame (s : State) (b : Bool) (ty par : Nat) : s.frameIf b ty par = { s with twin := (s.frameIf b ty par).twin } := by
  cases b <;> rfl

/-- Discarding held traffic empties the ingress buffer, the staged writes and the reads, and touches beside them only the ledger stage, the
mark of an undelivered completion and the twin unit. -/
theorem State.discardHeld_frame (s : State) :
    s.discardHeld = { s with
      host := { s.host with ingress := [], staged := [], reads := [], stage := s.discardHeld.host.stage, quiet := s.discardHeld.host.quiet }
      twin := s.discardHeld.twin } := by
  have hall : s.discardAll = { s with
      host := { s.host with ingress := [], staged := [], reads := [], stage := none }, twin := s.discardAll.twin } := State.frameIf_frame _ _ _ _
  unfold State.discardHeld
  split
  · unfold State.stageWsn
    split
    · split
      · rw [State.frameIf_frame, hall]
      · rw [hall]
    · rw [hall]
  · rw [hall]

/-- What PERST_N's fall resets in every mode but OFF and DEN: class LINK; in the modes that serve the host, held traffic too. -/
theorem State.perstFell_cases (s : State) (hoff : s.mode ≠ .off) (hden : s.mode ≠ .den) :
    s.perstFell = s.linkReset.discardHeld.dropHostReads ∧ s.mode ≠ .burrow ∨ s.perstFell = s.linkReset ∧ s.mode ≠ .run := by
  unfold State.perstFell
  cases hm : s.mode with
  | off => exact absurd hm hoff
  | den => exact absurd hm hden
  | burrow | wake => exact .inr ⟨rfl, by decide⟩
  | run => exact .inl ⟨rfl, by decide⟩
  | restore =>
    dsimp only
    split
    · exact .inl ⟨rfl, by decide⟩
    · exact .inr ⟨rfl, by decide⟩

@[simp] theorem State.discardHeld_regs (s : State) : s.discardHeld.regs = s.regs := by rw [State.discardHeld_frame]

/-- PERST_N's fall resets every field of class LINK. -/
theorem State.getF_perstFell_link {s : State} (hoff : s.mode ≠ .off) (hden : s.mode ≠ .den) {f : Fld} (hf : f.cls = .link) :
    s.perstFell.getF f = f.rst % 2 ^ f.w := by
  obtain ⟨h, -⟩ | ⟨h, -⟩ := s.perstFell_cases hoff hden
  · rw [h, ← s.getF_linkReset_link hf]
    exact RegsKept.of_regs (l := []) (State.discardHeld_regs _) f (by simp)
  · rw [h, s.getF_linkReset_link hf]

theorem boardKept_perstFell (s : State) : BoardKept s s.perstFell := by
  have hheld : BoardKept s s.linkReset.discardHeld.dropHostReads :=
    (boardKept_linkReset s).trans (by unfold BoardKept State.dropHostReads; rw [State.discardHeld_frame])
  by_cases hoff : s.mode = .off
  · rw [State.perstFell, hoff]; exact .refl s
  · by_cases hden : s.mode = .den
    · rw [State.perstFell, hden]; exact .refl s
    · obtain ⟨h, -⟩ | ⟨h, -⟩ := s.perstFell_cases hoff hden
      · rw [h]; exact hheld
      · rw [h]; exact boardKept_linkReset s

/-- A field that PERST_N's fall does not reset keeps its value, but for what the end of service mode sets. -/
theorem State.getF_perstFell (s : State) {g : Fld} (hc : g.cls ≠ .link) (hg : ∀ f ∈ serviceFlds, g.key ≠ f.key) :
    s.perstFell.getF g = s.getF g := by
  have hheld : s.linkReset.discardHeld.dropHostReads.getF g = s.linkReset.getF g :=
    RegsKept.of_regs (l := []) (State.discardHeld_regs _) g (by simp)
  have hlink := s.getF_linkReset hc hg
  unfold State.perstFell
  split
  · rfl
  · rfl
  · exact hlink
  · rw [hheld, hlink]
  · split
    · rw [hheld, hlink]
    · exact hlink
  · exact hlink

/-- Beside the registers, what PERST_N's fall takes from the host: its credits, decoders, ticket and challenge; neither the books nor the DRAM's
bytes nor the NAND move. -/
theorem State.perstFell_host {s : State} (hoff : s.mode ≠ .off) (hden : s.mode ≠ .den) :
    s.perstFell.host.reqCredits = 0 ∧ s.perstFell.host.decoder = false ∧ s.perstFell.host.auth.ticket = none ∧ s.perstFell.host.auth.chal = none ∧
      s.perstFell.dram.cells = s.dram.cells ∧ s.perstFell.cover = s.cover ∧ s.perstFell.nand = s.nand := by
  obtain ⟨h, -⟩ | ⟨h, -⟩ := s.perstFell_cases hoff hden
  · rw [h, State.dropHostReads, State.discardHeld_frame, State.linkReset_frame]
    exact ⟨rfl, rfl, rfl, rfl, rfl, rfl, rfl⟩
  · rw [h, State.linkReset_frame]
    exact ⟨rfl, rfl, rfl, rfl, rfl, rfl, rfl⟩

/-- In RUN the held traffic goes (R25, R72). -/
theorem State.perstFell_run {s : State} (h : s.mode = .run) :
    s.perstFell.host.ingress = [] ∧ s.perstFell.host.staged = [] ∧ s.perstFell.host.reads = [] := by
  have hfell : s.perstFell = s.linkReset.discardHeld.dropHostReads := by simp [State.perstFell, h]
  rw [hfell, State.dropHostReads, State.discardHeld_frame]
  exact ⟨rfl, rfl, rfl⟩

/-- In BURROW it stays. -/
theorem State.perstFell_burrow {s : State} (h : s.mode = .burrow) :
    s.perstFell.host.ingress = s.host.ingress ∧ s.perstFell.host.staged = s.host.staged ∧ s.perstFell.host.reads = s.host.reads := by
  have hfell : s.perstFell = s.linkReset := by simp [State.perstFell, h]
  rw [hfell, State.linkReset_frame]
  exact ⟨rfl, rfl, rfl⟩

theorem perstNAssert_idle {s : State} (h : s.mode = .off ∨ s.mode = .den) :
    exec .perstNAssert s = .next { s with pins := { s.pins with perstN := false } } := by
  obtain h | h := h <;> simp [exec, execPerstNAssert, State.perstFell, h]

theorem perstNRelease_trains {s : State} (hoff : s.mode ≠ .off) (hden : s.mode ≠ .den) (hpd : s.pd 0 = true) (hvio : s.rail.vioOk = true) :
    exec .perstNRelease s = .next (({ s with pins := { s.pins with perstN := true } } : State).setF Reg.HL_STATUS_LTSSM 0x01) := by
  have hpd' : ({ s with pins := { s.pins with perstN := true } } : State).pd 0 = true := hpd
  simp [exec, execPerstNRelease, State.perstRose, State.perstHigh, hoff, hden, hpd', hvio]

/-! ### LINK_UP -/

/-- A field that no written value coming into force is meant for keeps its value. -/
theorem State.getF_comeInto (s : State) (p : Nat → Bool) {g : Fld} (h : ∀ x ∈ s.written, p x.1 = true → g.key ≠ x.1) :
    (s.comeInto p).getF g = s.getF g := by
  have key : ∀ (l : List (Nat × Nat)), (∀ x ∈ l, g.key ≠ x.1) → ∀ m : List (Nat × Nat),
      mget g.rst (l.foldl (fun m x => mset x.1 x.2 m) m) g.key = mget g.rst m g.key := by
    intro l
    induction l with
    | nil => intro _ m; rfl
    | cons x t ih =>
      intro hl m
      rw [List.foldl_cons, ih fun y hy => hl y (List.mem_cons_of_mem _ hy), mget_mset_ne _ _ _ (hl x List.mem_cons_self)]
  unfold State.comeInto
  split
  · rfl
  · simp only [State.getF]
    rw [key _ fun x hx => h x (List.mem_filter.mp hx).1 (List.mem_filter.mp hx).2]

theorem State.getF_comeInto_of_not (s : State) (p : Nat → Bool) {g : Fld} (h : p g.key = false) : (s.comeInto p).getF g = s.getF g :=
  s.getF_comeInto p fun x _ hx e => by simp [← e, h] at hx

theorem State.comeInto_frame (s : State) (p : Nat → Bool) : s.comeInto p = { s with regs := (s.comeInto p).regs, written := (s.comeInto p).written } := by
  unfold State.comeInto
  split <;> rfl

/-- The link trained to a width, a speed and a version, before credits: the state that LINK_UP gives a link with the HL_ fields in force. -/
def State.linkTrained (u : State) (width speed ver : Nat) : State :=
  let t := u.setFs [(Reg.HL_STATUS_LINK_UP, 1), (Reg.HL_STATUS_LTSSM, 0x10), (Reg.HL_STATUS_CXL_VER, ver),
    (Reg.HL_STATUS_WIDTH, min width (linkLimit [1, 2, 4, 8] 8 (u.getF Reg.HL_CFG_MAX_WIDTH))),
    (Reg.HL_STATUS_SPEED, min speed (linkLimit [1, 2, 3, 4, 5] 5 (u.getF Reg.HL_CFG_MAX_SPEED)))]
  ({ t with host := { t.host with tx := [] } } : State).cdatLink

theorem exec_linkUp {s : State} {width speed ver : Nat} (hperst : s.pins.perstN = true) (hvio : s.rail.vioOk = true) (hpd : s.pd 0 = true)
    (hdown : s.getB Reg.HL_STATUS_LINK_UP = false) (hlrst : s.getB Reg.MD_STATUS_LRST_ACT = false) (hwidth : width ∈ [1, 2, 4, 8])
    (hslow : 1 ≤ speed) (hfast : speed ≤ 5) (hver : ver ≤ 2) :
    exec (.linkUp width speed ver) s = .next ((s.blockForce 2).linkTrained width speed ver).creditsIfDue := by
  have hw : [1, 2, 4, 8].contains width = true := by simpa using hwidth
  simp only [exec, execLinkUp, State.perstHigh, hperst, hvio, hpd, hdown, hlrst, hw, hslow, hfast, hver, Bool.not_false, Bool.and_self,
    decide_true, if_true]
  rfl

/-- A limit field of HL_CFG acts within the values it may take. -/
theorem linkLimit_le {ok : List Nat} {d v : Nat} (hok : ∀ x ∈ ok, x ≤ d) : linkLimit ok d v ≤ d := by
  unfold linkLimit
  split
  · rename_i h; exact hok v (by simpa using h)
  · exact Nat.le_refl d

theorem linkLimit_of_mem {ok : List Nat} {d v : Nat} (h : v ∈ ok) : linkLimit ok d v = v := by simp [linkLimit, h]

section
variable (u : State) (width speed ver : Nat)

theorem State.getF_linkTrained (g : Fld) : (u.linkTrained width speed ver).getF g = (u.setFs [(Reg.HL_STATUS_LINK_UP, 1), (Reg.HL_STATUS_LTSSM, 0x10),
    (Reg.HL_STATUS_CXL_VER, ver), (Reg.HL_STATUS_WIDTH, min width (linkLimit [1, 2, 4, 8] 8 (u.getF Reg.HL_CFG_MAX_WIDTH))),
    (Reg.HL_STATUS_SPEED, min speed (linkLimit [1, 2, 3, 4, 5] 5 (u.getF Reg.HL_CFG_MAX_SPEED)))]).getF g := rfl

theorem regsKept_linkTrained : RegsKept [Reg.HL_STATUS_LINK_UP, Reg.HL_STATUS_LTSSM, Reg.HL_STATUS_CXL_VER, Reg.HL_STATUS_WIDTH, Reg.HL_STATUS_SPEED]
    u (u.linkTrained width speed ver) :=
  regsKept_setFs (s := u) (by simp)

theorem State.linkTrained_status (hver : ver ≤ 2) :
    (u.linkTrained width speed ver).getF Reg.HL_STATUS_LINK_UP = 1 ∧ (u.linkTrained width speed ver).getF Reg.HL_STATUS_LTSSM = 0x10 ∧
      (u.linkTrained width speed ver).getF Reg.HL_STATUS_CXL_VER = ver := by
  simp (disch := decide) only [State.getF_linkTrained, State.getF_setFs_cons, State.setFs_nil, State.getF_setF_ne, State.getF_setF_self]
  exact ⟨rfl, rfl, Nat.mod_eq_of_lt (by show ver < 4; omega)⟩

theorem State.linkTrained_width :
    (u.linkTrained width speed ver).getF Reg.HL_STATUS_WIDTH = min width (linkLimit [1, 2, 4, 8] 8 (u.getF Reg.HL_CFG_MAX_WIDTH)) := by
  simp (disch := decide) only [State.getF_linkTrained, State.getF_setFs_cons, State.setFs_nil, State.getF_setF_ne, State.getF_setF_self]
  have hle : linkLimit [1, 2, 4, 8] 8 (u.getF Reg.HL_CFG_MAX_WIDTH) ≤ 8 := linkLimit_le (by decide)
  exact Nat.mod_eq_of_lt (by show _ < 16; omega)

theorem State.linkTrained_speed :
    (u.linkTrained width speed ver).getF Reg.HL_STATUS_SPEED = min speed (linkLimit [1, 2, 3, 4, 5] 5 (u.getF Reg.HL_CFG_MAX_SPEED)) := by
  simp only [State.getF_linkTrained, State.getF_setFs_cons, State.setFs_nil, State.getF_setF_self]
  have hle : linkLimit [1, 2, 3, 4, 5] 5 (u.getF Reg.HL_CFG_MAX_SPEED) ≤ 5 := linkLimit_le (by decide)
  exact Nat.mod_eq_of_lt (by show _ < 16; omega)

/-- The CDAT's bandwidth entries follow the trained width and speed (R114). -/
theorem State.linkTrained_frame :
    let t := u.linkTrained width speed ver
    t = { u with
      regs := t.regs
      host := { u.host with
        tx := []
        cdat := { u.host.cdat with
          readBw := 26 * (t.getF Reg.HL_STATUS_WIDTH * twiceRate (t.getF Reg.HL_STATUS_SPEED))
          writeBw := 24 * (t.getF Reg.HL_STATUS_WIDTH * twiceRate (t.getF Reg.HL_STATUS_SPEED)) } } } := rfl

end

theorem State.creditsIfDue_frame (s : State) : s.creditsIfDue = { s with
    regs := s.creditsIfDue.regs, host := { s.host with reqCredits := s.creditsIfDue.host.reqCredits } } := by
  unfold State.creditsIfDue
  split <;> rfl

theorem regsKept_creditsIfDue (s : State) : RegsKept [Reg.HL_STATUS_CREDITS_OPEN] s s.creditsIfDue := by
  unfold State.creditsIfDue
  split
  · exact regsKept_setF (s := s) List.mem_cons_self
  · exact .refl _ _

/-- The registers of a link that is lost without PERST_N (R80). -/
def State.linkDropped (s : State) : State :=
  (s.setFs [(Reg.HL_STATUS_LINK_UP, 0), (Reg.HL_STATUS_LTSSM, 0x00), (Reg.HL_STATUS_CREDITS_OPEN, 0), (Reg.HL_STATUS_WIDTH, 0),
    (Reg.HL_STATUS_SPEED, 0)]).addSat Reg.HL_ERR_DOWN 1

theorem State.linkDropped_frame (s : State) : s.linkDropped = { s with regs := s.linkDropped.regs } := rfl

/-- HOST_LINK_DOWN on a link that is up. -/
theorem exec_hostLinkDown {s : State} (h : s.getB Reg.HL_STATUS_LINK_UP = true) :
    exec .hostLinkDown s = .next { s.linkDropped with host := { s.host with reqCredits := 0, tx := [] } } := by
  simp only [exec, execHostLinkDown, h, if_true]
  rfl

theorem State.linkDropped_status (s : State) :
    s.linkDropped.getF Reg.HL_STATUS_LINK_UP = 0 ∧ s.linkDropped.getF Reg.HL_STATUS_LTSSM = 0 ∧ s.linkDropped.getF Reg.HL_STATUS_CREDITS_OPEN = 0 := by
  unfold State.linkDropped State.addSat
  simp (disch := decide) only [State.getF_setFs_cons, State.setFs_nil, State.getF_setF_ne, State.getF_setF_self]
  decide

theorem State.linkDropped_count (s : State) : s.linkDropped.getF Reg.HL_ERR_DOWN = min 255 (s.getF Reg.HL_ERR_DOWN + 1) := by
  rw [State.linkDropped, State.getF_addSat_self, State.getF_setFs_ne _ _ _ (by simp; decide)]
  rfl

theorem regsKept_linkDropped (s : State) : RegsKept [Reg.HL_STATUS_LINK_UP, Reg.HL_STATUS_LTSSM, Reg.HL_STATUS_CREDITS_OPEN, Reg.HL_STATUS_WIDTH,
    Reg.HL_STATUS_SPEED, Reg.HL_ERR_DOWN] s s.linkDropped := by
  exact RegsKept.trans (t := s.setFs _) (regsKept_setFs (by simp)) (regsKept_addSat (by simp))

theorem hostLinkDown_completes {s : State} (h : s.getB Reg.HL_STATUS_LINK_UP = true) :
    ∃ t, exec .hostLinkDown s = .next t ∧ t.getF Reg.HL_STATUS_LINK_UP = 0 ∧ t.getF Reg.HL_STATUS_LTSSM = 0 ∧
      t.getF Reg.HL_STATUS_CREDITS_OPEN = 0 ∧ t.getF Reg.HL_ERR_DOWN = min 255 (s.getF Reg.HL_ERR_DOWN + 1) ∧ t.host.reqCredits = 0 ∧
      RegsKept [Reg.HL_STATUS_LINK_UP, Reg.HL_STATUS_LTSSM, Reg.HL_STATUS_CREDITS_OPEN, Reg.HL_STATUS_WIDTH, Reg.HL_STATUS_SPEED,
        Reg.HL_ERR_DOWN] s t ∧ t = { s with regs := t.regs, host := t.host } := by
  obtain ⟨hup, hltssm, hopen⟩ := s.linkDropped_status
  exact ⟨_, exec_hostLinkDown h, hup, hltssm, hopen, s.linkDropped_count, rfl,
    (regsKept_linkDropped s).trans (.of_regs rfl), by rw [State.linkDropped_frame]⟩

theorem perstNAssert_completes {s : State} (hoff : s.mode ≠ .off) (hden : s.mode ≠ .den) :
    ∃ t, exec .perstNAssert s = .next t ∧ t.pins.perstN = false ∧ (∀ f : Fld, f.cls = .link → t.getF f = f.rst % 2 ^ f.w) ∧
      t.host.reqCredits = 0 ∧ t.host.decoder = false ∧ t.host.auth.ticket = none ∧ t.host.auth.chal = none ∧ t.mode = s.mode ∧
      t.dram.cells = s.dram.cells ∧ t.cover = s.cover ∧ t.nand = s.nand ∧
      (s.mode = .run → t.host.ingress = [] ∧ t.host.staged = [] ∧ t.host.reads = []) ∧
      (s.mode = .burrow → t.host.ingress = s.host.ingress ∧ t.host.staged = s.host.staged ∧ t.host.reads = s.host.reads) := by
  let u : State := { s with pins := { s.pins with perstN := false } }
  have hkept := boardKept_perstFell u
  obtain ⟨hreq, hdec, hticket, hchal, hcells, hcover, hnand⟩ := State.perstFell_host (s := u) hoff hden
  exact ⟨u.perstFell, rfl, by rw [hkept.pins], fun f hf => State.getF_perstFell_link (s := u) hoff hden hf, hreq, hdec, hticket, hchal, hkept.mode,
    hcells, hcover, hnand, fun h => State.perstFell_run (s := u) h, fun h => State.perstFell_burrow (s := u) h⟩

theorem perstNRelease_completes {s : State} (hoff : s.mode ≠ .off) (hden : s.mode ≠ .den) (hpd : s.pd 0 = true) (hvio : s.rail.vioOk = true) :
    ∃ t, exec .perstNRelease s = .next t ∧ t.getF Reg.HL_STATUS_LTSSM = 0x01 ∧ t.pins = { s.pins with perstN := true } ∧
      RegsKept [Reg.HL_STATUS_LTSSM] s t ∧ t = { s with regs := t.regs, pins := t.pins } :=
  ⟨_, perstNRelease_trains hoff hden hpd hvio, State.getF_setF_self _ _ _, rfl,
    (RegsKept.of_regs rfl).trans (regsKept_setF List.mem_cons_self), rfl⟩

/-- LINK_UP with everything there: what the trained link shows, and the credits that follow media ready. -/
theorem linkUp_completes {s u : State} {width speed ver : Nat} (hu : u = s.blockForce 2) (hperst : s.pins.perstN = true)
    (hvio : s.rail.vioOk = true) (hpd : s.pd 0 = true) (hdown : s.getB Reg.HL_STATUS_LINK_UP = false)
    (hlrst : s.getB Reg.MD_STATUS_LRST_ACT = false) (hwidth : width ∈ [1, 2, 4, 8]) (hslow : 1 ≤ speed) (hfast : speed ≤ 5) (hver : ver ≤ 2) :
    ∃ t, exec (.linkUp width speed ver) s = .next t ∧ t.getF Reg.HL_STATUS_LINK_UP = 1 ∧ t.getF Reg.HL_STATUS_LTSSM = 0x10 ∧
      t.getF Reg.HL_STATUS_CXL_VER = ver ∧ t.getF Reg.HL_STATUS_WIDTH ≤ width ∧ t.getF Reg.HL_STATUS_SPEED ≤ speed ∧
      (u.getF Reg.HL_CFG_MAX_WIDTH ∈ [1, 2, 4, 8] → t.getF Reg.HL_STATUS_WIDTH = min width (u.getF Reg.HL_CFG_MAX_WIDTH)) ∧
      (u.getF Reg.HL_CFG_MAX_SPEED ∈ [1, 2, 3, 4, 5] → t.getF Reg.HL_STATUS_SPEED = min speed (u.getF Reg.HL_CFG_MAX_SPEED)) ∧
      (s.mediaReady = false → t.getF Reg.HL_STATUS_CREDITS_OPEN = u.getF Reg.HL_STATUS_CREDITS_OPEN ∧
        t.host = { s.host with tx := [], cdat := t.host.cdat }) ∧
      (s.mediaReady = true → s.isStandby = false → s.bur.fenced = false → s.host.sanitize = 0 → s.twin.switching = false →
        t.getF Reg.HL_STATUS_CREDITS_OPEN = 1 ∧ t.host.reqCredits = 128 - s.host.reads.length) ∧
      t.host.cdat = { s.host.cdat with
        readBw := 26 * (t.getF Reg.HL_STATUS_WIDTH * twiceRate (t.getF Reg.HL_STATUS_SPEED))
        writeBw := 24 * (t.getF Reg.HL_STATUS_WIDTH * twiceRate (t.getF Reg.HL_STATUS_SPEED)) } ∧
      t = { u with regs := t.regs, host := t.host } := by
  have hforce : u = { s with regs := u.regs, written := u.written } := by rw [hu]; exact State.comeInto_frame _ _
  have hhost : u.host = s.host := by rw [hforce]
  have hother (g : Fld) (hg : (keyBlock g.key == 2) = false) : u.getF g = s.getF g := by
    rw [hu]; exact State.getF_comeInto_of_not _ _ hg
  let v := u.linkTrained width speed ver
  have hv : RegsKept _ u v := regsKept_linkTrained u width speed ver
  have ht : RegsKept _ v v.creditsIfDue := regsKept_creditsIfDue v
  obtain ⟨hup, hltssm, hcxl⟩ := u.linkTrained_status width speed ver hver
  have hw : v.creditsIfDue.getF Reg.HL_STATUS_WIDTH = min width (linkLimit [1, 2, 4, 8] 8 (u.getF Reg.HL_CFG_MAX_WIDTH)) :=
    (ht _ (by decide)).trans (u.linkTrained_width width speed ver)
  have hs : v.creditsIfDue.getF Reg.HL_STATUS_SPEED = min speed (linkLimit [1, 2, 3, 4, 5] 5 (u.getF Reg.HL_CFG_MAX_SPEED)) :=
    (ht _ (by decide)).trans (u.linkTrained_speed width speed ver)
  have hready : v.mediaReady = s.mediaReady := State.getB_congr ((hv _ (by decide)).trans (hother _ (by decide)))
  have hrole : v.role = s.role := (hv _ (by decide)).trans (hother _ (by decide))
  have hframe : v.creditsIfDue = { u with regs := v.creditsIfDue.regs, host := { v.host with reqCredits := v.creditsIfDue.host.reqCredits } } :=
    State.creditsIfDue_frame v
  refine ⟨v.creditsIfDue, by rw [exec_linkUp hperst hvio hpd hdown hlrst hwidth hslow hfast hver, ← hu], (ht _ (by decide)).trans hup,
    (ht _ (by decide)).trans hltssm, (ht _ (by decide)).trans hcxl, by rw [hw]; exact Nat.min_le_left _ _, by rw [hs]; exact Nat.min_le_left _ _,
    fun h => by rw [hw, linkLimit_of_mem h], fun h => by rw [hs, linkLimit_of_mem h], fun h => ?_, fun h hst hfen hsan hsw => ?_, ?_, ?_⟩
  · have hnot : v.creditsIfDue = v := by simp [State.creditsIfDue, State.creditsDue, hready, h]
    rw [hnot]
    exact ⟨hv _ (by decide), by rw [← hhost]; rfl⟩
  · have hdue : v.creditsDue = true := by
      have hlink : v.getB Reg.HL_STATUS_LINK_UP = true := by simp [State.getB, v, hup]
      have hfen' : v.bur.fenced = false := by rw [← hfen, show v.bur = u.bur from rfl, hforce]
      have hsan' : v.host.sanitize = 0 := by rw [← hsan, ← hhost]; rfl
      have hsw' : v.twin.switching = false := by rw [← hsw, show v.twin = u.twin from rfl, hforce]
      have hst' : v.isStandby = false := by rw [← hst, State.isStandby, State.isStandby, hrole]
      simp [State.creditsDue, hready, h, hst', hfen', hsan', hlink, hsw']
    have hopen : v.creditsIfDue = v.openCredits := by rw [State.creditsIfDue, hdue, if_pos rfl]
    rw [hopen]
    exact ⟨State.getF_setF_self _ _ _, by rw [← hhost]; rfl⟩
  · have hcdat : v.creditsIfDue.host.cdat = v.host.cdat := by rw [hframe]
    rw [hcdat, ht Reg.HL_STATUS_WIDTH (by decide), ht Reg.HL_STATUS_SPEED (by decide), ← hhost]
    exact congrArg (fun x : State => x.host.cdat) (u.linkTrained_frame width speed ver)
  · rw [hframe]

/-- Settles O10. -/
theorem hostLinkChanges : Obligations.HostLinkChanges :=
  ⟨fun _ => perstNAssert_idle, fun _ => perstNAssert_completes, fun _ => perstNRelease_completes, fun _ _ _ _ _ => linkUp_completes,
    fun _ => hostLinkDown_completes⟩

/-! ### The state right after reset (R16) -/

/-- With no register set every field reads its reset value. -/
theorem State.getF_of_regs_nil {s : State} (h : s.regs = []) (f : Fld) : s.getF f = f.rst % 2 ^ f.w := by
  simp [State.getF, h, mget, mfind]

/-- Settles O2: the reset state lists no register, no byte, no granule and no line. -/
theorem atReset : Obligations.AtReset := by
  have hledger : ∀ g, State.reset.ledgerOf g = .clean := fun g => by
    unfold State.ledgerOf
    split <;> rfl
  have hpoison : ∀ l, State.reset.poisoned l = false := fun l => by
    have hwhole : State.reset.wholly (granOf l) = false := Bool.and_false _
    simp only [State.poisoned, State.byWhole, hwhole, Bool.false_and, Bool.or_false]
    rfl
  exact ⟨State.getF_of_regs_nil rfl, rfl, rfl, rfl, fun _ => rfl, hledger, fun _ => rfl, hpoison, rfl, fun _ _ => rfl, fun _ _ _ => rfl⟩

/-! ### Entering WAKE (R47, R497) -/

/-- A list of assignments gives its first field its value when no later one names it. -/
theorem State.getF_setFs_head (s : State) (f : Fld) (v : Nat) (a : List (Fld × Nat)) (l : List Fld) (ha : ∀ p ∈ a, p.1 ∈ l)
    (hl : ∀ g ∈ l, f.key ≠ g.key) : (s.setFs ((f, v) :: a)).getF f = v % 2 ^ f.w := by
  rw [State.getF_setFs_cons, regsKept_setFs ha f hl, State.getF_setF_self]

/-- The fields that a change of mode sets (R47). -/
def modeFlds : List Fld :=
  [Reg.MD_LAST_FROM, Reg.MD_LAST_TO, Reg.MD_LAST_TRANS_SEQ, Reg.MD_ENTRY_MS_ENTRY_MS, Reg.LG_STATUS_CLEAN_ALL, Reg.ES_STATUS_BAL_ACTIVE,
    Reg.MD_STATUS_MEDIA_READY]

/-- The fields that the start of WAKE sets, beside its cause. -/
def wakeFlds : List Fld :=
  [Reg.DT_WAKE_STEP, Reg.DT_WAKE_RUN_MS, Reg.MD_STATUS_MEDIA_READY, Reg.MD_STATUS_LOCKOUT, Reg.MD_STATUS_NOABANDON, Reg.DT_DMK_SVC_DIRTY,
    Reg.BE_STATUS_SHED, Reg.BE_STATUS_ACTIVE, Reg.DC_REPLAY_FAILED 0, Reg.DC_REPLAY_FAILED 1, Reg.SQ_STATUS_SEQ, Reg.SQ_STATUS_ELAPSED,
    Reg.SQ_STATUS_QUEUED, Reg.SQ_STATUS_LEFT_OFF] ++ railEntries.map Reg.SQ_ENT_ST_TRIES

/-- Every field that the start of WAKE may set, but for its cause. -/
def wakeTouched : List Fld := serviceFlds ++ modeFlds ++ wakeFlds

theorem regsKept_enterMode (s : State) (m : Mode) (ph : Phase) : RegsKept (serviceFlds ++ modeFlds) s (s.enterMode m ph) := by
  have hmode : RegsKept modeFlds (s.leaveService 2) ((s.leaveService 2).setMode m ph) := regsKept_setFs (s := s.leaveService 2) (by simp [modeFlds])
  exact ((regsKept_leaveService s 2).mono (List.subset_append_left _ _)).trans (hmode.mono (List.subset_append_right _ _))

/-- The assignments of WAKE's start after the cause. -/
def wakeSets (warm : Bool) : List (Fld × Nat) :=
  [(Reg.DT_WAKE_STEP, if warm then 2 else 0), (Reg.DT_WAKE_RUN_MS, 0), (Reg.MD_STATUS_MEDIA_READY, 0), (Reg.MD_STATUS_LOCKOUT, 0),
    (Reg.MD_STATUS_NOABANDON, 0), (Reg.DT_DMK_SVC_DIRTY, 0), (Reg.BE_STATUS_SHED, 15), (Reg.BE_STATUS_ACTIVE, 0), (Reg.DC_REPLAY_FAILED 0, 0),
    (Reg.DC_REPLAY_FAILED 1, 0), (Reg.SQ_STATUS_SEQ, 1), (Reg.SQ_STATUS_ELAPSED, 0), (Reg.SQ_STATUS_QUEUED, 0), (Reg.SQ_STATUS_LEFT_OFF, 0)]
    ++ railEntries.map fun n => (Reg.SQ_ENT_ST_TRIES n, 0)

theorem wakeSets_flds (warm : Bool) : ∀ p ∈ wakeSets warm, p.1 ∈ wakeFlds := by
  have hmap : (wakeSets warm).map (·.1) = wakeFlds := rfl
  intro p hp
  rw [← hmap]
  exact List.mem_map_of_mem hp

theorem State.wakeBase_regs (s : State) (cause : Nat) (warm : Bool) :
    (s.wakeBase cause warm).regs = ((s.enterMode .wake .none).setFs ((Reg.DT_WAKE_CAUSE, cause) :: wakeSets warm)).regs := rfl

theorem State.getF_wakeBase_cause (s : State) (cause : Nat) (warm : Bool) : (s.wakeBase cause warm).getF Reg.DT_WAKE_CAUSE = cause % 16 := by
  have hregs := RegsKept.of_regs (l := []) (s.wakeBase_regs cause warm) Reg.DT_WAKE_CAUSE (by simp)
  rw [hregs, State.getF_setFs_head _ _ _ _ _ (wakeSets_flds warm) (by decide)]
  rfl

theorem State.getF_wakeBase (s : State) (cause : Nat) (warm : Bool) {g : Fld} (hc : g.key ≠ Reg.DT_WAKE_CAUSE.key)
    (hg : ∀ f ∈ wakeTouched, g.key ≠ f.key) : (s.wakeBase cause warm).getF g = s.getF g := by
  have hregs := RegsKept.of_regs (l := []) (s.wakeBase_regs cause warm) g (by simp)
  have hsets : RegsKept wakeFlds _ ((s.enterMode .wake .none).setF Reg.DT_WAKE_CAUSE cause |>.setFs (wakeSets warm)) :=
    regsKept_setFs (wakeSets_flds warm)
  rw [hregs, State.getF_setFs_cons, hsets g fun f hf => hg f (List.mem_append_right _ hf), State.getF_setF_ne _ _ hc,
    regsKept_enterMode s _ _ g fun f hf => hg f (List.mem_append_left _ hf)]

/-- What the start of WAKE may touch beside registers, recorder queue and the parts it starts afresh. -/
theorem State.wakeBase_frame (s : State) (cause : Nat) (warm : Bool) :
    let t := s.wakeBase cause warm
    t = { s with
      mode := .wake, phase := .none, twin := t.twin, regs := t.regs, rst := t.rst, bur := t.bur, rail := t.rail, spmi := t.spmi, store := t.store
      cover := { s.cover with calBase := none }
      ev := { s.ev with queue := t.ev.queue, seq := t.ev.seq, ownHandle := t.ev.ownHandle, srcs := t.ev.srcs, lastSrc := t.ev.lastSrc } } := by
  dsimp only
  unfold State.wakeBase State.enterMode State.setMode
  dsimp only
  rw [State.leaveService_frame]

theorem State.enterWake_cold (s : State) (cause : Nat) : s.enterWake cause false = (s.wakeBase cause false).repower := rfl

@[simp] theorem State.enterWake_cold_mode (s : State) (cause : Nat) : (s.enterWake cause false).mode = .wake := by
  rw [State.enterWake_cold, State.repower_mode, State.wakeBase_frame]

theorem State.getF_enterWake_cause (s : State) (cause : Nat) : (s.enterWake cause false).getF Reg.DT_WAKE_CAUSE = cause % 16 := by
  rw [State.enterWake_cold, State.getF_repower (by decide), State.getF_wakeBase_cause]

theorem State.getF_enterWake (s : State) (cause : Nat) {g : Fld} (hp : g.outlastsPower = true) (hc : g.key ≠ Reg.DT_WAKE_CAUSE.key)
    (hg : ∀ f ∈ wakeTouched, g.key ≠ f.key) : (s.enterWake cause false).getF g = s.getF g := by
  rw [State.enterWake_cold, State.getF_repower hp, State.getF_wakeBase _ _ _ hc hg]

/-! ### Power-on and its loss (R16, R305) -/

/-- What a cut of the keeper flash touches: waiting records, programs and erases go, a Set LSA stops. -/
theorem State.flashCut_frame (s : State) :
    s.flashCut = { s with
      freeCount := s.flashCut.freeCount
      otp := { s.otp with moorKey := s.flashCut.otp.moorKey }
      host := { s.host with lsaSet := s.flashCut.host.lsaSet, lsaDirty := s.flashCut.host.lsaDirty }
      keep := { s.keep with words := s.flashCut.keep.words, progs := [], erasing := [], jq := [], sectors := s.flashCut.keep.sectors } } := by
  unfold State.flashCut
  dsimp only
  rw [State.lsaStop_frame]

/-- What survives a loss of PD9 (R305): no register, no byte of the DRAM and no waiting record; labels, journal, archive, blocks and the OTP row. -/
theorem State.dark_frame (s : State) :
    s.dark.regs = [] ∧ s.dark.mode = .off ∧ s.dark.tsSet = false ∧ s.dark.dram.cells = [] ∧ s.dark.cover.ledger = [] ∧ s.dark.keep.jq = [] ∧
      s.dark.host.lsa = s.host.lsa ∧ s.dark.keep.recs = s.keep.recs ∧ s.dark.ev.arch = s.ev.arch ∧ s.dark.nand.blocks = s.nand.blocks ∧
      s.dark.otp.ident = s.otp.ident := by
  unfold State.dark
  dsimp only
  rw [State.flashCut_frame]
  exact ⟨rfl, rfl, rfl, rfl, rfl, rfl, rfl, rfl, rfl, rfl, rfl⟩

theorem State.pdState_of_dark {s : State} (h : s.getF Reg.PS_DOM_PD = 0) (k : Nat) : s.pdState k = 0 := by
  rw [State.pdState, h, Nat.zero_div, Nat.zero_mod]

/-- WAKE from the dark: every domain was off, so PS_DOM is all that follows the rails. -/
theorem State.enterWake_of_dark (s : State) (cause : Nat) (h : s.getF Reg.PS_DOM_PD = 0) :
    s.enterWake cause false = (s.wakeBase cause false).setF Reg.PS_DOM_PD (s.wakeBase cause false).domWord := by
  have hpd := State.pdState_of_dark ((s.getF_wakeBase cause false (by decide) (by decide)).trans h)
  rw [State.enterWake_cold, State.repower_of_off _ (hpd 0) (hpd 1) (hpd 10)]

theorem exec_por_vin (s : State) : exec (.por true) s = .next ((s.dark.setB Reg.PS_STATUS_VIN_RET true).enterWake 0 false) := by
  simp only [exec, execPor, if_true]

theorem exec_por_noVin (s : State) : exec (.por false) s = .next (s.dark.setB Reg.PS_STATUS_VIN_RET false) := rfl

theorem por_completes (s : State) (v : Bool) : ∃ t, exec (.por v) s = .next t ∧ t.mode = (if v then .wake else .off) ∧ t.tsSet = false ∧
    t.dram.cells = [] ∧ t.cover.ledger = [] ∧ t.host.lsa = s.host.lsa ∧ t.keep.recs = s.keep.recs ∧ t.ev.arch = s.ev.arch ∧
    t.nand.blocks = s.nand.blocks ∧ t.otp.ident = s.otp.ident ∧ (v = true → t.getF Reg.DT_WAKE_CAUSE = 0 ∧ t.getF Reg.PS_STATUS_VIN_RET = 1) ∧
    (v = false → ∀ f : Fld, f.key ≠ Reg.PS_STATUS_VIN_RET.key → t.getF f = f.rst % 2 ^ f.w) := by
  obtain ⟨hregs, hmode, hts, hcells, hledger, -, hlsa, hrecs, harch, hblocks, hident⟩ := s.dark_frame
  cases v with
  | false =>
    rw [exec_por_noVin]
    generalize s.dark = d at *
    exact ⟨_, rfl, hmode, hts, hcells, hledger, hlsa, hrecs, harch, hblocks, hident, by simp,
      fun _ f hf => (State.getF_setF_ne _ _ hf).trans (State.getF_of_regs_nil hregs f)⟩
  | true =>
    rw [exec_por_vin]
    generalize s.dark = d at *
    let t := d.setB Reg.PS_STATUS_VIN_RET true
    have hdark : t.getF Reg.PS_DOM_PD = 0 := (State.getF_setF_ne _ _ (by decide)).trans (State.getF_of_regs_nil hregs _)
    have hvin : (t.enterWake 0 false).getF Reg.PS_STATUS_VIN_RET = 1 :=
      (t.getF_enterWake 0 (by decide) (by decide) (by decide)).trans (State.getF_setF_self _ _ _)
    have hframe : t.enterWake 0 false = _ := (t.enterWake_of_dark 0 hdark).trans (congrArg (fun x : State => x.setF _ _) (t.wakeBase_frame 0 false))
    refine ⟨_, rfl, t.enterWake_cold_mode 0, ?_, ?_, ?_, ?_, ?_, ?_, ?_, ?_, fun _ => ⟨t.getF_enterWake_cause 0, hvin⟩, by simp⟩ <;>
      (rw [hframe]; assumption)

theorem aonPowerLoss_completes {s : State} (h : s.storeOk = false) : ∃ t, exec .aonPowerLoss s = .next t ∧ t.mode = .off ∧
    (∀ f : Fld, t.getF f = f.rst % 2 ^ f.w) ∧ t.dram.cells = [] ∧ t.host.lsa = s.host.lsa ∧ t.keep.recs = s.keep.recs ∧ t.keep.jq = [] ∧
    t.otp.ident = s.otp.ident := by
  obtain ⟨hregs, hmode, -, hcells, -, hjq, hlsa, hrecs, -, -, hident⟩ := s.dark_frame
  exact ⟨s.dark, by simp [exec, execAonPowerLoss, h], hmode, State.getF_of_regs_nil hregs, hcells, hlsa, hrecs, hjq, hident⟩

theorem aonPowerLoss_held {s : State} (h : s.storeOk = true) : exec .aonPowerLoss s = .next s := by
  simp [exec, execAonPowerLoss, h]

/-! ### The keeper's reset (R352, R445, R451) -/

theorem State.archMove_frame (s : State) (sec : Nat) (go : List EvRec) :
    s.archMove sec go = { s with
      ev := { s.ev with arch := (s.archMove sec go).ev.arch, head := (s.archMove sec go).ev.head }
      keep := { s.keep with sectors := (s.archMove sec go).keep.sectors } } := rfl

/-- What the end of a KRST may still touch once the keeper's own state is reset: registers, the recorder, RESTORE's progress, and of the keeper flash
its erases, its sectors and its health. -/
def BootTail (s t : State) : Prop :=
  t = { s with
    regs := t.regs, ev := t.ev, rst := t.rst, keep := { s.keep with erasing := t.keep.erasing, sectors := t.keep.sectors, state := t.keep.state } }

theorem BootTail.refl (s : State) : BootTail s s := rfl

theorem BootTail.trans {s t u : State} (h : BootTail s t) (h' : BootTail t u) : BootTail s u := by
  unfold BootTail at *
  rw [h', h]

theorem BootTail.foldl {α : Type} {f : State → α → State} (hf : ∀ s x, BootTail s (f s x)) (l : List α) (s : State) : BootTail s (l.foldl f s) := by
  induction l generalizing s with
  | nil => exact .refl s
  | cons x t ih => exact (hf s x).trans (ih _)

theorem bootTail_clearArch (s : State) (seq sev : Nat) : BootTail s (s.clearArch seq sev) :=
  BootTail.trans (t := { s with ev := { s.ev with arch := archDelete seq sev s.ev.arch } }) rfl
    (.foldl (fun a _ => a.archMove_frame _ _) _ _)

theorem bootTail_reErase (s : State) : BootTail s s.reErase := rfl

theorem bootTail_reClear (s : State) : BootTail s s.reClear := .foldl (fun _ _ => bootTail_clearArch _ _ _) _ _

theorem bootTail_flashHealth (s : State) : BootTail s s.flashHealth := by
  unfold State.flashHealth State.raiseIf
  dsimp only
  split <;> rfl

theorem bootTail_krstMode (s : State) : BootTail s s.krstMode := by
  unfold State.krstMode
  split
  · split <;> rfl
  · rfl
  · rfl

/-- A KRST ends in its tail from a state whose mode, DRAM, books, burrow and NAND are the old ones and whose keeper has just come up with what the boot
ROM found. -/
theorem State.krst_tail (s : State) (b : BootInfo) : ∃ u, BootTail u (s.krst b) ∧ u.mode = s.mode ∧ u.dram = s.dram ∧ u.cover = s.cover ∧
    u.bur = s.bur ∧ u.nand = s.nand ∧ u.host.auth = ⟨none, none, []⟩ ∧ u.keep.up = (s.bankOk 0 b.ok0 || s.bankOk 1 b.ok1) ∧
    u.keep.fwVer0 = b.ver0 ∧ u.keep.fwVer1 = b.ver1 ∧ u.keep.jq = [] ∧ u.keep.progs = [] ∧ u.cxl.efDone = true ∧ u.spmiP.unlock = 0 := by
  refine ⟨_, (((bootTail_reErase _).trans (bootTail_reClear _)).trans (bootTail_flashHealth _)).trans (bootTail_krstMode _), ?_⟩
  rw [State.flashCut_frame, State.leaveService_frame]
  exact ⟨rfl, rfl, rfl, rfl, rfl, rfl, rfl, rfl, rfl, rfl, rfl, rfl, rfl⟩

theorem krst_completes {s : State} (b : BootInfo) (hpd : s.pd 10 = true) : ∃ t, exec (.krst b) s = .next t ∧ t.mode = s.mode ∧ t.dram = s.dram ∧
    t.cover = s.cover ∧ t.bur = s.bur ∧ t.nand = s.nand ∧ t.host.auth = ⟨none, none, []⟩ ∧ t.keep.up = (s.bankOk 0 b.ok0 || s.bankOk 1 b.ok1) ∧
    t.keep.fwVer0 = b.ver0 ∧ t.keep.fwVer1 = b.ver1 ∧ t.keep.jq = [] ∧ t.keep.progs = [] ∧ t.cxl.efDone = true ∧ t.spmiP.unlock = 0 := by
  obtain ⟨u, htail, hu⟩ := s.krst_tail b
  refine ⟨s.krst b, by simp only [exec, execKrst, hpd, if_true], ?_⟩
  rw [show s.krst b = _ from htail]
  exact hu

/-! ### Entries and outputs (R337, R352, R353) -/

theorem State.entSt_setEnt_self (s : State) (n st : Nat) : (s.setEnt n st).entSt n = st % 16 := by
  unfold State.setEnt State.entSt
  split
  · refine State.getF_setFs_head _ _ _ _ [Reg.PS_SET_ON n, Reg.PS_SET_PG n] (by simp) fun g hg => ?_
    simp only [List.mem_cons, List.not_mem_nil, or_false] at hg
    obtain rfl | rfl := hg <;> simp only [Fld.key, Reg.SQ_ENT_ST_STATE, Reg.PS_SET_ON, Reg.PS_SET_PG, RCls.code] <;> omega
  · exact State.getF_setF_self _ _ _

/-- Setting an entry leaves every field that is not its state, nor its output's ON and PG. -/
theorem State.getF_setEnt (s : State) (n st : Nat) {g : Fld} (hst : g.key ≠ (Reg.SQ_ENT_ST_STATE n).key)
    (hon : ownOut n = true → g.key ≠ (Reg.PS_SET_ON n).key ∧ g.key ≠ (Reg.PS_SET_PG n).key) : (s.setEnt n st).getF g = s.getF g := by
  unfold State.setEnt
  split
  · rename_i hown
    exact State.getF_setFs_ne _ _ _ (by simp [hst, hon hown])
  · exact State.getF_setF_ne _ _ hst

theorem State.entSt_setEnt_ne (s : State) {m n : Nat} (st : Nat) (h : n ≠ m) : (s.setEnt m st).entSt n = s.entSt n := by
  refine s.getF_setEnt m st ?_ fun hown => ?_
  · simp only [Fld.key, Reg.SQ_ENT_ST_STATE, RCls.code]
    omega
  · simp only [ownOut, decide_eq_true_eq] at hown
    simp only [Fld.key, Reg.SQ_ENT_ST_STATE, Reg.PS_SET_ON, Reg.PS_SET_PG, RCls.code]
    omega

theorem State.setEnt_frame (s : State) (n st : Nat) : s.setEnt n st = { s with regs := (s.setEnt n st).regs } := by
  unfold State.setEnt
  split <;> rfl

/-- What switching on an own output touches. -/
theorem State.switchOn_frame (s : State) {n : Nat} (hown : ownOut n = true) :
    s.switchOn n = { s with
      regs := (s.switchOn n).regs, written := (s.switchOn n).written
      rail := { s.rail with since := (s.switchOn n).rail.since, latched := (s.switchOn n).rail.latched } } := by
  unfold State.switchOn
  dsimp only
  rw [if_pos hown, State.setEnt_frame, State.comeInto_frame]

theorem State.entSt_switchOn_self (s : State) {n : Nat} (hown : ownOut n = true) : (s.switchOn n).entSt n = 2 := by
  unfold State.switchOn
  dsimp only
  rw [if_pos hown]
  exact State.entSt_setEnt_self _ _ _

/-- A field outside the entry that no waiting value of SS, COMP or VSET is meant for keeps its value. -/
theorem State.getF_switchOn (s : State) {n : Nat} (hown : ownOut n = true) {g : Fld} (hst : g.key ≠ (Reg.SQ_ENT_ST_STATE n).key)
    (hon : g.key ≠ (Reg.PS_SET_ON n).key ∧ g.key ≠ (Reg.PS_SET_PG n).key)
    (hforce : ∀ x ∈ s.written, x.1 ∈ [(Reg.PS_SET_SS n).key, (Reg.PS_SET_COMP n).key, (Reg.PS_SET_VSET n).key] → g.key ≠ x.1) :
    (s.switchOn n).getF g = s.getF g := by
  unfold State.switchOn
  dsimp only
  rw [if_pos hown]
  refine (State.getF_setEnt _ n 2 hst fun _ => hon).trans (State.getF_comeInto _ _ fun x hx hp => hforce x hx ?_)
  simpa [or_assoc] using hp

/-- The boot stage before its entries go on: waiting values of the fields it sets are gone, VIO_EXT has been read, B9 and L0 to L1 have their
defaults (R352). -/
def State.bootSet (s : State) (vio : Nat) : State :=
  (({ s with written := s.written.filter (fun x => !bootKeys.contains x.1) } : State).vioSeen vio).setFs
    [(Reg.PS_SET_VSET 9, 1000), (Reg.PS_SET_SS 9, 1), (Reg.PS_SET_SS 16, 1), (Reg.PS_SET_SS 17, 1)]

/-- B9 goes on, unless it is on already, and L0 after it. -/
def State.bootOn (s : State) (live : Bool) : State := (if live then s else s.switchOn 9).switchOn 16

theorem exec_vkeepGood {s : State} (vio : Nat) (hmode : s.mode = .wake) (hseq : s.getF Reg.SQ_STATUS_SEQ = 1) (hent : s.entSt 16 = 0) :
    exec (.vkeepGood vio) s = .next ((s.bootSet vio).bootOn (entLive (s.entSt 9))).repower :=
  congrArg Host.Outcome.next (if_pos ⟨hmode, hseq, hent⟩)

theorem State.bootSet_frame (s : State) (vio : Nat) : s.bootSet vio = { s with
    regs := (s.bootSet vio).regs, written := s.written.filter (fun x => !bootKeys.contains x.1)
    rail := { s.rail with vioOk := decide (1500 ≤ vio) } } := by
  unfold State.bootSet State.vioSeen
  dsimp only
  split <;> rfl

/-- No value waits for a field of the boot stage. -/
theorem State.bootSet_written (s : State) (vio : Nat) {g : Fld} (hg : g.key ∈ bootKeys) : ∀ x ∈ (s.bootSet vio).written, g.key ≠ x.1 := by
  rw [State.bootSet_frame]
  intro x hx e
  rw [e] at hg
  simp [hg] at hx

theorem State.getF_vioSeen (s : State) (vio : Nat) {g : Fld} (h : g.key ≠ (Reg.PS_SET_VSET 17).key) : (s.vioSeen vio).getF g = s.getF g := by
  unfold State.vioSeen
  dsimp only
  split
  · exact State.getF_setF_ne _ _ h
  · rfl

theorem State.bootSet_entSt (s : State) (vio : Nat) : (s.bootSet vio).entSt 9 = s.entSt 9 :=
  (State.getF_setFs_ne _ _ _ (by simp; decide)).trans (State.getF_vioSeen _ _ (by decide))

theorem State.bootSet_vset9 (s : State) (vio : Nat) : (s.bootSet vio).getF (Reg.PS_SET_VSET 9) = 1000 :=
  State.getF_setFs_head _ _ _ _ [Reg.PS_SET_SS 9, Reg.PS_SET_SS 16, Reg.PS_SET_SS 17] (by simp) (by decide)

theorem State.bootSet_vset17 (s : State) {vio : Nat} (h : 1500 ≤ vio) :
    (s.bootSet vio).getF (Reg.PS_SET_VSET 17) = (if vio ≤ 2500 then 1800 else 3300) := by
  refine (State.getF_setFs_ne _ _ _ (by simp; decide)).trans ?_
  rw [State.vioSeen, if_pos h, State.getF_setF_self]
  split <;> rfl

section
variable (s : State) (live : Bool)

theorem State.bootOn_frame : s.bootOn live = { s with
    regs := (s.bootOn live).regs, written := (s.bootOn live).written
    rail := { s.rail with since := (s.bootOn live).rail.since, latched := (s.bootOn live).rail.latched } } := by
  unfold State.bootOn
  cases live
  · simp only [Bool.false_eq_true, if_false]
    rw [State.switchOn_frame _ (by decide), State.switchOn_frame _ (by decide)]
  · simp only [if_true]
    rw [State.switchOn_frame _ (by decide)]

/-- A field of neither entry nor output 9 or 16, for which no value waits, passes through. -/
theorem State.getF_bootOn {g : Fld} (h9 : g.key ∉ [Reg.SQ_ENT_ST_STATE 9, Reg.PS_SET_ON 9, Reg.PS_SET_PG 9].map (·.key))
    (h16 : g.key ∉ [Reg.SQ_ENT_ST_STATE 16, Reg.PS_SET_ON 16, Reg.PS_SET_PG 16].map (·.key))
    (hw : ∀ x ∈ s.written, x.1 ∈ [(Reg.PS_SET_SS 9).key, (Reg.PS_SET_COMP 9).key, (Reg.PS_SET_VSET 9).key] → g.key ≠ x.1)
    (hg : g.key ∉ [(Reg.PS_SET_SS 16).key, (Reg.PS_SET_COMP 16).key, (Reg.PS_SET_VSET 16).key]) : (s.bootOn live).getF g = s.getF g := by
  simp only [List.map_cons, List.map_nil, List.mem_cons, List.not_mem_nil, or_false, not_or] at h9 h16
  have hon (t : State) : (t.switchOn 16).getF g = t.getF g :=
    t.getF_switchOn (by decide) h16.1 h16.2 fun x _ hx e => hg (e ▸ hx)
  unfold State.bootOn
  rw [hon]
  split
  · rfl
  · exact s.getF_switchOn (by decide) h9.1 h9.2 hw

end

theorem vkeepGood_completes {s : State} (vio : Nat) (hmode : s.mode = .wake) (hseq : s.getF Reg.SQ_STATUS_SEQ = 1) (hent : s.entSt 16 = 0) :
    ∃ t, exec (.vkeepGood vio) s = .next t ∧ t.mode = .wake ∧ t.entSt 9 = (if s.entSt 9 = 3 then 3 else 2) ∧ t.entSt 16 = 2 ∧
      t.rail.vioOk = decide (1500 ≤ vio) ∧ t.getF (Reg.PS_SET_VSET 9) = 1000 ∧
      (1500 ≤ vio → t.getF (Reg.PS_SET_VSET 17) = (if vio ≤ 2500 then 1800 else 3300)) ∧ t.dram.cells = s.dram.cells ∧ t.keep.recs = s.keep.recs := by
  let u := s.bootSet vio
  have hu : u = _ := s.bootSet_frame vio
  have hv : u.bootOn (entLive (s.entSt 9)) = _ := u.bootOn_frame _
  have hent9 : (u.bootOn (entLive (s.entSt 9))).entSt 9 = (if s.entSt 9 = 3 then 3 else 2) := by
    unfold State.bootOn
    rw [State.entSt, State.getF_switchOn _ (by decide) (by decide) (by decide) (fun x _ hx e => by rw [← e] at hx; revert hx; decide), ← State.entSt]
    by_cases h2 : s.entSt 9 = 2
    · simpa [h2, entLive] using (s.bootSet_entSt vio).trans h2
    · by_cases h3 : s.entSt 9 = 3
      · simpa [h3, entLive] using (s.bootSet_entSt vio).trans h3
      · simpa [h2, h3, entLive] using State.entSt_switchOn_self _ (by decide)
  refine ⟨_, exec_vkeepGood vio hmode hseq hent, ?_, ?_, ?_, ?_, ?_, fun hvio => ?_, ?_, ?_⟩
  · rw [State.repower_mode, hv, hu]; exact hmode
  · rw [State.entSt, State.getF_repower (by decide)]; exact hent9
  · rw [State.entSt, State.getF_repower (by decide)]; exact State.entSt_switchOn_self _ (by decide)
  · rw [State.repower_rail, hv, hu]
  · rw [State.getF_repower (by decide), State.getF_bootOn _ _ (by decide) (by decide) (fun x hx _ => s.bootSet_written vio (by decide) x hx) (by decide)]
    exact s.bootSet_vset9 vio
  · rw [State.getF_repower (by decide), State.getF_bootOn _ _ (by decide) (by decide) (fun x hx _ => s.bootSet_written vio (by decide) x hx) (by decide)]
    exact s.bootSet_vset17 hvio
  · rw [(State.repower_kept _).2.2, hv, hu]
  · rw [State.repower_recs, hv, hu]

/-- Settles O21. -/
theorem resetsAndBoot : Obligations.ResetsAndBoot :=
  ⟨por_completes, fun _ => aonPowerLoss_completes, fun _ => aonPowerLoss_held, fun _ => krst_completes, fun _ => vkeepGood_completes⟩

/-! ### LOCKOUT and wake events (R47, R62 to R64, R385) -/

/-- The reasons that a release leaves recorded. -/
theorem State.getF_releaseLock (s : State) (bits : Nat) :
    (s.releaseLock bits).getF Reg.MD_LOCKOUT_ALL = s.getF Reg.MD_LOCKOUT_ALL - (s.getF Reg.MD_LOCKOUT_ALL &&& bits) := by
  have hlt : s.getF Reg.MD_LOCKOUT_ALL < 2 ^ Reg.MD_LOCKOUT_ALL.w := s.getF_lt _
  unfold State.releaseLock
  dsimp only
  rw [State.getF_setFs_head _ _ _ _ [Reg.MD_STATUS_LOCKOUT, Reg.MD_LOCKOUT_REASON, Reg.MD_LOCKOUT_RAIL] (by simp) (by decide)]
  exact Nat.mod_eq_of_lt (Nat.lt_of_le_of_lt (Nat.sub_le _ _) hlt)

theorem regsKept_releaseLock (s : State) (bits : Nat) :
    RegsKept [Reg.MD_LOCKOUT_ALL, Reg.MD_STATUS_LOCKOUT, Reg.MD_LOCKOUT_REASON, Reg.MD_LOCKOUT_RAIL] s (s.releaseLock bits) :=
  regsKept_setFs (by simp)

/-- In OFF a wake request that may release every recorded reason wakes while VIN is there. -/
theorem State.wakeAct_wakes {s : State} (cause : Nat) (hoff : s.mode = .off)
    (hfree : s.getF Reg.MD_LOCKOUT_ALL &&& wakeReleases = s.getF Reg.MD_LOCKOUT_ALL) (hvin : s.vinRet = true) :
    s.wakeAct cause = (s.releaseLock wakeReleases).enterWake cause false := by
  have hlock : (s.releaseLock wakeReleases).lockFree = true := by simp [State.lockFree, State.getF_releaseLock, hfree]
  have hret : (s.releaseLock wakeReleases).vinRet = true := by
    rw [← hvin]
    exact State.getB_congr (regsKept_releaseLock s _ _ (by decide))
  simp [State.wakeAct, hoff, hlock, hret]

/-- Bits 5 and 6, the thermal reasons 0x06 and 0x07, are not WAKE_REQ's to release. -/
theorem State.lockHas_thermal_of_free {s : State} (hfree : s.getF Reg.MD_LOCKOUT_ALL &&& wakeReleases = s.getF Reg.MD_LOCKOUT_ALL) :
    s.lockHas 6 = false ∧ s.lockHas 7 = false := by
  unfold State.lockHas
  rw [← hfree, Nat.testBit_and, Nat.testBit_and]
  exact ⟨by rw [show wakeReleases.testBit (6 - 1) = false by decide, Bool.and_false],
    by rw [show wakeReleases.testBit (7 - 1) = false by decide, Bool.and_false]⟩

theorem wakeReq_wakes {s : State} (hoff : s.mode = .off) (hreach : s.reach .spmi 0x1010 = true)
    (hfree : s.getF Reg.MD_LOCKOUT_ALL &&& wakeReleases = s.getF Reg.MD_LOCKOUT_ALL) (hvin : s.vinRet = true) :
    ∃ t, exec (.wakeReq .spmi) s = .next t ∧ t.mode = .wake ∧ t.getF Reg.DT_WAKE_CAUSE = 2 := by
  refine ⟨(s.releaseLock wakeReleases).enterWake 2 false, ?_, State.enterWake_cold_mode _ _, State.getF_enterWake_cause _ _⟩
  simp only [exec, execWakeReq, hreach, beq_self_eq_true, Bool.and_self, if_true, State.wrote, State.wakeAct_wakes 2 hoff hfree hvin]

theorem serviceNHold_wakes {s : State} (hoff : s.mode = .off)
    (hfree : s.getF Reg.MD_LOCKOUT_ALL &&& wakeReleases = s.getF Reg.MD_LOCKOUT_ALL) (hvin : s.vinRet = true) :
    ∃ t, exec .serviceNHold s = .next t ∧ t.mode = .wake ∧ t.getF Reg.DT_WAKE_CAUSE = 3 := by
  obtain ⟨h6, h7⟩ := State.lockHas_thermal_of_free hfree
  have hclear : s.latchClear = s := by simp [State.latchClear, h6, h7]
  refine ⟨(s.releaseLock wakeReleases).enterWake 3 false, ?_, State.enterWake_cold_mode _ _, State.getF_enterWake_cause _ _⟩
  simp [exec, execServiceNHold, hoff, hclear, State.wakeAct_wakes 3 hoff hfree hvin]

/-- A thermal LOCKOUT whose conditions hold loses its two reasons, whether the device then wakes or stays in OFF. -/
theorem State.thermRelease_releases {s : State} (hoff : s.mode = .off) (hlock : s.lockHas 6 = true ∨ s.lockHas 7 = true) (htemp : s.therm.tempOk = true)
    (htime : s.bur.latchClr = true ∨ s.therm.offAt + 60000 ≤ s.ms) :
    s.thermRelease.getF Reg.MD_LOCKOUT_ALL = s.getF Reg.MD_LOCKOUT_ALL - (s.getF Reg.MD_LOCKOUT_ALL &&& 0x60) := by
  have hall : ((({ s with bur := { s.bur with latchClr := false } } : State).releaseLock 0x60).setF Reg.MD_STATUS_THERM_LATCH 0).getF Reg.MD_LOCKOUT_ALL
      = s.getF Reg.MD_LOCKOUT_ALL - (s.getF Reg.MD_LOCKOUT_ALL &&& 0x60) := by
    rw [State.getF_setF_ne _ _ (by decide)]
    exact State.getF_releaseLock _ _
  have hcond : (s.mode == .off && (s.lockHas 6 || s.lockHas 7) && s.therm.tempOk && (s.bur.latchClr || decide (s.therm.offAt + 60000 ≤ s.ms))) = true := by
    simpa [hoff, htemp] using ⟨hlock, htime⟩
  unfold State.thermRelease
  rw [if_pos hcond]
  dsimp only
  split
  · rw [State.getF_enterWake _ _ (by decide) (by decide) (by decide), hall]
  · exact hall

/-- A latch clear releases them at once where the temperature condition holds (R63). -/
theorem State.latchClear_releases {s : State} (hoff : s.mode = .off) (hlock : s.lockHas 6 = true ∨ s.lockHas 7 = true) (htemp : s.therm.tempOk = true) :
    s.latchClear.getF Reg.MD_LOCKOUT_ALL = s.getF Reg.MD_LOCKOUT_ALL - (s.getF Reg.MD_LOCKOUT_ALL &&& 0x60) := by
  unfold State.latchClear
  rw [if_pos (by simpa using hlock)]
  exact State.thermRelease_releases (s := { s with bur := { s.bur with latchClr := true } }) hoff hlock htemp (.inl rfl)

theorem State.lockHas_congr {s t : State} (h : t.getF Reg.MD_LOCKOUT_ALL = s.getF Reg.MD_LOCKOUT_ALL) (code : Nat) : t.lockHas code = s.lockHas code := by
  simp only [State.lockHas, h]

theorem State.wrote_frame (s : State) (p : Path) : s.wrote p = { s with regs := (s.wrote p).regs } := by
  cases p
  · unfold State.wrote State.hostTouch
    dsimp only
    split <;> rfl
  · rfl

theorem latchClr_releases {s : State} {p : Path} (hreach : s.reach p 0x1010 = true) (hoff : s.mode = .off)
    (hlock : s.lockHas 6 = true ∨ s.lockHas 7 = true) (htemp : s.therm.tempOk = true) :
    ∃ t, exec (.latchClr p) s = .next t ∧ t.getF Reg.MD_LOCKOUT_ALL = s.getF Reg.MD_LOCKOUT_ALL - (s.getF Reg.MD_LOCKOUT_ALL &&& 0x60) := by
  have hall : (s.wrote p).getF Reg.MD_LOCKOUT_ALL = s.getF Reg.MD_LOCKOUT_ALL := regsKept_wrote _ (by decide)
  have hlock' : (s.wrote p).lockHas 6 = true ∨ (s.wrote p).lockHas 7 = true := by rwa [State.lockHas_congr hall, State.lockHas_congr hall]
  refine ⟨(s.wrote p).latchClear, by simp only [exec, execLatchClr, hreach, if_true], ?_⟩
  rw [State.latchClear_releases (by rw [State.wrote_frame]; exact hoff) hlock' (by rw [State.wrote_frame]; exact htemp), hall]

theorem thermalLockoutScan_releases {s : State} {temps : List Int} (hoff : s.mode = .off) (hlock : s.lockHas 6 = true ∨ s.lockHas 7 = true)
    (hcool : ∀ x ∈ temps, x < 10 * ((s.thresholds.getD 3 0 : Int) - s.thHyst)) (htime : s.therm.offAt + 60000 ≤ s.ms) :
    ∃ t, exec (.thermalLockoutScan temps) s = .next t ∧
      t.getF Reg.MD_LOCKOUT_ALL = s.getF Reg.MD_LOCKOUT_ALL - (s.getF Reg.MD_LOCKOUT_ALL &&& 0x60) := by
  have hcond : (s.mode == .off && (s.lockHas 6 || s.lockHas 7)) = true := by simpa [hoff] using hlock
  refine ⟨_, congrArg Host.Outcome.next (if_pos hcond), ?_⟩
  refine State.thermRelease_releases (s := { s with therm := { s.therm with tempOk := _ } }) hoff hlock ?_ (.inr htime)
  simpa using hcool

/-! ### VIN and the bridge window (R50, R54, R339) -/

theorem vinCmpRelease_clears {s : State} {b : Bool} (h : s.getB (if b then Reg.PS_STATUS_CMP_B else Reg.PS_STATUS_CMP_A) = true) :
    ∃ t, exec (.vinCmpRelease b) s = .next t ∧ t.getF (if b then Reg.PS_STATUS_CMP_B else Reg.PS_STATUS_CMP_A) = 0 ∧ t.mode = s.mode := by
  generalize hf : (if b then Reg.PS_STATUS_CMP_B else Reg.PS_STATUS_CMP_A) = f at h
  have hvin : f.key ≠ Reg.PS_STATUS_VIN_RET.key := by subst hf; cases b <;> decide
  have hclear : (s.setF f 0).getF f = 0 := by rw [State.getF_setF_self, Nat.zero_mod]
  simp only [exec, execVinCmpRelease, hf, h, Bool.not_true, Bool.false_eq_true, if_false]
  split
  · exact ⟨_, rfl, hclear, rfl⟩
  · exact ⟨_, rfl, (State.getF_setF_ne _ _ hvin).trans hclear, rfl⟩

theorem vinCmpMismatch_raises {s : State} (h : s.getB Reg.PS_STATUS_CMP_A ≠ s.getB Reg.PS_STATUS_CMP_B) :
    exec .vinCmpMismatch s = .next (s.raise .keeper 0x10 .warning (b2n (s.getB Reg.PS_STATUS_CMP_B))) := by
  simp [exec, execVinCmpMismatch, h]

theorem bridgeClose_closes {s : State} (hopen : s.getB Reg.MD_STATUS_BRIDGE = true) (hvin : s.vinRet = true) (hsolo : s.twinOn = false) :
    ∃ t, exec .bridgeClose s = .next t ∧ t.getF Reg.MD_STATUS_BRIDGE = 0 ∧ t.mode = s.mode := by
  have hagreed : s.vinAgreed = true := by simp [State.vinAgreed, hvin, hsolo]
  refine ⟨(s.setF Reg.MD_STATUS_BRIDGE 0).raise .keeper 0x02 .info 0, by simp [exec, execBridgeClose, hopen, hagreed], ?_, rfl⟩
  rw [regsKept_raise _ (by decide), State.getF_setF_self, Nat.zero_mod]

/-- PERST_N's fall takes the pin down and keeps the mode, whatever the mode. -/
theorem perstNAssert_keeps_mode (s : State) : ∃ t, exec .perstNAssert s = .next t ∧ t.pins.perstN = false ∧ t.mode = s.mode := by
  have hkept := boardKept_perstFell { s with pins := { s.pins with perstN := false } }
  exact ⟨_, rfl, by rw [hkept.pins], hkept.mode⟩

/-- Settles O58: each form's completion. -/
theorem powerAndLinkFormsComplete : Obligations.PowerAndLinkFormsComplete := by
  refine ⟨perstNAssert_keeps_mode, fun s hoff hden hpd hvio => ?_, fun s width speed ver hperst hvio hpd hdown hlrst hwidth hslow hfast hver => ?_,
    fun s h => ?_, fun s v => ?_, fun s h => ?_, fun s b hpd => ?_, fun s vio hmode hseq hent => ?_, fun _ => wakeReq_wakes, fun _ => serviceNHold_wakes,
    fun _ _ => latchClr_releases, fun _ _ hoff hlock _ => thermalLockoutScan_releases hoff hlock, fun _ _ => vinCmpRelease_clears,
    fun _ h => ⟨_, vinCmpMismatch_raises h, rfl, rfl⟩, fun _ => bridgeClose_closes⟩
  · exact ⟨_, perstNRelease_trains hoff hden hpd hvio, rfl, State.getF_setF_self _ _ _, rfl⟩
  · obtain ⟨t, hexec, hup, -, hcxl, -, -, -, -, -, -, -, ht⟩ := linkUp_completes rfl hperst hvio hpd hdown hlrst hwidth hslow hfast hver
    exact ⟨t, hexec, hup, hcxl, by rw [ht, State.blockForce, State.comeInto_frame]⟩
  · obtain ⟨t, hexec, hup, -, -, hcount, -, -, ht⟩ := hostLinkDown_completes h
    exact ⟨t, hexec, hup, hcount, by rw [ht]⟩
  · obtain ⟨t, hexec, hmode, -, -, -, -, -, -, -, hident, -⟩ := por_completes s v
    exact ⟨t, hexec, hmode, hident⟩
  · obtain ⟨t, hexec, hmode, -, -, -, -, -, hident⟩ := aonPowerLoss_completes h
    exact ⟨t, hexec, hmode, hident⟩
  · obtain ⟨t, hexec, hmode, -, -, -, -, -, hup, -⟩ := krst_completes b hpd
    exact ⟨t, hexec, hup, hmode⟩
  · obtain ⟨t, hexec, -, -, hent16, hvio, -⟩ := vkeepGood_completes vio hmode hseq hent
    exact ⟨t, hexec, hent16, hvio⟩

/-! ### Reads of the register window (R10, R13, R159, R371) -/

/-- A read of one whole register: its side effects, and its 32 bits. -/
theorem State.regRead_word (s : State) (p : Path) {off : Nat} (h : off % 4 = 0) :
    s.regRead p off 4 = { s.readEffect p off 0 4 with host := { (s.readEffect p off 0 4).host with rdata := s.readVal p off % 2 ^ 32 } } := by
  have hw : off / 4 * 4 = off := by omega
  have hlast (i : Nat) (hi : 0 < i) (a : State × Nat) : readWord p off 4 i a = a := by
    unfold readWord
    dsimp only
    rw [if_neg (by omega)]
  have hfirst : readWord p off 4 0 (s, 0) = (s.readEffect p off 0 4, s.readVal p off % 2 ^ 32) := by
    simp [readWord, hw]
  have hrun : (List.range 3).foldl (fun acc i => readWord p off (min 8 4) i acc) (s, 0) = (s.readEffect p off 0 4, s.readVal p off % 2 ^ 32) := by
    simp only [show List.range 3 = [0, 1, 2] from rfl, List.foldl_cons, List.foldl_nil, show min 8 4 = 4 from rfl, hfirst, hlast 1 (by decide),
      hlast 2 (by decide)]
  simp only [State.regRead, hrun]

theorem State.readEffect_silent {s : State} {p : Path} {off : Nat} (h : s.answers p off = false) (a b : Nat) : s.readEffect p off a b = s := by
  simp [State.readEffect, h]

/-- Nothing answers: the read returns 0 and has no effect. -/
theorem State.regRead_silent {s : State} {p : Path} {off : Nat} (hoff : off % 4 = 0) (h : s.answers p off = false) :
    s.regRead p off 4 = { s with host := { s.host with rdata := 0 } } := by
  rw [s.regRead_word p hoff, State.readEffect_silent h]
  simp [State.readVal, h]

/-- HL_ERR's counters clear with the read that returns them (R13). -/
theorem rcRead_hlErr {s : State} {p : Path} (hreach : s.reach p 0x2010 = true) (hlive : s.regLive 0x2010 = true) :
    ∃ t, exec (.rcRead p 0x2010 4) s = .next t ∧ t.getF Reg.HL_ERR_DOWN = 0 ∧ t.getF Reg.HL_ERR_RETRAIN = 0 ∧ t.getF Reg.HL_ERR_CRC_ERR = 0 ∧
      t.host.rdata = s.regView p 0x2010 % 2 ^ 32 ∧ RegsKept [Reg.HL_ERR_DOWN, Reg.HL_ERR_RETRAIN, Reg.HL_ERR_CRC_ERR] s t ∧
      t = { s with regs := t.regs, host := { s.host with rdata := t.host.rdata } } := by
  have hans : s.answers p 0x2010 = true := by simp [State.answers, hreach, hlive]
  have hhit : rcHit 0x2010 0 4 = [Reg.HL_ERR_DOWN, Reg.HL_ERR_RETRAIN, Reg.HL_ERR_CRC_ERR] := by decide
  have heff : s.readEffect p 0x2010 0 4 = s.setFs [(Reg.HL_ERR_DOWN, 0), (Reg.HL_ERR_RETRAIN, 0), (Reg.HL_ERR_CRC_ERR, 0)] := by
    rw [State.readEffect, if_pos hans, hhit]
    rfl
  have hval : s.readVal p 0x2010 = s.regView p 0x2010 := by
    rw [State.readVal, if_pos hans]
    rfl
  have hread := s.regRead_word p (off := 0x2010) rfl
  rw [heff, hval] at hread
  obtain ⟨hdown, hretrain, hcrc⟩ : (s.setFs [(Reg.HL_ERR_DOWN, 0), (Reg.HL_ERR_RETRAIN, 0), (Reg.HL_ERR_CRC_ERR, 0)]).getF Reg.HL_ERR_DOWN = 0 ∧
      (s.setFs [(Reg.HL_ERR_DOWN, 0), (Reg.HL_ERR_RETRAIN, 0), (Reg.HL_ERR_CRC_ERR, 0)]).getF Reg.HL_ERR_RETRAIN = 0 ∧
      (s.setFs [(Reg.HL_ERR_DOWN, 0), (Reg.HL_ERR_RETRAIN, 0), (Reg.HL_ERR_CRC_ERR, 0)]).getF Reg.HL_ERR_CRC_ERR = 0 := by
    simp (disch := decide) only [State.getF_setFs_cons, State.setFs_nil, State.getF_setF_ne, State.getF_setF_self]
    decide
  exact ⟨_, congrArg Host.Outcome.next hread, hdown, hretrain, hcrc, rfl,
    (regsKept_setFs (s := s) (by simp)).trans (.of_regs rfl), rfl⟩

theorem State.setPath_frame (s : State) (p : Path) (x : PathSt) : s.setPath p x = { s with cxl := (s.setPath p x).cxl, spmiP := (s.setPath p x).spmiP } := by
  cases p <;> rfl

/-- The low half of NB_EPOCH reads the epoch counter. -/
theorem State.readVal_epoch {s : State} {p : Path} (h : s.answers p 0x7034 = true) : s.readVal p 0x7034 = s.nand.epoch % 2 ^ 32 := by
  have hlive : s.regLive 0x7034 = true := by
    rw [State.answers, Bool.and_eq_true] at h
    exact h.2
  have hflds : Reg.fieldsAt 0x7034 = [Reg.NB_EPOCH_LO_EPOCH] := by decide
  have hview : s.viewF p Reg.NB_EPOCH_LO_EPOCH = s.nand.epoch % 2 ^ 32 % 2 ^ 32 := rfl
  rw [State.readVal, if_pos h, show (s.path p).capHigh 0x7034 = none from rfl, Option.getD_none, State.regView, if_pos hlive, hflds]
  simp only [List.foldl_cons, List.foldl_nil, hview, show Reg.NB_EPOCH_LO_EPOCH.lo = 0 from rfl, Nat.mod_mod, pow_zero, mul_one, zero_add]

/-- A read of the low half captures the whole epoch for its path, and the high half then reads from the capture (R159). -/
theorem captureRead_epoch {s : State} {p : Path} (h : s.answers p 0x7034 = true) :
    ∃ t, exec (.captureRead p 0x7034 4) s = .next t ∧ t.host.rdata = s.nand.epoch % 2 ^ 32 ∧ t.regs = s.regs ∧ t.nand = s.nand ∧
      ∃ u, exec (.captureRead p 0x7038 4) t = .next u ∧ u.host.rdata = s.nand.epoch / 2 ^ 32 % 2 ^ 16 := by
  have heff : s.readEffect p 0x7034 0 4 = s.setPath p { s.path p with capEpoch := s.nand.epoch } := by
    rw [State.readEffect, if_pos h, show rcHit 0x7034 0 4 = [] by decide]
    rfl
  have hread := s.regRead_word p (off := 0x7034) rfl
  rw [heff, State.readVal_epoch h] at hread
  refine ⟨_, congrArg Host.Outcome.next hread, Nat.mod_mod _ _, by rw [State.setPath_frame], by rw [State.setPath_frame], ?_⟩
  generalize ht : ({ s.setPath p { s.path p with capEpoch := s.nand.epoch } with
    host := { (s.setPath p { s.path p with capEpoch := s.nand.epoch }).host with rdata := s.nand.epoch % 2 ^ 32 % 2 ^ 32 } } : State) = t
  have hans : t.answers p 0x7038 = true := by
    rw [← h, ← ht]
    cases p <;> rfl
  have hcap : (t.path p).capHigh 0x7038 = some (s.nand.epoch / 2 ^ 32 % 2 ^ 16) := by
    rw [← ht]
    cases p <;> rfl
  have hval : t.readVal p 0x7038 = s.nand.epoch / 2 ^ 32 % 2 ^ 16 := by rw [State.readVal, if_pos hans, hcap, Option.getD_some]
  have hread' := t.regRead_word p (off := 0x7038) rfl
  refine ⟨_, congrArg Host.Outcome.next hread', ?_⟩
  show t.readVal p 0x7038 % 2 ^ 32 = _
  rw [hval]
  omega

/-! ### Writes (R10, R371, R503, R504, R540, R542) -/

/-- A narrow or misaligned write is discarded; on SPMI it is counted. -/
theorem registerWrite_narrow {s : State} {p : Path} {off size : Nat} {v : BitVec 64} (h : off % 4 ≠ 0 ∨ (size ≠ 4 ∧ size ≠ 8)) :
    exec (.registerWrite p off size v) s = .next (s.narrowWrite p off) := by
  simp only [exec, execRegisterWrite]
  by_cases hoff : off % 4 = 0
  · obtain ⟨h4, h8⟩ := h.resolve_left (not_not.mpr hoff)
    simp [hoff, h4, h8]
  · simp [hoff]

theorem registerWrite_narrow_completes {s : State} {p : Path} {off size : Nat} {v : BitVec 64} (h : off % 4 ≠ 0 ∨ (size ≠ 4 ∧ size ≠ 8)) :
    ∃ t, exec (.registerWrite p off size v) s = .next t ∧ RegsKept [Reg.SQ_SPMIERR_NARROW] s t ∧ t = { s with regs := t.regs } ∧
      (p = .cxl → t = s) ∧ (p = .spmi → s.reach .spmi off = true →
        t.getF Reg.SQ_SPMIERR_NARROW = min (2 ^ Reg.SQ_SPMIERR_NARROW.w - 1) (s.getF Reg.SQ_SPMIERR_NARROW + 1)) := by
  refine ⟨_, registerWrite_narrow h, ?_⟩
  cases p with
  | cxl => exact ⟨.refl _ _, rfl, fun _ => rfl, nofun⟩
  | spmi =>
    unfold State.narrowWrite
    dsimp only
    split
    · exact ⟨regsKept_addSat List.mem_cons_self, rfl, nofun, fun _ _ => State.getF_addSat_self _ _ _⟩
    · exact ⟨.refl _ _, rfl, nofun, fun _ hr => by simp_all⟩

/-! ### CL fields in service mode (R119, R503, R504, R540, R542; log entries 53, 54 and 61) -/

/-- The registers that hold or do something besides their CL fields. -/
def actOffs : List Nat :=
  [0x1010, 0x3058, 0x8058, 0x8060, 0x9018, 0x901C, 0x9024, 0x9028, 0xA010, 0xB03C, 0xC034, 0xD004, 0xD008, 0xD00C, 0xD010, 0xD014, 0xE004, 0xE008, 0xE024]

theorem State.writeAct_of_not_mem {off : Nat} (h : off ∉ actOffs) (s : State) (p : Path) (v : Nat) : s.writeAct p off v = s := by
  simp only [actOffs, List.mem_cons, not_or] at h
  simp [State.writeAct, State.writeKeeper, h]

/-- A write to a register that only has CL fields. -/
theorem State.wordWrite_cl {s : State} {p : Path} {off v : Nat} (hreach : s.reach p off = true) (hpresent : s.absentReg off = false)
    (hact : off ∉ actOffs) : s.wordWrite p off v = (s.wrote p).writeCl off v := by
  simp [State.wordWrite, hreach, hpresent, State.writeAct_of_not_mem hact]

theorem State.absentReg_of_regLive {s : State} {off : Nat} (h : s.regLive off = true) : s.absentReg off = false := by
  rw [State.regLive, Bool.and_eq_true] at h
  simpa using h.1

theorem State.service_wrote (s : State) (p : Path) : (s.wrote p).service = s.service :=
  State.getB_congr (regsKept_wrote _ (by decide))

theorem State.regLive_congr {s t : State} (hotp : t.otp = s.otp) (hdom : t.getF Reg.PS_DOM_PD = s.getF Reg.PS_DOM_PD)
    (hreset : t.getF Reg.MD_STATUS_LRST_ACT = s.getF Reg.MD_STATUS_LRST_ACT) (off : Nat) : t.regLive off = s.regLive off := by
  simp only [State.regLive, State.absentReg, State.lampUp, State.hasTwin, State.is8430, State.pd, State.pdState, State.getB, hotp, hdom, hreset]

theorem State.regLive_wrote (s : State) (p : Path) (off : Nat) : (s.wrote p).regLive off = s.regLive off :=
  State.regLive_congr (by rw [State.wrote_frame]) (regsKept_wrote _ (by decide)) (regsKept_wrote _ (by decide)) off

theorem State.blHonoured_wrote (s : State) (p : Path) (bl : Nat) : (s.wrote p).blHonoured bl = s.blHonoured bl := by
  rw [State.wrote_frame]
  rfl

/-- Outside service mode the CL part of a write is ignored. -/
theorem State.writeCl_locked {s : State} (h : s.service = false) (off v : Nat) : s.writeCl off v = s := by simp [State.writeCl, h]

/-- In service mode SVC_DIRTY stands whatever becomes of the value (log entry 61). -/
theorem State.writeCl_service {s : State} {off : Nat} (h : s.service = true) (hcl : clFields off ≠ []) (v : Nat) :
    s.writeCl off v = (if !s.regLive off then s.setF Reg.DT_DMK_SVC_DIRTY 1
      else if s.refusesCl off v then (s.setF Reg.DT_DMK_SVC_DIRTY 1).setF Reg.DT_DMK_SVC_REJ 1
      else if isJudged off then ((s.setF Reg.DT_DMK_SVC_DIRTY 1).setF Reg.DT_DMK_SVC_REJ 0).setCl off v
      else (s.setF Reg.DT_DMK_SVC_DIRTY 1).setCl off v) := by
  have hne : (clFields off).isEmpty = false := List.isEmpty_eq_false_iff.mpr hcl
  simp only [State.writeCl, h, hne, Bool.not_true, Bool.or_self, Bool.false_eq_true, if_false]

/-- A field whose block has a moment of its own keeps its value in force; the written one waits (R540, log entry 53). -/
theorem State.putCl_deferred {f : Fld} (hout : isOutSet f.off = false) (hnow : f.atOnce = false) (s : State) (v : Nat) :
    s.putCl f v = { s with written := mset f.key (v % 2 ^ f.w) s.written } := by
  simp [State.putCl, hout, hnow]

theorem State.putCl_atOnce {f : Fld} (hout : isOutSet f.off = false) (hnow : f.atOnce = true) (s : State) (v : Nat) :
    s.putCl f v = s.setF f v := by
  simp [State.putCl, hout, hnow]

/-- A register with no mask of its own takes the value as it is written, field by field. -/
theorem State.setCl_plain {off : Nat} (hmask : isMask off = false) (hadj : off ≠ 0x401C) (hbridge : off ≠ 0x100C) (s : State) (v : Nat) :
    s.setCl off v = (clFields off).foldl (fun (a : State) f => a.putCl f (v / 2 ^ f.lo)) s := by
  simp [State.setCl, State.clValue, State.raiseIf, hmask, hadj, hbridge]

/-- LG_CFG takes its value only at its block's moment. -/
theorem State.setCl_lgCfg (s : State) (v : Nat) :
    s.setCl 0x3004 v = { s with
      written := setRegs [(Reg.LG_CFG_CAL_EN, v / 2 ^ Reg.LG_CFG_CAL_EN.lo), (Reg.LG_CFG_CWAIT_US, v / 2 ^ Reg.LG_CFG_CWAIT_US.lo),
        (Reg.LG_CFG_MARGIN, v / 2 ^ Reg.LG_CFG_MARGIN.lo)] s.written } := by
  rw [State.setCl_plain (by decide) (by decide) (by decide),
    show clFields 0x3004 = [Reg.LG_CFG_CAL_EN, Reg.LG_CFG_CWAIT_US, Reg.LG_CFG_MARGIN] by decide]
  simp only [List.foldl_cons, List.foldl_nil]
  rw [State.putCl_deferred (by decide) (by decide), State.putCl_deferred (by decide) (by decide), State.putCl_deferred (by decide) (by decide)]
  rfl

/-- NB_GEOM takes its value only at its block's moment. -/
theorem State.setCl_geom (s : State) (v : Nat) :
    s.setCl 0x7008 v = { s with
      written := setRegs [(Reg.NB_GEOM_BLOCKS, v / 2 ^ Reg.NB_GEOM_BLOCKS.lo), (Reg.NB_GEOM_PPB, v / 2 ^ Reg.NB_GEOM_PPB.lo)] s.written } := by
  rw [State.setCl_plain (by decide) (by decide) (by decide), show clFields 0x7008 = [Reg.NB_GEOM_BLOCKS, Reg.NB_GEOM_PPB] by decide]
  simp only [List.foldl_cons, List.foldl_nil]
  rw [State.putCl_deferred (by decide) (by decide), State.putCl_deferred (by decide) (by decide)]
  rfl

/-- The behaviour level takes force with its write. -/
theorem State.setCl_bl (s : State) (v : Nat) : s.setCl 0x000C v = s.setF Reg.ID_BL_BL v := by
  rw [State.setCl_plain (by decide) (by decide) (by decide), show clFields 0x000C = [Reg.ID_BL_BL] by decide]
  simp only [List.foldl_cons, List.foldl_nil]
  rw [State.putCl_atOnce (by decide) (by decide), show Reg.ID_BL_BL.lo = 0 from rfl, pow_zero, Nat.div_one]

/-! ### REGISTER_WRITE, FIT_BL_WRITE and POPULATION_WRITE on the CL fields -/

theorem registerWrite_word (p : Path) {off : Nat} (h : off % 4 = 0) (v : BitVec 64) (s : State) :
    exec (.registerWrite p off 4 v) s = .next (s.wordWrite p off (v.toNat % 2 ^ 32)) := by
  simp [exec, execRegisterWrite, h]

theorem registerWrite_lgCfg_locked {s : State} {v : BitVec 64} (hreach : s.reach .cxl 0x3004 = true) (hservice : s.service = false) :
    ∃ t, exec (.registerWrite .cxl 0x3004 4 v) s = .next t ∧ t.written = s.written ∧ RegsKept [Reg.DT_SVC_LEFT_S] s t := by
  refine ⟨s.wrote .cxl, ?_, by rw [State.wrote_frame], regsKept_wrote⟩
  rw [registerWrite_word _ rfl, State.wordWrite_cl hreach (by simp [State.absentReg]) (by decide), State.writeCl_locked]
  rw [State.service_wrote, hservice]

theorem registerWrite_lgCfg_service {s : State} {v : BitVec 64} (hreach : s.reach .cxl 0x3004 = true) (hservice : s.service = true)
    (hlive : s.regLive 0x3004 = true) :
    ∃ t, exec (.registerWrite .cxl 0x3004 4 v) s = .next t ∧ t.getF Reg.LG_CFG_MARGIN = s.getF Reg.LG_CFG_MARGIN ∧
      mget 0 t.written Reg.LG_CFG_MARGIN.key = v.toNat % 2 ^ 32 / 2 ^ Reg.LG_CFG_MARGIN.lo % 2 ^ Reg.LG_CFG_MARGIN.w ∧ t.getF Reg.DT_DMK_SVC_DIRTY = 1 ∧
      RegsKept [Reg.DT_DMK_SVC_DIRTY, Reg.DT_SVC_LEFT_S] s t := by
  have hwrite : s.wordWrite .cxl 0x3004 (v.toNat % 2 ^ 32) = ((s.wrote .cxl).setF Reg.DT_DMK_SVC_DIRTY 1).setCl 0x3004 (v.toNat % 2 ^ 32) := by
    rw [State.wordWrite_cl hreach (State.absentReg_of_regLive hlive) (by decide),
      State.writeCl_service (by rw [State.service_wrote, hservice]) (by decide), State.regLive_wrote, hlive]
    simp [State.refusesCl, isJudged]
  have hkept : RegsKept [Reg.DT_DMK_SVC_DIRTY, Reg.DT_SVC_LEFT_S] s ((s.wrote .cxl).setF Reg.DT_DMK_SVC_DIRTY 1) :=
    (regsKept_wrote.mono (by simp)).trans (regsKept_setF (by simp))
  refine ⟨_, (registerWrite_word _ rfl v s).trans (congrArg Host.Outcome.next hwrite), ?_⟩
  rw [State.setCl_lgCfg]
  exact ⟨hkept _ (by decide), mget_mset_self _ _ _ _, State.getF_setF_self _ _ _, hkept.trans (.of_regs rfl)⟩

theorem fitBlWrite_bl {s : State} {v : Word} (hreach : s.reach .cxl 0x000C = true) (hservice : s.service = true) :
    ∃ t, exec (.fitBlWrite .cxl 0x000C v) s = .next t ∧ t.getF Reg.DT_DMK_SVC_DIRTY = 1 ∧
      (s.regLive 0x000C = true → s.blHonoured (v.toNat % 256) = true → t.getF Reg.ID_BL_BL = v.toNat % 256 ∧ t.getF Reg.DT_DMK_SVC_REJ = 0) ∧
      (s.regLive 0x000C = true → s.blHonoured (v.toNat % 256) = false → t.getF Reg.ID_BL_BL = s.getF Reg.ID_BL_BL ∧ t.getF Reg.DT_DMK_SVC_REJ = 1) := by
  have hlive : s.regLive 0x000C = true := by simp [State.regLive, State.absentReg, lampReg]
  have hrefuses : (s.wrote .cxl).refusesCl 0x000C v.toNat = !s.blHonoured (v.toNat % 256) := by
    rw [State.refusesCl, if_pos rfl, State.blHonoured_wrote]
  have hwrite : s.wordWrite .cxl 0x000C v.toNat = (s.wrote .cxl).writeCl 0x000C v.toNat :=
    State.wordWrite_cl hreach (State.absentReg_of_regLive hlive) (by decide)
  rw [State.writeCl_service (by rw [State.service_wrote, hservice]) (by decide), State.regLive_wrote, hlive, hrefuses] at hwrite
  refine ⟨_, congrArg Host.Outcome.next ((if_pos (.inl rfl)).trans hwrite), ?_⟩
  have hbl : (s.wrote .cxl).getF Reg.ID_BL_BL = s.getF Reg.ID_BL_BL := regsKept_wrote _ (by decide)
  cases hhonoured : s.blHonoured (v.toNat % 256) with
  | true =>
    simp (disch := decide) only [Bool.not_true, Bool.false_eq_true, if_false, show isJudged 0x000C = true from rfl, if_true, State.setCl_bl,
      State.getF_setF_ne, State.getF_setF_self]
    exact ⟨rfl, fun _ _ => ⟨rfl, rfl⟩, nofun⟩
  | false =>
    simp (disch := decide) only [Bool.not_true, Bool.not_false, Bool.false_eq_true, if_false, if_true, State.getF_setF_ne, State.getF_setF_self]
    exact ⟨rfl, nofun, fun _ _ => ⟨hbl, rfl⟩⟩

theorem populationWrite_geom {s : State} {v : Word} (hreach : s.reach .cxl 0x7008 = true) (hservice : s.service = true)
    (hlive : s.regLive 0x7008 = true) :
    ∃ t, exec (.populationWrite .cxl 0x7008 v) s = .next t ∧ t.getF Reg.DT_DMK_SVC_DIRTY = 1 ∧ t.getF Reg.NB_GEOM_PPB = s.getF Reg.NB_GEOM_PPB ∧
      t.getF Reg.DT_DMK_SVC_REJ = (if geomOk (v.toNat / 2 ^ 16) (v.toNat % 2 ^ 11) then 0 else 1) ∧
      (geomOk (v.toNat / 2 ^ 16) (v.toNat % 2 ^ 11) = true → mget 0 t.written Reg.NB_GEOM_PPB.key = v.toNat % 2 ^ 11 ∧
        mget 0 t.written Reg.NB_GEOM_BLOCKS.key = v.toNat / 2 ^ 16) ∧
      (geomOk (v.toNat / 2 ^ 16) (v.toNat % 2 ^ 11) = false → t.written = s.written) := by
  have hblocks : v.toNat / 2 ^ 16 % 2 ^ 16 = v.toNat / 2 ^ 16 := by have := v.isLt; omega
  have hrefuses : (s.wrote .cxl).refusesCl 0x7008 v.toNat = !geomOk (v.toNat / 2 ^ 16) (v.toNat % 2 ^ 11) := by
    rw [State.refusesCl, if_neg (by decide), if_neg (by decide), if_neg (by decide), if_pos rfl, hblocks]
  have hwrite : s.wordWrite .cxl 0x7008 v.toNat = (s.wrote .cxl).writeCl 0x7008 v.toNat :=
    State.wordWrite_cl hreach (State.absentReg_of_regLive hlive) (by decide)
  rw [State.writeCl_service (by rw [State.service_wrote, hservice]) (by decide), State.regLive_wrote, hlive, hrefuses] at hwrite
  refine ⟨_, congrArg Host.Outcome.next ((if_pos (.inr rfl)).trans hwrite), ?_⟩
  have hppb : (s.wrote .cxl).getF Reg.NB_GEOM_PPB = s.getF Reg.NB_GEOM_PPB := regsKept_wrote _ (by decide)
  cases hok : geomOk (v.toNat / 2 ^ 16) (v.toNat % 2 ^ 11) with
  | true =>
    simp only [Bool.not_true, Bool.false_eq_true, if_false, show isJudged 0x7008 = true from rfl, if_true, State.setCl_geom]
    generalize hu : ((s.wrote .cxl).setF Reg.DT_DMK_SVC_DIRTY 1).setF Reg.DT_DMK_SVC_REJ 0 = u
    have hdirty : u.getF Reg.DT_DMK_SVC_DIRTY = 1 := by
      rw [← hu, State.getF_setF_ne _ _ (by decide), State.getF_setF_self]
      rfl
    have hrej : u.getF Reg.DT_DMK_SVC_REJ = 0 := by rw [← hu, State.getF_setF_self, Nat.zero_mod]
    have hforce : u.getF Reg.NB_GEOM_PPB = s.getF Reg.NB_GEOM_PPB := by
      rw [← hu, State.getF_setF_ne _ _ (by decide), State.getF_setF_ne _ _ (by decide), hppb]
    refine ⟨hdirty, hforce, hrej, fun _ => ⟨?_, ?_⟩, nofun⟩
    · rw [setRegs, setRegs, setRegs, mget_mset_self, show Reg.NB_GEOM_PPB.lo = 0 from rfl, pow_zero, Nat.div_one]
      rfl
    · rw [setRegs, setRegs, setRegs, mget_mset_ne 0 _ _ (by decide), mget_mset_self]
      exact hblocks
  | false =>
    simp (disch := decide) only [Bool.not_true, Bool.not_false, Bool.false_eq_true, if_false, if_true, State.getF_setF_ne, State.getF_setF_self]
    refine ⟨rfl, hppb, rfl, nofun, fun _ => ?_⟩
    rw [State.wrote_frame]
    rfl

/-- Settles O57. Reads go through the answering register alone; a CL write waits in `written` or takes force by its field's moment. -/
theorem registerWindow : Obligations.RegisterWindow :=
  ⟨fun _ p off h => ⟨congrArg Host.Outcome.next (State.regRead_silent (p := p) (Nat.mul_mod_right 4 off) h),
      congrArg Host.Outcome.next (State.regRead_silent (p := p) (Nat.mul_mod_right 4 off) h)⟩,
    fun _ _ => rcRead_hlErr, fun _ _ => captureRead_epoch, fun _ _ _ _ _ => registerWrite_narrow_completes,
    fun _ _ hreach => ⟨registerWrite_lgCfg_locked hreach, registerWrite_lgCfg_service hreach⟩,
    fun _ _ => fitBlWrite_bl, fun _ _ => populationWrite_geom⟩

/-! ### What the write path, the ledger and the mirror leave alone -/

/-- The fields that admitting, committing and mirroring writes, and the loss of the partner, may set. -/
def pathFlds : List Fld :=
  [Reg.LG_CWAIT_CNT_CWAIT_COUNT, Reg.LG_WT_CNT_WT_COUNT, Reg.TW_EPOCH_EPOCH, Reg.TW_STATUS_MIRROR, Reg.TW_RESYNC_RUNNING, Reg.TW_RESYNC_LEFT,
    Reg.TW_STALE_EPOCH, Reg.TW_STATUS_PARTNER, Reg.TW_STATUS_SPLIT, Reg.TW_STATUS_GOVERN] ++ evFlds

/-- A step of the write path: the board and every register but the path's own are as before. -/
def PathKept (s t : State) : Prop := BoardKept s t ∧ RegsKept pathFlds s t

theorem PathKept.refl (s : State) : PathKept s s := ⟨.refl s, .refl _ s⟩

theorem PathKept.trans {s t u : State} (h : PathKept s t) (h' : PathKept t u) : PathKept s u := ⟨h.1.trans h'.1, h.2.trans h'.2⟩

/-- A step that moves only the engines behind the registers. -/
theorem PathKept.of_frame {s t : State}
    (h : t = { s with host := t.host, cover := t.cover, dram := t.dram, bur := t.bur, nand := t.nand, twin := t.twin }) : PathKept s t :=
  ⟨by unfold BoardKept; rw [h], .of_regs (by rw [h])⟩

theorem PathKept.foldl {α : Type} {f : State → α → State} (h : ∀ a x, PathKept a (f a x)) (l : List α) (s : State) : PathKept s (l.foldl f s) := by
  induction l generalizing s with
  | nil => exact .refl s
  | cons x l ih => exact (h s x).trans (ih _)

theorem pathKept_setFs {s : State} {a : List (Fld × Nat)} (h : ∀ p ∈ a, p.1 ∈ pathFlds) : PathKept s (s.setFs a) := ⟨rfl, regsKept_setFs h⟩

theorem pathKept_setF {s : State} {f : Fld} {v : Nat} (h : f ∈ pathFlds) : PathKept s (s.setF f v) := ⟨rfl, regsKept_setF h⟩

theorem pathKept_raise {s : State} {src : EvSource} {cls : Nat} {sev : Sev} {param : Nat} : PathKept s (s.raise src cls sev param) :=
  ⟨rfl, regsKept_raise.mono (List.subset_append_right _ _)⟩

theorem pathKept_raiseIf {s : State} {b : Bool} {src : EvSource} {cls : Nat} {sev : Sev} {param : Nat} :
    PathKept s (s.raiseIf b src cls sev param) := by
  cases b
  · exact .refl _
  · exact pathKept_raise

/-! #### Pages and contexts -/

theorem pathKept_ledgerTake {s t : State} {g : Nat} (h : s.ledgerTake g = some t) : PathKept s t := by
  unfold State.ledgerTake at h
  split at h
  · cases h; exact .of_frame rfl
  · cases h; exact .of_frame rfl
  · cases h; exact .of_frame rfl
  · split at h
    · cases h; exact .of_frame rfl
    · split at h
      · cases h; exact .of_frame rfl
      · cases h

theorem pathKept_setCtx {s : State} {n : Nat} {c : Ctx} : PathKept s (s.setCtx n c) := .of_frame rfl

theorem pathKept_armCtx {s t : State} {n : Nat} (h : s.armCtx n = some t) : PathKept s t := by
  unfold State.armCtx at h
  split at h
  · cases h
  · obtain ⟨loc, -, rfl⟩ := Option.map_eq_some_iff.mp h
    exact .of_frame rfl

theorem pathKept_takeCtx {s t : State} {n : Nat} (h : s.takeCtx = some (n, t)) : PathKept s t := by
  unfold State.takeCtx at h
  split at h
  · cases h
    exact .refl _
  · simp only [Option.bind_eq_some_iff] at h
    obtain ⟨m, -, u, hu, h⟩ := h
    split at h
    · cases h
    · cases h
      exact pathKept_armCtx hu

theorem pathKept_rearm {s : State} {n : Nat} : PathKept s (s.rearm n) := by
  unfold State.rearm
  cases h : s.armCtx n with
  | none => exact pathKept_setCtx
  | some t => exact pathKept_armCtx h

theorem pathKept_askCtx {s : State} {n : Nat} : PathKept s (s.askCtx n) := by
  unfold State.askCtx
  dsimp only
  split
  · exact .refl _
  · exact .of_frame rfl

theorem pathKept_orphanBack {s : State} {page g : Nat} : PathKept s (s.orphanBack page g) := by
  unfold State.orphanBack State.listOrphan
  split <;> exact .of_frame rfl

/-! #### Writes that enter -/

theorem pathKept_frameIf {s : State} {b : Bool} {ty par : Nat} : PathKept s (s.frameIf b ty par) := by
  cases b <;> exact .of_frame rfl

theorem pathKept_wtTry {s : State} : PathKept s s.wtTry := by
  unfold State.wtTry
  split
  · split
    · split
      case _ n t htake => exact (pathKept_takeCtx htake).trans ((PathKept.of_frame rfl).trans pathKept_askCtx)
      case _ => exact .refl _
    · exact .refl _
  · exact .refl _

theorem pathKept_stageWrite {s : State} {w : Wr} : PathKept s (s.stageWrite w) := by
  refine (pathKept_frameIf (b := s.framing) (ty := 1) (par := if s.isActive then s.nextWsn else 0)).trans ?_
  exact .of_frame rfl

theorem pathKept_stageWsn {s : State} : PathKept s s.stageWsn := by
  unfold State.stageWsn
  split
  · split
    · exact (PathKept.of_frame rfl).trans pathKept_frameIf
    · exact .refl _
  · exact .refl _

theorem pathKept_startWt {s : State} {w : Wr} : PathKept s (s.startWt w) :=
  ((PathKept.of_frame rfl).trans pathKept_stageWsn).trans pathKept_wtTry

theorem pathKept_creditWait {s : State} {w : Wr} : PathKept s (s.creditWait w) := by
  have hstart {t : State} (h : PathKept s t) : PathKept s (if s.cwaitUs = 0 then t.startWt w else t) := by
    split
    · exact h.trans pathKept_startWt
    · exact h
  unfold State.creditWait
  refine hstart (PathKept.trans ?_ pathKept_raiseIf)
  exact (PathKept.of_frame rfl).trans (pathKept_setF (by decide))

theorem pathKept_leaveIngress {s : State} {rest : List Wr} : PathKept s (s.leaveIngress rest) := .of_frame rfl

theorem pathKept_bufStep {s : State} {w : Wr} : PathKept s (s.bufStep w) := by
  unfold State.bufStep
  split
  · exact .of_frame rfl
  · exact pathKept_stageWrite

theorem pathKept_bufLeave {s : State} : PathKept s s.bufLeave := by
  unfold State.bufLeave
  split
  · split
    · exact .refl _
    · exact (PathKept.of_frame rfl).trans pathKept_stageWrite
  · exact .refl _

theorem pathKept_ledgerRun (n : Nat) (s : State) : PathKept s (ledgerRun n s) := by
  induction n generalizing s with
  | zero => exact .refl s
  | succ n ih =>
    unfold ledgerRun
    split
    · split
      · exact .refl s
      · split
        case _ htake => exact pathKept_leaveIngress.trans ((pathKept_ledgerTake htake).trans (pathKept_bufStep.trans (ih _)))
        case _ => exact pathKept_leaveIngress.trans pathKept_creditWait
    · exact .refl s

/-! #### Mirrored writes and the resynchronisation -/

theorem pathKept_mirrorWt {s : State} : PathKept s s.mirrorWt := by
  unfold State.mirrorWt
  split
  · dsimp only
    split
    · exact (((PathKept.of_frame rfl).trans pathKept_rearm).trans ((PathKept.of_frame rfl).trans (pathKept_setF (by decide)))).trans pathKept_raise
    · exact .refl _
  · exact .refl _

theorem pathKept_commitTo {s : State} {wsn : Nat} : PathKept s (s.commitTo wsn) :=
  (PathKept.foldl (fun _ _ => .of_frame rfl) _ s).trans (.of_frame rfl)

theorem pathKept_learnCommit {s : State} {cum : Nat} : PathKept s (s.learnCommit cum) :=
  ((PathKept.of_frame rfl).trans pathKept_commitTo).trans pathKept_mirrorWt

theorem pathKept_stageMirror {s : State} {w : Wr} : PathKept s (s.stageMirror w) := .of_frame rfl

theorem pathKept_mirrorStep {s : State} {w : Wr} : PathKept s (s.mirrorStep w) := by
  unfold State.mirrorStep
  split
  · exact .of_frame rfl
  · exact pathKept_stageMirror.trans pathKept_learnCommit

theorem pathKept_mirrorLeave {s : State} : PathKept s s.mirrorLeave := by
  unfold State.mirrorLeave
  split
  · split
    · exact .refl _
    · exact ((PathKept.of_frame rfl).trans pathKept_stageMirror).trans pathKept_learnCommit
  · exact .refl _

theorem pathKept_mirrorRun (n : Nat) (s : State) : PathKept s (mirrorRun n s) := by
  induction n generalizing s with
  | zero => exact .refl s
  | succ n ih =>
    unfold mirrorRun
    split
    case _ w t _ _ =>
      have hwait : PathKept s { s with twin := { s.twin with mwait := t } } := .of_frame rfl
      dsimp only
      generalize ({ s with twin := { s.twin with mwait := t } } : State) = r at hwait ⊢
      split
      · exact .refl s
      · split
        case _ htake => exact hwait.trans ((pathKept_ledgerTake htake).trans (pathKept_mirrorStep.trans (ih _)))
        case _ => exact hwait.trans pathKept_creditWait
    case _ => exact .refl s

theorem pathKept_rsyFinish {s : State} : PathKept s s.rsyFinish :=
  (pathKept_setFs (s := s) (a := [(Reg.TW_EPOCH_EPOCH, max (s.getF Reg.TW_EPOCH_EPOCH) s.twin.learned + 1), (Reg.TW_STATUS_MIRROR, 0),
    (Reg.TW_RESYNC_RUNNING, 0), (Reg.TW_RESYNC_LEFT, 0), (Reg.TW_STALE_EPOCH, 0xFFFFFFFF)]) (by simp [pathFlds])).trans (.of_frame rfl)

theorem pathKept_rsyRun (n : Nat) (s : State) : PathKept s (rsyRun n s) := by
  induction n generalizing s with
  | zero => exact .refl s
  | succ n ih =>
    unfold rsyRun
    split
    case _ line d t _ =>
      split
      · exact .refl s
      · split
        case _ a htake =>
          have hcommit : PathKept a ({ a with twin := { a.twin with rsyPend := t } }.commitLine line beAll d) := .of_frame rfl
          generalize ({ a with twin := { a.twin with rsyPend := t } } : State).commitLine line beAll d = u at hcommit ⊢
          exact (pathKept_ledgerTake htake).trans (hcommit.trans (ih u))
        case _ => exact .refl s
    case _ =>
      split
      · exact pathKept_rsyFinish
      · exact .refl s

theorem pathKept_ledgerGo {s : State} : PathKept s s.ledgerGo := by
  unfold State.ledgerGo
  split
  · split
    · exact pathKept_bufLeave.trans (pathKept_ledgerRun _ _)
    · split
      · exact (((PathKept.of_frame rfl).trans pathKept_bufLeave).trans (pathKept_ledgerRun _ _)).trans pathKept_wtTry
      · exact .refl _
  · split
    · exact (pathKept_mirrorLeave.trans (pathKept_mirrorRun _ _)).trans (pathKept_rsyRun _ _)
    · exact .refl _

/-! #### The partner is lost (R402, R412, R419, R420) -/

theorem pathKept_dropStage {s : State} : PathKept s s.dropStage := by
  unfold State.dropStage
  split
  · dsimp only
    split
    · exact ((PathKept.of_frame rfl).trans pathKept_orphanBack).trans pathKept_rearm
    · exact ((PathKept.of_frame rfl).trans pathKept_orphanBack).trans pathKept_setCtx
    · exact .of_frame rfl
  · exact .of_frame rfl

theorem pathKept_dropUnacked {s : State} : PathKept s s.dropUnacked := by
  unfold State.dropUnacked
  dsimp only
  split
  · exact (PathKept.of_frame rfl).trans pathKept_dropStage
  · exact .of_frame rfl

theorem pathKept_commitAcked {s : State} : PathKept s s.commitAcked :=
  (pathKept_dropUnacked.trans pathKept_learnCommit).trans (.of_frame rfl)

theorem pathKept_deadActive {s : State} : PathKept s s.deadActive := pathKept_commitAcked.trans (pathKept_setFs (by simp [pathFlds]))

theorem pathKept_goSolo {s : State} {partner : Nat} : PathKept s (s.goSolo partner) := by
  refine PathKept.trans ?_ pathKept_raise
  refine PathKept.trans ?_ (pathKept_setFs (by simp [pathFlds]))
  split
  · exact (pathKept_setF (by decide)).trans (.of_frame rfl)
  · exact .of_frame rfl
  · exact .refl _

/-- The partner is dead: an active goes solo, a standby governs. -/
theorem pathKept_partnerIs_dead {s : State} : PathKept s (s.partnerIs 3) := by
  have hset : PathKept s (s.setF Reg.TW_STATUS_PARTNER 3) := pathKept_setF (by decide)
  unfold State.partnerIs
  dsimp only
  split
  · exact hset
  · split
    · split
      · exact hset.trans (pathKept_setF (by decide))
      · exact (hset.trans pathKept_goSolo).trans pathKept_ledgerGo
    · split
      · simp only [show (3 : Nat) ≠ 2 by decide, if_false, if_true]
        exact hset.trans pathKept_deadActive
      · exact hset

/-! ### VIO_EXT falls and returns (R402, R519) -/

/-- The fields that a silent bell may set. -/
def bellFlds : List Fld := Reg.TW_STATUS_BELL_OK :: pathFlds

/-- A bell that rang and rings no more: the partner is dead, or only a warning while the link is up. -/
theorem State.bellSilent_of_rang {s : State} (h : s.hasTwin = true) (hbell : s.getB Reg.TW_STATUS_BELL_OK = true) :
    PathKept (s.setF Reg.TW_STATUS_BELL_OK 0) s.bellSilent := by
  simp only [State.bellSilent, h, hbell, Bool.not_true, Bool.or_self, Bool.false_eq_true, if_false]
  split
  · exact pathKept_raise
  · exact pathKept_partnerIs_dead

theorem State.bellSilent_of_quiet {s : State} (h : s.hasTwin = false ∨ s.getB Reg.TW_STATUS_BELL_OK = false) : s.bellSilent = s := by
  obtain h | h := h <;> simp [State.bellSilent, h]

/-- A silent bell leaves the board, and every register but the partner's own. -/
theorem State.bellSilent_moves (s : State) : BoardKept s s.bellSilent ∧ RegsKept bellFlds s s.bellSilent := by
  by_cases h : s.hasTwin = true ∧ s.getB Reg.TW_STATUS_BELL_OK = true
  · obtain ⟨hboard, hregs⟩ := State.bellSilent_of_rang h.1 h.2
    exact ⟨BoardKept.trans (t := s.setF Reg.TW_STATUS_BELL_OK 0) rfl hboard,
      (regsKept_setF (by simp [bellFlds])).trans (hregs.mono (List.subset_cons_self _ _))⟩
  · rw [State.bellSilent_of_quiet (by simpa [Decidable.imp_iff_not_or] using h)]
    exact ⟨.refl s, .refl _ s⟩

theorem State.getF_bellSilent_bell {s : State} (h : s.hasTwin = true) : s.bellSilent.getF Reg.TW_STATUS_BELL_OK = 0 := by
  cases hbell : s.getB Reg.TW_STATUS_BELL_OK with
  | true => exact ((State.bellSilent_of_rang h hbell).2 _ (by decide)).trans (State.getF_setF_self _ _ _)
  | false =>
    rw [State.bellSilent_of_quiet (.inr hbell)]
    simpa [State.getB] using hbell

/-- The field keeps its value whatever VIO_EXT does. -/
def Fld.outlastsVio (g : Fld) : Bool := g.outlastsPower && (Reg.HL_STATUS_LTSSM :: bellFlds).all (fun f => g.key != f.key)

/-- The supervisor takes VIO_EXT as there or gone. -/
def State.vioSet (s : State) (ok : Bool) : State := { s with rail := { s.rail with vioOk := ok } }

theorem State.vioRead_same {s : State} {mv : Nat} (h : s.rail.vioOk = decide (1500 ≤ mv)) : s.vioRead mv = s := by
  simp [State.vioRead, h]

theorem State.vioRead_back {s : State} {mv : Nat} (h : s.rail.vioOk = false) (hmv : 1500 ≤ mv) :
    s.vioRead mv = (s.vioSet true).perstRose.repower := by
  simp [State.vioRead, State.vioSet, h, hmv]

theorem State.vioRead_lost {s : State} {mv : Nat} (h : s.rail.vioOk = true) (hmv : mv < 1500) :
    s.vioRead mv = (if s.pins.perstN then (s.vioSet false).perstFell.bellSilent else (s.vioSet false).bellSilent).repower := by
  have hno : ¬ 1500 ≤ mv := by omega
  simp [State.vioRead, State.vioSet, h, hno]

theorem boardKept_perstRose (s : State) : BoardKept s s.perstRose := by
  unfold State.perstRose
  split
  · exact .refl s
  · rfl

theorem boardKept_vioRead (s : State) (mv : Nat) : BoardKept (s.vioSet (decide (1500 ≤ mv))) (s.vioRead mv) := by
  by_cases hmv : 1500 ≤ mv
  · simp only [hmv, decide_true]
    cases h : s.rail.vioOk with
    | true =>
      rw [State.vioRead_same (by simp [h, hmv]), State.vioSet, ← h]
      exact .refl s
    | false =>
      rw [State.vioRead_back h hmv]
      exact (boardKept_perstRose _).trans (boardKept_repower _)
  · simp only [hmv, decide_false]
    cases h : s.rail.vioOk with
    | false =>
      rw [State.vioRead_same (by simp [h, hmv]), State.vioSet, ← h]
      exact .refl s
    | true =>
      rw [State.vioRead_lost h (by omega)]
      refine BoardKept.trans ?_ (boardKept_repower _)
      split
      · exact (boardKept_perstFell _).trans (State.bellSilent_moves _).1
      · exact (State.bellSilent_moves _).1

section
variable {g : Fld} (h : g.outlastsVio = true)
include h

theorem Fld.outlastsVio.outlastsPower : g.outlastsPower = true := by
  rw [Fld.outlastsVio, Bool.and_eq_true] at h
  exact h.1

theorem Fld.outlastsVio.key_ne : ∀ f ∈ Reg.HL_STATUS_LTSSM :: bellFlds, g.key ≠ f.key := by
  simp only [Fld.outlastsVio, Bool.and_eq_true, List.all_eq_true, bne_iff_ne] at h
  exact h.2

theorem State.getF_bellSilent (s : State) : s.bellSilent.getF g = s.getF g :=
  (State.bellSilent_moves s).2 g fun f hf => Fld.outlastsVio.key_ne h f (List.mem_cons_of_mem _ hf)

theorem State.getF_vioRead (s : State) (mv : Nat) : (s.vioRead mv).getF g = s.getF g := by
  have hpower := Fld.outlastsVio.outlastsPower h
  cases hok : s.rail.vioOk <;> by_cases hmv : 1500 ≤ mv
  · rw [State.vioRead_back hok hmv, State.getF_repower hpower]
    unfold State.perstRose
    split
    · rfl
    · exact State.getF_setF_ne _ _ (Fld.outlastsVio.key_ne h _ List.mem_cons_self)
  · rw [State.vioRead_same (by simp [hok, hmv])]
  · rw [State.vioRead_same (by simp [hok, hmv])]
  · rw [State.vioRead_lost hok (by omega), State.getF_repower hpower]
    split
    · rw [State.getF_bellSilent h, State.getF_perstFell _ (Fld.outlastsPower.cls_ne_link hpower)
        fun f hf => Fld.outlastsPower.key_ne hpower f (List.mem_append_right _ hf)]
      rfl
    · exact State.getF_bellSilent h _

end

/-- VIO_EXT falls: PERST_N counts as low, and BELL_IN as silent. -/
theorem State.vioRead_silences {s : State} {mv : Nat} (hoff : s.mode ≠ .off) (hden : s.mode ≠ .den) (hok : s.rail.vioOk = true) (hmv : mv < 1500) :
    (s.pins.perstN = true → (s.vioRead mv).getF Reg.HL_STATUS_LINK_UP = 0) ∧
      (s.hasTwin = true → (s.vioRead mv).getF Reg.TW_STATUS_BELL_OK = 0) := by
  rw [State.vioRead_lost hok hmv]
  refine ⟨fun hperst => ?_, fun htwin => ?_⟩
  · rw [if_pos hperst]
    refine State.getF_repower_link _ rfl ?_ (by decide)
    exact ((State.bellSilent_moves _).2 Reg.HL_STATUS_LINK_UP (by decide)).trans (State.getF_perstFell_link (s := s.vioSet false) hoff hden rfl)
  · rw [State.getF_repower (by decide)]
    split
    · exact State.getF_bellSilent_bell ((boardKept_perstFell _).hasTwin.trans htwin)
    · exact State.getF_bellSilent_bell htwin

/-! ### What a scan's consequences leave alone (R301, R308, R335, R340, R342, R343) -/

/-- The fields that the consequences of a scan's results may set. -/
def scanFlds : List Fld :=
  [Reg.PS_STATUS_XCHK_FAIL, Reg.PS_WRNBITS_WRN, Reg.PS_STATUS_VIN_LOW_WARN, Reg.ES_STATUS_ZONE, Reg.ES_STATUS_CHG, Reg.ES_STATUS_BAL_ACTIVE,
    Reg.ES_STATUS_ACC_ON] ++ evFlds

/-- The supervisor's counts of warnings may move, its readings and VIO_EXT may not. -/
def CountsMoved (r q : RailSt) : Prop :=
  q = { r with warnCnt := q.warnCnt, warned := q.warned, fresh := q.fresh, vinLowCnt := q.vinLowCnt, xchk := q.xchk }

/-- A consequence of a scan's results. -/
def ScanKept (s t : State) : Prop :=
  t = { s with regs := t.regs, ev := t.ev, store := t.store, rail := t.rail } ∧ CountsMoved s.rail t.rail ∧ RegsKept scanFlds s t

theorem CountsMoved.trans {r q p : RailSt} (h : CountsMoved r q) (h' : CountsMoved q p) : CountsMoved r p := by
  unfold CountsMoved at *
  rw [h', h]

theorem ScanKept.refl (s : State) : ScanKept s s := ⟨rfl, rfl, .refl _ s⟩

theorem ScanKept.trans {s t u : State} (h : ScanKept s t) (h' : ScanKept t u) : ScanKept s u :=
  have ⟨hframe, hcounts, hregs⟩ := h
  have ⟨hframe', hcounts', hregs'⟩ := h'
  ⟨by rw [hframe', hframe], hcounts.trans hcounts', hregs.trans hregs'⟩

theorem ScanKept.mode {s t : State} (h : ScanKept s t) : t.mode = s.mode := by rw [h.1]

/-- Only the store and the supervisor's counts move. -/
theorem ScanKept.of_frame {s t : State} (h : t = { s with store := t.store, rail := t.rail }) (hrail : CountsMoved s.rail t.rail) : ScanKept s t :=
  ⟨by rw [h], hrail, .of_regs (by rw [h])⟩

theorem ScanKept.foldl {α : Type} {f : State → α → State} (h : ∀ a x, ScanKept a (f a x)) (l : List α) (s : State) : ScanKept s (l.foldl f s) := by
  induction l generalizing s with
  | nil => exact .refl s
  | cons x l ih => exact (h s x).trans (ih _)

theorem scanKept_setF {s : State} {f : Fld} {v : Nat} (h : f ∈ scanFlds) : ScanKept s (s.setF f v) := ⟨rfl, rfl, regsKept_setF h⟩

theorem scanKept_raise {s : State} {src : EvSource} {cls : Nat} {sev : Sev} {param : Nat} : ScanKept s (s.raise src cls sev param) :=
  ⟨rfl, rfl, regsKept_raise.mono (List.subset_append_right _ _)⟩

theorem scanKept_raiseIf {s : State} {b : Bool} {src : EvSource} {cls : Nat} {sev : Sev} {param : Nat} :
    ScanKept s (s.raiseIf b src cls sev param) := by
  cases b
  · exact .refl s
  · exact scanKept_raise

theorem ScanKept.ite {s t u : State} {c : Prop} [Decidable c] (ht : ScanKept s t) (hu : ScanKept s u) : ScanKept s (if c then t else u) := by
  split
  · exact ht
  · exact hu

theorem scanKept_xchkStep {s : State} {r : Int} : ScanKept s (s.xchkStep r) := by
  unfold State.xchkStep
  dsimp only
  refine .ite ?_ (.ite ?_ ?_)
  · refine .trans ?_ scanKept_raise
    exact (ScanKept.of_frame rfl rfl).trans (scanKept_setF (by decide))
  · exact (ScanKept.of_frame rfl rfl).trans (scanKept_setF (by decide))
  · exact .of_frame rfl rfl

theorem scanKept_warnLevel {s : State} {n lvl v i : Nat} : ScanKept s (s.warnLevel n lvl v i) := by
  unfold State.warnLevel
  dsimp only
  refine .ite ?_ ?_
  · refine .trans ?_ scanKept_raise
    exact (ScanKept.of_frame rfl rfl).trans (scanKept_setF (by decide))
  · exact .of_frame rfl rfl

theorem scanKept_warnStep {s : State} {n : Nat} : ScanKept s (s.warnStep n) := by
  unfold State.warnStep
  split
  · exact .refl s
  · exact .foldl (fun _ _ => scanKept_warnLevel) _ s

theorem scanKept_vinLow {s : State} {vin : Nat} : ScanKept s (s.vinLow vin) := by
  unfold State.vinLow
  dsimp only
  refine .ite (.refl s) (.ite ?_ (.ite ?_ ?_))
  · refine .trans ?_ scanKept_raise
    exact (ScanKept.of_frame rfl rfl).trans (scanKept_setF (by decide))
  · exact (ScanKept.of_frame rfl rfl).trans (scanKept_setF (by decide))
  · exact .of_frame rfl rfl

theorem scanKept_chargeStep {s : State} : ScanKept s s.chargeStep :=
  .ite (.refl s) (.ite (.ite (.refl s) (scanKept_setF (by decide))) (.ite (.ite (.refl s) (scanKept_setF (by decide))) (scanKept_setF (by decide))))

theorem scanKept_takeZone {s : State} {z : Nat} : ScanKept s (s.takeZone z) := by
  have hzone : ScanKept s (s.setF Reg.ES_STATUS_ZONE z) := scanKept_setF (by decide)
  unfold State.takeZone
  dsimp only
  refine .ite ?_ ?_
  · refine .trans ?_ (scanKept_setF (by decide))
    exact hzone.trans (.of_frame rfl rfl)
  · refine .trans ?_ scanKept_chargeStep
    exact hzone.trans (.of_frame rfl rfl)

theorem scanKept_ntcStep {s : State} : ScanKept s s.ntcStep := by
  unfold State.ntcStep
  dsimp only
  refine .ite ?_ ?_
  · refine .trans ?_ scanKept_takeZone
    exact scanKept_raiseIf.trans (.of_frame rfl rfl)
  · exact scanKept_raiseIf.trans (.of_frame rfl rfl)

theorem scanKept_timerStep {s : State} : ScanKept s s.timerStep := .ite (.of_frame rfl rfl) (.refl s)

theorem scanKept_balanceStep {s : State} : ScanKept s s.balanceStep :=
  (scanKept_setF (f := Reg.ES_STATUS_BAL_ACTIVE) (by decide)).trans (.of_frame rfl rfl)

theorem scanKept_accEval {s : State} : ScanKept s s.accEval := scanKept_setF (by decide)

theorem scanKept_storeScan {s : State} : ScanKept s s.storeScan := by
  unfold State.storeScan
  refine .trans (.trans (.trans (.trans (.trans scanKept_ntcStep ?_) scanKept_timerStep) scanKept_chargeStep) scanKept_balanceStep) scanKept_accEval
  exact .of_frame rfl rfl

/-! ### ADC_SCAN (R342, R519) -/

/-- The scan's readings stand in the registers; nothing has been concluded from them. -/
def State.adcTaken (s : State) (ch : List Int) (iout : List Nat) : State :=
  (({ s.scanForce with rail := { s.scanForce.rail with adc := (List.range 48).map (fun c => ch.getD c 0) } } : State).scanRegs iout false).adcDemand ch

theorem State.scanForce_frame (s : State) : s.scanForce = { s with regs := s.scanForce.regs, written := s.scanForce.written } := State.comeInto_frame _ _

theorem State.adcDemand_frame (s : State) (ch : List Int) :
    s.adcDemand ch = { s with regs := (s.adcDemand ch).regs, rail := { s.rail with adcReq := false } } := by
  cases h : s.rail.adcReq with
  | true =>
    rw [State.adcDemand, if_pos h]
    rfl
  | false =>
    have hrail : ({ s.rail with adcReq := false } : RailSt) = s.rail := by rw [← h]
    rw [State.adcDemand, if_neg (by simp [h]), hrail]

/-- Taking the readings touches the registers, the written fields and the readings. -/
theorem State.adcTaken_frame (s : State) (ch : List Int) (iout : List Nat) :
    s.adcTaken ch iout = { s with
      regs := (s.adcTaken ch iout).regs
      written := (s.adcTaken ch iout).written
      rail := { s.rail with adc := (List.range 48).map (fun c => ch.getD c 0), adcReq := false } } := by
  unfold State.adcTaken
  rw [State.adcDemand_frame, State.scanRegs, State.scanForce_frame]
  rfl

theorem State.adcTaken_mode (s : State) {ch : List Int} {iout : List Nat} : (s.adcTaken ch iout).mode = s.mode := by rw [State.adcTaken_frame]

/-- In RUN the scan's consequences follow its readings; the boot stage's look for VIO_EXT is WAKE's. -/
theorem scanKept_adcScan {s : State} (h : s.mode = .run) (ch : List Int) (iout : List Nat) : ScanKept (s.adcTaken ch iout) (s.adcScan ch iout) := by
  have hforce : s.scanForce.mode = .run := by rw [State.scanForce, State.comeInto_frame]; exact h
  have hden : (s.scanForce.mode == .den) = false := by rw [hforce]; rfl
  unfold State.adcScan
  extract_lets u den adc old read warned old' counted vin
  have hden' : den = false := hden
  have hread : read = (s.adcTaken ch iout).xchkStep (ch.getD 47 0) := by
    have hadc : adc = (List.range 48).map (fun c => ch.getD c 0) := by simp [adc, hden']
    simp only [read, hadc, hden']
    rfl
  have hcheck : ScanKept (s.adcTaken ch iout) read := hread ▸ scanKept_xchkStep
  have hwarn : ScanKept read warned := .ite (.refl _) (.foldl (fun _ _ => scanKept_warnStep) _ _)
  have hcount : ScanKept warned counted := .of_frame rfl rfl
  have hstore := (((hcheck.trans hwarn).trans hcount).trans ((scanKept_vinLow (vin := vin)).trans
    (scanKept_raiseIf (b := decide (vin + 300 < counted.pfLevel * 100) && !counted.vinLoss && !counted.getB Reg.PS_STATUS_XCHK_FAIL)
      (src := .keeper) (cls := 0x10) (sev := .warning) (param := 2)))).trans scanKept_storeScan
  have hmode := hstore.mode.trans (s.adcTaken_mode.trans h)
  rw [if_neg (by simp [hden']), State.vioStep, if_neg (by simp [hmode])]
  exact hstore

/-! ### The scan's readings in the registers (R342) -/

theorem setRegs_append (a b : List (Fld × Nat)) (m : List (Nat × Nat)) : setRegs (a ++ b) m = setRegs b (setRegs a m) := by
  induction a generalizing m with
  | nil => rfl
  | cons x a ih =>
    obtain ⟨f, v⟩ := x
    exact ih _

theorem State.setFs_append (s : State) (a b : List (Fld × Nat)) : s.setFs (a ++ b) = (s.setFs a).setFs b :=
  congrArg (fun r => ({ s with regs := r } : State)) (setRegs_append a b s.regs)

/-- The fields of a scan's results that stand once per cell pair or per own output. -/
def perOutFlds : List Fld :=
  (List.range 4).map Reg.ES_CELLV_V_EVEN ++ (List.range 4).map Reg.ES_CELLV_V_ODD ++ (railEntries.filter ownOut).map Reg.PS_MEAS_V_MV ++
    (railEntries.filter ownOut).map Reg.PS_MEAS_I_10MA

/-- VIN, VSYS and the scan counter after the results of a full scan. -/
theorem State.getF_scanRegs (s : State) (iout : List Nat) :
    (s.scanRegs iout false).getF Reg.PS_VMEAS_VIN_MV = (s.rail.adc.getD 0 0).toNat % 65536 ∧
      (s.scanRegs iout false).getF Reg.PS_VMEAS_VSYS_MV = (s.rail.adc.getD 1 0).toNat % 65536 ∧
      (s.scanRegs iout false).getF Reg.PS_ADC_SCANS = (s.getF Reg.PS_ADC_SCANS + 1) % 2 ^ Reg.PS_ADC_SCANS.w := by
  have hzip (x : Nat × Nat) (hx : x ∈ (railEntries.filter ownOut).zip iout) : x.1 ∈ railEntries.filter ownOut := (List.of_mem_zip hx).1
  have hrest {t : State} {a b c d : List (Fld × Nat)} (ha : ∀ p ∈ a, p.1 ∈ perOutFlds) (hb : ∀ p ∈ b, p.1 ∈ perOutFlds)
      (hc : ∀ p ∈ c, p.1 ∈ perOutFlds) (hd : ∀ p ∈ d, p.1 ∈ perOutFlds) (l : List (Fld × Nat)) :
      RegsKept perOutFlds (t.setFs l) (t.setFs (l ++ a ++ b ++ c ++ d)) := by
    simp only [State.setFs_append]
    exact (((regsKept_setFs ha).trans (regsKept_setFs hb)).trans (regsKept_setFs hc)).trans (regsKept_setFs hd)
  have hkept : RegsKept perOutFlds _ (s.scanRegs iout false) := hrest (by grind [perOutFlds]) (by grind [perOutFlds]) (by grind [perOutFlds])
    (by grind [perOutFlds]) _
  rw [hkept Reg.PS_VMEAS_VIN_MV (by decide), hkept Reg.PS_VMEAS_VSYS_MV (by decide), hkept Reg.PS_ADC_SCANS (by decide)]
  simp (disch := decide) only [State.getF_setFs_cons, State.setFs_nil, State.getF_setF_ne, State.getF_setF_self]
  exact ⟨rfl, rfl, trivial⟩

/-! ### ADC_SCAN (R342, R519) -/

theorem State.getF_adcDemand (s : State) (ch : List Int) {g : Fld} (h : g.key ≠ Reg.PS_ADCCH_RESULT.key ∧ g.key ≠ Reg.PS_ADCCH_DONE.key) :
    (s.adcDemand ch).getF g = s.getF g := by
  unfold State.adcDemand
  split
  · exact State.getF_setFs_ne s [(Reg.PS_ADCCH_RESULT, _), (Reg.PS_ADCCH_DONE, 1)] g (by simp [h])
  · rfl

theorem State.getF_adcDemand_done {s : State} (h : s.rail.adcReq = true) (ch : List Int) : (s.adcDemand ch).getF Reg.PS_ADCCH_DONE = 1 := by
  rw [State.adcDemand, if_pos h]
  exact (State.getF_setF_self (s.setF Reg.PS_ADCCH_RESULT _) Reg.PS_ADCCH_DONE 1).trans rfl

/-- What the registers show once the readings are taken. -/
theorem State.getF_adcTaken (s : State) (ch : List Int) (iout : List Nat) :
    (s.adcTaken ch iout).getF Reg.PS_VMEAS_VIN_MV = (ch.getD 0 0).toNat % 65536 ∧
      (s.adcTaken ch iout).getF Reg.PS_VMEAS_VSYS_MV = (ch.getD 1 0).toNat % 65536 ∧
      (s.written = [] → (s.adcTaken ch iout).getF Reg.PS_ADC_SCANS = (s.getF Reg.PS_ADC_SCANS + 1) % 2 ^ Reg.PS_ADC_SCANS.w) ∧
      (s.rail.adcReq = true → (s.adcTaken ch iout).getF Reg.PS_ADCCH_DONE = 1) := by
  unfold State.adcTaken
  obtain ⟨hvin, hvsys, hscans⟩ := State.getF_scanRegs
    { s.scanForce with rail := { s.scanForce.rail with adc := (List.range 48).map (fun c => ch.getD c 0) } } iout
  rw [State.getF_adcDemand _ _ (by decide), State.getF_adcDemand _ _ (by decide), State.getF_adcDemand _ _ (by decide), hvin, hvsys, hscans]
  refine ⟨rfl, rfl, fun hnone => ?_, fun hreq => State.getF_adcDemand_done ?_ _⟩
  · have hforce : s.scanForce = s := by simp [State.scanForce, State.comeInto, hnone]
    rw [hforce]
    rfl
  · rw [State.scanForce_frame]
    exact hreq

theorem adcScan_idle {s : State} (ch : List Int) (iout : List Nat) (h : s.mode = .off ∨ s.pd 12 = false) : exec (.adcScan ch iout) s = .next s := by
  obtain h | h := h <;> simp [exec, execAdcScan, h]

/-- In RUN a scan reads VIO_EXT after its other consequences. -/
theorem exec_adcScan_run {s : State} (ch : List Int) (iout : List Nat) (hrun : s.mode = .run) (hpd : s.pd 12 = true) :
    exec (.adcScan ch iout) s = .next ((s.adcScan ch iout).vioRead (ch.getD 12 0).toNat) := by
  simp [exec, execAdcScan, hrun, hpd]

theorem adcScan_run {s : State} (ch : List Int) (iout : List Nat) (hrun : s.mode = .run) (hpd : s.pd 12 = true) :
    ∃ t, exec (.adcScan ch iout) s = .next t ∧ t.mode = .run ∧ t.rail.adc = (List.range 48).map (fun c => ch.getD c 0) ∧
      t.getF Reg.PS_VMEAS_VIN_MV = (ch.getD 0 0).toNat % 65536 ∧ t.getF Reg.PS_VMEAS_VSYS_MV = (ch.getD 1 0).toNat % 65536 ∧
      (s.written = [] → t.getF Reg.PS_ADC_SCANS = (s.getF Reg.PS_ADC_SCANS + 1) % 2 ^ Reg.PS_ADC_SCANS.w) ∧ t.rail.adcReq = false ∧
      (s.rail.adcReq = true → t.getF Reg.PS_ADCCH_DONE = 1) ∧
      (s.rail.vioOk = decide (1500 ≤ (ch.getD 12 0).toNat) → t.dram = s.dram ∧ t.nand = s.nand ∧ t.cover = s.cover ∧ t.host = s.host) ∧
      t.rail.vioOk = decide (1500 ≤ (ch.getD 12 0).toNat) ∧
      (s.rail.vioOk = true → (ch.getD 12 0).toNat < 1500 → (s.pins.perstN = true → t.getF Reg.HL_STATUS_LINK_UP = 0) ∧
        (s.hasTwin = true → t.getF Reg.TW_STATUS_BELL_OK = 0) ∧ t.perstHigh = false ∧ t.alertLow = false ∧ t.bellRuns = false) := by
  refine ⟨_, exec_adcScan_run ch iout hrun hpd, ?_⟩
  obtain ⟨hframe, hcounts, hregs⟩ := scanKept_adcScan hrun ch iout
  rw [State.adcTaken_frame] at hframe
  generalize s.adcScan ch iout = u at hframe hcounts hregs ⊢
  generalize (ch.getD 12 0).toNat = mv
  obtain ⟨hvin, hvsys, hscans, hdone⟩ := s.getF_adcTaken ch iout
  have humode : u.mode = .run := by rw [hframe]; exact hrun
  have hurail : u.rail = { s.rail with
      warnCnt := u.rail.warnCnt, warned := u.rail.warned, fresh := u.rail.fresh, vinLowCnt := u.rail.vinLowCnt, xchk := u.rail.xchk,
      adc := (List.range 48).map (fun c => ch.getD c 0), adcReq := false } := by
    rw [State.adcTaken_frame] at hcounts
    exact hcounts
  have huvio : u.rail.vioOk = s.rail.vioOk := by rw [hurail]
  have hupins : u.pins = s.pins := by rw [hframe]
  have hutwin : u.hasTwin = s.hasTwin := by rw [hframe]; rfl
  have hboard := boardKept_vioRead u mv
  have hrail : (u.vioRead mv).rail = { u.rail with vioOk := decide (1500 ≤ mv) } := hboard.rail
  have hread (g : Fld) (hg : g.outlastsVio = true) (hs : ∀ f ∈ scanFlds, g.key ≠ f.key) :
      (u.vioRead mv).getF g = (s.adcTaken ch iout).getF g := (State.getF_vioRead hg u mv).trans (hregs g hs)
  refine ⟨hboard.mode.trans humode, by rw [hrail, hurail], (hread _ (by decide) (by decide)).trans hvin, (hread _ (by decide) (by decide)).trans hvsys,
    fun hnone => (hread _ (by decide) (by decide)).trans (hscans hnone), by rw [hrail, hurail],
    fun hreq => (hread _ (by decide) (by decide)).trans (hdone hreq), fun hsame => ?_, by rw [hrail], fun hok hlow => ?_⟩
  · rw [State.vioRead_same (huvio.trans hsame), hframe]
    exact ⟨rfl, rfl, rfl, rfl⟩
  · have hgone : (u.vioRead mv).rail.vioOk = false := by rw [hrail]; exact decide_eq_false (by omega)
    obtain ⟨hlink, hbell⟩ := State.vioRead_silences (s := u) (by rw [humode]; decide) (by rw [humode]; decide) (huvio.trans hok) hlow
    exact ⟨fun hperst => hlink (by rw [hupins]; exact hperst), fun htwin => hbell (hutwin.trans htwin), by simp [State.perstHigh, hgone],
      by simp [State.alertLow, hgone], by simp [State.bellRuns, hgone]⟩

/-! ### ADC_ON_DEMAND, CLR_FIRST and W1C_WRITE (R14, R337, R342) -/

theorem adcOnDemand_waits {s : State} {p : Path} (ch : Nat) (hreach : s.reach p 0x9024 = true) :
    ∃ t, exec (.adcOnDemand p ch) s = .next t ∧ t.getF Reg.PS_ADCCH_DONE = 0 ∧ t.getF Reg.PS_ADCCH_CH = ch % 2 ^ Reg.PS_ADCCH_CH.w ∧
      t.rail.adcReq = true ∧ RegsKept [Reg.PS_ADCCH_DONE, Reg.PS_ADCCH_CH, Reg.DT_SVC_LEFT_S] s t ∧
      t = { s with regs := t.regs, rail := { s.rail with adcReq := true } } := by
  refine ⟨_, congrArg Host.Outcome.next (if_pos hreach), ?_, ?_, rfl, ?_, ?_⟩
  · exact State.getF_setF_self ((s.wrote p).setF Reg.PS_ADCCH_CH ch) Reg.PS_ADCCH_DONE 0 |>.trans rfl
  · exact ((s.wrote p).setF Reg.PS_ADCCH_CH ch).getF_setF_ne 0 (by decide) |>.trans (State.getF_setF_self _ _ _)
  · exact (regsKept_wrote.mono (by simp)).trans (regsKept_setFs (s := s.wrote p) (a := [(Reg.PS_ADCCH_CH, ch), (Reg.PS_ADCCH_DONE, 0)]) (by simp))
  · rw [State.doAdcCh, State.wrote_frame]
    rfl

theorem clrFirst_clears {s : State} {p : Path} (hreach : s.reach p 0x9028 = true) :
    ∃ t, exec (.clrFirst p) s = .next t ∧ t.getF Reg.PS_FIRST_KIND = 0 ∧ t.getF Reg.PS_FIRST_RAIL = 0 ∧ t.getF Reg.PS_FIRST_MODE = 0 ∧
      RegsKept [Reg.PS_FIRST_KIND, Reg.PS_FIRST_RAIL, Reg.PS_FIRST_MODE, Reg.DT_SVC_LEFT_S] s t ∧ t = { s with regs := t.regs } := by
  obtain ⟨hkind, hrail, hmode⟩ : (s.wrote p).doClrFirst.getF Reg.PS_FIRST_KIND = 0 ∧ (s.wrote p).doClrFirst.getF Reg.PS_FIRST_RAIL = 0 ∧
      (s.wrote p).doClrFirst.getF Reg.PS_FIRST_MODE = 0 := by
    unfold State.doClrFirst
    simp (disch := decide) only [State.getF_setFs_cons, State.setFs_nil, State.getF_setF_ne, State.getF_setF_self, Nat.zero_mod, and_self]
  refine ⟨_, congrArg Host.Outcome.next (if_pos hreach), hkind, hrail, hmode, ?_, ?_⟩
  · exact (regsKept_wrote.mono (by simp)).trans (regsKept_setFs (by simp))
  · rw [State.doClrFirst, State.wrote_frame]
    rfl

/-- Every bit written with 1 clears, every other one stays. -/
theorem State.testBit_doW1c (s : State) (f : Fld) (v : Nat) {i : Nat} (hi : i < f.w) :
    ((s.doW1c f v).getF f).testBit i = ((s.getF f).testBit i && !v.testBit i) := by
  have hmask : ((2 ^ f.w - 1) ^^^ (v % 2 ^ f.w)).testBit i = !v.testBit i := by
    rw [Nat.testBit_xor, Nat.testBit_two_pow_sub_one, Nat.testBit_mod_two_pow]
    simp [hi]
  rw [State.doW1c, State.getF_setF_self, Nat.testBit_mod_two_pow, Nat.testBit_and, hmask]
  simp [hi]

/-- A W1C write of a bit register of the supervisor. -/
theorem doW1c_completes {s : State} {p : Path} {f : Fld} (hlive : f.key ≠ Reg.DT_SVC_LEFT_S.key) (v : Nat) :
    (∀ i < f.w, (((s.wrote p).doW1c f v).getF f).testBit i = ((s.getF f).testBit i && !v.testBit i)) ∧
      RegsKept [f, Reg.DT_SVC_LEFT_S] s ((s.wrote p).doW1c f v) ∧ (s.wrote p).doW1c f v = { s with regs := ((s.wrote p).doW1c f v).regs } := by
  refine ⟨fun i hi => ?_, (regsKept_wrote.mono (by simp)).trans (regsKept_setF (by simp)), ?_⟩
  · rw [State.testBit_doW1c _ _ _ hi, regsKept_wrote f (by simpa using hlive)]
  · rw [State.doW1c, State.wrote_frame]
    rfl

theorem w1cWrite_faults {s : State} {p : Path} (v : Word) (hreach : s.reach p 0x9018 = true) :
    ∃ t, exec (.w1cWrite p 0x9018 v) s = .next t ∧
      (∀ i < 24, (t.getF Reg.PS_FLTBITS_FLT).testBit i = ((s.getF Reg.PS_FLTBITS_FLT).testBit i && !v.toNat.testBit i)) ∧
      RegsKept [Reg.PS_FLTBITS_FLT, Reg.DT_SVC_LEFT_S] s t ∧ t = { s with regs := t.regs } :=
  ⟨(s.wrote p).doW1c Reg.PS_FLTBITS_FLT v.toNat, by simp only [exec, execW1cWrite, hreach, Bool.not_true, Bool.false_eq_true, if_false, if_true],
    doW1c_completes (f := Reg.PS_FLTBITS_FLT) (by decide) _⟩

theorem w1cWrite_warnings {s : State} {p : Path} (v : Word) (hreach : s.reach p 0x901C = true) :
    ∃ t, exec (.w1cWrite p 0x901C v) s = .next t ∧
      (∀ i < 24, (t.getF Reg.PS_WRNBITS_WRN).testBit i = ((s.getF Reg.PS_WRNBITS_WRN).testBit i && !v.toNat.testBit i)) ∧
      RegsKept [Reg.PS_WRNBITS_WRN, Reg.DT_SVC_LEFT_S] s t ∧ t = { s with regs := t.regs } :=
  ⟨(s.wrote p).doW1c Reg.PS_WRNBITS_WRN v.toNat, by simp only [exec, execW1cWrite, hreach, Bool.not_true, Bool.false_eq_true,
    show (0x901C : Nat) ≠ 0x9018 by decide, if_false, if_true], doW1c_completes (f := Reg.PS_WRNBITS_WRN) (by decide) _⟩

/-! ### REARM (R351, R353, R354) -/

theorem mget_foldl_mset_congr (d w k : Nat) (l : List (Nat × Nat)) {m m' : List (Nat × Nat)} (h : mget d m k % w = mget d m' k % w) :
    mget d (l.foldl (fun m x => mset x.1 x.2 m) m) k % w = mget d (l.foldl (fun m x => mset x.1 x.2 m) m') k % w := by
  induction l generalizing m m' with
  | nil => exact h
  | cons x l ih =>
    refine ih ?_
    by_cases hk : k = x.1
    · rw [hk, mget_mset_self, mget_mset_self]
    · rw [mget_mset_ne _ _ _ hk, mget_mset_ne _ _ _ hk, h]

/-- The same written fields come into force over the same values. -/
theorem State.getF_comeInto_congr {s t : State} (p : Nat → Bool) {g : Fld} (hwritten : t.written = s.written) (h : t.getF g = s.getF g) :
    (t.comeInto p).getF g = (s.comeInto p).getF g := by
  unfold State.comeInto
  rw [hwritten]
  split
  · exact h
  · exact mget_foldl_mset_congr _ _ _ _ h

theorem State.getF_seqForce_wrote (s : State) (p : Path) {g : Fld} (h : g.key ≠ Reg.DT_SVC_LEFT_S.key) :
    (s.wrote p).seqForce.getF g = s.seqForce.getF g :=
  State.getF_comeInto_congr _ (by rw [State.wrote_frame]) (regsKept_wrote g (by simpa using h))

/-- Whether an entry is broken rests on the entries' enables and parents and the SPMI role alone. -/
theorem State.broken_congr {s t : State} (hen : ∀ n, t.getF (Reg.SQ_ENT_UP_EN n) = s.getF (Reg.SQ_ENT_UP_EN n))
    (hpar : ∀ n, t.getF (Reg.SQ_ENT_PAR_PARENTS n) = s.getF (Reg.SQ_ENT_PAR_PARENTS n)) (hrole : t.getF Reg.SQ_SPMI_ROLE = s.getF Reg.SQ_SPMI_ROLE)
    (n : Nat) : t.broken n = s.broken n := by
  have hentEn (m : Nat) : t.entEn m = s.entEn m := by simp only [State.entEn, State.getB, hen]
  have hparents (m : Nat) : t.parents m = s.parents m := by simp only [State.parents, hpar]
  have hdep : t.dependants = s.dependants := by
    funext m
    simp only [State.dependants, hentEn, hparents]
  simp only [State.broken, State.allDependants, hentEn, hparents, hdep, hrole]

theorem State.broken_seqForce_wrote (s : State) (p : Path) (n : Nat) : (s.wrote p).seqForce.broken n = s.seqForce.broken n := by
  refine State.broken_congr (fun m => State.getF_seqForce_wrote s p ?_) (fun m => State.getF_seqForce_wrote s p ?_)
    (State.getF_seqForce_wrote s p (by decide)) n
  · simp only [Fld.key, Reg.SQ_ENT_UP_EN, Reg.DT_SVC_LEFT_S, RCls.code]
    omega
  · simp only [Fld.key, Reg.SQ_ENT_PAR_PARENTS, Reg.DT_SVC_LEFT_S, RCls.code]
    omega

theorem State.entSt_wrote (s : State) (p : Path) (n : Nat) : (s.wrote p).entSt n = s.entSt n := by
  refine regsKept_wrote _ fun f hf => ?_
  rw [List.mem_singleton.mp hf]
  simp only [Fld.key, Reg.SQ_ENT_ST_STATE, Reg.DT_SVC_LEFT_S, RCls.code]
  omega

theorem State.critical_wrote (s : State) (p : Path) (n : Nat) : (s.wrote p).critical n = s.critical n := by
  have hclass : (s.wrote p).getF (Reg.PS_SET_CLASS n) = s.getF (Reg.PS_SET_CLASS n) := by
    refine regsKept_wrote _ fun f hf => ?_
    rw [List.mem_singleton.mp hf]
    simp only [Fld.key, Reg.PS_SET_CLASS, Reg.DT_SVC_LEFT_S, RCls.code]
    omega
  simp only [State.critical, State.getB_congr hclass]

theorem State.setEnts_frame (s : State) (l : List Nat) (st : Nat) : s.setEnts l st = { s with regs := (s.setEnts l st).regs } := by
  induction l generalizing s with
  | nil => rfl
  | cons m l ih =>
    unfold State.setEnts at ih ⊢
    rw [List.foldl_cons, ih, State.setEnt_frame]

/-- An entry in the state that others are set to stays in it. -/
theorem State.entSt_setEnts {s : State} {n st : Nat} (hst : st < 16) (h : s.entSt n = st) (l : List Nat) : (s.setEnts l st).entSt n = st := by
  induction l generalizing s with
  | nil => exact h
  | cons m l ih =>
    refine ih ?_
    by_cases hm : n = m
    · rw [hm, State.entSt_setEnt_self, Nat.mod_eq_of_lt hst]
    · rw [State.entSt_setEnt_ne _ _ hm, h]

/-- The entry is to rise, with no attempt counted, in a sequence that starts now. -/
def State.freshRise (s : State) (n : Nat) : State :=
  { s.setEnt n 1 with rail := { s.rail with tries := mset n 0 s.rail.tries, seqStart := s.rail.tick } }

theorem State.entSt_freshRise (s : State) (n : Nat) : (s.freshRise n).entSt n = 1 := s.entSt_setEnt_self n 1

theorem State.freshRise_frame (s : State) (n : Nat) :
    s.freshRise n = { s with regs := (s.freshRise n).regs, rail := { s.rail with tries := mset n 0 s.rail.tries, seqStart := s.rail.tick } } := by
  rw [State.freshRise, State.setEnt_frame]

/-- Entries that follow one into its rise, and the mark of what stays left off, move registers alone and leave that entry rising. -/
theorem State.setEnts_left_rises {s : State} {n : Nat} (h : s.entSt n = 1) (l : List Nat) (b : Bool) :
    ((s.setEnts l 1).setB Reg.SQ_STATUS_LEFT_OFF b).entSt n = 1 ∧
      (s.setEnts l 1).setB Reg.SQ_STATUS_LEFT_OFF b = { s with regs := ((s.setEnts l 1).setB Reg.SQ_STATUS_LEFT_OFF b).regs } := by
  have hne : (Reg.SQ_ENT_ST_STATE n).key ≠ Reg.SQ_STATUS_LEFT_OFF.key := by
    simp only [Fld.key, Reg.SQ_ENT_ST_STATE, Reg.SQ_STATUS_LEFT_OFF, RCls.code]
    omega
  refine ⟨(State.getF_setF_ne _ _ hne).trans (State.entSt_setEnts (by decide) h l), ?_⟩
  rw [State.setB, State.setEnts_frame]
  rfl

/-- A local output left off starts afresh. -/
theorem State.doRearm_starts {s : State} {n : Nat} (hservice : s.service = true) (hrun : s.mode = .run) (hown : ownOut n = true)
    (hcrit : s.critical n = false) (hleft : s.entSt n = 5 ∨ s.entSt n = 8) (hbroken : s.seqForce.broken n = false) :
    (s.doRearm n).entSt n = 1 ∧ mget 0 (s.doRearm n).rail.tries n = 0 ∧
      s.doRearm n = { s with regs := (s.doRearm n).regs, written := (s.doRearm n).written, rail := (s.doRearm n).rail } := by
  have hmay : (s.service && s.mode == .run && ownOut n && !s.critical n && (s.entSt n == 5 || s.entSt n == 8)) = true := by
    simp [hservice, hrun, hown, hcrit, hleft]
  have hrise : ∃ l b, s.doRearm n = ((s.seqForce.freshRise n).setEnts l 1).setB Reg.SQ_STATUS_LEFT_OFF b := by
    unfold State.doRearm
    rw [if_pos hmay]
    dsimp only
    rw [if_neg (by simp [hbroken])]
    exact ⟨_, _, rfl⟩
  have hforce : s.seqForce = { s with regs := s.seqForce.regs, written := s.seqForce.written } := State.comeInto_frame _ _
  obtain ⟨l, b, hrise⟩ := hrise
  obtain ⟨hent, hframe⟩ := State.setEnts_left_rises (s.seqForce.entSt_freshRise n) l b
  rw [← hrise, State.freshRise_frame, hforce] at hframe
  refine ⟨hrise ▸ hent, ?_, ?_⟩
  · rw [hframe]
    exact mget_mset_self _ _ _ _
  · rw [hframe]

theorem State.doRearm_ignored {s : State} {n : Nat}
    (h : s.service = false ∨ s.mode ≠ .run ∨ ownOut n = false ∨ s.critical n = true ∨ (s.entSt n ≠ 5 ∧ s.entSt n ≠ 8)) : s.doRearm n = s := by
  have hmay : ¬ (s.service && s.mode == .run && ownOut n && !s.critical n && (s.entSt n == 5 || s.entSt n == 8)) = true := by
    simp only [Bool.and_eq_true, Bool.or_eq_true, Bool.not_eq_true', beq_iff_eq]
    rintro ⟨⟨⟨⟨hservice, hrun⟩, hown⟩, hcrit⟩, hleft⟩
    simp_all
  rw [State.doRearm, if_neg hmay]

theorem rearm_completes {s : State} {p : Path} (n : Nat) (hreach : s.reach p 0x9028 = true) :
    ∃ t, exec (.rearm p n) s = .next t ∧
      (s.service = true → s.mode = .run → ownOut n = true → s.critical n = false → s.entSt n = 5 ∨ s.entSt n = 8 → s.seqForce.broken n = false →
        t.entSt n = 1 ∧ mget 0 t.rail.tries n = 0 ∧ t = { s with regs := t.regs, written := t.written, rail := t.rail }) ∧
      (s.service = false ∨ s.mode ≠ .run ∨ ownOut n = false ∨ s.critical n = true ∨ (s.entSt n ≠ 5 ∧ s.entSt n ≠ 8) →
        RegsKept [Reg.DT_SVC_LEFT_S] s t ∧ t = { s with regs := t.regs }) := by
  have hmode : (s.wrote p).mode = s.mode := by rw [State.wrote_frame]
  refine ⟨_, congrArg Host.Outcome.next (if_pos hreach), fun hservice hrun hown hcrit hleft hbroken => ?_, fun h => ?_⟩
  · obtain ⟨hent, htries, hframe⟩ := State.doRearm_starts (s := s.wrote p) (n := n) (by rw [State.service_wrote, hservice]) (hmode.trans hrun) hown
      (by rw [State.critical_wrote, hcrit]) (by rwa [State.entSt_wrote]) (by rw [State.broken_seqForce_wrote, hbroken])
    refine ⟨hent, htries, hframe.trans ?_⟩
    rw [State.wrote_frame]
  · rw [State.doRearm_ignored (by rwa [State.service_wrote, hmode, State.critical_wrote, State.entSt_wrote])]
    exact ⟨regsKept_wrote, State.wrote_frame s p⟩

/-- Settles O45. A scan's consequences and a silent bell touch few registers, none of them a reading; the actions set their own record alone. -/
theorem supervisorRecords : Obligations.SupervisorRecords :=
  ⟨fun _ ch iout => adcScan_run ch iout, fun _ ch iout => adcScan_idle ch iout, fun _ _ ch => adcOnDemand_waits ch,
    fun _ _ n hreach => ⟨clrFirst_clears hreach, rearm_completes n hreach⟩, fun _ _ v => w1cWrite_faults v, fun _ _ v => w1cWrite_warnings v⟩

end Sys2Proof.Machine

/-! SUPPORT. Proofs of the statements of the preservation contract: held writes, and trickle, mapped copies and arming. -/

namespace Sys2Proof.Machine

/-! ### A passing credit-wait (R147, R188) -/

/-- A ledger stage with nothing in it and nothing behind it stands still. -/
theorem State.ledgerGo_of_empty {s : State} (hopen : s.pathOpen = true) (hgroup : s.bur.regroup = false) (hstage : s.host.stage = none)
    (hingress : s.host.ingress = []) : s.ledgerGo = s := by
  simp [State.ledgerGo, hopen, hgroup, hingress, State.bufLeave, hstage, ledgerRun]

/-- A CLEAN granule becomes DIRTY and takes its cover; the mirror's update is queued (R144). -/
def State.coverTaken (s : State) (g : Nat) : State :=
  { s with cover := { s.cover with
      ledger := msetD s.cover.ledDflt g (.dirty 0) s.cover.ledger
      eDebt := s.cover.eDebt + s.cover.eg
      nDirty := s.cover.nDirty + 1
      mirrorPend := s.cover.mirrorPend ++ [(g, .dirty 0)] } }

theorem State.ledgerTake_clean {s : State} {g : Nat} (hclean : s.ledgerOf g = .clean) (hdoubt : s.cover.doubtWriter = false)
    (henergy : s.energyOk = true) (hland : s.landOk = true) : s.ledgerTake g = some (s.coverTaken g) := by
  simp [State.ledgerTake, hclean, hdoubt, henergy, hland, State.coverTaken]

theorem State.stageWrite_frame (s : State) (w : Wr) : s.stageWrite w = { s with
    host := { s.host with staged := (s.stageWrite w).host.staged }
    dram := { s.dram with rdOut := rdNewer w.line s.dram.rdOut, wback := sdel w.line s.dram.wback }
    twin := (s.stageWrite w).twin } := by
  unfold State.stageWrite
  cases s.framing <;> rfl

/-- The ledger stage is emptied. -/
def State.stageEmptied (s : State) : State := { s with host := { s.host with stage := none } }

/-- A write that leaves credit-wait is staged, and by that drops the write-back that waits for its line (R188). -/
theorem cwaitPass_drops_wback {s : State} {w : Wr} (hstage : s.host.stage = some ⟨w, .cwait⟩) (hopen : s.pathOpen = true)
    (hline : s.lineFailed w.line = false) (hclean : s.ledgerOf (granOf w.line) = .clean) (hdoubt : s.cover.doubtWriter = false)
    (henergy : s.energyOk = true) (hland : s.landOk = true) (hingress : s.host.ingress = []) (hbuf : s.bufFull w.line = false)
    (hgroup : s.bur.regroup = false) : ∃ t, exec .cwaitPass s = .next t ∧ t.dram.wback = sdel w.line s.dram.wback := by
  have hstandby : s.isStandby = false := by
    simp only [State.pathOpen, Bool.and_eq_true, Bool.not_eq_true'] at hopen
    exact hopen.2
  have htake : s.stageEmptied.ledgerTake (granOf w.line) = some (s.stageEmptied.coverTaken (granOf w.line)) :=
    State.ledgerTake_clean hclean hdoubt henergy hland
  have hexec : exec .cwaitPass s = .next ((s.stageEmptied.coverTaken (granOf w.line)).bufStep w).ledgerGo := by
    simp only [State.stageEmptied] at htake ⊢
    simp only [exec, execCwaitPass, hstage, hopen, hline, hgroup, Bool.true_or, Bool.not_true, Bool.false_or, Bool.false_eq_true, if_false, htake]
    rw [if_neg (by simpa using hstandby)]
  have hstep : (s.stageEmptied.coverTaken (granOf w.line)).bufStep w = (s.stageEmptied.coverTaken (granOf w.line)).stageWrite w :=
    if_neg (Bool.eq_false_iff.mp hbuf)
  have hgo : ((s.stageEmptied.coverTaken (granOf w.line)).stageWrite w).ledgerGo = (s.stageEmptied.coverTaken (granOf w.line)).stageWrite w := by
    refine State.ledgerGo_of_empty ?_ ?_ ?_ ?_ <;> rw [State.stageWrite_frame]
    exacts [hopen, hgroup, rfl, hingress]
  rw [hstep, hgo] at hexec
  exact ⟨_, hexec, by rw [State.stageWrite_frame]; rfl⟩

/-- A full write to line 0. -/
def heldWr : Wr := ⟨1, 0, true, beAll, 5, 0, false, 0⟩

/-- A unit in RUN with cover for the write's granule, which holds it in credit-wait while a corrected line 0 waits to be written back. -/
def backWaits : State := { State.reset.setF Reg.MD_STATUS_MEDIA_READY 1 with
  mode := .run
  host := { HostSt.reset with stage := some ⟨heldWr, .cwait⟩ }
  cover := { CoverSt.reset with eLimit := 1000, eg := 10 }
  nand := { NandSt.reset with pErased := 66 }
  dram := { DramSt.reset with wback := [0] } }

/-- Refutes O7: CWAIT_PASS stages the write, and a staged write drops the write-back that waits for its line (R188), which the statement's frame
keeps. -/
theorem not_heldWritesComplete : ¬ Obligations.HeldWritesComplete := by
  rintro ⟨-, hpass, -⟩
  have hstage : backWaits.host.stage = some ⟨heldWr, .cwait⟩ := rfl
  obtain ⟨t, ht, -, -, -, -, hframe⟩ := hpass backWaits heldWr hstage (by decide) (by decide) (by decide) rfl (by decide) (by decide) rfl
    (by decide) rfl
  obtain ⟨u, hu, hdropped⟩ := cwaitPass_drops_wback hstage (by decide) (by decide) (by decide) rfl (by decide) (by decide) rfl (by decide) rfl
  obtain rfl : t = u := Host.Outcome.next.inj (ht.symm.trans hu)
  have hkept : t.dram.wback = [0] := by rw [hframe]; rfl
  rw [hkept] at hdropped
  exact absurd hdropped (by decide)

/-! ### The population and the ledger's extent (R77, R125, R161) -/

/-- The fields that say how much DRAM is populated. -/
def popFlds : List Fld := [Reg.DC_CFG_CH_EN, Reg.DC_CFG_DENSITY, Reg.DC_CFG_RANKS]

theorem State.nUser_congr {s t : State} (hotp : t.otp = s.otp) (hpop : ∀ f ∈ popFlds, t.getF f = s.getF f) : t.nUser = s.nUser := by
  have hch := hpop Reg.DC_CFG_CH_EN (by decide)
  have hden := hpop Reg.DC_CFG_DENSITY (by decide)
  have hrank := hpop Reg.DC_CFG_RANKS (by decide)
  unfold State.nUser State.capGib State.channels State.chanGib State.is8430 State.getB
  rw [hotp, hch, hden, hrank]

/-- At most 128 GiB are populated, so every granule fits the 23 bits of the sweep's hand. -/
theorem State.nUser_lt (s : State) : s.nUser < 2 ^ 23 := by
  have hch : s.channels ≤ 2 := by unfold State.channels; split <;> omega
  have hgib : s.chanGib ≤ 64 := by unfold State.chanGib; split_ifs <;> omega
  have hcap : s.capGib ≤ 2 * 64 := Nat.mul_le_mul hch hgib
  unfold State.nUser
  omega

theorem State.ledgerOf_congr {s t : State} {l : List Fld} (hotp : t.otp = s.otp) (hregs : RegsKept l s t)
    (hpop : ∀ f ∈ popFlds, ∀ g ∈ l, f.key ≠ g.key) (hledger : t.cover.ledger = s.cover.ledger) (hdflt : t.cover.ledDflt = s.cover.ledDflt)
    (g : Nat) : t.ledgerOf g = s.ledgerOf g := by
  have huser : t.nUser = s.nUser := State.nUser_congr hotp fun f hf => hregs f (hpop f hf)
  unfold State.ledgerOf State.nReported State.cap256M
  rw [huser, hledger, hdflt]

/-- From the reported capacity on every entry reads CLEAN. -/
theorem State.lt_nReported {s : State} {g : Nat} (h : s.ledgerOf g ≠ .clean) : g < s.nReported := by
  by_contra hge
  exact h (if_neg hge)

theorem State.ledgerOf_setLedger_self {s : State} {g : Nat} (h : g < s.nReported) (e : LState) : (s.setLedger g e).ledgerOf g = e := by
  refine (if_pos h).trans ((mget_msetD _ _ _ _ _).trans (if_pos rfl))

theorem State.ledgerOf_setLedger_ne (s : State) {g j : Nat} (h : j ≠ g) (e : LState) : (s.setLedger g e).ledgerOf j = s.ledgerOf j := by
  show (if j < s.nReported then mget s.cover.ledDflt (msetD s.cover.ledDflt g e s.cover.ledger) j else LState.clean) = s.ledgerOf j
  rw [mget_msetD, if_neg h]
  rfl

/-! ### What an alert leaves alone (R105) -/

theorem State.alertScan_frame (s : State) (before : Nat) :
    s.alertScan before = { s with regs := (s.alertScan before).regs, ev := (s.alertScan before).ev } := by
  unfold State.alertScan State.raiseIf
  split <;> rfl

theorem regsKept_alertScan (s : State) (before : Nat) : RegsKept evFlds s (s.alertScan before) := by
  unfold State.alertScan State.raiseIf
  split
  · exact regsKept_raise
  · exact .refl _ s

/-! ### What arming and the back end's own work leave alone -/

/-- Contexts, their requests to DRAM, pages, blocks and the stage of a write-through may have moved: every register, the ledger and its books,
the granule map and the DRAM's contents are as before. -/
def ArmKept (s t : State) : Prop :=
  t = { s with
    host := { s.host with stage := t.host.stage }
    dram := { s.dram with sub := t.dram.sub }
    bur := t.bur
    nand := { t.nand with map := s.nand.map, mapDflt := s.nand.mapDflt } }

theorem ArmKept.refl (s : State) : ArmKept s s := rfl

theorem ArmKept.trans {s t u : State} (h : ArmKept s t) (h' : ArmKept t u) : ArmKept s u := by
  unfold ArmKept at *
  rw [h', h]

theorem ArmKept.foldl {α : Type} {f : State → α → State} (h : ∀ a x, ArmKept a (f a x)) (l : List α) (s : State) : ArmKept s (l.foldl f s) := by
  induction l generalizing s with
  | nil => exact .refl s
  | cons x l ih => exact (h s x).trans (ih _)

theorem ArmKept.ite {s t u : State} {c : Prop} [Decidable c] (ht : ArmKept s t) (hu : ArmKept s u) : ArmKept s (if c then t else u) := by
  split
  · exact ht
  · exact hu

section
variable {s t : State} (h : ArmKept s t)
include h

theorem ArmKept.mode : t.mode = s.mode := by rw [show t = _ from h]
theorem ArmKept.otp : t.otp = s.otp := by rw [show t = _ from h]
theorem ArmKept.regs : t.regs = s.regs := by rw [show t = _ from h]
theorem ArmKept.cover : t.cover = s.cover := by rw [show t = _ from h]
theorem ArmKept.cells : t.dram.cells = s.dram.cells := by rw [show t = _ from h]
theorem ArmKept.map : t.nand.map = s.nand.map := by rw [show t = _ from h]
theorem ArmKept.mapOf (g : Nat) : t.mapOf g = s.mapOf g := by
  unfold State.mapOf
  rw [show t = _ from h]
theorem ArmKept.getF (f : Fld) : t.getF f = s.getF f := by simp only [State.getF, h.regs]

end

section
variable {s : State}

theorem armKept_armCtx {t : State} {n : Nat} (h : s.armCtx n = some t) : ArmKept s t := by
  unfold State.armCtx at h
  split at h
  · cases h
  · obtain ⟨loc, -, rfl⟩ := Option.map_eq_some_iff.mp h
    rfl

theorem armKept_takeCtx {t : State} {n : Nat} (h : s.takeCtx = some (n, t)) : ArmKept s t := by
  unfold State.takeCtx at h
  split at h
  · cases h
    exact .refl s
  · obtain ⟨m, -, h⟩ := Option.bind_eq_some_iff.mp h
    obtain ⟨u, hu, h⟩ := Option.bind_eq_some_iff.mp h
    split at h
    · cases h
    · cases h
      exact armKept_armCtx hu

theorem armKept_rearm (n : Nat) : ArmKept s (s.rearm n) := by
  unfold State.rearm
  cases h : s.armCtx n with
  | none => rfl
  | some t => exact armKept_armCtx h

theorem armKept_askCtx (n : Nat) : ArmKept s (s.askCtx n) := .ite (.refl s) rfl

theorem armKept_loadTurns : ArmKept s s.loadTurns :=
  .foldl (fun a n => .ite (ArmKept.trans (by exact rfl) (armKept_askCtx n)) (.refl a)) _ s

theorem armKept_retireBad : ArmKept s s.retireBad := .ite rfl (.refl s)

theorem armKept_eraseOne (b : Nat) : ArmKept s (s.eraseOne b) := .ite rfl (.refl s)

theorem armKept_eraseGo : ArmKept s s.eraseGo :=
  .ite (.refl s) ((ArmKept.foldl (fun _ => armKept_eraseOne) _ s).trans (.foldl (fun a b => .ite (armKept_eraseOne b) (.refl a)) _ _))

theorem armKept_metaTake (n loc : Nat) : ArmKept s (s.metaTake n loc) :=
  have hback : ArmKept s (s.giveBack n) := .ite rfl (.refl s)
  ArmKept.trans (.ite (.refl s) hback) (.ite rfl rfl)

theorem armKept_metaStart (l : Nat) : ArmKept s (s.metaStart l) := by
  unfold State.metaStart
  split
  · split
    · split
      · exact .refl s
      · split
        · exact .refl s
        · exact (armKept_metaTake _ _).trans rfl
    · exact .refl s
  · exact .refl s

theorem armKept_rootWave : ArmKept s s.rootWave := by
  unfold State.rootWave
  split
  · exact .ite rfl (.refl s)
  · exact .refl s

theorem armKept_metaWave : ArmKept s s.metaWave := .ite (armKept_rootWave.trans (.foldl (fun _ => armKept_metaStart) _ _)) (.refl s)

theorem armKept_armCopy {t : State} {kind : CopyKind} {g age : Nat} (h : s.armCopy kind g age = some t) : ArmKept s t := by
  unfold State.armCopy at h
  split at h
  · cases h
  · obtain ⟨⟨n, u⟩, htake, rfl⟩ := Option.map_eq_some_iff.mp h
    exact (armKept_takeCtx htake).trans (ArmKept.trans (by exact rfl) (armKept_askCtx n))

theorem armKept_armOneRefresh (g : Nat) : ArmKept s (s.armOneRefresh g) := by
  unfold State.armOneRefresh
  split
  · exact .refl s
  · split
    · next h => exact (armKept_armCopy h).trans rfl
    · exact .refl s

theorem armKept_armRefresh : ArmKept s s.armRefresh := .ite (.foldl (fun _ => armKept_armOneRefresh) _ s) (.refl s)

theorem armKept_wtTry : ArmKept s s.wtTry := by
  unfold State.wtTry
  split
  · split
    · split
      · next n t htake => exact (armKept_takeCtx htake).trans (ArmKept.trans (by exact rfl) (armKept_askCtx n))
      · exact .refl s
    · exact .refl s
  · exact .refl s

end

/-! ### TRICKLE_MODE (R152, R153) -/

theorem State.chooseTrickle_lt (s : State) : s.chooseTrickle < 4 := by
  have hmode : s.trkMode < 4 := s.getF_lt Reg.LG_STATUS_TRK_MODE
  unfold State.chooseTrickle
  split_ifs <;> omega

/-- What puts trickle in FULL whatever the dirty count. -/
theorem State.chooseTrickle_full {s : State} (h : s.getB Reg.LG_STATUS_DOUBT = true ∨ s.getB Reg.LG_STATUS_SHORTFALL = true ∨
    s.getB Reg.LG_STATUS_STALE = true ∨ s.getF Reg.ES_STATUS_STORE = 0 ∨ s.getB Reg.LG_STATUS_CLEAN_ALL = true ∨ s.waiting = true) :
    s.chooseTrickle = 2 := by
  refine if_pos ?_
  simp only [Bool.or_eq_true, beq_iff_eq]
  tauto

/-- The mode and the sweep's target are set between the back end's own work and the refresh copies. -/
def State.trickleSet (u : State) (mode : Nat) (target : Option Nat) : State :=
  { u.setF Reg.LG_STATUS_TRK_MODE mode with cover := { u.cover with target := target } }

theorem exec_trickleMode {s : State} (hrun : s.mode = .run) (hlamp : s.lampUp = true) (hfence : s.bur.fenced = false) :
    ∃ target, exec .trickleMode s =
        .next ((s.loadTurns.retireBad.eaCheck.metaWave.trickleSet s.chooseTrickle target).armRefresh.alertScan s.crossed) ∧
      (s.chooseTrickle = 0 → target = none) :=
  ⟨_, congrArg Host.Outcome.next (if_pos (by simp [hrun, hlamp, hfence])), fun h => if_pos h⟩

/-- The back end's work of a trickle step: erase-ahead's mode alone shows in a register. -/
theorem trickleWork_kept (s : State) : let u := s.loadTurns.retireBad.eaCheck.metaWave
    u.cover = s.cover ∧ u.dram.cells = s.dram.cells ∧ RegsKept [Reg.NB_STATUS_EA_MODE] s u := by
  have herase : ArmKept s s.loadTurns.retireBad.eraseGo := (armKept_loadTurns.trans armKept_retireBad).trans armKept_eraseGo
  have hwave : ArmKept s.loadTurns.retireBad.eaCheck s.loadTurns.retireBad.eaCheck.metaWave := armKept_metaWave
  refine ⟨hwave.cover.trans herase.cover, hwave.cells.trans herase.cells, ?_⟩
  exact (RegsKept.of_regs herase.regs).trans ((regsKept_setF List.mem_cons_self).trans (.of_regs hwave.regs))

theorem trickleMode_completes {s : State} (hrun : s.mode = .run) (hlamp : s.lampUp = true) (hfence : s.bur.fenced = false) :
    ∃ t, exec .trickleMode s = .next t ∧ t.trkMode = s.chooseTrickle % 4 ∧ t.cover.ledger = s.cover.ledger ∧ t.dram.cells = s.dram.cells ∧
      RegsKept (Reg.LG_STATUS_TRK_MODE :: Reg.NB_STATUS_EA_MODE :: Reg.NB_TCACHE_MISSES :: evFlds) s t ∧
      (s.getB Reg.LG_STATUS_DOUBT = true ∨ s.getB Reg.LG_STATUS_SHORTFALL = true ∨ s.getB Reg.LG_STATUS_STALE = true ∨
        s.getF Reg.ES_STATUS_STORE = 0 ∨ s.getB Reg.LG_STATUS_CLEAN_ALL = true ∨ s.waiting = true → t.trkMode = 2) ∧
      (t.trkMode = 0 → t.cover.target = none) := by
  obtain ⟨target, hexec, htarget⟩ := exec_trickleMode hrun hlamp hfence
  obtain ⟨hcover, hcells, hregs⟩ := trickleWork_kept s
  generalize s.loadTurns.retireBad.eaCheck.metaWave = u at hexec hcover hcells hregs
  have harm : ArmKept (u.trickleSet s.chooseTrickle target) (u.trickleSet s.chooseTrickle target).armRefresh := armKept_armRefresh
  generalize (u.trickleSet s.chooseTrickle target).armRefresh = v at hexec harm
  have hcover' : (v.alertScan s.crossed).cover = { u.cover with target := target } := by
    rw [State.alertScan_frame]
    exact harm.cover
  have hmode : (v.alertScan s.crossed).trkMode = s.chooseTrickle % 4 := by
    have hset : (u.trickleSet s.chooseTrickle target).getF Reg.LG_STATUS_TRK_MODE = s.chooseTrickle % 4 := u.getF_setF_self Reg.LG_STATUS_TRK_MODE _
    rw [State.trkMode, regsKept_alertScan _ _ _ (by decide), harm.getF, hset]
  refine ⟨_, hexec, hmode, ?_, ?_, ?_, fun h => ?_, fun h => ?_⟩
  · rw [hcover', hcover]
  · rw [(State.alertScan_kept _ _).2.2, harm.cells]
    exact hcells
  · have hset : RegsKept [Reg.LG_STATUS_TRK_MODE] u (u.trickleSet s.chooseTrickle target) := regsKept_setF (s := u) List.mem_cons_self
    exact (hregs.mono (by simp)).trans ((hset.mono (by simp)).trans
      ((RegsKept.of_regs harm.regs).trans ((regsKept_alertScan v _).mono (by simp [evFlds]))))
  · rw [hmode, State.chooseTrickle_full h]
  · rw [hmode, Nat.mod_eq_of_lt s.chooseTrickle_lt] at h
    rw [hcover', htarget h]

/-! ### SWEEP_VISIT (R153) -/

theorem State.handOn_frame (s : State) :
    s.handOn = { s with regs := s.handOn.regs, cover := { s.cover with target := s.handOn.cover.target } } := rfl

theorem State.handOn_regs (s : State) : s.handOn.regs = (s.setF Reg.LG_TRKSTAT_HAND
    (if decide (s.nUser ≤ s.getF Reg.LG_TRKSTAT_HAND + 1) then 0 else s.getF Reg.LG_TRKSTAT_HAND + 1)).regs := rfl

theorem regsKept_handOn (s : State) : RegsKept [Reg.LG_TRKSTAT_HAND] s s.handOn :=
  (regsKept_setF List.mem_cons_self).trans (.of_regs s.handOn_regs)

/-- Short of the last user granule the hand goes to the next one. -/
theorem State.getF_handOn {s : State} (h : s.getF Reg.LG_TRKSTAT_HAND + 1 < s.nUser) :
    s.handOn.getF Reg.LG_TRKSTAT_HAND = s.getF Reg.LG_TRKSTAT_HAND + 1 := by
  rw [RegsKept.of_regs (l := []) s.handOn_regs _ (by simp), State.getF_setF_self, if_neg (by simpa using h)]
  exact Nat.mod_eq_of_lt (h.trans s.nUser_lt)

/-- The hand and the target move no entry. -/
theorem State.ledgerOf_of_target {s u : State} (hregs : RegsKept [Reg.LG_TRKSTAT_HAND] s u)
    (h : u = { s with regs := u.regs, cover := { s.cover with target := u.cover.target } }) (g : Nat) : u.ledgerOf g = s.ledgerOf g :=
  State.ledgerOf_congr (by rw [h]) hregs (by decide) (by rw [h]) (by rw [h]) g

theorem State.ledgerOf_handOn (s : State) (g : Nat) : s.handOn.ledgerOf g = s.ledgerOf g :=
  State.ledgerOf_of_target (regsKept_handOn s) s.handOn_frame g

/-- The sweep passes a DIRTY entry that is not of its target's age: it ages, up to 3. -/
def State.aged (s : State) (g a : Nat) : State := if a < 3 then s.setLedger g (.dirty (a + 1)) else s

theorem State.aged_frame (s : State) (g a : Nat) : s.aged g a = { s with cover := { s.cover with ledger := (s.aged g a).cover.ledger } } := by
  unfold State.aged
  split <;> rfl

theorem State.ledgerOf_aged_self {s : State} {g a : Nat} (h : s.ledgerOf g = .dirty a) :
    (s.aged g a).ledgerOf g = .dirty (if a < 3 then a + 1 else a) := by
  have hg : g < s.nReported := State.lt_nReported (by rw [h]; nofun)
  unfold State.aged
  split
  · exact State.ledgerOf_setLedger_self hg _
  · exact h

theorem State.ledgerOf_aged_ne (s : State) {g j : Nat} (h : j ≠ g) (a : Nat) : (s.aged g a).ledgerOf j = s.ledgerOf j := by
  unfold State.aged
  split
  · exact s.ledgerOf_setLedger_ne h _
  · rfl

theorem exec_sweepVisit_ages {s : State} {a : Nat} (hrun : s.mode = .run) (hlamp : s.lampUp = true) (hfence : s.bur.fenced = false)
    (hmode : s.trkMode ≠ 0) (hqueue : s.nand.refreshQ = []) (hfree : s.trickleFree = true)
    (hdirty : s.ledgerOf (s.getF Reg.LG_TRKSTAT_HAND) = .dirty a) (htarget : s.cover.target ≠ some a) (hdoubt : s.cover.doubtWriter = false) :
    exec .sweepVisit s = .next (s.aged (s.getF Reg.LG_TRKSTAT_HAND) a).handOn := by
  have harm : s.armRefresh = s := by simp [State.armRefresh, hqueue]
  have hvisit : s.sweepVisit = (s.aged (s.getF Reg.LG_TRKSTAT_HAND) a).handOn := by
    simp only [State.sweepVisit, hfree, hdoubt, hdirty, htarget, Bool.not_true, Bool.and_false, Bool.false_eq_true, if_false]
    rfl
  simp [exec, execSweepVisit, hrun, hlamp, hfence, hmode, harm, hvisit]

theorem sweepVisit_ages {s : State} {a : Nat} (hrun : s.mode = .run) (hlamp : s.lampUp = true) (hfence : s.bur.fenced = false)
    (hmode : s.trkMode ≠ 0) (hqueue : s.nand.refreshQ = []) (hfree : s.trickleFree = true)
    (hdirty : s.ledgerOf (s.getF Reg.LG_TRKSTAT_HAND) = .dirty a) (htarget : s.cover.target ≠ some a) (hdoubt : s.cover.doubtWriter = false) :
    ∃ t, exec .sweepVisit s = .next t ∧ t.ledgerOf (s.getF Reg.LG_TRKSTAT_HAND) = .dirty (if a < 3 then a + 1 else a) ∧
      (∀ g, g ≠ s.getF Reg.LG_TRKSTAT_HAND → t.ledgerOf g = s.ledgerOf g) ∧ t.cover.nDirty = s.cover.nDirty ∧
      (s.getF Reg.LG_TRKSTAT_HAND + 1 < s.nUser → t.getF Reg.LG_TRKSTAT_HAND = s.getF Reg.LG_TRKSTAT_HAND + 1) ∧
      RegsKept [Reg.LG_TRKSTAT_HAND] s t ∧ t = { s with regs := t.regs, cover := t.cover } := by
  refine ⟨_, exec_sweepVisit_ages hrun hlamp hfence hmode hqueue hfree hdirty htarget hdoubt, ?_, fun g hg => ?_, ?_, ?_, ?_, ?_⟩
  · rw [State.ledgerOf_handOn, State.ledgerOf_aged_self hdirty]
  · rw [State.ledgerOf_handOn, State.ledgerOf_aged_ne s hg]
  · rw [State.handOn_frame, State.aged_frame]
  · intro hlast
    have haged := State.aged_frame s (s.getF Reg.LG_TRKSTAT_HAND) a
    generalize s.aged (s.getF Reg.LG_TRKSTAT_HAND) a = u at haged
    have hhand : u.getF Reg.LG_TRKSTAT_HAND = s.getF Reg.LG_TRKSTAT_HAND := by rw [haged]; rfl
    have huser : u.nUser = s.nUser := by rw [haged]; rfl
    rw [State.getF_handOn (by rw [hhand, huser]; exact hlast), hhand]
  · exact (RegsKept.of_regs (by rw [State.aged_frame])).trans (regsKept_handOn _)
  · rw [State.handOn_frame, State.aged_frame]

/-! ### COPY_MAPPED: a copy that passes (R37, R38, R252) -/

/-- A copy enters the granule map unless a higher version is mapped. -/
def State.copyMap (s : State) (c : Ctx) : State := if s.mayMap c.gran c.ver then s.mapCopy c.gran c.page c.ver (s.pageCrc c.page) else s

/-- A trickle copy settles its entry and the books. -/
def State.copySettle (s : State) (c : Ctx) : State := if c.kind = .trickle then (s.calStep.trickleDone c.gran).cleanAllCheck else s

theorem State.copyDone_eq (s : State) (n : Nat) :
    s.copyDone n = (((((s.lunFine (locLun (s.ctxOf n).page)).copyMap (s.ctxOf n)).copySettle (s.ctxOf n)).rearm n).armRefresh).wtTry := rfl

theorem State.copyMap_frame (s : State) (c : Ctx) : s.copyMap c = { s with nand := (s.copyMap c).nand, bur := (s.copyMap c).bur } := by
  unfold State.copyMap
  split <;> rfl

theorem State.mapOf_copyMap {s : State} {c : Ctx} (h : s.mayMap c.gran c.ver = true) : (s.copyMap c).mapOf c.gran = c.page := by
  rw [State.copyMap, if_pos h]
  exact mget_mset_self _ _ _ _

theorem State.copyMap_refused {s : State} {c : Ctx} (h : s.mayMap c.gran c.ver = false) : s.copyMap c = s := if_neg (by simp [h])

theorem State.cleanAllCheck_frame (s : State) : s.cleanAllCheck = { s with regs := s.cleanAllCheck.regs } := by
  unfold State.cleanAllCheck
  split <;> rfl

@[simp] theorem State.cleanAllCheck_cover (s : State) : s.cleanAllCheck.cover = s.cover := by rw [State.cleanAllCheck_frame]

theorem regsKept_cleanAllCheck (s : State) : RegsKept [Reg.LG_STATUS_CLEAN_ALL] s s.cleanAllCheck := by
  unfold State.cleanAllCheck
  split
  · exact regsKept_setF List.mem_cons_self
  · exact .refl _ s

theorem State.ledgerOf_cleanAllCheck (s : State) (g : Nat) : s.cleanAllCheck.ledgerOf g = s.ledgerOf g := by
  refine State.ledgerOf_congr ?_ (regsKept_cleanAllCheck s) (by decide) ?_ ?_ g <;> rw [State.cleanAllCheck_frame]

theorem State.calStep_frame (s : State) :
    s.calStep = { s with cover := { s.cover with calCount := s.calStep.cover.calCount, calCtx := s.calStep.cover.calCtx } } := by
  unfold State.calStep
  dsimp only
  split_ifs <;> rfl

theorem State.ledgerOf_calStep (s : State) (g : Nat) : s.calStep.ledgerOf g = s.ledgerOf g := by
  rw [State.calStep_frame]
  rfl

theorem State.trickleDone_frame (s : State) (g : Nat) : s.trickleDone g = { s with cover := (s.trickleDone g).cover } := by
  cases h : s.ledgerOf g <;> rw [State.trickleDone, h] <;> rfl

/-- A CLEANING entry becomes CLEAN, and the granule's cover is given back (Table 4-2). -/
theorem State.trickleDone_cleaning {s : State} {g : Nat} (h : s.ledgerOf g = .cleaning) :
    (s.trickleDone g).ledgerOf g = .clean ∧ (s.trickleDone g).cover.nDirty = s.cover.nDirty - 1 ∧
      (s.trickleDone g).cover.eDebt = s.cover.eDebt - s.cover.eg := by
  have hclean : (s.setLedger g .clean).ledgerOf g = .clean := State.ledgerOf_setLedger_self (State.lt_nReported (by rw [h]; nofun)) _
  have hbooks (u : State) : (u.credit.mirrorQ g .clean).ledgerOf g = u.ledgerOf g :=
    State.ledgerOf_congr (l := []) rfl (.of_regs rfl) (by decide) rfl rfl g
  rw [State.trickleDone, h]
  exact ⟨(hbooks _).trans hclean, rfl, rfl⟩

/-- An entry written again since the copy was armed stays DIRTY (Table 4-2). -/
theorem State.trickleDone_dirtied {s : State} {g a : Nat} (h : s.ledgerOf g = .dirtyCleaning a) :
    (s.trickleDone g).ledgerOf g = .dirty a ∧ (s.trickleDone g).cover.nDirty = s.cover.nDirty ∧ (s.trickleDone g).cover.eDebt = s.cover.eDebt := by
  rw [State.trickleDone, h]
  exact ⟨State.ledgerOf_setLedger_self (State.lt_nReported (by rw [h]; nofun)) _, rfl, rfl⟩

theorem State.copySettle_frame (s : State) (c : Ctx) :
    s.copySettle c = { s with regs := (s.copySettle c).regs, cover := (s.copySettle c).cover } := by
  by_cases h : c.kind = .trickle
  · have hcal := State.calStep_frame s
    have hdone := State.trickleDone_frame s.calStep c.gran
    rw [State.copySettle, if_pos h]
    generalize s.calStep.trickleDone c.gran = u at hdone
    rw [State.cleanAllCheck_frame, hdone, hcal]
  · rw [State.copySettle, if_neg h]

/-- The entry and the books of a trickle copy that has settled, by the entry before. -/
theorem State.copySettle_trickle {s : State} {c : Ctx} (h : c.kind = .trickle) :
    (s.ledgerOf c.gran = .cleaning → (s.copySettle c).ledgerOf c.gran = .clean ∧ (s.copySettle c).cover.nDirty = s.cover.nDirty - 1 ∧
        (s.copySettle c).cover.eDebt = s.cover.eDebt - s.cover.eg) ∧
      (∀ a, s.ledgerOf c.gran = .dirtyCleaning a → (s.copySettle c).ledgerOf c.gran = .dirty a ∧ (s.copySettle c).cover.nDirty = s.cover.nDirty ∧
        (s.copySettle c).cover.eDebt = s.cover.eDebt) := by
  have hbooks : s.calStep.cover.nDirty = s.cover.nDirty ∧ s.calStep.cover.eDebt = s.cover.eDebt ∧ s.calStep.cover.eg = s.cover.eg := by
    rw [State.calStep_frame]
    exact ⟨rfl, rfl, rfl⟩
  obtain ⟨hdirty, hdebt, heg⟩ := hbooks
  rw [State.copySettle, if_pos h, State.cleanAllCheck_cover, State.ledgerOf_cleanAllCheck, ← State.ledgerOf_calStep s, ← hdirty, ← hdebt, ← heg]
  exact ⟨State.trickleDone_cleaning, fun _ => State.trickleDone_dirtied⟩

theorem exec_copyMapped {s : State} {n : Nat} (hcheck : (s.ctxOf n).st = .check)
    (hkind : (s.ctxOf n).kind = .trickle ∨ (s.ctxOf n).kind = .refresh ∨ (s.ctxOf n).kind = .reloc) (hfence : s.bur.fenced = false)
    (crcOk : Bool) : exec (.copyMapped n crcOk) s = .next ((if crcOk then s.copyDone n else s.programFailed n).alertScan s.crossed) := by
  refine congrArg Host.Outcome.next (if_pos ?_)
  simp only [Bool.and_eq_true, Bool.or_eq_true, Bool.not_eq_true', beq_iff_eq, or_assoc]
  exact ⟨⟨hcheck, hkind⟩, hfence⟩

theorem copyMapped_maps {s : State} {n : Nat} (hcheck : (s.ctxOf n).st = .check)
    (hkind : (s.ctxOf n).kind = .trickle ∨ (s.ctxOf n).kind = .refresh ∨ (s.ctxOf n).kind = .reloc) (hfence : s.bur.fenced = false) :
    ∃ t, exec (.copyMapped n true) s = .next t ∧ t.dram.cells = s.dram.cells ∧ t.mode = s.mode ∧
      (s.mayMap (s.ctxOf n).gran (s.ctxOf n).ver = true → t.mapOf (s.ctxOf n).gran = (s.ctxOf n).page) ∧
      (s.mayMap (s.ctxOf n).gran (s.ctxOf n).ver = false → t.nand.map = s.nand.map) ∧ ((s.ctxOf n).kind = .trickle → (s.ctxOf n).gran < s.nUser →
      (s.ledgerOf (s.ctxOf n).gran = .cleaning → t.ledgerOf (s.ctxOf n).gran = .clean ∧ t.cover.nDirty = s.cover.nDirty - 1 ∧
        t.cover.eDebt = s.cover.eDebt - s.cover.eg) ∧
      (∀ a, s.ledgerOf (s.ctxOf n).gran = .dirtyCleaning a → t.ledgerOf (s.ctxOf n).gran = .dirty a ∧ t.cover.nDirty = s.cover.nDirty ∧
        t.cover.eDebt = s.cover.eDebt)) := by
  have hexec := exec_copyMapped hcheck hkind hfence true
  rw [if_pos rfl, State.copyDone_eq] at hexec
  generalize s.ctxOf n = c at hexec ⊢
  have hm : (s.lunFine (locLun c.page)).copyMap c = { s with
      nand := ((s.lunFine (locLun c.page)).copyMap c).nand, bur := ((s.lunFine (locLun c.page)).copyMap c).bur } := State.copyMap_frame _ c
  have hmaps : s.mayMap c.gran c.ver = true → ((s.lunFine (locLun c.page)).copyMap c).mapOf c.gran = c.page :=
    State.mapOf_copyMap (s := s.lunFine (locLun c.page))
  have hrefused (hmay : s.mayMap c.gran c.ver = false) : ((s.lunFine (locLun c.page)).copyMap c).nand.map = s.nand.map := by
    rw [State.copyMap_refused (s := s.lunFine (locLun c.page)) hmay]
    rfl
  generalize (s.lunFine (locLun c.page)).copyMap c = m at hexec hm hmaps hrefused
  have hu := State.copySettle_frame m c
  have harm : ArmKept (m.copySettle c) (((m.copySettle c).rearm n).armRefresh).wtTry :=
    ((armKept_rearm n).trans armKept_armRefresh).trans armKept_wtTry
  generalize (((m.copySettle c).rearm n).armRefresh).wtTry = v at hexec harm
  have hv := State.alertScan_frame v s.crossed
  have hcover : (v.alertScan s.crossed).cover = (m.copySettle c).cover := by rw [hv]; exact harm.cover
  refine ⟨_, hexec, ?_, ?_, fun hmay => ?_, fun hmay => ?_, fun htrickle _ => ?_⟩
  · rw [hv]
    exact harm.cells.trans (by rw [hu, hm])
  · rw [hv]
    exact harm.mode.trans (by rw [hu, hm])
  · rw [hv]
    exact (harm.mapOf c.gran).trans (by rw [hu]; exact hmaps hmay)
  · rw [hv]
    exact harm.map.trans (by rw [hu]; exact hrefused hmay)
  · have hledger : (v.alertScan s.crossed).ledgerOf c.gran = (m.copySettle c).ledgerOf c.gran := by
      refine State.ledgerOf_congr ?_ ((RegsKept.of_regs harm.regs).trans (regsKept_alertScan v _)) (by decide) ?_ ?_ _
      · rw [hv]
        exact harm.otp
      · rw [hcover]
      · rw [hcover]
    have hbefore : m.ledgerOf c.gran = s.ledgerOf c.gran := by rw [hm]; rfl
    have hbooks : m.cover = s.cover := by rw [hm]
    rw [hcover, hledger, ← hbefore, ← hbooks]
    exact State.copySettle_trickle htrickle

/-! ### COPY_MAPPED: a copy that fails the CRC comparison (R247, R252) -/

/-- The mode and the granule map are as before, and the block, if it was retiring, still is. -/
structure RetireKept (b : Nat) (s t : State) : Prop where
  mode : t.mode = s.mode
  map : t.nand.map = s.nand.map
  retiring : (s.blkOf b).retiring = true → (t.blkOf b).retiring = true

theorem RetireKept.refl (b : Nat) (s : State) : RetireKept b s s := ⟨rfl, rfl, id⟩

theorem RetireKept.trans {b : Nat} {s t u : State} (h : RetireKept b s t) (h' : RetireKept b t u) : RetireKept b s u :=
  ⟨h'.mode.trans h.mode, h'.map.trans h.map, h'.retiring ∘ h.retiring⟩

/-- A step that leaves the block table alone. -/
theorem RetireKept.of_blocks {b : Nat} {s t : State} (hmode : t.mode = s.mode) (hmap : t.nand.map = s.nand.map)
    (hblocks : t.nand.blocks = s.nand.blocks) : RetireKept b s t :=
  ⟨hmode, hmap, fun h => by rwa [State.blkOf, hblocks]⟩

theorem RetireKept.ite {b : Nat} {s t u : State} {c : Prop} [Decidable c] (ht : RetireKept b s t) (hu : RetireKept b s u) :
    RetireKept b s (if c then t else u) := by
  split
  · exact ht
  · exact hu

section
variable {s : State} {b : Nat}

/-- A page taken of a retiring block leaves it retiring. -/
theorem retireKept_takeLoc (loc : Nat) : RetireKept b s (s.takeLoc loc) where
  mode := rfl
  map := rfl
  retiring h := by
    by_cases hb : b = locBlock loc
    · subst hb
      exact (congrArg Blk.retiring (mget_mset_self _ _ _ _)).trans h
    · exact (congrArg Blk.retiring (mget_mset_ne _ _ _ hb)).trans h

theorem retireKept_askCtx (n : Nat) : RetireKept b s (s.askCtx n) := .ite (.refl b s) (.of_blocks rfl rfl rfl)

theorem retireKept_rearm (n : Nat) : RetireKept b s (s.rearm n) := by
  unfold State.rearm State.armCtx
  split
  · exact .of_blocks rfl rfl rfl
  · cases s.pickPage n with
    | none => exact .of_blocks rfl rfl rfl
    | some loc => exact (retireKept_takeLoc loc).trans (.of_blocks rfl rfl rfl)

theorem retireKept_beginLoad (n : Nat) (c : Ctx) : RetireKept b s (s.beginLoad n c) :=
  .ite (.of_blocks rfl rfl rfl) (RetireKept.trans (by exact .of_blocks rfl rfl rfl) (retireKept_askCtx n))

theorem retireKept_setLedger (g : Nat) (e : LState) : RetireKept b s (s.setLedger g e) := .of_blocks rfl rfl rfl

/-- A copy given up: its entry, its queue or its stage moves, or in BURROW its slot. -/
theorem retireKept_givenUp (n : Nat) (c : Ctx) :
    RetireKept b s ((if s.mode = .burrow then s.takenLost c.gran else s.copyAbandoned c).setCtx n Ctx.idle) := by
  have habandoned : RetireKept b s (s.copyAbandoned c) := by
    unfold State.copyAbandoned
    split
    · exact retireKept_setLedger _ _
    · exact .of_blocks rfl rfl rfl
    · exact .of_blocks rfl rfl rfl
    · exact .refl b s
  have hgiven : RetireKept b s (if s.mode = .burrow then s.takenLost c.gran else s.copyAbandoned c) := .ite (.of_blocks rfl rfl rfl) habandoned
  exact hgiven.trans (.of_blocks rfl rfl rfl)

theorem retireKept_failRetry (n : Nat) (c : Ctx) : RetireKept b s (s.failRetry n c) := by
  have hmove : RetireKept b s (s.moveOn n c) := by
    unfold State.moveOn
    split
    · exact (retireKept_takeLoc _).trans (retireKept_beginLoad _ _)
    · exact retireKept_givenUp n c
  exact .ite hmove (retireKept_givenUp n c)

theorem retireKept_failEnds (n : Nat) (c : Ctx) : RetireKept b s (s.failEnds n c) := by
  unfold State.failEnds
  split
  · have hhand (u : State) : RetireKept b u ((u.handoff c.gran).rearm n) := RetireKept.trans (by exact .of_blocks rfl rfl rfl) (retireKept_rearm n)
    exact (retireKept_setLedger _ _).trans (hhand _)
  · exact RetireKept.trans (by exact .of_blocks rfl rfl rfl) (retireKept_rearm n)
  · exact retireKept_rearm n

theorem retireKept_lossCheck (closed : Bool) : RetireKept b s (s.lossCheck closed) :=
  .ite (.ite (.ite (.refl b s) (.of_blocks rfl rfl rfl)) (.refl b s)) (.refl b s)

/-- The block of a failed program retires; neither the mode nor the map moves. -/
theorem failMarks_retires (page : Nat) :
    (s.failMarks page).mode = s.mode ∧ (s.failMarks page).nand.map = s.nand.map ∧ ((s.failMarks page).blkOf (locBlock page)).retiring = true := by
  have hblk (t : State) (x : Blk) (hx : x.retiring = true) (ht : t.nand.blocks = mset (locBlock page) x s.nand.blocks) :
      (t.blkOf (locBlock page)).retiring = true := by
    rw [State.blkOf, ht, mget_mset_self, hx]
  unfold State.failMarks
  dsimp only
  split
  · exact ⟨rfl, rfl, hblk _ _ rfl rfl⟩
  · exact ⟨rfl, rfl, hblk _ _ rfl rfl⟩

/-- A granule copy whose program fails, without a second failure in a row on its LUN: its block retires. -/
theorem programFailed_retires {n : Nat} (hkind : (s.ctxOf n).kind ≠ .metaPage) (hfirst : s.twoFails (s.ctxOf n).page = false) :
    ((s.programFailed n).blkOf (locBlock (s.ctxOf n).page)).retiring = true ∧ (s.programFailed n).mode = s.mode ∧
      (s.programFailed n).nand.map = s.nand.map := by
  obtain ⟨hmode, hmap, hretires⟩ := failMarks_retires (s := s) (s.ctxOf n).page
  have hend : RetireKept (locBlock (s.ctxOf n).page) (s.failMarks (s.ctxOf n).page) (s.programFailed n) := by
    unfold State.programFailed
    dsimp only
    rw [if_neg (by simp [hfirst]), if_neg hkind]
    split
    · exact retireKept_failEnds _ _
    · exact (retireKept_failRetry _ _).trans (retireKept_lossCheck _)
  exact ⟨hend.retiring hretires, hend.mode.trans hmode, hend.map.trans hmap⟩

end

theorem copyMapped_fails {s : State} {n : Nat} (hcheck : (s.ctxOf n).st = .check)
    (hkind : (s.ctxOf n).kind = .trickle ∨ (s.ctxOf n).kind = .refresh ∨ (s.ctxOf n).kind = .reloc) (hfence : s.bur.fenced = false)
    (hfirst : mfind (locLun (s.ctxOf n).page) s.nand.lastProgFail = none) :
    ∃ t, exec (.copyMapped n false) s = .next t ∧ (t.blkOf (locBlock (s.ctxOf n).page)).retiring = true ∧ t.mode = s.mode ∧
      t.nand.map = s.nand.map ∧ t.dram.cells = s.dram.cells := by
  have hgran : (s.ctxOf n).kind ≠ .metaPage := by
    rintro hmeta
    simp [hmeta] at hkind
  obtain ⟨hretires, hmode, hmap⟩ := programFailed_retires hgran (by simp [State.twoFails, hfirst])
  refine ⟨_, exec_copyMapped hcheck hkind hfence false, ?_⟩
  rw [if_neg (by decide), State.alertScan_frame]
  exact ⟨hretires, hmode, hmap, (State.programFailed_kept s n).2.2⟩

/-! ### CAL_SAMPLE (R137) -/

theorem calSample_completes {s : State} (e : Nat) (hcount : s.cover.calCount = 1024) (hrun : s.mode = .run)
    (hen : s.getB Reg.LG_CFG_CAL_EN = true) :
    ∃ t, exec (.calSample e) s = .next t ∧ t.cover.calCount = 0 ∧ t.getF Reg.LG_EG_EG_INC25 =
      max (if s.getF Reg.LG_EG_EG_INC25 < e * 100000 / (1024 * s.kOf s.tMax) then min 0xFFFF (e * 100000 / (1024 * s.kOf s.tMax))
        else s.getF Reg.LG_EG_EG_INC25 - (s.getF Reg.LG_EG_EG_INC25 - e * 100000 / (1024 * s.kOf s.tMax)) / 64)
        (s.getF Reg.LG_EGCFG_EG_INC_MIN) % 2 ^ Reg.LG_EG_EG_INC25.w ∧
      RegsKept [Reg.LG_EG_EG_INC25] s t ∧ t = { s with regs := t.regs, cover := { s.cover with calCount := 0 } } := by
  have hsample : e - s.cover.calBase.getD 0 * 0 = e := by omega
  refine ⟨_, congrArg Host.Outcome.next (if_pos ⟨hcount, hrun, hen⟩), rfl, ?_, regsKept_setF (s := s) List.mem_cons_self, rfl⟩
  dsimp only
  rw [hsample]
  exact s.getF_setF_self Reg.LG_EG_EG_INC25 _

/-! ### CLEAN_ALL and STOP_CLEAN_ALL (R156) -/

theorem stopCleanAll_completes {s : State} {p : Path} (hreach : s.reach p 0x3058 = true) (hlamp : s.lampUp = true) :
    ∃ t, exec (.stopCleanAll p) s = .next t ∧ t.getF Reg.LG_STATUS_CLEAN_ALL = 0 ∧
      RegsKept [Reg.LG_STATUS_CLEAN_ALL, Reg.DT_SVC_LEFT_S] s t ∧ t = { s with regs := t.regs } := by
  refine ⟨_, congrArg Host.Outcome.next (if_pos (by simp [hreach, hlamp])), ?_, ?_, ?_⟩
  · exact ((s.wrote p).getF_setF_self Reg.LG_STATUS_CLEAN_ALL 0).trans rfl
  · exact (regsKept_wrote.mono (by simp)).trans (regsKept_setF List.mem_cons_self)
  · rw [State.doStopCleanAll, State.wrote_frame]
    rfl

/-- A clean-all begins, and ends at once when nothing is dirty. -/
theorem State.getF_doCleanAll {s : State} (hservice : s.service = true) (hrun : s.mode = .run) :
    s.doCleanAll.getF Reg.LG_STATUS_CLEAN_ALL = if s.cover.nDirty = 0 then 0 else 1 := by
  have hgo : s.doCleanAll = (s.setF Reg.LG_STATUS_CLEAN_ALL 1).cleanAllCheck := if_pos (by simp [hservice, hrun])
  rw [hgo, State.cleanAllCheck, State.setF_cover]
  split
  · exact ((s.setF Reg.LG_STATUS_CLEAN_ALL 1).getF_setF_self Reg.LG_STATUS_CLEAN_ALL 0).trans rfl
  · exact (s.getF_setF_self Reg.LG_STATUS_CLEAN_ALL 1).trans rfl

theorem State.doCleanAll_locked {s : State} (h : s.service = false) : s.doCleanAll = s := if_neg (by simp [h])

theorem State.doCleanAll_frame (s : State) : s.doCleanAll = { s with regs := s.doCleanAll.regs } := by
  unfold State.doCleanAll
  split
  · rw [State.cleanAllCheck_frame]
    rfl
  · rfl

theorem regsKept_doCleanAll (s : State) : RegsKept [Reg.LG_STATUS_CLEAN_ALL] s s.doCleanAll := by
  unfold State.doCleanAll
  split
  · exact (regsKept_setF List.mem_cons_self).trans (regsKept_cleanAllCheck _)
  · exact .refl _ s

theorem cleanAll_completes {s : State} {p : Path} (hreach : s.reach p 0x3058 = true) (hlamp : s.lampUp = true) :
    ∃ t, exec (.cleanAll p) s = .next t ∧
      (s.service = true → s.mode = .run → t.getF Reg.LG_STATUS_CLEAN_ALL = (if s.cover.nDirty = 0 then 0 else 1)) ∧
      (s.service = false → t.getF Reg.LG_STATUS_CLEAN_ALL = s.getF Reg.LG_STATUS_CLEAN_ALL) ∧
      RegsKept [Reg.LG_STATUS_CLEAN_ALL, Reg.DT_SVC_LEFT_S] s t ∧ t = { s with regs := t.regs } := by
  have hmode : (s.wrote p).mode = s.mode := by rw [State.wrote_frame]
  have hdirty : (s.wrote p).cover.nDirty = s.cover.nDirty := by rw [State.wrote_frame]
  refine ⟨_, congrArg Host.Outcome.next (if_pos (by simp [hreach, hlamp])), fun hservice hrun => ?_, fun hservice => ?_, ?_, ?_⟩
  · rw [State.getF_doCleanAll (by rw [State.service_wrote, hservice]) (hmode.trans hrun), hdirty]
  · rw [State.doCleanAll_locked (by rw [State.service_wrote, hservice])]
    exact regsKept_wrote _ (by decide)
  · exact (regsKept_wrote.mono (by simp)).trans ((regsKept_doCleanAll _).mono (by simp))
  · rw [State.doCleanAll_frame, State.wrote_frame]

/-! ### CONTEXT_ARM (R198) -/

/-- A context armed on a page that leaves the reserve. -/
def State.armedOn (s : State) (n loc : Nat) : State :=
  (s.takeLoc loc).setCtx n { Ctx.idle with st := .armed, page := loc, blk := some (locBlock loc) }

theorem State.armCtx_eq {s : State} {n loc : Nat} (hsupply : s.maySupply = true) (hpick : s.pickPage n = some loc) :
    s.armCtx n = some (s.armedOn n loc) := by
  simp [State.armCtx, hsupply, hpick, State.armedOn]

theorem State.ctxOf_armedOn (s : State) (n loc : Nat) :
    (s.armedOn n loc).ctxOf n = { Ctx.idle with st := .armed, page := loc, blk := some (locBlock loc) } := mget_mset_self _ _ _ _

theorem State.wtTry_of_empty {s : State} (h : s.host.stage = none) : s.wtTry = s := by simp [State.wtTry, h]

theorem contextArm_arms {s : State} {n loc : Nat} (hlamp : s.lampUp = true) (hmode : s.mode = .run ∨ s.mode = .restore)
    (hfence : s.bur.fenced = false) (hstage : s.host.stage = none) (hidle : s.idleCtx = some n) (hsupply : s.maySupply = true)
    (hpick : s.pickPage n = some loc) :
    ∃ t, exec .contextArm s = .next t ∧ (t.ctxOf n).st = .armed ∧ (t.ctxOf n).page = loc ∧ t.nand.pErased + 1 = s.nand.pErased ∧
      t.nand.pages = s.nand.pages ∧ t.nand.map = s.nand.map ∧ t = { s with bur := t.bur, nand := t.nand } := by
  have hexec : exec .contextArm s = .next (s.armedOn n loc) := by
    have hgo : (s.lampUp && (s.mode == .run || s.mode == .restore) && !s.bur.fenced) = true := by simp [hlamp, hmode, hfence]
    have hwait : (s.armedOn n loc).wtTry = s.armedOn n loc := State.wtTry_of_empty hstage
    simp only [exec, execContextArm, hgo, if_true, hidle, State.armCtx_eq hsupply hpick, Option.getD_some, hwait]
  have herased : s.nand.pErased ≠ 0 := by
    simp only [State.maySupply, Bool.and_eq_true, bne_iff_ne] at hsupply
    exact hsupply.1
  exact ⟨_, hexec, by rw [State.ctxOf_armedOn], by rw [State.ctxOf_armedOn], Nat.succ_pred herased, rfl, rfl, rfl⟩

/-- Settles O32. A trickle step's own work shows in three registers; a visit ages one entry; a copy settles its own entry and page; the other
commands set their own fields or arm one context. -/
theorem trickleWorks : Obligations.TrickleWorks :=
  ⟨fun _ => trickleMode_completes, fun _ _ => sweepVisit_ages, fun _ _ => copyMapped_maps, fun _ _ => copyMapped_fails,
    fun _ e => calSample_completes e, fun _ _ hreach hlamp => ⟨stopCleanAll_completes hreach hlamp, cleanAll_completes hreach hlamp⟩,
    fun _ _ _ => contextArm_arms⟩

end Sys2Proof.Machine

/-! SUPPORT. Proofs of the statements of the modes family. -/

namespace Sys2Proof.Machine

/-! ### The canonical form of the cache DRAM under every command (R67)

The laws of `Laws/` say of each operation either that it leaves the DRAM's bytes alone (`_kept`) or that it stores and keeps their form (`_wf`).
What is left to say is how a command puts its operations together. -/

/-- The next state of an outcome, if it has one, holds the cache DRAM in canonical form. -/
def DramFormed (o : Host.Outcome State Fault Refusal) : Prop := ∀ t, o = .next t → Memory.wf t.dram.cells = true

theorem DramFormed.next {t : State} (ht : Memory.wf t.dram.cells = true) : DramFormed (.next t) := by
  rintro _ ⟨⟩
  exact ht

/-- A command that acts when its condition holds. -/
theorem DramFormed.gate {s t : State} {p : Prop} [Decidable p] (hs : Memory.wf s.dram.cells = true) (ht : Memory.wf t.dram.cells = true) :
    DramFormed (.next (if p then t else s)) := by
  split
  exacts [.next ht, .next hs]

/-- A command that does nothing when its condition holds. -/
theorem DramFormed.unless {s t : State} {p : Prop} [Decidable p] (hs : Memory.wf s.dram.cells = true) (ht : Memory.wf t.dram.cells = true) :
    DramFormed (.next (if p then s else t)) := by
  split
  exacts [.next hs, .next ht]

@[simp] theorem wf_ite (p : Prop) [Decidable p] (a b : State) :
    Memory.wf (if p then a else b).dram.cells = if p then Memory.wf a.dram.cells else Memory.wf b.dram.cells :=
  apply_ite (fun s : State => Memory.wf s.dram.cells) p a b

theorem wf_ite_of {p : Prop} [Decidable p] {a b : State} (ha : Memory.wf a.dram.cells = true) (hb : Memory.wf b.dram.cells = true) :
    Memory.wf (if p then a else b).dram.cells = true := by
  rw [wf_ite, ha, hb, ite_self]

theorem State.mboxRun_wf {s : State} {op : Nat} {f : State → State} (hs : Memory.wf s.dram.cells = true)
    (hf : ∀ a : State, Memory.wf a.dram.cells = true → Memory.wf (f a).dram.cells = true) : Memory.wf (s.mboxRun op f).dram.cells = true := by
  unfold State.mboxRun
  split
  · exact hs
  · split
    · simpa using hs
    · exact hf _ (by simpa using hs)

/-- A mailbox command keeps the form when its answer does. -/
theorem DramFormed.mbox {s : State} {op : Nat} {f : State → State} (hs : Memory.wf s.dram.cells = true)
    (hf : ∀ a : State, Memory.wf a.dram.cells = true → Memory.wf (f a).dram.cells = true) : DramFormed (.next (s.mboxRun op f)) :=
  .next (State.mboxRun_wf hs hf)

@[simp] theorem State.onBit_wf {s : State} {v bit : Nat} {f : State → State} (hf : ∀ a : State, Memory.wf a.dram.cells = true →
    Memory.wf (f a).dram.cells = true) (hs : Memory.wf s.dram.cells = true) : Memory.wf (s.onBit v bit f).dram.cells = true := by
  unfold State.onBit
  split
  exacts [hf _ hs, hs]

/-- Of the action registers only the rearm of a critical rail can reach the DRAM. -/
theorem State.writeAct_wf {s : State} (p : Path) (off v : Nat) (hs : Memory.wf s.dram.cells = true) :
    Memory.wf (s.writeAct p off v).dram.cells = true := by
  have hwake (a : State) (ha : Memory.wf a.dram.cells = true) : Memory.wf (if p = .spmi then a.wakeAct 2 else a).dram.cells = true :=
    wf_ite_of (by simpa using ha) ha
  have hrearm (n : Nat) (a : State) (ha : Memory.wf a.dram.cells = true) : Memory.wf (a.doRearm n).dram.cells = true := State.doRearm_wf a n ha
  simp only [State.writeAct, wf_ite]
  simp [hs, State.onBit_wf hwake, State.onBit_wf (hrearm _)]

theorem State.wordWrite_wf {s : State} (p : Path) (off v : Nat) (hs : Memory.wf s.dram.cells = true) :
    Memory.wf (s.wordWrite p off v).dram.cells = true := by
  unfold State.wordWrite
  split
  · exact hs
  · split
    · simpa using hs
    · exact State.writeAct_wf p off v (by simpa using hs)

section
variable {s : State} (hs : Memory.wf s.dram.cells = true)
include hs

/-! Commands whose effect hangs on what they find in the state: one lemma each. -/

theorem execCwaitPass_formed : DramFormed (execCwaitPass s) := by
  refine .next ?_
  split
  · split
    · exact hs
    · split
      · next htake => simp [(State.ledgerTake_kept htake).2.2, hs]
      · exact hs
  · exact hs

theorem execDrsCommit_formed (tag : Nat) : DramFormed (execDrsCommit tag s) := by
  refine .next ?_
  split
  · split
    · exact hs
    · split <;> exact hs
  · exact hs

theorem execUnsupportedCommand_formed (opcode : Nat) : DramFormed (execUnsupportedCommand opcode s) :=
  .unless hs (State.mboxRun_wf hs fun a ha => by simp [ha])

theorem execVxJournalRead_formed (start count reserved : Nat) : DramFormed (execVxJournalRead start count reserved s) :=
  .mbox hs fun a ha => by
    split
    · simp [ha]
    · dsimp only
      split <;> simp [ha]

/-- The drain lands every waiting line: the DRAM then holds its image. -/
theorem execDrainDone_formed : DramFormed (execDrainDone s) :=
  .gate hs (by simp [State.image_wf s hs, State.takeHold, State.mirrorLost])

theorem execBurrowSweepVisit_formed (faultWord : Option Nat) (mirrorUe cacheFault : Bool) :
    DramFormed (execBurrowSweepVisit faultWord mirrorUe s cacheFault) := by
  refine .gate hs ?_
  dsimp only
  split <;> simp [hs]

theorem execProgramStatus_formed (n : Nat) (pass : Bool) : DramFormed (execProgramStatus n pass s) := by
  refine .unless hs ?_
  dsimp only
  split
  · simp [hs]
  · split
    · split <;> simp [hs]
    · simp [hs]

theorem execP3End_formed (fails : List Nat) : DramFormed (execP3End s fails) := by
  refine .gate hs ?_
  dsimp only
  split
  · next hput => simp [(State.putManifest_kept _ _ _ _ _ _ _ _ _ hput).2.2, hs]
  · exact hs

theorem execP3Timeout_formed (landed : Nat) : DramFormed (execP3Timeout s landed) := by
  refine .gate hs ?_
  dsimp only
  split
  · next hput => simp [(State.putManifest_kept _ _ _ _ _ _ _ _ _ hput).2.2, hs]
  · simp [hs]

theorem execDaymarkRead_formed (copy0 copy1 : Option DmkCopy) (sfdp x4 : Bool) : DramFormed (execDaymarkRead copy0 copy1 sfdp x4 s) := by
  refine .gate hs ?_
  dsimp only
  split <;> simp [hs]

theorem execRestoreDecision_formed : DramFormed (execRestoreDecision s) := by
  have hprep : Memory.wf s.prepare.dram.cells = true := State.prepare_wf s hs
  refine .next ?_
  split
  · dsimp only
    split
    · simp [hprep]
    · split <;> simp [hprep]
  · simp [hs]

theorem execContextArm_formed : DramFormed (execContextArm s) := by
  refine .gate hs ?_
  simp only [State.wtTry_kept]
  split
  · next n _ =>
    cases harm : s.armCtx n with
    | none => exact hs
    | some t => simp [State.armCtx_kept harm, hs]
  · exact hs

theorem execRelocate_formed (rd : NandRead) : DramFormed (execRelocate s rd) := by
  refine .gate hs ?_
  dsimp only
  split
  · split <;> simp [hs]
  · simp [hs]

/-- Faults are marked and latched first, and each is then acted on. -/
theorem execRailFault_formed (n : Nat) (kind : FaultKind) (also : List (Nat × FaultKind)) (level : Option Nat) :
    DramFormed (execRailFault n kind s also level) :=
  .unless hs (foldl_wf _ _ (fun a x ha => State.oneFault_wf a _ x.1 x.2 ha) _ (foldl_wf _ _ (fun a x ha => by simp [ha]) _ hs))

theorem execSequencerTick_formed : DramFormed (execSequencerTick s) := by
  refine .next ?_
  dsimp only
  split
  · simp [hs]
  · have hrise (l : List Nat) (a : State) := foldl_wf (fun a n => a.riseEnt n) l (fun b n hb => State.riseEnt_wf b n hb) a
    simp [hrise, hs]

theorem execSpmiStatusRead_formed (m lastSeq result pg : Nat) (parityErr : Bool) (flags : Nat) :
    DramFormed (execSpmiStatusRead m lastSeq result pg parityErr s flags) := by
  refine .unless hs ?_
  dsimp only
  split
  · simp [hs]
  · split
    · simp [hs]
    · split <;> simp [hs]

theorem execControlTick_formed (own : InputMsg) : DramFormed (execControlTick own s) := by
  refine .unless hs ?_
  dsimp only
  split <;> simp [hs]

theorem execRegisterWrite_formed (p : Path) (off size : Nat) (value : BitVec 64) (long : Bool) :
    DramFormed (execRegisterWrite p off size value s long) := by
  have hnarrow : Memory.wf (s.narrowWrite p off).dram.cells = true := by simp [hs]
  exact .next (wf_ite_of hnarrow (wf_ite_of (State.wordWrite_wf p off _ hs)
    (wf_ite_of (State.wordWrite_wf p _ _ (State.wordWrite_wf p off _ hs)) hnarrow)))

/-- Every command keeps the canonical form: a gate before operations that keep it, a mailbox answer, or a lemma above. -/
theorem exec_formed : (c : Instr) → DramFormed (exec c s)
  -- host link (03, 01)
  | .memWr .. | .memWrPtl .. | .memRd .. | .linkUp .. => .gate hs (by simp [hs])
  | .cwaitPass => execCwaitPass_formed hs
  | .cwaitExpiry | .writeThroughDone .. | .ndrCommit => .next (by split <;> simp [hs])
  | .drsCommit tag => execDrsCommit_formed hs tag
  | .gpfPhase1 | .gpfPhase2 | .perstNAssert | .perstNRelease => .next (by simp [hs])
  -- mailbox (03)
  | .identifyMemoryDevice | .getShutdownState | .setShutdownState .. | .getHealthInfo | .getAlertConfiguration | .setAlertConfiguration ..
    | .getEventRecords .. | .clearEventRecords .. | .getEventInterruptPolicy | .setEventInterruptPolicy .. | .getLsa .. | .setLsa ..
    | .getPoisonList .. | .injectPoison .. | .clearPoison .. | .getTimestamp | .setTimestamp .. | .setPartitionInfo | .sanitize ..
    | .vxAuthChallenge .. | .vxHostBurrow .. | .vxCoverStatus | .twinSwitchOver .. | .forcedPromotion .. | .serviceModeEnter ..
    | .serviceModeLeave .. => .mbox hs fun a ha => by simp [ha]
  | .sanitizeComplete | .authRefusalEnd | .serviceTimeout => .gate hs (by simp [hs])
  | .unsupportedCommand opcode => execUnsupportedCommand_formed hs opcode
  | .vxAuthResponse .. => .mbox hs fun a ha => by split <;> simp [ha]
  | .vxJournalRead start count reserved => execVxJournalRead_formed hs start count reserved
  | .ticketExpiry | .challengeExpiry => .next hs
  -- resets and the lamp-die reset (00, 02)
  | .por .. => .next (by simp [hs])
  | .krst .. | .vkeepGood .. | .drainTimeout | .writePathOpen => .gate hs (by simp [hs])
  | .lrstRequest => .next (by split <;> simp [hs])
  | .drainDone => execDrainDone_formed hs
  | .lampRelease .. => .gate hs (by split <;> simp [hs])
  -- mode controller (02)
  | .wakeReq .. | .latchClr .. | .serviceNHold | .vinCmpMismatch | .predictorFire | .pfwNFire | .bridgeClose | .bridgeExpiry =>
    .gate hs (by simp [hs])
  | .vinComparatorFire .. | .vinCmpRelease .. => .unless hs (by simp [hs])
  -- burrow (06)
  | .fence | .shedStep .. | .p1End | .p1Late | .programConfirm .. | .lunNotReady .. | .p2End | .p2Timeout | .journalCommit | .p4Timeout
    | .abandonRecordWritten | .abandonUpDone | .thermalLockoutScan .. | .denRebase => .gate hs (by simp [hs])
  | .burrowSweepVisit faultWord mirrorUe cacheFault => execBurrowSweepVisit_formed hs faultWord mirrorUe cacheFault
  | .programStatus n pass => execProgramStatus_formed hs n pass
  | .p3End fails => execP3End_formed hs fails
  | .p3Timeout landed => execP3Timeout_formed hs landed
  | .vinReturnDebounced => .unless hs (by split <;> simp [hs])
  | .abandonWindowExpiry => .next hs
  | .hwCut .. => .unless hs (by simp [hs])
  -- wake and restore (08, 16)
  | .daymarkRead copy0 copy1 sfdp x4 => execDaymarkRead_formed hs copy0 copy1 sfdp x4
  | .dramTrainingDone .. | .nandScanDone .. | .manifestLoad .. | .granuleFetchDone .. | .verifyGranule .. | .restoreComplete .. =>
    .gate hs (by simp [hs])
  | .restoreDecision => execRestoreDecision_formed hs
  -- cover and trickle (04)
  | .rebase | .rebaseNow .. | .coverStale | .ledgerScrub .. | .doubtWriterDone | .trickleMode | .sweepVisit | .copyMapped .. | .calSample ..
    | .cleanAll .. | .stopCleanAll .. => .gate hs (by simp [hs])
  | .coverStaleError => .next (by simp [hs])
  | .mirrorWrite .. => .next hs
  | .contextArm => execContextArm_formed hs
  -- DRAM controller (05)
  | .schedule .. | .refresh .. | .retrainPause .. | .caParityAlert .. | .selfRefreshEntry .. | .selfRefreshExit .. => .gate hs (by simp [hs])
  | .dramReadDone .. => .next (by simp [hs])
  | .patrolScrub .. => .next (by split <;> simp [hs])
  -- NAND back end (07)
  | .eraseDone .. | .eraseTimeout .. | .nandPatrol .. | .checkpointStart => .gate hs (by simp [hs])
  | .relocate rd => execRelocate_formed hs rd
  | .checkpointCommit => .next (by split <;> simp [hs])
  -- store and power path (09, 10)
  | .infetClose .. => .next (by simp [hs])
  | .infetOpen .. => .unless hs (by split <;> simp [hs])
  | .infetReclose | .infetRst .. | .storeTakeover .. | .storeRelease .. | .storeFailed .. | .storePresent | .storeRetry .. | .chargeTerminate
    | .rechargeStart | .safetyTimerExpiry | .tmrClr .. | .auditStart | .auditNow .. | .auditDone .. | .auditDerate | .accOvercurrent | .accRetry
    | .peerChargeStop | .vsysRestore => .gate hs (by simp [hs])
  | .inputCurrentLimit => .next hs
  | .storeAbsent .. | .zoneChange .. | .vsysLoss => .unless hs (by simp [hs])
  -- supervision (10)
  | .railFault n kind also level => execRailFault_formed hs n kind also level
  | .adcScan .. | .w1cWrite .. => .unless hs (by simp [hs])
  | .adcOnDemand .. | .rearm .. | .clrFirst .. => .gate hs (by simp [hs])
  -- sequencer and SPMI (11)
  | .sequencerTick => execSequencerTick_formed hs
  | .entryPowerGood .. | .entryUpTimeout .. | .entryRetry .. | .entryOff .. | .entryDownTimeout .. | .slvRescan .. | .spmiWakeup .. | .spmiSleep
    | .spmiIdleOff => .gate hs (by simp [hs])
  | .spmiCommandSend | .spmiAckTimeout .. => .next (by split <;> simp [hs])
  | .spmiStatusRead m lastSeq result pg parityErr flags => execSpmiStatusRead_formed hs m lastSeq result pg parityErr flags
  | .pgPoll .. => .unless hs (by simp [hs])
  | .spmiIgnoredCommand => .next hs
  -- thermal and budget (12)
  | .thermalSweep .. | .levelChange => .unless hs (by simp [hs])
  | .senRetry .. => .gate hs (by simp [hs])
  | .arbiterTick .. => .next (by simp [hs])
  -- twin (13)
  | .hello .. | .cumulativeAck .. | .heartbeat .. | .bellAlive | .fenceFrame .. | .rsyBegin .. | .rsyEnd .. => .unless hs (by simp [hs])
  | .mirror .. | .bellSilent => .next (by simp [hs])
  | .nak .. | .retrain | .mooringLinkDown | .pairTimeout | .input .. | .decision .. | .selfTestDone .. | .fenceWaitExpiry | .graceExpiry
    | .rsyFull .. => .gate hs (by simp [hs])
  | .controlTick own => execControlTick_formed hs own
  | .ctrl .. | .rsyData .. => .unless hs (by split <;> simp [hs])
  -- keeper flash (14)
  | .efKey .. | .read .. | .program .. | .erase .. | .suspend .. | .resume .. | .otpRead .. | .otpProg .. | .clear .. | .eraseResume =>
    .gate hs (by simp [hs])
  | .unlockExpiry .. => .next (by simp [hs])
  | .wordProgramDone .. | .sectorEraseDone .. | .journalRecordWrite => .next (by split <;> simp [hs])
  -- event recorder (15)
  | .eventRaise .. | .freeze .. | .thaw .. | .freezeExpiry | .evClear .. | .evRdsel .. => .gate hs (by simp [hs])
  | .eventMove | .recordClose | .clearComplete => .next (by split <;> simp [hs])
  | .archiveWrite => .unless hs (by split <;> simp [hs])
  -- register window (00, 04, 16, 18)
  | .rcRead .. | .captureRead .. => .next (by simp [hs])
  | .fitBlWrite .. | .populationWrite .. => .gate hs (State.wordWrite_wf _ _ _ hs)
  | .registerWrite path off size value long => execRegisterWrite_formed hs path off size value long
  | .hostLinkDown | .mooringLinkUp .. | .abandonLinkWaitExpiry => .gate hs (by simp [hs])
  | .aonPowerLoss => .unless hs (by simp [hs])

end

/-- Settles O3. An idle step leaves the DRAM alone; any other is the front command's. -/
theorem stepKeepsDramForm : Obligations.StepKeepsDramForm := by
  intro s t hs hstep
  unfold step at hstep
  split at hstep
  · cases hstep
    simpa [State.dramWf] using hs
  · next c rest _ => exact exec_formed (s := { s with pending := rest }) hs c t hstep

/-! ### An idle step (log entry 2) -/

/-- A unit at reset whose link-state register shows a training state, though PERST_N is low. -/
def staleTraining : State := State.reset.setF Reg.HL_STATUS_LTSSM 5

theorem staleTraining_ltssmNow : staleTraining.ltssmNow = 0 := by
  have hset : staleTraining.ltssmSet = [0] := by decide
  simp [State.ltssmNow, hset, Nat.mod_one]

/-- Refutes O1: an idle millisecond also moves HL_STATUS.LTSSM (R544), which the statement's frame keeps. -/
theorem not_stepRunsFront : ¬ Obligations.StepRunsFront := by
  rintro ⟨-, hidle⟩
  obtain ⟨t, ht, -, -, -, -, -, -, -, -, hregs⟩ := hidle staleTraining rfl
  cases ht
  have hkept : staleTraining.idleTick.getF Reg.HL_STATUS_LTSSM = 5 := hregs Reg.HL_STATUS_LTSSM (by decide)
  have hmoved : staleTraining.idleTick.getF Reg.HL_STATUS_LTSSM = staleTraining.ltssmNow % 256 :=
    (State.getF_setFs_cons _ _ _ _ _).trans
      (State.getF_setFs_head _ _ _ _ [Reg.EV_STATUS_FRZ_MS, Reg.DT_SVC_LEFT_S] (by simp) (by decide))
  rw [hmoved, staleTraining_ltssmNow] at hkept
  cases hkept

/-! ### A trigger in RUN (R49, R54, R61) -/

/-- The fields that a trigger in RUN moves, beside those of an event. -/
def triggerFlds : List Fld :=
  [Reg.MD_CAUSE_CAUSES, Reg.MD_STATUS_BRIDGE, Reg.MD_STATUS_NOABANDON, Reg.MD_CAUSE_BURROW_COUNT, Reg.ES_STATUS_AUDIT_BUSY, Reg.ES_AUDIT2_RESULT]

/-- The fields of a store audit that its abort moves (R315). -/
def auditFlds : List Fld := [Reg.ES_STATUS_AUDIT_BUSY, Reg.ES_AUDIT2_RESULT]

theorem regsKept_abortAudit (s : State) : RegsKept auditFlds s s.abortAudit := regsKept_setFs (s := s) (by simp [auditFlds])

theorem State.getF_abortAudit_busy (s : State) : s.abortAudit.getF Reg.ES_STATUS_AUDIT_BUSY = 0 :=
  State.getF_setFs_head s _ _ _ [Reg.ES_AUDIT2_RESULT] (by simp) (by decide)

theorem regsKept_raiseIf {s : State} {b : Bool} {src : EvSource} {cls : Nat} {sev : Sev} {param : Nat} :
    RegsKept evFlds s (s.raiseIf b src cls sev param) := by
  cases b
  · exact .refl _ _
  · exact regsKept_raise

theorem State.abortAudit_raise_frame (s : State) (a : List (Fld × Nat)) (param : Nat) :
    (s.setFs a).abortAudit.raise .keeper 0x02 .info param = { s with
      ev := ((s.setFs a).abortAudit.raise .keeper 0x02 .info param).ev
      regs := ((s.setFs a).abortAudit.raise .keeper 0x02 .info param).regs
      store := (s.setFs a).abortAudit.store } := rfl

theorem State.abortAudit_raiseIf_frame (s : State) (a : List (Fld × Nat)) (b : Bool) (param : Nat) :
    (s.setFs a).abortAudit.raiseIf b .keeper 0x02 .info param = { s with
      ev := ((s.setFs a).abortAudit.raiseIf b .keeper 0x02 .info param).ev
      regs := ((s.setFs a).abortAudit.raiseIf b .keeper 0x02 .info param).regs
      store := ((s.setFs a).abortAudit.raiseIf b .keeper 0x02 .info param).store } := by
  cases b <;> rfl

/-- The assignments of a burrow's start. -/
def State.startSets (s : State) (c : Cause) : List (Fld × Nat) :=
  [(Reg.MD_CAUSE_CAUSES, (if s.getB Reg.MD_STATUS_BRIDGE then s.causes else 0) ||| 2 ^ c.bit), (Reg.MD_STATUS_BRIDGE, 0),
    (Reg.MD_CAUSE_BURROW_COUNT, min 0xFFFF (s.getF Reg.MD_CAUSE_BURROW_COUNT + 1)),
    (Reg.MD_STATUS_NOABANDON, b2n (!c.abandonable || s.getB Reg.MD_ABANDON_FORCE_NEXT))]

theorem State.startBurrow_regs (s : State) (c : Cause) : (s.startBurrow c).regs =
    ((s.setFs (s.startSets c)).abortAudit.raiseIf (s.getB Reg.MD_STATUS_BRIDGE) .keeper 0x02 .info 0).regs := rfl

theorem State.getF_startBurrow (s : State) (c : Cause) {g : Fld} (h : ∀ f ∈ auditFlds ++ evFlds, g.key ≠ f.key) :
    (s.startBurrow c).getF g = (s.setFs (s.startSets c)).getF g := by
  rw [RegsKept.of_regs (l := []) (s.startBurrow_regs c) g (by simp), regsKept_raiseIf g fun f hf => h f (List.mem_append_right _ hf),
    regsKept_abortAudit _ g fun f hf => h f (List.mem_append_left _ hf)]

theorem State.getF_startBurrow_busy (s : State) (c : Cause) : (s.startBurrow c).getF Reg.ES_STATUS_AUDIT_BUSY = 0 := by
  rw [RegsKept.of_regs (l := []) (s.startBurrow_regs c) _ (by simp), regsKept_raiseIf _ (by decide), State.getF_abortAudit_busy]

/-- What the start of a burrow shows in its registers. -/
theorem State.startBurrow_shows (s : State) (c : Cause) :
    (s.startBurrow c).getF Reg.MD_CAUSE_CAUSES = ((if s.getB Reg.MD_STATUS_BRIDGE then s.causes else 0) ||| 2 ^ c.bit) % 1024 ∧
      (s.startBurrow c).getF Reg.MD_STATUS_BRIDGE = 0 ∧
      (s.startBurrow c).getF Reg.MD_CAUSE_BURROW_COUNT = min 0xFFFF (s.getF Reg.MD_CAUSE_BURROW_COUNT + 1) ∧
      (s.startBurrow c).getF Reg.MD_STATUS_NOABANDON = b2n (!c.abandonable || s.getB Reg.MD_ABANDON_FORCE_NEXT) := by
  have hcount : min 0xFFFF (s.getF Reg.MD_CAUSE_BURROW_COUNT + 1) % 2 ^ 16 = min 0xFFFF (s.getF Reg.MD_CAUSE_BURROW_COUNT + 1) :=
    Nat.mod_eq_of_lt (by omega)
  have hbit (b : Bool) : b2n b % 2 ^ 1 = b2n b := by cases b <;> rfl
  refine ⟨?_, ?_, ?_, ?_⟩ <;> rw [State.getF_startBurrow _ _ (by decide)]
  · exact State.getF_setFs_head _ _ _ _ [Reg.MD_STATUS_BRIDGE, Reg.MD_CAUSE_BURROW_COUNT, Reg.MD_STATUS_NOABANDON] (by simp) (by decide)
  · exact State.getF_setFs_head (s.setF Reg.MD_CAUSE_CAUSES _) _ _ _ [Reg.MD_CAUSE_BURROW_COUNT, Reg.MD_STATUS_NOABANDON] (by simp) (by decide)
  · exact (State.getF_setFs_head ((s.setF Reg.MD_CAUSE_CAUSES _).setF Reg.MD_STATUS_BRIDGE 0) _ _ _ [Reg.MD_STATUS_NOABANDON] (by simp)
      (by decide)).trans hcount
  · exact (State.getF_setF_self (s.setFs ((s.startSets c).take 3)) _ _).trans (hbit _)

theorem regsKept_startBurrow_closed {s : State} (h : s.getB Reg.MD_STATUS_BRIDGE = false) (c : Cause) :
    RegsKept triggerFlds s (s.startBurrow c) := by
  have hregs : (s.startBurrow c).regs = (s.setFs (s.startSets c)).abortAudit.regs := by rw [State.startBurrow_regs, h]; rfl
  have hsets : RegsKept triggerFlds s (s.setFs (s.startSets c)) := regsKept_setFs (by simp [State.startSets, triggerFlds])
  exact (hsets.trans ((regsKept_abortAudit _).mono (by simp [auditFlds, triggerFlds]))).trans (.of_regs hregs)

theorem regsKept_startBurrow (s : State) (c : Cause) : RegsKept (triggerFlds ++ evFlds) s (s.startBurrow c) := fun g hg => by
  have hsub : auditFlds ++ evFlds ⊆ triggerFlds ++ evFlds := by simp [auditFlds, triggerFlds, evFlds]
  rw [State.getF_startBurrow _ _ fun f hf => hg f (hsub hf),
    regsKept_setFs (l := triggerFlds) (by simp [State.startSets, triggerFlds]) g fun f hf => hg f (List.mem_append_left _ hf)]

theorem State.startBurrow_frame (s : State) (c : Cause) : s.startBurrow c = { s with
    bur := { s.bur with trig := true }, ev := (s.startBurrow c).ev, regs := (s.startBurrow c).regs, store := (s.startBurrow c).store } := by
  simp only [State.startBurrow]
  rw [State.abortAudit_raiseIf_frame]

theorem State.startBurrow_ev {s : State} (h : s.getB Reg.MD_STATUS_BRIDGE = false) (c : Cause) : (s.startBurrow c).ev = s.ev := by
  simp only [State.startBurrow, State.raiseIf, h]
  rfl

theorem State.openBridge_regs (s : State) (c : Cause) : (s.openBridge c).regs =
    ((s.setFs [(Reg.MD_CAUSE_CAUSES, 2 ^ c.bit), (Reg.MD_STATUS_BRIDGE, 1)]).abortAudit.raise .keeper 0x02 .info 1).regs := rfl

theorem State.getF_openBridge (s : State) (c : Cause) {g : Fld} (h : ∀ f ∈ auditFlds ++ evFlds, g.key ≠ f.key) :
    (s.openBridge c).getF g = (s.setFs [(Reg.MD_CAUSE_CAUSES, 2 ^ c.bit), (Reg.MD_STATUS_BRIDGE, 1)]).getF g := by
  rw [RegsKept.of_regs (l := []) (s.openBridge_regs c) g (by simp), regsKept_raise g fun f hf => h f (List.mem_append_right _ hf),
    regsKept_abortAudit _ g fun f hf => h f (List.mem_append_left _ hf)]

theorem State.getF_openBridge_busy (s : State) (c : Cause) : (s.openBridge c).getF Reg.ES_STATUS_AUDIT_BUSY = 0 := by
  rw [RegsKept.of_regs (l := []) (s.openBridge_regs c) _ (by simp), regsKept_raise _ (by decide), State.getF_abortAudit_busy]

theorem State.openBridge_shows (s : State) (c : Cause) :
    (s.openBridge c).getF Reg.MD_CAUSE_CAUSES = 2 ^ c.bit % 1024 ∧ (s.openBridge c).getF Reg.MD_STATUS_BRIDGE = 1 := by
  constructor <;> rw [State.getF_openBridge _ _ (by decide)]
  · exact State.getF_setFs_head _ _ _ _ [Reg.MD_STATUS_BRIDGE] (by simp) (by decide)
  · exact State.getF_setF_self (s.setF Reg.MD_CAUSE_CAUSES _) _ _

theorem regsKept_openBridge (s : State) (c : Cause) :
    RegsKept ([Reg.MD_CAUSE_CAUSES, Reg.MD_STATUS_BRIDGE] ++ (auditFlds ++ evFlds)) s (s.openBridge c) := fun g hg => by
  rw [State.getF_openBridge _ _ fun f hf => hg f (List.mem_append_right _ hf),
    regsKept_setFs (l := [Reg.MD_CAUSE_CAUSES, Reg.MD_STATUS_BRIDGE]) (by simp) g fun f hf => hg f (List.mem_append_left _ hf)]

theorem State.openBridge_frame (s : State) (c : Cause) : s.openBridge c = { s with
    bur := { s.bur with bridgeAt := s.ms }, ev := (s.openBridge c).ev, regs := (s.openBridge c).regs, store := (s.openBridge c).store } := by
  rw [State.openBridge, State.abortAudit_raise_frame]

/-- A trigger in RUN, with no burrow started and no LRST in progress, opens the bridge window or starts the burrow. -/
theorem State.trigger_run {s : State} (hrun : s.mode = .run) (hlrst : s.getB Reg.MD_STATUS_LRST_ACT = false) (htrig : s.bur.trig = false)
    (c : Cause) : s.trigger c = if c.bridgeable ∧ 0 < s.bridgeMs then (if s.getB Reg.MD_STATUS_BRIDGE then s.addCause c else s.openBridge c)
      else s.startBurrow c := by
  simp [State.trigger, hrun, hlrst, htrig]

/-- The comparators' outputs and VIN's return (R49, R339). -/
def vinFlds : List Fld := [Reg.PS_STATUS_CMP_A, Reg.PS_STATUS_CMP_B, Reg.PS_STATUS_VIN_RET]

/-- `u` is `s` but for the comparators, VIN's return, the input pins and the supervisor's record of them. -/
def VinMoved (s u : State) : Prop :=
  u = { s with regs := u.regs, rail := u.rail, pins := u.pins } ∧ RegsKept vinFlds s u

/-- VIN's comparator has fired: VIN is no longer back (R49, R339). -/
def State.vinFired (s : State) (b : Bool) : State :=
  ({ s with rail := { s.rail with rose := false, back := false } } : State).setFs
    [(if b then Reg.PS_STATUS_CMP_B else Reg.PS_STATUS_CMP_A, 1), (Reg.PS_STATUS_VIN_RET, 0)]

theorem exec_vinComparatorFire {s : State} {b : Bool} (hrun : s.mode = .run)
    (hquiet : s.getB (if b then Reg.PS_STATUS_CMP_B else Reg.PS_STATUS_CMP_A) = false) :
    exec (.vinComparatorFire b) s = .next ((s.vinFired b).trigger (if b then .vinB else .vinA)) := by
  have hgone : (s.vinFired b).vinGone = s.vinFired b := by
    rw [State.vinGone, show (s.vinFired b).mode = .run from hrun]
  refine congrArg Host.Outcome.next ((if_neg (by simp [hquiet])).trans ?_)
  exact congrArg (State.trigger · _) hgone

theorem vinMoved_vinFired (s : State) (b : Bool) : VinMoved s (s.vinFired b) :=
  ⟨rfl, regsKept_setFs (s := { s with rail := { s.rail with rose := false, back := false } }) (by cases b <;> simp [vinFlds])⟩

theorem State.vinFired_shows (s : State) (b : Bool) :
    (s.vinFired b).getF (if b then Reg.PS_STATUS_CMP_B else Reg.PS_STATUS_CMP_A) = 1 ∧ (s.vinFired b).getF Reg.PS_STATUS_VIN_RET = 0 := by
  constructor
  · cases b
    · exact State.getF_setFs_head _ Reg.PS_STATUS_CMP_A _ _ [Reg.PS_STATUS_VIN_RET] (by simp) (by decide)
    · exact State.getF_setFs_head _ Reg.PS_STATUS_CMP_B _ _ [Reg.PS_STATUS_VIN_RET] (by simp) (by decide)
  · exact State.getF_setF_self (({ s with rail := { s.rail with rose := false, back := false } } : State).setF _ _) _ _

/-- A bridgeable source, with what its own command records, has triggered. -/
theorem exec_bridgeable_source {s : State} {c : Instr} {k : Cause} (hrun : s.mode = .run)
    (hc : (c = .predictorFire ∧ s.getB Reg.MD_CFG_PRED_EN = true ∧ k = .pred) ∨
      (c = .pfwNFire ∧ s.getB Reg.MD_CFG_PFW_EN = true ∧ s.rail.vioOk = true ∧ k = .pfw) ∨
      (c = .vinComparatorFire false ∧ s.getB Reg.PS_STATUS_CMP_A = false ∧ k = .vinA) ∨
      (c = .vinComparatorFire true ∧ s.getB Reg.PS_STATUS_CMP_B = false ∧ k = .vinB)) :
    k.bridgeable = true ∧ ∃ u, exec c s = .next (u.trigger k) ∧ VinMoved s u ∧ (k = .vinA → u.getF Reg.PS_STATUS_CMP_A = 1) ∧
      (k = .vinB → u.getF Reg.PS_STATUS_CMP_B = 1) ∧ (k = .vinA ∨ k = .vinB → u.getF Reg.PS_STATUS_VIN_RET = 0) ∧
      (k = .pfw → u.pins.pfwN = false) := by
  obtain ⟨rfl, hen, rfl⟩ | ⟨rfl, hen, hvio, rfl⟩ | ⟨rfl, hquiet, rfl⟩ | ⟨rfl, hquiet, rfl⟩ := hc
  · exact ⟨rfl, s, congrArg Host.Outcome.next (if_pos hen), ⟨rfl, .refl _ _⟩, by simp, by simp, by simp, by simp⟩
  · exact ⟨rfl, { s with pins := { s.pins with pfwN := false } }, congrArg Host.Outcome.next (if_pos (by simp [hen, hvio])),
      ⟨rfl, .of_regs rfl⟩, by simp, by simp, by simp, fun _ => rfl⟩
  · obtain ⟨hcmp, hvin⟩ := s.vinFired_shows false
    exact ⟨rfl, s.vinFired false, exec_vinComparatorFire hrun hquiet, vinMoved_vinFired s false, fun _ => hcmp, by simp, fun _ => hvin, by simp⟩
  · obtain ⟨hcmp, hvin⟩ := s.vinFired_shows true
    exact ⟨rfl, s.vinFired true, exec_vinComparatorFire hrun hquiet, vinMoved_vinFired s true, by simp, fun _ => hcmp, fun _ => hvin, by simp⟩

theorem two_pow_causeBit_lt (k : Cause) : 2 ^ k.bit < 1024 := by cases k <;> decide

theorem abandonable_of_bridgeable {k : Cause} (h : k.bridgeable = true) : k.abandonable = true := by
  revert h
  cases k <;> decide

section
variable {s u : State} (hu : VinMoved s u)
include hu

theorem VinMoved.getF {g : Fld} (hg : ∀ f ∈ vinFlds, g.key ≠ f.key) : u.getF g = s.getF g :=
  hu.2 g hg

theorem VinMoved.getB {g : Fld} (hg : ∀ f ∈ vinFlds, g.key ≠ f.key) : u.getB g = s.getB g :=
  State.getB_congr (hu.2 g hg)

theorem VinMoved.trigger_run {k : Cause} (hk : k.bridgeable = true) (hrun : s.mode = .run) (hlrst : s.getB Reg.MD_STATUS_LRST_ACT = false)
    (htrig : s.bur.trig = false) (hbridge : s.getB Reg.MD_STATUS_BRIDGE = false) :
    u.trigger k = if 0 < s.getF Reg.MD_CFG_BRIDGE_MS then u.openBridge k else u.startBurrow k := by
  have hms : u.bridgeMs = min 50 (s.getF Reg.MD_CFG_BRIDGE_MS) := congrArg (min 50) (hu.getF (by decide))
  rw [State.trigger_run (by rw [hu.1]; exact hrun) (by rw [hu.getB (by decide), hlrst]) (by rw [hu.1]; exact htrig), hms,
    hu.getB (by decide), hbridge]
  simp [hk]

end

/-- A bridgeable source with no window configured starts a burrow at once; with one it opens the window. -/
theorem bridgeable_source_completes {s : State} {c : Instr} {k : Cause}
    (hc : (c = .predictorFire ∧ s.getB Reg.MD_CFG_PRED_EN = true ∧ k = .pred) ∨
      (c = .pfwNFire ∧ s.getB Reg.MD_CFG_PFW_EN = true ∧ s.rail.vioOk = true ∧ k = .pfw) ∨
      (c = .vinComparatorFire false ∧ s.getB Reg.PS_STATUS_CMP_A = false ∧ k = .vinA) ∨
      (c = .vinComparatorFire true ∧ s.getB Reg.PS_STATUS_CMP_B = false ∧ k = .vinB))
    (hrun : s.mode = .run) (hlrst : s.getB Reg.MD_STATUS_LRST_ACT = false) (htrig : s.bur.trig = false)
    (hbridge : s.getB Reg.MD_STATUS_BRIDGE = false) :
    ∃ t, exec c s = .next t ∧ t.getF Reg.MD_CAUSE_CAUSES = 2 ^ k.bit ∧ t.getF Reg.ES_STATUS_AUDIT_BUSY = 0 ∧
      (s.getF Reg.MD_CFG_BRIDGE_MS = 0 → t.bur = { s.bur with trig := true } ∧ t.getF Reg.MD_STATUS_BRIDGE = 0 ∧
        t.getF Reg.MD_STATUS_NOABANDON = (if s.getB Reg.MD_ABANDON_FORCE_NEXT then 1 else 0) ∧
        t.getF Reg.MD_CAUSE_BURROW_COUNT = min 0xFFFF (s.getF Reg.MD_CAUSE_BURROW_COUNT + 1) ∧ t.ev = s.ev) ∧
      (0 < s.getF Reg.MD_CFG_BRIDGE_MS → t.bur = { s.bur with bridgeAt := s.ms } ∧ t.getF Reg.MD_STATUS_BRIDGE = 1 ∧
        t.getF Reg.MD_STATUS_NOABANDON = s.getF Reg.MD_STATUS_NOABANDON ∧
        t.getF Reg.MD_CAUSE_BURROW_COUNT = s.getF Reg.MD_CAUSE_BURROW_COUNT ∧ t.ev.seq = s.ev.seq + 1) ∧
      (k = .vinA → t.getB Reg.PS_STATUS_CMP_A = true) ∧ (k = .vinB → t.getB Reg.PS_STATUS_CMP_B = true) ∧
      (k = .vinA ∨ k = .vinB → t.getF Reg.PS_STATUS_VIN_RET = 0) ∧ (k = .pfw → t.pins.pfwN = false) ∧
      RegsKept (triggerFlds ++ (vinFlds ++ evFlds)) s t ∧
      t = { s with bur := t.bur, ev := t.ev, regs := t.regs, store := t.store, rail := t.rail, pins := t.pins } := by
  obtain ⟨hk, u, hexec, hu, hcmpA, hcmpB, hvin, hpfw⟩ := exec_bridgeable_source hrun hc
  have hpow : 2 ^ k.bit % 1024 = 2 ^ k.bit := Nat.mod_eq_of_lt (two_pow_causeBit_lt k)
  have hkept {t : State} (h : RegsKept (triggerFlds ++ evFlds) u t) : RegsKept (triggerFlds ++ (vinFlds ++ evFlds)) s t :=
    (hu.2.mono (by simp)).trans (h.mono (by simp))
  have hsees {t : State} (h : RegsKept (triggerFlds ++ evFlds) u t) :
      (k = .vinA → t.getB Reg.PS_STATUS_CMP_A = true) ∧ (k = .vinB → t.getB Reg.PS_STATUS_CMP_B = true) ∧
        (k = .vinA ∨ k = .vinB → t.getF Reg.PS_STATUS_VIN_RET = 0) :=
    ⟨fun e => by rw [State.getB, h _ (by decide), hcmpA e]; rfl, fun e => by rw [State.getB, h _ (by decide), hcmpB e]; rfl,
      fun e => by rw [h _ (by decide), hvin e]⟩
  rw [hu.trigger_run hk hrun hlrst htrig hbridge] at hexec
  have hclosed : u.getB Reg.MD_STATUS_BRIDGE = false := by rw [hu.getB (by decide), hbridge]
  split at hexec
  case isTrue hwindow =>
    obtain ⟨hcauses, hopen⟩ := u.openBridge_shows k
    have hregs := regsKept_openBridge u k
    have htrig := hregs.mono (m := triggerFlds ++ evFlds) (by simp [triggerFlds, auditFlds, evFlds])
    obtain ⟨hA, hB, hV⟩ := hsees htrig
    refine ⟨_, hexec, by rw [hcauses, hpow], u.getF_openBridge_busy k, by omega, fun _ => ⟨?_, hopen, ?_, ?_, ?_⟩, hA, hB, hV, fun e => ?_, hkept htrig, ?_⟩
    · rw [State.openBridge_frame, hu.1]
    · rw [hregs _ (by decide), hu.getF (by decide)]
    · rw [hregs _ (by decide), hu.getF (by decide)]
    · rw [hu.1]; rfl
    · rw [State.openBridge_frame]; exact hpfw e
    · rw [State.openBridge_frame, hu.1]
  case isFalse hnone =>
    obtain ⟨hcauses, hopen, hcount, hno⟩ := u.startBurrow_shows k
    have hregs := regsKept_startBurrow u k
    obtain ⟨hA, hB, hV⟩ := hsees hregs
    refine ⟨_, hexec, ?_, u.getF_startBurrow_busy k, fun _ => ⟨?_, hopen, ?_, ?_, ?_⟩, by omega, hA, hB, hV, fun e => ?_, hkept hregs, ?_⟩
    · rw [hcauses, hclosed]
      simp [hpow]
    · rw [State.startBurrow_frame, hu.1]
    · rw [hno, abandonable_of_bridgeable hk, hu.getB (by decide)]
      rfl
    · rw [hcount, hu.getF (by decide)]
    · rw [State.startBurrow_ev hclosed, hu.1]
    · rw [State.startBurrow_frame]; exact hpfw e
    · rw [State.startBurrow_frame, hu.1]

/-- The window's end is a burrow of its own, whose causes it keeps (R55, R61). -/
theorem bridgeExpiry_completes {s : State} (hbridge : s.getB Reg.MD_STATUS_BRIDGE = true) (hrun : s.mode = .run)
    (hlrst : s.getB Reg.MD_STATUS_LRST_ACT = false) (htrig : s.bur.trig = false) :
    ∃ t, exec .bridgeExpiry s = .next t ∧ t.getF Reg.MD_CAUSE_CAUSES = (s.getF Reg.MD_CAUSE_CAUSES ||| 2 ^ Cause.bridge.bit) % 1024 ∧
      t.bur = { s.bur with trig := true } ∧ t.getF Reg.MD_STATUS_BRIDGE = 0 ∧
      t.getF Reg.MD_STATUS_NOABANDON = (if s.getB Reg.MD_ABANDON_FORCE_NEXT then 1 else 0) ∧
      t.getF Reg.MD_CAUSE_BURROW_COUNT = min 0xFFFF (s.getF Reg.MD_CAUSE_BURROW_COUNT + 1) ∧
      RegsKept (triggerFlds ++ evFlds) s t ∧
      t = { s with bur := t.bur, ev := t.ev, regs := t.regs, store := t.store } := by
  have hexec : exec .bridgeExpiry s = .next (s.startBurrow .bridge) := by
    refine congrArg Host.Outcome.next ((if_pos hbridge).trans ?_)
    rw [State.trigger_run hrun hlrst htrig]
    rfl
  obtain ⟨hcauses, hclosed, hcount, hno⟩ := s.startBurrow_shows .bridge
  refine ⟨_, hexec, ?_, ?_, hclosed, hno, hcount, regsKept_startBurrow s .bridge, ?_⟩
  · rw [hcauses, hbridge]
    rfl
  · rw [State.startBurrow_frame]
  · rw [State.startBurrow_frame]

/-- Settles O19. With VIN's signals recorded, a trigger in RUN opens the window or starts the burrow. -/
theorem triggersInRun : Obligations.TriggersInRun :=
  ⟨fun _ _ _ => bridgeable_source_completes, fun _ => bridgeExpiry_completes⟩

/-! ### VX_HOST_BURROW, BRIDGE_CLOSE and the comparators' release (R50, R51, R54, R120, R339) -/

theorem State.mboxRun_free {s : State} (hlink : s.getB Reg.HL_STATUS_LINK_UP = true) (hfree : s.mboxFree = true) (op : Nat) (f : State → State) :
    s.mboxRun op f = f s.hostTouch := by
  simp [State.mboxRun, hlink, hfree]

theorem State.hostTouch_frame (s : State) : s.hostTouch = { s with regs := s.hostTouch.regs } := s.wrote_frame .cxl

theorem regsKept_hostTouch (s : State) : RegsKept [Reg.DT_SVC_LEFT_S] s s.hostTouch := regsKept_wrote (p := .cxl)

theorem State.mboxEnd_frame (s : State) (op ret : Nat) (out : MOut) : s.mboxEnd op ret out =
    { s with host := { s.host with mbox := ⟨op, ret, out⟩ }, regs := (s.mboxEnd op ret out).regs } := rfl

theorem regsKept_mboxEnd (s : State) (op ret : Nat) (out : MOut) : RegsKept mboxFlds s (s.mboxEnd op ret out) := by
  have hvendor : RegsKept mboxFlds s (s.setFs [(Reg.HL_MBOX_RET_CODE, ret), (Reg.HL_MBOX_OPCODE, op)]) := regsKept_setFs (by simp [mboxFlds])
  refine RegsKept.trans (t := if op / 256 = 0xC0 then s.setFs [(Reg.HL_MBOX_RET_CODE, ret), (Reg.HL_MBOX_OPCODE, op)] else s) ?_ (.of_regs ?_)
  · split
    · exact hvendor
    · exact .refl _ _
  · unfold State.mboxEnd
    split <;> rfl

/-- A mailbox command that ends: the host has been there, and the code and output stand in the mailbox. -/
def State.answered (s : State) (op ret : Nat) (out : MOut) : State := s.hostTouch.mboxEnd op ret out

theorem State.answered_frame (s : State) (op ret : Nat) (out : MOut) : s.answered op ret out =
    { s with host := { s.host with mbox := ⟨op, ret, out⟩ }, regs := (s.answered op ret out).regs } := by
  rw [State.answered, State.mboxEnd_frame, State.hostTouch_frame]

theorem regsKept_answered (s : State) (op ret : Nat) (out : MOut) : RegsKept mboxFlds s (s.answered op ret out) :=
  ((regsKept_hostTouch s).mono (by simp [mboxFlds])).trans (regsKept_mboxEnd _ _ _ _)

theorem vxHostBurrow_refused {s : State} {confirm target reserved : Nat} (hlink : s.getB Reg.HL_STATUS_LINK_UP = true) (hfree : s.mboxFree = true)
    (hbad : confirm ≠ 0x4255 ∨ 1 < target ∨ reserved ≠ 0) :
    ∃ t, exec (.vxHostBurrow confirm target reserved) s = .next t ∧ t.host.mbox = ⟨0xC002, rcInput, .none⟩ ∧ RegsKept mboxFlds s t ∧
      t = { s with regs := t.regs, host := { s.host with mbox := t.host.mbox } } := by
  have hexec : exec (.vxHostBurrow confirm target reserved) s = .next (s.answered 0xC002 rcInput .none) :=
    congrArg Host.Outcome.next ((State.mboxRun_free hlink hfree _ _).trans (if_pos hbad))
  refine ⟨_, hexec, rfl, regsKept_answered _ _ _ _, ?_⟩
  rw [State.answered_frame]

/-- The state in which an accepted VX_HOST_BURROW triggers. -/
def State.hostAsked (s : State) (target : Nat) : State :=
  { s.answered 0xC002 rcOk .none with bur := { s.bur with offReq := s.bur.offReq || target == 1 } }

theorem State.hostAsked_frame (s : State) (target : Nat) : s.hostAsked target = { s with
    host := { s.host with mbox := ⟨0xC002, rcOk, .none⟩ }, regs := (s.hostAsked target).regs
    bur := { s.bur with offReq := s.bur.offReq || target == 1 } } := by
  rw [State.hostAsked, State.answered_frame]

theorem regsKept_hostAsked (s : State) (target : Nat) : RegsKept mboxFlds s (s.hostAsked target) :=
  regsKept_answered s 0xC002 rcOk .none

theorem exec_vxHostBurrow {s : State} {target : Nat} (hlink : s.getB Reg.HL_STATUS_LINK_UP = true) (hfree : s.mboxFree = true) (htarget : target ≤ 1)
    (hrun : s.mode = .run) (htwin : s.twinUp = false) :
    exec (.vxHostBurrow 0x4255 target 0) s = .next ((s.hostAsked target).trigger .host) := by
  have hmode : s.hostTouch.mode = .run := by rw [State.hostTouch_frame]; exact hrun
  have htouch : s.hostTouch.twinUp = false := by
    rw [← htwin, State.twinUp, State.twinUp, State.linkOn, State.linkOn, regsKept_hostTouch s _ (by decide), State.hostTouch_frame]
  have hbur : s.hostTouch.bur = s.bur := by rw [State.hostTouch_frame]
  refine congrArg Host.Outcome.next ((State.mboxRun_free hlink hfree _ _).trans ?_)
  rw [if_neg (by omega), if_neg (by simp [hmode]), htouch, hbur]
  rfl

theorem vxHostBurrow_burrows {s : State} {target : Nat} (hlink : s.getB Reg.HL_STATUS_LINK_UP = true) (hfree : s.mboxFree = true) (htarget : target ≤ 1)
    (hrun : s.mode = .run) (hlrst : s.getB Reg.MD_STATUS_LRST_ACT = false) (htrig : s.bur.trig = false)
    (hbridge : s.getB Reg.MD_STATUS_BRIDGE = false) (htwin : s.twinUp = false) :
    ∃ t, exec (.vxHostBurrow 0x4255 target 0) s = .next t ∧ t.host.mbox = ⟨0xC002, 0, .none⟩ ∧ t.getF Reg.MD_CAUSE_CAUSES = 2 ^ Cause.host.bit ∧
      t.bur = { s.bur with trig := true, offReq := s.bur.offReq || target == 1 } ∧ t.getF Reg.MD_STATUS_NOABANDON = 1 ∧
      t.getF Reg.MD_CAUSE_BURROW_COUNT = min 0xFFFF (s.getF Reg.MD_CAUSE_BURROW_COUNT + 1) ∧ t.ev = s.ev ∧
      RegsKept (triggerFlds ++ mboxFlds) s t ∧
      t = { s with bur := t.bur, regs := t.regs, store := t.store, host := { s.host with mbox := t.host.mbox } } := by
  have hkept := regsKept_hostAsked s target
  have hframe := s.hostAsked_frame target
  have hexec := exec_vxHostBurrow hlink hfree htarget hrun htwin
  generalize s.hostAsked target = u at hkept hframe hexec
  have hclosed : u.getB Reg.MD_STATUS_BRIDGE = false := by rw [State.getB_congr (hkept _ (by decide)), hbridge]
  rw [State.trigger_run (by rw [hframe]; exact hrun) (by rw [State.getB_congr (hkept _ (by decide)), hlrst]) (by rw [hframe]; exact htrig),
    if_neg (by simp [Cause.bridgeable])] at hexec
  obtain ⟨hcauses, -, hcount, hno⟩ := u.startBurrow_shows .host
  refine ⟨_, hexec, ?_, ?_, ?_, hno, ?_, ?_, ?_, ?_⟩
  · rw [State.startBurrow_frame, hframe]; rfl
  · rw [hcauses, hclosed, if_neg Bool.false_ne_true, Nat.zero_or]
    rfl
  · rw [State.startBurrow_frame, hframe]
  · rw [hcount, hkept _ (by decide)]
  · rw [State.startBurrow_ev hclosed, hframe]
  · exact (hkept.mono (by simp)).trans ((regsKept_startBurrow_closed hclosed _).mono (by simp))
  · rw [State.startBurrow_frame, State.startBurrow_ev hclosed, hframe]

theorem bridgeClose_endsWindow {s : State} (hbridge : s.getB Reg.MD_STATUS_BRIDGE = true) (hvin : s.vinRet = true) (htwin : s.twinOn = false) :
    ∃ t, exec .bridgeClose s = .next t ∧ t.getF Reg.MD_STATUS_BRIDGE = 0 ∧ t.ev.seq = s.ev.seq + 1 ∧
      RegsKept (Reg.MD_STATUS_BRIDGE :: evFlds) s t ∧ t = { s with regs := t.regs, ev := t.ev } := by
  have hagreed : (s.getB Reg.MD_STATUS_BRIDGE && s.vinAgreed) = true := by simp [State.vinAgreed, hbridge, hvin, htwin]
  refine ⟨_, congrArg Host.Outcome.next (if_pos hagreed), ?_, rfl, ?_, rfl⟩
  · rw [regsKept_raise _ (by decide), State.getF_setF_self]
    rfl
  · exact (regsKept_setF List.mem_cons_self).trans (regsKept_raise.mono (List.subset_cons_self _ _))

/-- The released comparator's bit and the other one's. -/
def cmpFld (b : Bool) : Fld := if b then Reg.PS_STATUS_CMP_B else Reg.PS_STATUS_CMP_A

theorem vinCmpRelease_releases {s : State} (b : Bool) (hfired : s.getB (cmpFld b) = true) :
    ∃ t, exec (.vinCmpRelease b) s = .next t ∧ t.getF (cmpFld b) = 0 ∧
      t.getF Reg.PS_STATUS_VIN_RET = (if s.getB (cmpFld !b) then s.getF Reg.PS_STATUS_VIN_RET else 1) ∧
      RegsKept [cmpFld b, Reg.PS_STATUS_VIN_RET] s t ∧ t = { s with regs := t.regs, rail := { s.rail with rose := t.rail.rose } } := by
  have hself : (s.setF (cmpFld b) 0).getF (cmpFld b) = 0 := (State.getF_setF_self _ _ _).trans (Nat.zero_mod _)
  have hother : (s.setF (cmpFld b) 0).getB (cmpFld !b) = s.getB (cmpFld !b) := State.getB_congr (State.getF_setF_ne _ _ (by cases b <;> decide))
  have hloss : (s.setF (cmpFld b) 0).vinLoss = s.getB (cmpFld !b) := by
    have hnow : (s.setF (cmpFld b) 0).getB (cmpFld b) = false := by rw [State.getB, hself]; rfl
    rw [← hother]
    cases b
    · exact (congrArg (· || _) hnow).trans (Bool.false_or _)
    · exact (congrArg (_ || ·) hnow).trans (Bool.or_false _)
  have hvin : Reg.PS_STATUS_VIN_RET.key ≠ (cmpFld b).key := by cases b <;> decide
  have hkept : RegsKept [cmpFld b, Reg.PS_STATUS_VIN_RET] s (s.setF (cmpFld b) 0) := regsKept_setF List.mem_cons_self
  have hexec : exec (.vinCmpRelease b) s = .next (if s.getB (cmpFld !b) then s.setF (cmpFld b) 0 else
      { (s.setF (cmpFld b) 0).setF Reg.PS_STATUS_VIN_RET 1 with rail := { s.rail with rose := s.rail.rose || s.goingDown } }) := by
    rw [← hloss]
    exact congrArg Host.Outcome.next (if_neg (by rw [Bool.not_eq_true', Bool.not_eq_false]; exact hfired))
  cases hstill : s.getB (cmpFld !b) <;> rw [hstill] at hexec
  · refine ⟨_, hexec, ?_, (State.getF_setF_self _ _ _), ?_, rfl⟩
    · exact (State.getF_setF_ne (s.setF (cmpFld b) 0) _ hvin.symm).trans hself
    · exact hkept.trans (regsKept_setF (s := s.setF (cmpFld b) 0) (by simp))
  · exact ⟨_, hexec, hself, State.getF_setF_ne _ _ hvin, hkept, rfl⟩

/-- Settles O20, command by command. -/
theorem hostBurrowAndVin : Obligations.HostBurrowAndVin :=
  ⟨fun _ _ => vxHostBurrow_burrows, fun _ _ _ _ => vxHostBurrow_refused, fun _ => bridgeClose_endsWindow, fun _ => vinCmpRelease_releases false,
    fun _ => vinCmpRelease_releases true, fun _ => vinCmpMismatch_raises⟩

/-! ### Release of LOCKOUT, and the wake that follows it (R47, R62 to R64, R385) -/

/-- A wake for a cause, with no reason of a LOCKOUT left. -/
def Woken (cause : Nat) (t : State) : Prop :=
  t.mode = .wake ∧ t.getF Reg.DT_WAKE_CAUSE = cause ∧ t.getF Reg.MD_LOCKOUT_ALL = 0

theorem State.enterWake_woken {s : State} {cause : Nat} (hcause : cause < 16) (hfree : s.getF Reg.MD_LOCKOUT_ALL = 0) :
    Woken cause (s.enterWake cause false) :=
  ⟨s.enterWake_cold_mode cause, (s.getF_enterWake_cause cause).trans (Nat.mod_eq_of_lt hcause),
    (s.getF_enterWake cause (by decide) (by decide) (by decide)).trans hfree⟩

theorem State.getF_releaseLock_free {s : State} {bits : Nat} (hfree : s.getF Reg.MD_LOCKOUT_ALL &&& bits = s.getF Reg.MD_LOCKOUT_ALL) :
    (s.releaseLock bits).getF Reg.MD_LOCKOUT_ALL = 0 := by
  rw [State.getF_releaseLock, hfree, Nat.sub_self]

theorem lockoutWake {s : State} {c : Instr} {cause : Nat}
    (hc : (c = .wakeReq .spmi ∧ s.reach .spmi 0x1010 = true ∧ cause = 2) ∨ (c = .serviceNHold ∧ cause = 3)) (hoff : s.mode = .off)
    (hfree : s.getF Reg.MD_LOCKOUT_ALL &&& wakeReleases = s.getF Reg.MD_LOCKOUT_ALL) (hvin : s.vinRet = true) :
    ∃ t, exec c s = .next t ∧ Woken cause t := by
  have hall := State.getF_releaseLock_free hfree
  obtain ⟨rfl, hreach, rfl⟩ | ⟨rfl, rfl⟩ := hc
  · refine ⟨(s.releaseLock wakeReleases).enterWake 2 false, ?_, State.enterWake_woken (by decide) hall⟩
    simp only [exec, execWakeReq, hreach, beq_self_eq_true, Bool.and_self, if_true, State.wrote, State.wakeAct_wakes 2 hoff hfree hvin]
  · obtain ⟨h6, h7⟩ := State.lockHas_thermal_of_free hfree
    have hclear : s.latchClear = s := by simp [State.latchClear, h6, h7]
    refine ⟨(s.releaseLock wakeReleases).enterWake 3 false, ?_, State.enterWake_woken (by decide) hall⟩
    simp [exec, execServiceNHold, hoff, hclear, State.wakeAct_wakes 3 hoff hfree hvin]

theorem State.wakeAct_stays {s : State} {cause : Nat} (hoff : s.mode = .off)
    (hheld : s.getF Reg.MD_LOCKOUT_ALL - (s.getF Reg.MD_LOCKOUT_ALL &&& wakeReleases) ≠ 0 ∨ s.vinRet = false) :
    s.wakeAct cause = s.releaseLock wakeReleases := by
  have hvin : (s.releaseLock wakeReleases).vinRet = s.vinRet := State.getB_congr (regsKept_releaseLock s _ _ (by decide))
  rw [State.wakeAct, if_pos hoff]
  refine if_neg ?_
  rw [hvin, State.lockFree, State.getF_releaseLock]
  simp only [Bool.and_eq_true, beq_iff_eq, not_and, Bool.not_eq_true]
  exact fun hleft => hheld.resolve_left (not_not_intro hleft)

/-- In OFF the latch stands while any reason is left. -/
theorem State.getF_releaseLock_latch {s : State} (bits : Nat) (hoff : s.mode = .off) :
    (s.releaseLock bits).getF Reg.MD_STATUS_LOCKOUT = b2n ((s.releaseLock bits).getF Reg.MD_LOCKOUT_ALL != 0) := by
  rw [State.getF_releaseLock, State.releaseLock, if_pos hoff]
  rw [State.getF_setFs_cons, State.getF_setFs_head _ _ _ _ [Reg.MD_LOCKOUT_REASON, Reg.MD_LOCKOUT_RAIL] (by simp) (by decide)]
  cases s.getF Reg.MD_LOCKOUT_ALL - (s.getF Reg.MD_LOCKOUT_ALL &&& bits) != 0 <;> rfl

theorem lockPick_lt (all : Nat) : lockPick all < 256 := by
  unfold lockPick
  cases hfind : lockOrder.find? fun c => all.testBit (c - 1) with
  | none => decide
  | some c => exact (by decide : ∀ c ∈ lockOrder, c < 256) c (List.mem_of_find?_eq_some hfind)

theorem State.getF_releaseLock_reason {s : State} {bits : Nat} (hleft : (s.releaseLock bits).getF Reg.MD_LOCKOUT_ALL ≠ 0) :
    (s.releaseLock bits).getF Reg.MD_LOCKOUT_REASON = lockPick ((s.releaseLock bits).getF Reg.MD_LOCKOUT_ALL) := by
  rw [State.getF_releaseLock] at hleft ⊢
  rw [State.releaseLock]
  rw [State.getF_setFs_cons, State.getF_setFs_cons, State.getF_setFs_head _ _ _ _ [Reg.MD_LOCKOUT_RAIL] (by simp) (by decide), if_neg hleft]
  exact Nat.mod_eq_of_lt (lockPick_lt _)

theorem wakeReq_stays {s : State} (hoff : s.mode = .off) (hreach : s.reach .spmi 0x1010 = true)
    (hheld : s.getF Reg.MD_LOCKOUT_ALL - (s.getF Reg.MD_LOCKOUT_ALL &&& wakeReleases) ≠ 0 ∨ s.vinRet = false) :
    ∃ t, exec (.wakeReq .spmi) s = .next t ∧ t.mode = .off ∧
      t.getF Reg.MD_LOCKOUT_ALL = s.getF Reg.MD_LOCKOUT_ALL - (s.getF Reg.MD_LOCKOUT_ALL &&& wakeReleases) ∧
      t.getF Reg.MD_STATUS_LOCKOUT = b2n (t.getF Reg.MD_LOCKOUT_ALL != 0) ∧
      (t.getF Reg.MD_LOCKOUT_ALL ≠ 0 → t.getF Reg.MD_LOCKOUT_REASON = lockPick (t.getF Reg.MD_LOCKOUT_ALL)) ∧
      RegsKept [Reg.MD_LOCKOUT_ALL, Reg.MD_STATUS_LOCKOUT, Reg.MD_LOCKOUT_REASON, Reg.MD_LOCKOUT_RAIL, Reg.DT_SVC_LEFT_S] s t ∧
      t = { s with regs := t.regs } := by
  have hexec : exec (.wakeReq .spmi) s = .next (s.releaseLock wakeReleases) := by
    simp only [exec, execWakeReq, hreach, beq_self_eq_true, Bool.and_self, if_true, State.wrote, State.wakeAct_stays hoff hheld]
  exact ⟨_, hexec, hoff, State.getF_releaseLock _ _, State.getF_releaseLock_latch _ hoff, State.getF_releaseLock_reason,
    (regsKept_releaseLock _ _).mono (by simp), rfl⟩

theorem wakeReq_ignored {s : State} {p : Path} (h : p = .cxl ∨ s.mode ≠ .off) :
    ∃ t, exec (.wakeReq p) s = .next t ∧ RegsKept [Reg.DT_SVC_LEFT_S] s t ∧ t = { s with regs := t.regs } := by
  by_cases hheard : (s.reach p 0x1010 && p == .spmi) = true
  · have hpath : p = .spmi := by simpa using (Bool.and_eq_true_iff.mp hheard).2
    subst hpath
    have hmode : (s.wrote .spmi).mode ≠ .off := h.resolve_left (by simp)
    exact ⟨_, congrArg Host.Outcome.next ((if_pos hheard).trans (if_neg hmode)), .refl _ _, rfl⟩
  · exact ⟨s, congrArg Host.Outcome.next (if_neg hheard), .refl _ _, rfl⟩

theorem State.thermRelease_hot {s : State} (h : s.therm.tempOk = false) : s.thermRelease = s := by
  rw [State.thermRelease, if_neg (by simp [h])]

theorem State.lockHas_wrote (s : State) (p : Path) (code : Nat) : (s.wrote p).lockHas code = s.lockHas code :=
  State.lockHas_congr (regsKept_wrote _ (by decide)) code

theorem latchClr_remembered {s : State} {p : Path} (hreach : s.reach p 0x1010 = true) (hlock : s.lockHas 6 = true ∨ s.lockHas 7 = true)
    (htemp : s.therm.tempOk = false) :
    ∃ t, exec (.latchClr p) s = .next t ∧ t.bur.latchClr = true ∧ t.getF Reg.MD_LOCKOUT_ALL = s.getF Reg.MD_LOCKOUT_ALL ∧
      RegsKept [Reg.DT_SVC_LEFT_S] s t ∧ t = { s with bur := { s.bur with latchClr := true }, regs := t.regs } := by
  have hclear : (s.wrote p).latchClear = { s.wrote p with bur := { (s.wrote p).bur with latchClr := true } } := by
    rw [State.latchClear, State.lockHas_wrote, State.lockHas_wrote, if_pos (by simpa using hlock)]
    exact State.thermRelease_hot (by rw [State.wrote_frame]; exact htemp)
  have hkept : RegsKept [Reg.DT_SVC_LEFT_S] s (s.wrote p) := regsKept_wrote
  refine ⟨_, congrArg Host.Outcome.next ((if_pos hreach).trans hclear), rfl, hkept _ (by decide), hkept, ?_⟩
  rw [State.wrote_frame]

theorem State.thermRelease_wakes {s : State} (hoff : s.mode = .off) (hlock : s.lockHas 6 = true ∨ s.lockHas 7 = true) (htemp : s.therm.tempOk = true)
    (htime : s.bur.latchClr = true ∨ s.therm.offAt + 60000 ≤ s.ms)
    (hfree : s.getF Reg.MD_LOCKOUT_ALL &&& 0x60 = s.getF Reg.MD_LOCKOUT_ALL) (hvin : s.vinRet = true) : Woken 5 s.thermRelease := by
  let u : State := ({ s with bur := { s.bur with latchClr := false } } : State).releaseLock 0x60
  have hcond : (s.mode == .off && (s.lockHas 6 || s.lockHas 7) && s.therm.tempOk && (s.bur.latchClr || decide (s.therm.offAt + 60000 ≤ s.ms))) = true := by
    simpa [hoff, htemp] using ⟨hlock, htime⟩
  have hall : (u.setF Reg.MD_STATUS_THERM_LATCH 0).getF Reg.MD_LOCKOUT_ALL = 0 :=
    (State.getF_setF_ne _ _ (by decide)).trans (State.getF_releaseLock_free (s := { s with bur := { s.bur with latchClr := false } }) hfree)
  have hret : (u.setF Reg.MD_STATUS_THERM_LATCH 0).vinRet = true := by
    rw [← hvin]
    exact State.getB_congr ((State.getF_setF_ne _ _ (by decide)).trans (regsKept_releaseLock _ _ _ (by decide)))
  have hrel : s.thermRelease = (u.setF Reg.MD_STATUS_THERM_LATCH 0).enterWake 5 false := by
    rw [State.thermRelease, if_pos hcond]
    exact if_pos (by rw [State.lockFree, hall, hret]; rfl)
  rw [hrel]
  exact State.enterWake_woken (by decide) hall

theorem latchClr_wakes {s : State} {p : Path} (hreach : s.reach p 0x1010 = true) (hoff : s.mode = .off)
    (hlock : s.lockHas 6 = true ∨ s.lockHas 7 = true) (htemp : s.therm.tempOk = true)
    (hfree : s.getF Reg.MD_LOCKOUT_ALL &&& 0x60 = s.getF Reg.MD_LOCKOUT_ALL) (hvin : s.vinRet = true) :
    ∃ t, exec (.latchClr p) s = .next t ∧ Woken 5 t := by
  have hkept : RegsKept [Reg.DT_SVC_LEFT_S] s (s.wrote p) := regsKept_wrote
  have hlock' : (s.wrote p).lockHas 6 = true ∨ (s.wrote p).lockHas 7 = true := by rwa [State.lockHas_wrote, State.lockHas_wrote]
  refine ⟨_, congrArg Host.Outcome.next (if_pos hreach), ?_⟩
  rw [State.latchClear, if_pos (by simpa using hlock')]
  refine State.thermRelease_wakes (by rw [State.wrote_frame]; exact hoff) hlock' (by rw [State.wrote_frame]; exact htemp) (.inl rfl) ?_ ?_
  · change (s.wrote p).getF _ &&& 0x60 = (s.wrote p).getF _
    rw [hkept _ (by decide), hfree]
  · rw [← hvin]
    exact State.getB_congr (hkept _ (by decide))

section
variable {s : State} {temps : List Int} (hoff : s.mode = .off) (hlock : s.lockHas 6 = true ∨ s.lockHas 7 = true)
include hoff hlock

theorem exec_thermalLockoutScan : exec (.thermalLockoutScan temps) s = .next ({ s with therm := { s.therm with
    tempOk := temps.all fun x => decide (x < 10 * ((s.thresholds.getD 3 0 : Int) - s.thHyst)) } } : State).thermRelease :=
  congrArg Host.Outcome.next (if_pos (by simpa [hoff] using hlock))

theorem thermalLockoutScan_hot (hhot : ∃ x ∈ temps, 10 * ((s.thresholds.getD 3 0 : Int) - s.thHyst) ≤ x) :
    exec (.thermalLockoutScan temps) s = .next { s with therm := { s.therm with tempOk := false } } := by
  have hall : (temps.all fun x => decide (x < 10 * ((s.thresholds.getD 3 0 : Int) - s.thHyst))) = false := by simpa using hhot
  rw [exec_thermalLockoutScan hoff hlock, hall, State.thermRelease_hot rfl]

theorem thermalLockoutScan_wakes (hcool : ∀ x ∈ temps, x < 10 * ((s.thresholds.getD 3 0 : Int) - s.thHyst)) (htime : s.therm.offAt + 60000 ≤ s.ms)
    (hfree : s.getF Reg.MD_LOCKOUT_ALL &&& 0x60 = s.getF Reg.MD_LOCKOUT_ALL) (hvin : s.vinRet = true) :
    ∃ t, exec (.thermalLockoutScan temps) s = .next t ∧ Woken 5 t := by
  refine ⟨_, exec_thermalLockoutScan hoff hlock, ?_⟩
  exact State.thermRelease_wakes (s := { s with therm := { s.therm with tempOk := _ } }) hoff hlock (by simpa using hcool) (.inr htime) hfree hvin

end

/-- Settles O18: a release that leaves no reason wakes the device, any other leaves it in OFF. -/
theorem lockoutRelease : Obligations.LockoutRelease :=
  ⟨fun _ _ _ => lockoutWake, fun _ => wakeReq_stays, fun _ _ => wakeReq_ignored, fun _ _ => latchClr_remembered, fun _ _ => latchClr_wakes,
    fun _ _ => thermalLockoutScan_hot, fun _ _ => thermalLockoutScan_wakes⟩

/-! ### What going live and going on after an abandon leave alone -/

/-- The fields, beside block 3, that a unit that goes live or goes on may set. -/
def goingFlds : List Fld :=
  [Reg.TH_STATUS_PEND, Reg.MD_LOCKOUT_ALL, Reg.MD_LOCKOUT_REASON, Reg.MD_LOCKOUT_RAIL, Reg.HL_STATUS_CREDITS_OPEN, Reg.ES_PMAX_P_STORE_MAX] ++
    (triggerFlds ++ pathFlds)

/-- A field that stays as it is: written figures of block 3 may come into force with the books (R141). -/
def stillFld (g : Fld) : Bool := keyBlock g.key != 3 && goingFlds.all fun f => g.key != f.key

/-- The mode, the restore, the abandon, the fence and every other register stay. -/
structure Still (s t : State) : Prop where
  mode : t.mode = s.mode
  phase : t.phase = s.phase
  rst : t.rst = s.rst
  abn : t.bur.abn = s.bur.abn
  fenced : t.bur.fenced = s.bur.fenced
  getF : ∀ g, stillFld g = true → t.getF g = s.getF g

theorem Still.refl (s : State) : Still s s := ⟨rfl, rfl, rfl, rfl, rfl, fun _ _ => rfl⟩

theorem Still.trans {s t u : State} (h : Still s t) (h' : Still t u) : Still s u :=
  ⟨h'.mode.trans h.mode, h'.phase.trans h.phase, h'.rst.trans h.rst, h'.abn.trans h.abn, h'.fenced.trans h.fenced,
    fun g hg => (h'.getF g hg).trans (h.getF g hg)⟩

theorem Still.foldl {α : Type} {f : State → α → State} (h : ∀ a x, Still a (f a x)) (l : List α) (s : State) : Still s (l.foldl f s) := by
  induction l generalizing s with
  | nil => exact .refl s
  | cons x l ih => exact (h s x).trans (ih _)

theorem Still.ite {s t u : State} {p : Prop} [Decidable p] (ht : Still s t) (hu : Still s u) : Still s (if p then t else u) := by
  split
  · exact ht
  · exact hu

/-- A step that keeps what a trigger and the write path keep of the registers. -/
theorem Still.of_regsKept {s t : State} {l : List Fld} (hregs : RegsKept l s t) (hl : l ⊆ goingFlds) (hmode : t.mode = s.mode := by rfl)
    (hphase : t.phase = s.phase := by rfl) (hrst : t.rst = s.rst := by rfl) (habn : t.bur.abn = s.bur.abn := by rfl)
    (hfenced : t.bur.fenced = s.bur.fenced := by rfl) : Still s t := by
  refine ⟨hmode, hphase, hrst, habn, hfenced, fun g hg => hregs g fun f hf => ?_⟩
  have hall := (Bool.and_eq_true_iff.mp hg).2
  simpa using List.all_eq_true.mp hall f (hl hf)

/-- A step that moves only the engines behind the registers. -/
theorem Still.of_frame {s t : State} (h : t = { s with
    host := t.host, cover := t.cover, dram := t.dram, nand := t.nand, twin := t.twin, keep := t.keep
    bur := { t.bur with abn := s.bur.abn, fenced := s.bur.fenced } }) : Still s t :=
  .of_regsKept (l := []) (.of_regs (by rw [h])) (List.nil_subset _) (by rw [h]) (by rw [h]) (by rw [h]) (by rw [h]) (by rw [h])

theorem pathFlds_going : pathFlds ⊆ goingFlds := List.Subset.trans (List.subset_append_right _ _) (List.subset_append_right _ _)

/-- A step of the write path keeps the rest, if it keeps the abandon and the fence. -/
theorem Still.of_pathKept {s t : State} (h : PathKept s t) (habn : t.bur.abn = s.bur.abn := by rfl)
    (hfenced : t.bur.fenced = s.bur.fenced := by rfl) : Still s t :=
  .of_regsKept h.2 pathFlds_going h.1.mode (by rw [show t = _ from h.1]) (by rw [show t = _ from h.1]) habn hfenced

theorem still_setF {s : State} {f : Fld} {v : Nat} (h : f ∈ goingFlds) : Still s (s.setF f v) :=
  .of_regsKept (regsKept_setF (l := goingFlds) h) (List.Subset.refl _)

theorem still_setFs {s : State} {a : List (Fld × Nat)} (h : ∀ p ∈ a, p.1 ∈ goingFlds) : Still s (s.setFs a) :=
  .of_regsKept (regsKept_setFs (l := goingFlds) h) (List.Subset.refl _)

theorem evFlds_going : evFlds ⊆ goingFlds := List.Subset.trans (List.subset_append_right _ _) pathFlds_going

theorem triggerFlds_going : triggerFlds ⊆ goingFlds := List.Subset.trans (List.subset_append_left _ _) (List.subset_append_right _ _)

theorem still_raise {s : State} {src : EvSource} {cls : Nat} {sev : Sev} {param : Nat} : Still s (s.raise src cls sev param) :=
  .of_pathKept pathKept_raise

theorem still_raiseIf {s : State} {b : Bool} {src : EvSource} {cls : Nat} {sev : Sev} {param : Nat} : Still s (s.raiseIf b src cls sev param) := by
  cases b
  · exact .refl _
  · exact still_raise

theorem still_setCtx {s : State} {n : Nat} {c : Ctx} : Still s (s.setCtx n c) := .of_frame rfl

theorem still_armCtx {s t : State} {n : Nat} (h : s.armCtx n = some t) : Still s t := by
  unfold State.armCtx at h
  split at h
  · cases h
  · obtain ⟨loc, -, rfl⟩ := Option.map_eq_some_iff.mp h
    exact .of_frame rfl

theorem still_armAll {s : State} : Still s s.armAll := by
  refine .foldl (fun a n => ?_) _ _
  unfold State.armIdle
  refine .ite ?_ (.refl _)
  cases h : a.armCtx n with
  | none => exact .refl _
  | some t => exact still_armCtx h

theorem still_recount {s : State} : Still s s.recount := .of_frame rfl

theorem still_openMeta (s : State) (want n : Nat) : Still s (s.openMeta want n) := by
  induction n generalizing s with
  | zero => exact .refl s
  | succ n ih =>
    unfold State.openMeta
    refine .ite (.refl s) ?_
    split
    · exact (Still.of_frame rfl).trans (ih _)
    · exact .refl s

theorem still_keepMeta {s : State} : Still s s.keepMeta := .ite (still_openMeta _ _ _) (.refl _)

/-- The fields that the books set, all but one of block 3. -/
theorem State.getF_rebaseBooks (s : State) {g : Fld} (hg : stillFld g = true) : s.rebaseBooks.getF g = s.getF g := by
  obtain ⟨hblock, hall⟩ := Bool.and_eq_true_iff.mp hg
  have hlg {f : Fld} (hf : keyBlock f.key = 3) : g.key ≠ f.key := fun h => by rw [h, hf] at hblock; cases hblock
  have hpmax : g.key ≠ Reg.ES_PMAX_P_STORE_MAX.key := by simpa using List.all_eq_true.mp hall Reg.ES_PMAX_P_STORE_MAX (by decide)
  have hforce : (s.blockForce 3).getF g = s.getF g := State.getF_comeInto_of_not s _ (by simpa using hblock)
  have hsets (v w x : Nat) : ((s.blockForce 3).setFs [(Reg.ES_PMAX_P_STORE_MAX, v), (Reg.LG_STATUS_STALE, w), (Reg.LG_EAVAIL_HI_AGE_US, x)]).getF g =
      (s.blockForce 3).getF g :=
    regsKept_setFs (l := [Reg.ES_PMAX_P_STORE_MAX, Reg.LG_STATUS_STALE, Reg.LG_EAVAIL_HI_AGE_US]) (by simp) g (by
      simpa using ⟨hpmax, hlg (f := Reg.LG_STATUS_STALE) rfl, hlg (f := Reg.LG_EAVAIL_HI_AGE_US) rfl⟩)
  rw [← hforce, ← hsets]
  exact State.getF_setF_ne _ _ (hlg rfl)

theorem State.rebaseBooks_frame (s : State) : s.rebaseBooks =
    { s with regs := s.rebaseBooks.regs, written := s.rebaseBooks.written, cover := s.rebaseBooks.cover } := by
  unfold State.rebaseBooks State.blockForce
  rw [State.comeInto_frame]
  rfl

theorem still_rebaseBooks {s : State} : Still s s.rebaseBooks := by
  refine ⟨?_, ?_, ?_, ?_, ?_, fun g => s.getF_rebaseBooks⟩ <;> rw [State.rebaseBooks_frame]

theorem still_openCredits {s : State} : Still s s.openCredits := (still_setF (s := s) (by decide)).trans (.of_frame rfl)

/-- A trigger in RUN starts a burrow, joins one, opens or joins a bridge window, or is latched; RUN goes on. -/
theorem still_trigger {s : State} (hrun : s.mode = .run) (c : Cause) : Still s (s.trigger c) := by
  have hcause {t : State} : Still t (t.addCause c) := still_setF (by decide)
  have haudits : auditFlds ⊆ goingFlds := List.Subset.trans (by simp [auditFlds, triggerFlds]) triggerFlds_going
  have haudit : Still s s.abortAudit := .of_regsKept (regsKept_abortAudit s) haudits
  simp only [State.trigger, hrun]
  refine .ite (.refl s) (.ite (haudit.trans (.of_frame rfl)) (.ite (hcause.trans (still_setF (by decide))) (.ite (.ite hcause ?_) ?_)))
  · have hframe := s.openBridge_frame c
    have hbridge : [Reg.MD_CAUSE_CAUSES, Reg.MD_STATUS_BRIDGE] ⊆ goingFlds := List.Subset.trans (by simp [triggerFlds]) triggerFlds_going
    exact .of_regsKept (regsKept_openBridge s c) (List.append_subset.mpr ⟨hbridge, List.append_subset.mpr ⟨haudits, evFlds_going⟩⟩) (by rw [hframe])
      (by rw [hframe]) (by rw [hframe]) (by rw [hframe]) (by rw [hframe])
  · have hframe := s.startBurrow_frame c
    exact .of_regsKept (regsKept_startBurrow s c) (List.append_subset.mpr ⟨triggerFlds_going, evFlds_going⟩) (by rw [hframe]) (by rw [hframe])
      (by rw [hframe]) (by rw [hframe]) (by rw [hframe])

theorem still_goSolo {s : State} {partner : Nat} : Still s (s.goSolo partner) := by
  refine Still.trans (Still.trans ?_ (still_setFs (by simp [goingFlds, pathFlds]))) still_raise
  split
  · exact (still_setF (by decide)).trans (.of_frame rfl)
  · exact .of_frame rfl
  · exact .refl _

theorem still_soloStart {s : State} {partner : Nat} : Still s (s.soloStart partner) := .ite still_goSolo (.refl _)

/-! ### RESTORE_DECISION (R66, R67, R274, R275, R283, R285, R287) -/

theorem still_pendStop {s : State} (hrun : s.mode = .run) : Still s s.pendStop := by
  have hlock {t : State} {code rail : Nat} : Still t (t.recordLock code rail) := (still_setFs (by simp [goingFlds])).trans still_raiseIf
  have hpend := (still_setF (s := s) (f := Reg.TH_STATUS_PEND) (v := 0) (by decide)).trans (hlock (code := 6) (rail := 0))
  exact .ite (hpend.trans (still_trigger (hpend.mode.trans hrun) .therm)) (.refl s)

/-- The state in which media ready shows, before contexts, books and credits follow. -/
def State.mediaShown (s : State) : State :=
  s.setFs [(Reg.MD_STATUS_MEDIA_READY, 1), (Reg.DT_WAKE_RUN_MS, if s.mediaReady then s.getF Reg.DT_WAKE_RUN_MS else s.runMs)]

/-- Contexts armed and books computed. -/
def State.liveBooks (s : State) : State := ((s.mediaShown.adoptOpen.recount).rebuildBooks.keepMeta.lifeNow).armAll.rebaseBooks

/-- Credits released where they are due (R80). -/
def State.liveCredits (s : State) : State := if s.creditsDue && !s.getB Reg.HL_STATUS_CREDITS_OPEN then s.openCredits else s

/-- An active whose partner is dead or away is solo (R419). -/
def State.liveSolo (s : State) : State :=
  if !s.getB Reg.TW_STATUS_BELL_OK then s.soloStart 3 else if s.twin.partnerFence then s.soloStart 1 else s

theorem State.goLive_eq (s : State) : s.goLive = s.liveBooks.liveCredits.liveSolo.pendStop := by
  unfold State.goLive State.liveSolo State.liveCredits State.liveBooks State.mediaShown
  dsimp only

theorem still_liveBooks {s : State} : Still s.mediaShown s.liveBooks := by
  have hadopt {t : State} : Still t t.adoptOpen.recount := (Still.foldl (fun _ _ => still_setCtx) _ _).trans still_recount
  have hbooks {t : State} : Still t t.rebuildBooks.keepMeta.lifeNow :=
    (Still.of_frame (t := t.rebuildBooks) rfl).trans (still_keepMeta.trans (.of_frame rfl))
  exact (hadopt.trans (hbooks.trans still_armAll)).trans still_rebaseBooks

theorem still_liveCredits {s : State} : Still s s.liveCredits := .ite still_openCredits (.refl s)

theorem still_liveSolo {s : State} : Still s s.liveSolo := .ite still_soloStart (.ite still_soloStart (.refl s))

theorem still_liveServing {s : State} : Still s.mediaShown s.liveBooks.liveCredits.liveSolo :=
  (still_liveBooks.trans still_liveCredits).trans still_liveSolo

theorem still_goLive {s : State} (hrun : s.mode = .run) : Still s.mediaShown s.goLive := by
  rw [State.goLive_eq]
  exact still_liveServing.trans (still_pendStop (still_liveServing.mode.trans hrun))

/-- The fields that the steps before the choice of the form may set. -/
def prepFlds : List Fld :=
  [Reg.EF_OPS_SUSPENDS, Reg.MD_STATUS_DRAM_HELD, Reg.NB_MANPTR_LOC, Reg.NB_ROOTPTR_LOC, Reg.HL_DSC_DSC, Reg.HL_SHUTDOWN_DIRTY,
    Reg.HL_SHUTDOWN_SELF_CLEAN] ++ evFlds

/-- A step before the choice of the form: the board and every other register are as before. -/
def PrepKept (s t : State) : Prop := BoardKept s t ∧ RegsKept prepFlds s t

theorem PrepKept.refl (s : State) : PrepKept s s := ⟨.refl s, .refl _ s⟩

theorem PrepKept.trans {s t u : State} (h : PrepKept s t) (h' : PrepKept t u) : PrepKept s u := ⟨h.1.trans h'.1, h.2.trans h'.2⟩

theorem PrepKept.ite {s t u : State} {p : Prop} [Decidable p] (ht : PrepKept s t) (hu : PrepKept s u) : PrepKept s (if p then t else u) := by
  split
  · exact ht
  · exact hu

theorem PrepKept.foldl {α : Type} {f : State → α → State} (h : ∀ a x, PrepKept a (f a x)) (l : List α) (s : State) : PrepKept s (l.foldl f s) := by
  induction l generalizing s with
  | nil => exact .refl s
  | cons x l ih => exact (h s x).trans (ih _)

/-- A step that moves only the engines behind the registers. -/
theorem PrepKept.of_frame {s t : State}
    (h : t = { s with host := t.host, cover := t.cover, dram := t.dram, bur := t.bur, nand := t.nand, keep := t.keep }) : PrepKept s t :=
  ⟨by unfold BoardKept; rw [h], .of_regs (by rw [h])⟩

theorem prepKept_setF {s : State} {f : Fld} {v : Nat} (h : f ∈ prepFlds) : PrepKept s (s.setF f v) := ⟨rfl, regsKept_setF h⟩

theorem prepKept_setFs {s : State} {a : List (Fld × Nat)} (h : ∀ p ∈ a, p.1 ∈ prepFlds) : PrepKept s (s.setFs a) := ⟨rfl, regsKept_setFs h⟩

theorem prepKept_raise {s : State} {src : EvSource} {cls : Nat} {sev : Sev} {param : Nat} : PrepKept s (s.raise src cls sev param) :=
  ⟨rfl, regsKept_raise.mono (List.subset_append_right _ _)⟩

theorem prepKept_raiseIf {s : State} {b : Bool} {src : EvSource} {cls : Nat} {sev : Sev} {param : Nat} :
    PrepKept s (s.raiseIf b src cls sev param) := by
  cases b
  · exact .refl _
  · exact prepKept_raise

/-! #### A journal write moves the keeper flash alone (R455, R465) -/

/-- Only the keeper flash and its count of suspended erases may have moved. -/
def JournalKept (s t : State) : Prop := t = { s with keep := t.keep, regs := t.regs } ∧ RegsKept [Reg.EF_OPS_SUSPENDS] s t

theorem JournalKept.refl (s : State) : JournalKept s s := ⟨rfl, .refl _ s⟩

theorem JournalKept.trans {s t u : State} (h : JournalKept s t) (h' : JournalKept t u) : JournalKept s u := by
  refine ⟨?_, h.2.trans h'.2⟩
  rw [h'.1, h.1]

theorem JournalKept.foldl {α : Type} {f : State → α → State} (h : ∀ a x, JournalKept a (f a x)) (l : List α) (s : State) :
    JournalKept s (l.foldl f s) := by
  induction l generalizing s with
  | nil => exact .refl s
  | cons x l ih => exact (h s x).trans (ih _)

theorem JournalKept.of_keep {s t : State} (h : t = { s with keep := t.keep }) : JournalKept s t := ⟨by rw [h], .of_regs (by rw [h])⟩

theorem journalKept_jAhead (s : State) : JournalKept s s.jAhead := by
  unfold State.jAhead
  dsimp only
  split
  · exact .refl s
  · exact (JournalKept.foldl (fun _ _ => .of_keep rfl) _ s).trans (.of_keep rfl)

theorem journalKept_jWrite (s : State) (p : JPay) : JournalKept s (s.jWrite p) := by
  unfold State.jWrite
  split
  · exact .refl s
  · extract_lets erasing keep suspended
    have hsuspend : JournalKept s suspended := ⟨rfl, (regsKept_setF (f := Reg.EF_OPS_SUSPENDS) (by simp)).trans (.of_regs (s := s.setF _ _) rfl)⟩
    exact (hsuspend.trans (.of_keep rfl)).trans (journalKept_jAhead _)

theorem journalKept_jNow (s : State) (p : JPay) : JournalKept s (s.jNow p) := by
  unfold State.jNow
  split
  · exact .refl s
  · exact ((JournalKept.of_keep rfl).trans (.foldl (fun a x => journalKept_jWrite a x) _ _)).trans (journalKept_jWrite _ p)

theorem prepKept_jNow {s : State} {p : JPay} : PrepKept s (s.jNow p) := by
  obtain ⟨hframe, hregs⟩ := journalKept_jNow s p
  exact ⟨by rw [hframe]; rfl, hregs.mono (by simp [prepFlds])⟩

/-! #### The steps before the choice of the form -/

theorem prepKept_emptyImage {s : State} : PrepKept s s.emptyImage := .of_frame rfl

theorem prepKept_unhold {s : State} : PrepKept s s.unhold := (prepKept_setF (s := s) (by decide)).trans (.of_frame rfl)

theorem prepKept_sanResume {s : State} : PrepKept s s.sanResume := by
  refine .ite ?_ (.refl s)
  have herased := PrepKept.foldl (f := fun (a : State) b => a.erased b) (fun _ _ => .of_frame rfl) s.dataBlocks s
  exact (((herased.trans prepKept_emptyImage).trans prepKept_unhold).trans (.of_frame rfl)).trans (prepKept_jNow.trans
    (prepKept_setFs (by simp [prepFlds])))

theorem prepKept_shutdownEnd {s : State} {loss : Bool} : PrepKept s (s.shutdownEnd loss) :=
  .ite ((prepKept_setF (by decide)).trans prepKept_raise) ((prepKept_setFs (by simp [prepFlds])).trans prepKept_raiseIf)

theorem prepKept_deferCommit {s : State} : PrepKept s s.deferCommit := by
  refine .ite ?_ (.refl s)
  split
  · split
    · exact (prepKept_shutdownEnd.trans prepKept_jNow).trans (prepKept_setF (by decide))
    · exact .refl s
  · exact .refl s

theorem prepKept_countOpen {s : State} : PrepKept s s.countOpen := by
  refine .ite ((PrepKept.ite (.refl s) ?_).trans (prepKept_emptyImage.trans prepKept_unhold)) (.refl s)
  exact ((prepKept_setF (by decide)).trans prepKept_jNow).trans prepKept_raise

/-- The state that the choice of the form starts from, before step 10 shows. -/
def State.prepared (s : State) : State := s.sanResume.deferCommit.countOpen.resumeEpoch

theorem prepKept_resumeEpoch {s : State} : PrepKept s s.resumeEpoch := .of_frame rfl

theorem prepKept_prepared {s : State} : PrepKept s s.prepared :=
  ((prepKept_sanResume.trans prepKept_deferCommit).trans prepKept_countOpen).trans prepKept_resumeEpoch

theorem State.prepare_mode (s : State) : s.prepare.mode = s.mode := by
  have hmode : s.prepare.mode = s.prepared.mode := by
    unfold State.prepare State.prepared
    dsimp only
    generalize s.sanResume.deferCommit.countOpen.resumeEpoch = b
    rfl
  rw [hmode, prepKept_prepared.1.mode]

theorem State.prepare_decided (s : State) : s.prepare.rst.decided = true := by
  unfold State.prepare
  rfl

theorem State.prepare_regs (s : State) : s.prepare.regs = (s.prepared.setF Reg.DT_WAKE_STEP 10).regs := by
  unfold State.prepare State.prepared
  rfl

theorem State.getF_prepare_step (s : State) : s.prepare.getF Reg.DT_WAKE_STEP = 10 :=
  (RegsKept.of_regs (l := []) s.prepare_regs _ (by simp)).trans (State.getF_setF_self _ _ _)

theorem regsKept_prepare (s : State) : RegsKept (Reg.DT_WAKE_STEP :: prepFlds) s s.prepare :=
  (((prepKept_prepared (s := s)).2.mono (List.subset_cons_self _ _)).trans (regsKept_setF List.mem_cons_self)).trans (.of_regs s.prepare_regs)

/-! #### The granule map stays as a unit goes live -/

theorem State.mapOf_congr {s t : State} (h : t.nand = s.nand) (g : Nat) : t.mapOf g = s.mapOf g := by rw [State.mapOf, h, State.mapOf]

theorem State.mapOf_adoptOpen (s : State) (g : Nat) : s.adoptOpen.mapOf g = s.mapOf g := by
  unfold State.adoptOpen
  dsimp only
  generalize List.zip _ _ = l
  induction l generalizing s with
  | nil => rfl
  | cons x l ih => exact (ih _).trans rfl

theorem State.mapOf_armCtx {s t : State} {n : Nat} (h : s.armCtx n = some t) (g : Nat) : t.mapOf g = s.mapOf g := by
  unfold State.armCtx at h
  split at h
  · cases h
  · obtain ⟨loc, -, rfl⟩ := Option.map_eq_some_iff.mp h
    rfl

theorem State.mapOf_armIdle (s : State) (n g : Nat) : (s.armIdle n).mapOf g = s.mapOf g := by
  unfold State.armIdle
  split
  · cases h : s.armCtx n with
    | none => rfl
    | some t => exact State.mapOf_armCtx h g
  · rfl

theorem State.mapOf_armAll (s : State) (g : Nat) : s.armAll.mapOf g = s.mapOf g := by
  unfold State.armAll
  generalize List.range 256 = l
  induction l generalizing s with
  | nil => rfl
  | cons n l ih => exact (ih _).trans (s.mapOf_armIdle n g)

theorem State.mapOf_openMeta (s : State) (want n g : Nat) : (s.openMeta want n).mapOf g = s.mapOf g := by
  induction n generalizing s with
  | zero => rfl
  | succ n ih =>
    unfold State.openMeta
    split
    · rfl
    · split
      · exact ih _
      · rfl

theorem State.mapOf_keepMeta (s : State) (g : Nat) : s.keepMeta.mapOf g = s.mapOf g := by
  unfold State.keepMeta
  split
  · exact s.mapOf_openMeta _ _ g
  · rfl

theorem State.mapOf_rebaseBooks (s : State) (g : Nat) : s.rebaseBooks.mapOf g = s.mapOf g := State.mapOf_congr (by rw [State.rebaseBooks_frame]) g

theorem State.mapOf_goSolo (s : State) (partner g : Nat) : (s.goSolo partner).mapOf g = s.mapOf g := by
  refine State.mapOf_congr ?_ g
  unfold State.goSolo
  dsimp only
  split <;> rfl

theorem State.mapOf_soloStart (s : State) (partner g : Nat) : (s.soloStart partner).mapOf g = s.mapOf g := by
  unfold State.soloStart
  split
  · exact s.mapOf_goSolo partner g
  · rfl

theorem State.mapOf_trigger {s : State} (hrun : s.mode = .run) (c : Cause) (g : Nat) : (s.trigger c).mapOf g = s.mapOf g := by
  refine State.mapOf_congr ?_ g
  have hbridge := s.openBridge_frame c
  have hstart := s.startBurrow_frame c
  simp only [State.trigger, hrun]
  split
  · rfl
  split
  · rfl
  split
  · rfl
  split
  · split
    · rfl
    · rw [hbridge]
  · rw [hstart]

theorem State.mapOf_pendStop {s : State} (hrun : s.mode = .run) (g : Nat) : s.pendStop.mapOf g = s.mapOf g := by
  unfold State.pendStop
  split
  · exact (State.mapOf_trigger (s := (s.setF Reg.TH_STATUS_PEND 0).recordLock 6 0) hrun .therm g).trans rfl
  · rfl

theorem State.mapOf_lifeNow (s : State) (g : Nat) : s.lifeNow.mapOf g = s.mapOf g := rfl

theorem State.mapOf_rebuildBooks (s : State) (g : Nat) : s.rebuildBooks.mapOf g = s.mapOf g := rfl

theorem State.mapOf_recount (s : State) (g : Nat) : s.recount.mapOf g = s.mapOf g := rfl

theorem State.mapOf_liveBooks (s : State) (g : Nat) : s.liveBooks.mapOf g = s.mapOf g := by
  rw [State.liveBooks, State.mapOf_rebaseBooks, State.mapOf_armAll, State.mapOf_lifeNow, State.mapOf_keepMeta, State.mapOf_rebuildBooks,
    State.mapOf_recount, State.mapOf_adoptOpen]
  rfl

theorem State.mapOf_liveCredits (s : State) (g : Nat) : s.liveCredits.mapOf g = s.mapOf g := by
  unfold State.liveCredits
  split <;> rfl

theorem State.mapOf_liveSolo (s : State) (g : Nat) : s.liveSolo.mapOf g = s.mapOf g := by
  unfold State.liveSolo
  split
  · exact s.mapOf_soloStart 3 g
  · split
    · exact s.mapOf_soloStart 1 g
    · rfl

theorem State.mapOf_goLive {s : State} (hrun : s.mode = .run) (g : Nat) : s.goLive.mapOf g = s.mapOf g := by
  rw [State.goLive_eq, State.mapOf_pendStop (still_liveServing.mode.trans hrun), State.mapOf_liveSolo, State.mapOf_liveCredits, State.mapOf_liveBooks]

/-! #### Entering RUN from the decision -/

/-- The state in which a unit that enters RUN goes live. -/
def State.runEntered (s : State) : State :=
  { ((s.enterMode .run .none).setF Reg.DT_WAKE_STEP 11).unhold.zeroStaging with
    rst := { RestoreSt.reset with decided := true, wakeAt := s.rst.wakeAt } }

theorem State.toRun_of_ne {s : State} (h : s.mode ≠ .run) : s.toRun = s.runEntered.goLive := by
  unfold State.toRun State.runEntered
  dsimp only
  rw [if_neg h]

theorem State.runEntered_mode (s : State) : s.runEntered.mode = .run := rfl

theorem State.runEntered_cells {s : State} (h : s.dram.cells = []) : s.runEntered.dram.cells = [] := by
  simp [State.runEntered, State.zeroStaging, h]

theorem State.enterMode_frame (s : State) (m : Mode) (ph : Phase) : s.enterMode m ph = { s with
    mode := m, phase := ph, twin := (s.enterMode m ph).twin, ev := (s.enterMode m ph).ev, regs := (s.enterMode m ph).regs } := by
  unfold State.enterMode State.setMode
  dsimp only
  rw [State.leaveService_frame]

theorem State.mapOf_enterMode (s : State) (m : Mode) (ph : Phase) (g : Nat) : (s.enterMode m ph).mapOf g = s.mapOf g :=
  State.mapOf_congr (by rw [State.enterMode_frame]) g

theorem State.mapOf_runEntered (s : State) (g : Nat) : s.runEntered.mapOf g = s.mapOf g := by
  rw [← s.mapOf_enterMode .run .none g, State.runEntered]
  generalize s.enterMode .run .none = e
  rfl

theorem State.runEntered_regs (s : State) :
    s.runEntered.regs = (((s.enterMode .run .none).setF Reg.DT_WAKE_STEP 11).setF Reg.MD_STATUS_DRAM_HELD 0).regs := by
  rw [State.runEntered]
  generalize s.enterMode .run .none = e
  rfl

theorem State.getF_runEntered_step (s : State) : s.runEntered.getF Reg.DT_WAKE_STEP = 11 := by
  rw [RegsKept.of_regs (l := []) s.runEntered_regs _ (by simp), State.getF_setF_ne _ _ (by decide), State.getF_setF_self]
  rfl

theorem regsKept_runEntered (s : State) :
    RegsKept (Reg.DT_WAKE_STEP :: Reg.MD_STATUS_DRAM_HELD :: (serviceFlds ++ modeFlds)) s s.runEntered := by
  refine RegsKept.trans ?_ (.of_regs s.runEntered_regs)
  have hmode := (regsKept_enterMode s .run .none).mono (m := Reg.DT_WAKE_STEP :: Reg.MD_STATUS_DRAM_HELD :: (serviceFlds ++ modeFlds)) (by simp)
  exact (hmode.trans (regsKept_setF (by simp))).trans (regsKept_setF (by simp))

theorem State.getF_mediaShown (s : State) : s.mediaShown.getF Reg.MD_STATUS_MEDIA_READY = 1 :=
  State.getF_setFs_head _ _ _ _ [Reg.DT_WAKE_RUN_MS] (by simp) (by decide)

theorem regsKept_mediaShown (s : State) : RegsKept [Reg.MD_STATUS_MEDIA_READY, Reg.DT_WAKE_RUN_MS] s s.mediaShown := regsKept_setFs (by simp)

/-- RUN entered from another mode on an empty cache. -/
theorem State.toRun_empty {s : State} (h : s.mode ≠ .run) (hcells : s.dram.cells = []) (hmap : ∀ g, s.mapOf g = noLoc) :
    s.toRun.mode = .run ∧ s.toRun.getF Reg.MD_STATUS_RSTR_FORM = s.getF Reg.MD_STATUS_RSTR_FORM ∧ s.toRun.dram.cells = [] ∧
      s.toRun.mediaReady = true ∧ s.toRun.getF Reg.DT_WAKE_STEP = 11 ∧ s.toRun.rst.decided = true ∧ ∀ g, s.toRun.mapOf g = noLoc := by
  have hstill := still_goLive s.runEntered_mode
  have hentered := regsKept_runEntered s
  have hshown := regsKept_mediaShown s.runEntered
  have hmedia := s.runEntered.getF_mediaShown
  have hstep := s.getF_runEntered_step
  have hlive := s.runEntered.goLive_kept.2.2
  have hmaps := State.mapOf_goLive s.runEntered_mode
  rw [State.toRun_of_ne h]
  refine ⟨hstill.mode, ?_, ?_, ?_, ?_, ?_, fun g => ?_⟩
  · rw [hstill.getF _ (by decide), hshown _ (by decide), hentered _ (by decide)]
  · rw [hlive, State.runEntered_cells hcells]
  · rw [State.mediaReady, State.getB, hstill.getF _ (by decide), hmedia]
    rfl
  · rw [hstill.getF _ (by decide), hshown _ (by decide), hstep]
  · rw [hstill.rst]
    rfl
  · rw [hmaps, State.mapOf_runEntered, hmap]

theorem State.mode_of_mayDecide {s : State} (h : s.mayDecide = true) : s.mode = .wake ∨ s.mode = .restore := by
  have hmode := (Bool.and_eq_true_iff.mp h).2
  simp only [Bool.or_eq_true, Bool.and_eq_true, beq_iff_eq] at hmode
  exact hmode.imp (fun h => h.1.1) (fun h => h.1)

/-! #### No image -/

/-- The cache as the decision without an image leaves it, before its records. -/
def State.emptied (s : State) : State := s.prepare.emptyImage.unhold.setFs [(Reg.MD_STATUS_RSTR_FORM, 0), (Reg.NB_MANPTR_LOC, noLoc)]

/-- With the records of the empty image and of the open run. -/
def State.emptyDecided (s : State) : State :=
  let u := s.emptied
  (u.jNow (.manifestPtr noLoc u.nand.epoch 0 0 0 (u.getF Reg.HL_DSC_DSC) (u.getB Reg.HL_SHUTDOWN_DIRTY) (u.getB Reg.HL_SHUTDOWN_SELF_CLEAN)
    false 0)).jNow (.runOpen u.nand.epoch 0)

theorem exec_restoreDecision_empty {s : State} (hmay : s.mayDecide = true) (himage : s.sanResume.deferCommit.imageNow = false) :
    exec .restoreDecision s = .next s.emptyDecided.toRun :=
  congrArg Host.Outcome.next ((if_pos hmay).trans (if_pos (by rw [himage]; rfl)))

theorem State.emptied_shows (s : State) :
    s.emptied.mode = s.mode ∧ s.emptied.getF Reg.MD_STATUS_RSTR_FORM = 0 ∧ s.emptied.dram.cells = [] ∧ ∀ g, s.emptied.mapOf g = noLoc := by
  rw [← s.prepare_mode, State.emptied]
  generalize s.prepare = t
  exact ⟨rfl, State.getF_setFs_head _ _ _ _ [Reg.NB_MANPTR_LOC] (by simp) (by decide), rfl, fun _ => rfl⟩

theorem State.mapOf_jNow (s : State) (p : JPay) (g : Nat) : (s.jNow p).mapOf g = s.mapOf g :=
  State.mapOf_congr (by rw [(journalKept_jNow s p).1]) g

theorem State.emptyDecided_shows (s : State) : s.emptyDecided.mode = s.mode ∧ s.emptyDecided.getF Reg.MD_STATUS_RSTR_FORM = 0 ∧
    s.emptyDecided.dram.cells = [] ∧ ∀ g, s.emptyDecided.mapOf g = noLoc := by
  obtain ⟨hmode, hform, hcells, hmap⟩ := s.emptied_shows
  unfold State.emptyDecided
  dsimp only
  generalize s.emptied = u at hmode hform hcells hmap
  refine ⟨?_, ?_, ?_, fun g => ?_⟩
  · rw [(prepKept_jNow.trans prepKept_jNow).1.mode, hmode]
  · rw [(prepKept_jNow.trans prepKept_jNow).2 _ (by decide), hform]
  · simp [hcells]
  · rw [State.mapOf_jNow, State.mapOf_jNow, hmap]

theorem restoreDecision_empty {s : State} (hmay : s.mayDecide = true) (himage : s.sanResume.deferCommit.imageNow = false) :
    ∃ t, exec .restoreDecision s = .next t ∧ t.mode = .run ∧ t.getF Reg.MD_STATUS_RSTR_FORM = 0 ∧ t.dram.cells = [] ∧
      t.mediaReady = true ∧ t.getF Reg.DT_WAKE_STEP = 11 ∧ t.rst.decided = true ∧ ∀ g, t.mapOf g = noLoc := by
  obtain ⟨hmode, hform, hcells, hmap⟩ := s.emptyDecided_shows
  have hne : s.emptyDecided.mode ≠ .run := by
    rw [hmode]
    rcases State.mode_of_mayDecide hmay with h | h <;> simp [h]
  obtain ⟨hrun, hrform, hrest⟩ := State.toRun_empty hne hcells hmap
  exact ⟨_, exec_restoreDecision_empty hmay himage, hrun, hrform.trans hform, hrest⟩

/-! #### An image: held, or to be brought back -/

/-- The unit in RESTORE, before the form shows. -/
def State.restoreEntered (s : State) : State := if s.prepare.mode = .restore then s.prepare else s.prepare.enterMode .restore .none

theorem State.restoreEntered_mode (s : State) : s.restoreEntered.mode = .restore := by
  unfold State.restoreEntered
  split
  · assumption
  · rfl

theorem State.restoreEntered_phase {s : State} (h : s.mode = .wake) : s.restoreEntered.phase = .none := by
  rw [State.restoreEntered, if_neg (by rw [State.prepare_mode, h]; decide)]
  rfl

theorem State.restoreEntered_decided (s : State) : s.restoreEntered.rst.decided = true := by
  unfold State.restoreEntered
  split
  · exact s.prepare_decided
  · refine Eq.trans ?_ s.prepare_decided
    rw [State.enterMode_frame]

theorem regsKept_restoreEntered (s : State) : RegsKept (serviceFlds ++ modeFlds) s.prepare s.restoreEntered := by
  unfold State.restoreEntered
  split
  · exact .refl _ _
  · exact regsKept_enterMode _ _ _

theorem State.getF_restoreEntered {s : State} {g : Fld} (hmode : ∀ f ∈ serviceFlds ++ modeFlds, g.key ≠ f.key)
    (hprep : ∀ f ∈ Reg.DT_WAKE_STEP :: prepFlds, g.key ≠ f.key) : s.restoreEntered.getF g = s.getF g := by
  rw [regsKept_restoreEntered s g hmode, regsKept_prepare s g hprep]

/-- A manifest applied moves the cover, the DRAM and the map alone. -/
def MapMoved (s t : State) : Prop := t = { s with cover := t.cover, dram := t.dram, nand := t.nand }

theorem MapMoved.trans {s t u : State} (h : MapMoved s t) (h' : MapMoved t u) : MapMoved s u := by
  unfold MapMoved at *
  rw [h', h]

theorem MapMoved.foldl {α : Type} {f : State → α → State} (h : ∀ a x, MapMoved a (f a x)) (l : List α) (s : State) : MapMoved s (l.foldl f s) := by
  induction l generalizing s with
  | nil => rfl
  | cons x l ih => exact (h s x).trans (ih _)

section
variable {s t : State} (h : MapMoved s t)
include h

theorem MapMoved.regs : t.regs = s.regs := by rw [show t = _ from h]
theorem MapMoved.mode : t.mode = s.mode := by rw [show t = _ from h]
theorem MapMoved.phase : t.phase = s.phase := by rw [show t = _ from h]
theorem MapMoved.rst : t.rst = s.rst := by rw [show t = _ from h]

end

theorem mapMoved_setLost (s : State) (g : Nat) : MapMoved s (s.setLost g) := rfl

theorem mapMoved_applyEnt (s : State) (e : MEnt) : MapMoved s (s.applyEnt e) := by
  unfold State.applyEnt
  split
  · rfl
  · rfl
  · exact mapMoved_setLost s _
  · rfl

theorem mapMoved_applyRange (s0 s : State) (ver g : Nat) : MapMoved s (s0.applyRange ver s g) := by
  unfold State.applyRange
  split
  · rfl
  · exact mapMoved_setLost s g

theorem mapMoved_applyManifest (s : State) : MapMoved s s.applyManifest := by
  have hman : MapMoved s s.applyMan := by
    unfold State.applyMan
    dsimp only
    have hents := MapMoved.foldl mapMoved_applyEnt ((s.manifest (s.getF Reg.NB_MANPTR_LOC)).flatMap (·.entries)) s
    split
    · exact hents
    · exact hents.trans (.foldl (fun a g => mapMoved_applyRange s a _ g) _ _)
  exact hman.trans rfl

/-- VERIFY lists what it has to check. -/
def State.verifying (s : State) : State := { s with rst := { s.rst with loaded := true, todo := s.verifyList } }

theorem exec_restoreDecision_held {s : State} (hmay : s.mayDecide = true) (himage : s.sanResume.deferCommit.imageNow = true)
    (hheld : s.sanResume.deferCommit.heldNow = true) :
    exec .restoreDecision s = .next (s.restoreEntered.setF Reg.MD_STATUS_RSTR_FORM 1).applyManifest.verifying := by
  simp only [exec, execRestoreDecision, hmay, himage, hheld, if_true, Bool.not_true, Bool.false_eq_true, if_false, State.verifying,
    State.restoreEntered]

theorem restoreDecision_held {s : State} (hmay : s.mayDecide = true) (himage : s.sanResume.deferCommit.imageNow = true)
    (hheld : s.sanResume.deferCommit.heldNow = true) :
    ∃ t, exec .restoreDecision s = .next t ∧ t.mode = .restore ∧ (s.mode = .wake → t.phase = .none) ∧ t.getF Reg.MD_STATUS_RSTR_FORM = 1 ∧
      t.rst.loaded = true ∧ t.rst.decided = true ∧ t.getF Reg.DT_WAKE_STEP = 10 := by
  have hexec := exec_restoreDecision_held hmay himage hheld
  have hmode := s.restoreEntered_mode
  have hphase := State.restoreEntered_phase (s := s)
  have hdecided := s.restoreEntered_decided
  have hstep : s.restoreEntered.getF Reg.DT_WAKE_STEP = 10 := by rw [regsKept_restoreEntered s _ (by decide), State.getF_prepare_step]
  generalize s.restoreEntered = m at hmode hphase hdecided hstep hexec
  have hmoved := mapMoved_applyManifest (m.setF Reg.MD_STATUS_RSTR_FORM 1)
  generalize (m.setF Reg.MD_STATUS_RSTR_FORM 1).applyManifest = v at hmoved hexec
  have hregs : RegsKept [] (m.setF Reg.MD_STATUS_RSTR_FORM 1) v.verifying := .of_regs hmoved.regs
  have hmode' : v.mode = m.mode := hmoved.mode
  have hphase' : v.phase = m.phase := hmoved.phase
  have hrst : v.rst = m.rst := hmoved.rst
  refine ⟨_, hexec, hmode'.trans hmode, fun h => hphase'.trans (hphase h), ?_, rfl, (congrArg RestoreSt.decided hrst).trans hdecided, ?_⟩
  · rw [hregs _ (by simp), State.getF_setF_self]
    rfl
  · rw [hregs _ (by simp), State.getF_setF_ne _ _ (by decide), hstep]

theorem restoreDecision_fetches {s : State} (hmay : s.mayDecide = true) (himage : s.sanResume.deferCommit.imageNow = true)
    (hheld : s.sanResume.deferCommit.heldNow = false) :
    ∃ t, exec .restoreDecision s = .next t ∧ t.mode = .restore ∧
      t.getF Reg.MD_STATUS_RSTR_FORM = (if s.getB Reg.MD_CFG_EARLY_EN then 3 else 2) ∧ t.getF Reg.MD_STATUS_DRAM_HELD = 0 ∧
      t.bur.heldVer = 0 ∧ t.rst.decided = true := by
  have hearly : s.restoreEntered.getB Reg.MD_CFG_EARLY_EN = s.getB Reg.MD_CFG_EARLY_EN :=
    State.getB_congr (State.getF_restoreEntered (by decide) (by decide))
  have hexec : exec .restoreDecision s = .next (s.restoreEntered.setF Reg.MD_STATUS_RSTR_FORM (if s.getB Reg.MD_CFG_EARLY_EN then 3 else 2)).unhold := by
    simp only [← hearly, exec, execRestoreDecision, hmay, himage, hheld, if_true, Bool.not_true, Bool.false_eq_true, if_false,
      State.restoreEntered]
  have hmode := s.restoreEntered_mode
  have hdecided := s.restoreEntered_decided
  generalize s.restoreEntered = m at hmode hdecided hexec
  refine ⟨_, hexec, hmode, ?_, State.getF_setF_self _ _ _, rfl, hdecided⟩
  refine ((m.setF _ _).getF_setF_ne (f := Reg.MD_STATUS_DRAM_HELD) 0 (by decide)).trans ((State.getF_setF_self _ _ _).trans ?_)
  split <;> rfl

theorem restoreDecision_resumes {s : State} (hmode : s.mode = .restore) (hmedia : s.mediaReady = true) (hloaded : s.rst.loaded = true)
    (hdecided : s.rst.decided = false) (hkeep : s.keep.up = true) (hlamp : s.lampUp = true) (hseq : s.getF Reg.SQ_STATUS_SEQ ≠ 4) :
    exec .restoreDecision s = .next { s with rst := { s.rst with decided := true } } := by
  have hmay : s.mayDecide = false := by simp [State.mayDecide, hmode, hmedia]
  have hresume : s.mayResume = true := by simp [State.mayResume, hmode, hmedia, hloaded, hdecided, hkeep, hlamp, hseq]
  exact congrArg Host.Outcome.next ((if_neg (by rw [hmay]; decide)).trans (if_pos hresume))

/-- Settles O29: the steps before the choice of the form are `PrepKept`, and going live is `Still`. -/
theorem restoreDecided : Obligations.RestoreDecided :=
  ⟨fun _ => restoreDecision_empty, fun _ => restoreDecision_held, fun _ => restoreDecision_fetches, fun _ => restoreDecision_resumes⟩

/-! ### VIN returns: wake, the end of DEN and the abandon (R57 to R61, R68) -/

/-- Of the burrow engine a loss of power takes only the contexts, the handoff queue and the orphans beside the list. -/
theorem State.repower_bur (s : State) : s.repower.bur =
    { s.bur with ctx := s.repower.bur.ctx, handoff := s.repower.bur.handoff, voidExtra := s.repower.bur.voidExtra } := by
  have hlink (t : State) : t.linkReset.bur = t.bur := by rw [State.linkReset_frame]
  have hlamp (t : State) : t.lampLost.bur = { t.bur with ctx := [], handoff := [], voidExtra := [] } := by rw [← hlink t]; rfl
  have hoff (t : State) : (s.fabricOff t).bur =
      { t.bur with ctx := (s.fabricOff t).bur.ctx, handoff := (s.fabricOff t).bur.handoff, voidExtra := (s.fabricOff t).bur.voidExtra } := by
    unfold State.fabricOff
    split
    · rw [hlamp]
    · split
      · exact (hlink t).trans (by rw [show ({ t.linkReset with host := _ } : State).bur = t.bur from hlink t])
      · rfl
  rw [State.repower_eq]
  dsimp only
  split
  · exact hoff _
  · exact hoff _

theorem vinReturn_absent {s : State} (h : s.vinLoss = true) : exec .vinReturnDebounced s = .next s :=
  congrArg Host.Outcome.next (if_pos h)

section
variable {s : State} (hvin : s.vinLoss = false)
include hvin

theorem exec_vinReturn : exec .vinReturnDebounced s = .next (match s.mode with
    | .off => if s.getB Reg.MD_CFG_WAKE_ON_RET && s.lockFree then s.vinBack.enterWake 1 false else s.vinBack
    | .den => if s.getF Reg.SQ_STATUS_SEQ = 4 then s.vinBack else s.vinBack.enterWake 4 true
    | .burrow => if s.mayAbandon then s.vinBack.abandon else s.vinBack
    | _ => s.vinBack) :=
  congrArg Host.Outcome.next (if_neg (by simp [hvin]))

theorem vinReturn_wakes (hoff : s.mode = .off) (hret : s.getB Reg.MD_CFG_WAKE_ON_RET = true) (hfree : s.lockFree = true) :
    ∃ t, exec .vinReturnDebounced s = .next t ∧ t.mode = .wake ∧ t.phase = .none ∧ t.getF Reg.DT_WAKE_CAUSE = 1 ∧ t.bur.trig = false ∧
      t.getF Reg.PS_STATUS_VIN_RET = 1 ∧ t.store.auditDue = true ∧ t.rst.wakeAt = s.ms := by
  have hexec : exec .vinReturnDebounced s = .next (s.vinBack.enterWake 1 false) := by
    rw [exec_vinReturn hvin, hoff]
    simp only [hret, hfree, Bool.and_self, if_true]
  have hback : s.vinBack.getF Reg.PS_STATUS_VIN_RET = 1 := State.getF_setF_self s _ _
  have hms : s.vinBack.ms = s.ms := rfl
  generalize s.vinBack = u at hexec hback hms
  have hboard := boardKept_repower (u.wakeBase 1 false)
  refine ⟨_, hexec, State.enterWake_cold_mode _ _, ?_, State.getF_enterWake_cause _ _, ?_, ?_, ?_, ?_⟩
  · rw [State.enterWake_cold, show (u.wakeBase 1 false).repower.phase = (u.wakeBase 1 false).phase by rw [show _ = _ from hboard]]
    rfl
  · rw [State.enterWake_cold, State.repower_bur]
    rfl
  · rw [State.getF_enterWake _ _ (by decide) (by decide) (by decide), hback]
  · rw [State.enterWake_cold, show (u.wakeBase 1 false).repower.store = (u.wakeBase 1 false).store by rw [show _ = _ from hboard]]
    rfl
  · rw [State.enterWake_cold, show (u.wakeBase 1 false).repower.rst = (u.wakeBase 1 false).rst by rw [show _ = _ from hboard], ← hms]
    rfl

theorem vinReturn_endsDen (hden : s.mode = .den) (hseq : s.getF Reg.SQ_STATUS_SEQ ≠ 4) :
    ∃ t, exec .vinReturnDebounced s = .next t ∧ t.mode = .wake ∧ t.getF Reg.DT_WAKE_CAUSE = 4 ∧ t.dram.cells = s.dram.cells ∧
      t.bur.heldVer = s.bur.heldVer := by
  have hexec : exec .vinReturnDebounced s = .next (s.vinBack.enterWake 4 true) := by
    rw [exec_vinReturn hvin, hden]
    simp only [hseq, if_false]
  have hcells := (s.vinBack.enterWake_kept 4 true).2.2
  have hbase : (s.vinBack.wakeBase 4 true).bur.heldVer = s.bur.heldVer := rfl
  have hcause := s.vinBack.getF_wakeBase_cause 4 true
  have hmode : (s.vinBack.wakeBase 4 true).mode = .wake := by rw [State.wakeBase_frame]
  unfold State.enterWake at hexec hcells
  simp only [if_true] at hexec hcells
  generalize s.vinBack.wakeBase 4 true = w at hexec hcells hbase hcause hmode
  refine ⟨_, hexec, ?_, ?_, hcells, ?_⟩
  · rw [State.repower_mode]
    exact hmode
  · rw [State.getF_repower (by decide), State.getF_setF_ne _ _ (by decide)]
    refine Eq.trans ?_ hcause
    exact regsKept_setFs (l := [Reg.SQ_ENT_ST_STATE 17, Reg.PS_SET_ON 17, Reg.PS_SET_PG 17]) (by simp) _ (by decide)
  · rw [State.repower_bur]
    exact hbase

theorem vinReturn_noted (hmay : s.mayAbandon = false) (hmode : s.mode = .run ∨ s.mode = .burrow) :
    ∃ t, exec .vinReturnDebounced s = .next t ∧ t.getF Reg.PS_STATUS_VIN_RET = 1 ∧ RegsKept [Reg.PS_STATUS_VIN_RET] s t ∧
      (s.goingDown = true → t.rail.rose = true) ∧
      t = { s with regs := t.regs, pins := t.pins, rail := { s.rail with rose := t.rail.rose, back := s.rail.back || s.goingDown } } := by
  have hexec : exec .vinReturnDebounced s = .next s.vinBack := by
    rw [exec_vinReturn hvin]
    rcases hmode with h | h <;> rw [h]
    rw [hmay]
    rfl
  refine ⟨_, hexec, State.getF_setF_self s _ _, ?_, fun h => ?_, rfl⟩
  · exact regsKept_setF (s := s) List.mem_cons_self
  · change (s.rail.rose || s.goingDown) = true
    rw [h, Bool.or_true]

end

/-- A settled abandon that waits for its mooring link. -/
theorem abandonUpDone_waits {s : State} (hpowered : s.abnPowered = true) (hlink : s.linkAwaited = true) :
    exec .abandonUpDone s = .next { s with bur := { s.bur with abn := .settling } } :=
  congrArg Host.Outcome.next ((if_pos hpowered).trans (if_pos hlink))

/-! #### The abandon is decided (R61, R227) -/

/-- At an abandon a context gives up at most its DRAM reads, its page and its taken granule. -/
def CtxGivenUp (s t : State) : Prop :=
  t = { s with regs := t.regs, dram := { s.dram with rdOut := t.dram.rdOut, sub := t.dram.sub }
               bur := { s.bur with ctx := t.bur.ctx, handoff := t.bur.handoff } } ∧ RegsKept [Reg.BE_TAKEN_TAKEN] s t

theorem CtxGivenUp.refl (s : State) : CtxGivenUp s s := ⟨rfl, .refl _ s⟩

theorem CtxGivenUp.trans {s t u : State} (h : CtxGivenUp s t) (h' : CtxGivenUp t u) : CtxGivenUp s u := by
  refine ⟨?_, h.2.trans h'.2⟩
  rw [h'.1, h.1]

theorem CtxGivenUp.foldl {f : State → Nat → State} (h : ∀ a n, CtxGivenUp a (f a n)) (l : List Nat) (s : State) : CtxGivenUp s (l.foldl f s) := by
  induction l generalizing s with
  | nil => exact .refl s
  | cons n l ih => exact (h s n).trans (ih _)

theorem ctxGivenUp_handBack (s : State) (g : Nat) : CtxGivenUp s (s.handBack g) := ⟨rfl, regsKept_setF (s := s.handoff g) List.mem_cons_self⟩

theorem ctxGivenUp_abandonCtx (s : State) (n : Nat) : CtxGivenUp s (s.abandonCtx n) := by
  unfold State.abandonCtx
  dsimp only
  have hdrop : CtxGivenUp s ((s.dropCtxReads n).keepPage n) := ⟨rfl, .of_regs rfl⟩
  split
  · split
    · exact hdrop.trans (ctxGivenUp_handBack _ _)
    · exact hdrop
  · exact .refl s

/-- What a decided abandon shows. -/
theorem State.abandon_shows {s : State} (hvin : s.getF Reg.PS_STATUS_VIN_RET = 1) :
    s.abandon.mode = s.mode ∧ s.abandon.bur.abn = .finishing ∧ s.abandon.getF Reg.BE_STATUS_ABANDONING = 1 ∧
      s.abandon.getF Reg.PS_STATUS_VIN_RET = 1 ∧ s.abandon.getF Reg.MD_ABANDON_ABN_TOTAL = min 0xFFFF (s.getF Reg.MD_ABANDON_ABN_TOTAL + 1) ∧
      s.abandon.bur.stopped = true ∧ (∀ x ∈ s.abandon.bur.staging, x.2.lost = false) ∧ s.abandon.dram.cells = s.dram.cells ∧
      s.abandon.cover = s.cover := by
  have htotal : min 0xFFFF (s.getF Reg.MD_ABANDON_ABN_TOTAL + 1) % 2 ^ 16 = min 0xFFFF (s.getF Reg.MD_ABANDON_ABN_TOTAL + 1) :=
    Nat.mod_eq_of_lt (by omega)
  obtain ⟨hframe, hregs⟩ := CtxGivenUp.foldl ctxGivenUp_abandonCtx (s.bur.ctx.map (·.1)) s
  unfold State.abandon
  dsimp only
  generalize (s.bur.ctx.map (·.1)).foldl (fun (a : State) n => a.abandonCtx n) s = t at hframe hregs ⊢
  have hmode : t.mode = s.mode := by rw [hframe]
  have hcells : t.dram.cells = s.dram.cells := by rw [hframe]
  have hcover : t.cover = s.cover := by rw [hframe]
  refine ⟨hmode, rfl, ?_, ?_, ?_, rfl, ?_, hcells, hcover⟩
  · exact State.getF_setFs_head _ _ _ _ [Reg.BE_TAKEN_TAKEN, Reg.BE_LOST_LOST, Reg.MD_ABANDON_ABN_TOTAL, Reg.MD_ABANDON_FORCE_NEXT] (by simp) (by decide)
  · rw [regsKept_setFs (l := [Reg.BE_STATUS_ABANDONING, Reg.BE_TAKEN_TAKEN, Reg.BE_LOST_LOST, Reg.MD_ABANDON_ABN_TOTAL, Reg.MD_ABANDON_FORCE_NEXT])
      (by simp) _ (by decide)]
    exact (hregs _ (by decide)).trans hvin
  · rw [State.getF_setFs_cons, State.getF_setFs_cons, State.getF_setFs_cons]
    exact (State.getF_setFs_head _ _ _ _ [Reg.MD_ABANDON_FORCE_NEXT] (by simp) (by decide)).trans htotal
  · intro x hx
    simpa using (List.mem_filter.mp hx).2

theorem vinReturn_abandons {s : State} (hvin : s.vinLoss = false) (hmay : s.mayAbandon = true) :
    ∃ t, exec .vinReturnDebounced s = .next t ∧ t.mode = .burrow ∧ t.bur.abn = .finishing ∧ t.getF Reg.BE_STATUS_ABANDONING = 1 ∧
      t.getF Reg.PS_STATUS_VIN_RET = 1 ∧ t.getF Reg.MD_ABANDON_ABN_TOTAL = min 0xFFFF (s.getF Reg.MD_ABANDON_ABN_TOTAL + 1) ∧
      t.bur.stopped = true ∧ (∀ x ∈ t.bur.staging, x.2.lost = false) ∧ t.dram.cells = s.dram.cells ∧ t.cover = s.cover := by
  have hmode : s.mode = .burrow := by
    simp only [State.mayAbandon, Bool.and_eq_true, beq_iff_eq] at hmay
    exact hmay.1.1.1.1.1.1.1
  have hexec : exec .vinReturnDebounced s = .next s.vinBack.abandon := by
    rw [exec_vinReturn hvin, hmode]
    simp only [hmay, if_true]
  have hback : s.vinBack.getF Reg.PS_STATUS_VIN_RET = 1 := State.getF_setF_self s _ _
  have htotal : s.vinBack.getF Reg.MD_ABANDON_ABN_TOTAL = s.getF Reg.MD_ABANDON_ABN_TOTAL := State.getF_setF_ne s _ (by decide)
  obtain ⟨hkept, hshows⟩ := State.abandon_shows hback
  rw [htotal] at hshows
  exact ⟨_, hexec, hkept.trans hmode, hshows⟩

/-! #### What broken entries do to an abandon that powers up (R351, R354, R355) -/

/-- The mode, the manifest, the abandon's stage and the recorded reasons stay. -/
structure PowerKept (s t : State) : Prop where
  mode : t.mode = s.mode
  man : t.bur.manPages = s.bur.manPages
  abn : t.bur.abn = s.bur.abn
  lock : t.getF Reg.MD_LOCKOUT_ALL = s.getF Reg.MD_LOCKOUT_ALL

theorem PowerKept.refl (s : State) : PowerKept s s := ⟨rfl, rfl, rfl, rfl⟩

theorem PowerKept.trans {s t u : State} (h : PowerKept s t) (h' : PowerKept t u) : PowerKept s u :=
  ⟨h'.mode.trans h.mode, h'.man.trans h.man, h'.abn.trans h.abn, h'.lock.trans h.lock⟩

theorem PowerKept.ite {s t u : State} {p : Prop} [Decidable p] (ht : PowerKept s t) (hu : PowerKept s u) : PowerKept s (if p then t else u) := by
  split
  · exact ht
  · exact hu

theorem PowerKept.foldl {α : Type} {f : State → α → State} (h : ∀ a x, PowerKept a (f a x)) (l : List α) (s : State) : PowerKept s (l.foldl f s) := by
  induction l generalizing s with
  | nil => exact .refl s
  | cons x l ih => exact (h s x).trans (ih _)

/-- A step that leaves the mode, the manifest, the abandon's stage and the registers alone. -/
theorem PowerKept.of_frame {s t : State} (h : t = { s with
    phase := t.phase, host := t.host, cover := t.cover, dram := t.dram, nand := t.nand, twin := t.twin, rail := t.rail, spmi := t.spmi
    bur := { t.bur with manPages := s.bur.manPages, abn := s.bur.abn } }) : PowerKept s t :=
  ⟨by rw [h], by rw [h], by rw [h], RegsKept.of_regs (l := []) (by rw [h]) _ (by simp)⟩

/-- A step that moves registers alone, none of them the recorded reasons. -/
theorem PowerKept.of_regs {s t : State} {l : List Fld} (h : t = { s with regs := t.regs }) (hregs : RegsKept l s t)
    (hl : ∀ f ∈ l, Reg.MD_LOCKOUT_ALL.key ≠ f.key) : PowerKept s t :=
  ⟨by rw [h], by rw [h], by rw [h], hregs _ hl⟩

/-- Every field of a later register has another key than the recorded reasons. -/
theorem lockKey_ne {f : Fld} (h : 0x1009 ≤ f.off) : Reg.MD_LOCKOUT_ALL.key ≠ f.key := by
  have hkey : f.off * 128 ≤ f.key := Nat.le_trans (Nat.le_add_right _ _) (Nat.le_add_right _ _)
  have hlock : Reg.MD_LOCKOUT_ALL.key < 0x1009 * 128 := by decide
  omega

theorem powerKept_setF {s : State} {f : Fld} {v : Nat} (h : Reg.MD_LOCKOUT_ALL.key ≠ f.key) : PowerKept s (s.setF f v) :=
  .of_regs rfl (regsKept_setF (List.mem_singleton_self f)) (by simpa using h)

theorem powerKept_setFs {s : State} {a : List (Fld × Nat)} (h : ∀ p ∈ a, Reg.MD_LOCKOUT_ALL.key ≠ p.1.key) : PowerKept s (s.setFs a) :=
  .of_regs (l := a.map (·.1)) rfl (regsKept_setFs fun p hp => List.mem_map_of_mem hp) (by simpa using fun f v hf => h (f, v) hf)

theorem powerKept_raise {s : State} {src : EvSource} {cls : Nat} {sev : Sev} {param : Nat} : PowerKept s (s.raise src cls sev param) :=
  ⟨rfl, rfl, rfl, regsKept_raise _ (by decide)⟩

theorem powerKept_setEnt {s : State} {n st : Nat} : PowerKept s (s.setEnt n st) := by
  have hframe := s.setEnt_frame n st
  refine ⟨by rw [hframe], by rw [hframe], by rw [hframe], s.getF_setEnt n st (lockKey_ne ?_) fun _ => ⟨lockKey_ne ?_, lockKey_ne ?_⟩⟩
  · exact Nat.le_trans (by decide : 0x1009 ≤ 0xA10C) (Nat.le_add_right _ _)
  · exact Nat.le_trans (by decide : 0x1009 ≤ 0x9100) (Nat.le_add_right _ _)
  · exact Nat.le_trans (by decide : 0x1009 ≤ 0x9100) (Nat.le_add_right _ _)

theorem powerKept_setEnts {s : State} {l : List Nat} {st : Nat} : PowerKept s (s.setEnts l st) := .foldl (fun _ _ => powerKept_setEnt) l s

theorem powerKept_repower {s : State} : PowerKept s s.repower :=
  ⟨s.repower_mode, by rw [s.repower_bur], by rw [s.repower_bur], s.getF_repower (by decide)⟩

theorem powerKept_recount {s : State} : PowerKept s s.recount := .of_frame rfl

theorem powerKept_markFault {s : State} {n kind : Nat} : PowerKept s (s.markFault n kind) := powerKept_setFs (by
  simp only [List.mem_cons, List.not_mem_nil, or_false, forall_eq_or_imp, forall_eq]
  decide)

theorem powerKept_countFail {s : State} {n kind : Nat} : PowerKept s (s.countFail n kind) := by
  have htries {t : State} : PowerKept t (t.addSat (Reg.SQ_ENT_ST_TRIES n) 1) :=
    powerKept_setF (lockKey_ne (Nat.le_trans (by decide : 0x1009 ≤ 0xA10C) (Nat.le_add_right _ _)))
  exact ((PowerKept.ite powerKept_markFault (.refl s)).trans (.of_frame rfl)).trans htries

theorem powerKept_spmiPut {s : State} {m op target arg cls : Nat} : PowerKept s (s.spmiPut m op target arg cls) := by
  have hkey : Reg.MD_LOCKOUT_ALL.key ≠ (Reg.SQ_SLVSEQ_NEXT m).key := lockKey_ne (by simp only [Reg.SQ_SLVSEQ_NEXT]; omega)
  exact (powerKept_setF (s := s) hkey).trans (.of_frame rfl)

theorem powerKept_switchOff {s : State} {n : Nat} : PowerKept s (s.switchOff n) := by
  unfold State.switchOff
  refine .ite (powerKept_setEnt.trans powerKept_raise) ?_
  have hoff {st : Nat} : PowerKept s { s.setEnt n st with rail := { (s.setEnt n st).rail with since := mset n s.rail.tick s.rail.since } } :=
    powerKept_setEnt.trans (.of_frame rfl)
  exact .ite hoff (hoff.trans powerKept_spmiPut)

/-- With a reason recorded the decision of P5 goes to OFF: the burrow goes on to shed (R358). -/
theorem powerKept_p5Decide {s : State} (hlock : s.getF Reg.MD_LOCKOUT_ALL ≠ 0) : PowerKept s s.p5Decide := by
  have hoff : (s.getF Reg.MD_LOCKOUT_ALL != 0 || s.bur.offReq) = true := by simp [hlock]
  unfold State.p5Decide
  dsimp only
  rw [if_pos hoff]
  exact (powerKept_setF (s := s) (by decide)).trans (.of_frame rfl)

theorem powerKept_p5 {s : State} (hlock : s.getF Reg.MD_LOCKOUT_ALL ≠ 0) : PowerKept s s.p5 := by
  unfold State.p5
  generalize hu : ({ s with phase := .p5, host := _, twin := _, bur := _, regs := _ } : State) = u
  have hkept : PowerKept s u := by
    subst hu
    exact (powerKept_setFs (s := s) (a := [(Reg.MD_ABANDON_FORCE_NEXT, 0), (Reg.BE_ENERGY_E_SPENT, _)]) (by simp; decide)).trans (.of_frame rfl)
  exact hkept.trans (powerKept_p5Decide (by rwa [hkept.lock]))

theorem powerKept_lampStops {s : State} (hlock : s.getF Reg.MD_LOCKOUT_ALL ≠ 0) : PowerKept s s.lampStops := by
  unfold State.lampStops
  dsimp only
  generalize hu : State.setF _ Reg.SQ_STATUS_QUEUED _ = u
  have hkept : PowerKept s u := by
    subst hu
    exact (PowerKept.of_frame rfl).trans (powerKept_setF (by decide))
  exact hkept.trans (powerKept_p5 (by rwa [hkept.lock]))

theorem powerKept_takenLost {s : State} {g : Nat} : PowerKept s (s.takenLost g) :=
  (PowerKept.of_frame (t := s.lostSlot g) rfl).trans (powerKept_setF (s := s.lostSlot g) (by decide))

theorem powerKept_keepPage {s : State} {n : Nat} : PowerKept s (s.keepPage n) := .of_frame rfl

theorem powerKept_setCtx {s : State} {n : Nat} {c : Ctx} : PowerKept s (s.setCtx n c) := .of_frame rfl

theorem powerKept_dropCtxReads {s : State} {n : Nat} : PowerKept s (s.dropCtxReads n) := .of_frame rfl

theorem powerKept_loseChannels {s : State} : PowerKept s s.loseChannels := by
  refine (PowerKept.foldl (fun (a : State) (c : Nat × Ctx) => ?_) _ s).trans (.of_frame rfl)
  exact .ite ((powerKept_dropCtxReads.trans powerKept_takenLost).trans powerKept_keepPage) (powerKept_takenLost.trans powerKept_setCtx)

theorem powerKept_trickleBack {s : State} {g age : Nat} : PowerKept s (s.trickleBack g age) := .of_frame rfl

theorem powerKept_handoff {s : State} {g : Nat} : PowerKept s (s.handoff g) := .of_frame rfl

theorem powerKept_haltGroup {s : State} {p : Nat → Bool} : PowerKept s (s.haltGroup p) := by
  unfold State.haltGroup
  extract_lets hit gs backs s1
  have hback : PowerKept s s1 := .foldl (fun _ _ => powerKept_trickleBack.trans powerKept_handoff) _ s
  exact ((hback.trans (.of_frame rfl)).trans (powerKept_setF (by decide))).trans powerKept_recount

theorem powerKept_stopSweep {s : State} : PowerKept s s.stopSweep :=
  .ite (.refl s) ((powerKept_setF (s := s) (f := Reg.BE_STATUS_ESTOP) (v := 1) (by decide)).trans (.of_frame rfl))

theorem powerKept_burrowRail {s : State} (hlock : s.getF Reg.MD_LOCKOUT_ALL ≠ 0) (n : Nat) : PowerKept s (s.burrowRail n) := by
  have hbad : PowerKept s { s with bur := { s.bur with dramBad := [0, 1] } } := .of_frame rfl
  have hgroup : PowerKept s { (s.haltGroup (fun _ => true)).stopSweep with
      bur := { (s.haltGroup (fun _ => true)).stopSweep.bur with noManifest := true } } :=
    (powerKept_haltGroup.trans powerKept_stopSweep).trans (.of_frame rfl)
  have hlamp := powerKept_lampStops hlock
  exact .ite hlamp (.ite (.ite hbad (.refl s)) (.ite hlamp (.ite powerKept_loseChannels (.ite hgroup (.ite powerKept_haltGroup
    (.ite powerKept_haltGroup (.refl s)))))))

theorem powerKept_shedDeps {s : State} (hlock : s.getF Reg.MD_LOCKOUT_ALL ≠ 0) (n : Nat) : PowerKept s (s.shedDeps n) := by
  unfold State.shedDeps
  extract_lets deps on t
  have ht : PowerKept s t := (((PowerKept.foldl (fun _ _ => powerKept_switchOff) on s).trans powerKept_setEnts).trans powerKept_repower).trans
    powerKept_recount
  have hrails (l : List Nat) : ∀ a : State, a.getF Reg.MD_LOCKOUT_ALL ≠ 0 → PowerKept a (l.foldl State.burrowRail a) := by
    induction l with
    | nil => exact fun a _ => .refl a
    | cons m l ih => exact fun a ha => (powerKept_burrowRail ha m).trans (ih _ (by rwa [(powerKept_burrowRail ha m).lock]))
  exact .ite (ht.trans (hrails on t (by rwa [ht.lock]))) ht

/-! #### The abandon's up sequence with failures -/

/-- An abandon that powers up in BURROW, or one that a critical failure has ended with its reason recorded. -/
structure PoweringUp (s : State) : Prop where
  mode : s.mode = .burrow
  man : s.bur.manPages = []
  stage : s.bur.abn = .powering ∨ (s.bur.abn = .none ∧ s.getF Reg.MD_LOCKOUT_ALL ≠ 0)

theorem PoweringUp.kept {s t : State} (hs : PoweringUp s) (h : PowerKept s t) : PoweringUp t :=
  ⟨h.mode.trans hs.mode, h.man.trans hs.man, by rw [h.abn, h.lock]; exact hs.stage⟩

/-- A recorded reason stands. -/
theorem State.recordLock_shows (s : State) (n : Nat) : (s.recordLock 5 n).mode = s.mode ∧ (s.recordLock 5 n).bur = s.bur ∧
    (s.recordLock 5 n).getF Reg.MD_LOCKOUT_ALL ≠ 0 := by
  have hall : (s.recordLock 5 n).getF Reg.MD_LOCKOUT_ALL = (s.getF Reg.MD_LOCKOUT_ALL ||| 2 ^ (5 - 1)) % 2 ^ Reg.MD_LOCKOUT_ALL.w := by
    unfold State.recordLock
    dsimp only
    rw [regsKept_raiseIf _ (by decide)]
    exact State.getF_setFs_head s Reg.MD_LOCKOUT_ALL _ [(Reg.MD_LOCKOUT_REASON, _), (Reg.MD_LOCKOUT_RAIL, _)]
      [Reg.MD_LOCKOUT_REASON, Reg.MD_LOCKOUT_RAIL] (by simp) (by decide)
  refine ⟨rfl, rfl, fun h => ?_⟩
  have hbit : ((s.getF Reg.MD_LOCKOUT_ALL ||| 2 ^ (5 - 1)) % 2 ^ Reg.MD_LOCKOUT_ALL.w).testBit 4 = true := by
    rw [Nat.testBit_mod_two_pow, Nat.testBit_or, Nat.testBit_two_pow_self, Bool.or_true]
    rfl
  rw [← hall, h, Nat.zero_testBit] at hbit
  cases hbit

theorem poweringUp_critFault {s : State} (hs : PoweringUp s) (n : Nat) : PoweringUp (s.critFault n) := by
  unfold State.critFault
  rw [hs.mode]
  dsimp only
  split
  case isTrue hpower =>
    obtain ⟨hmode, hbur, hlock⟩ := s.recordLock_shows n
    generalize s.recordLock 5 n = u at hmode hbur hlock
    have hframe := State.startBurrow_frame (({ u with bur := { u.bur with abn := .none, trig := false } } : State).setFs
      [(Reg.BE_STATUS_ABANDONING, 0), (Reg.SQ_STATUS_SEQ, 0)]) .rail
    have hregs := regsKept_startBurrow (({ u with bur := { u.bur with abn := .none, trig := false } } : State).setFs
      [(Reg.BE_STATUS_ABANDONING, 0), (Reg.SQ_STATUS_SEQ, 0)]) .rail Reg.MD_LOCKOUT_ALL (by decide)
    have hsets := regsKept_setFs (s := { u with bur := { u.bur with abn := .none, trig := false } })
      (a := [(Reg.BE_STATUS_ABANDONING, 0), (Reg.SQ_STATUS_SEQ, 0)]) (l := [Reg.BE_STATUS_ABANDONING, Reg.SQ_STATUS_SEQ]) (by simp)
      Reg.MD_LOCKOUT_ALL (by decide)
    refine ⟨?_, ?_, .inr ⟨?_, ?_⟩⟩
    · rw [hframe]; exact hmode.trans hs.mode
    · rw [hframe]; exact (congrArg BurrowSt.manPages hbur).trans hs.man
    · rw [hframe]; rfl
    · rw [hregs, hsets]; exact hlock
  case isFalse hnot =>
    obtain ⟨habn, hlock⟩ := hs.stage.resolve_left hnot
    have hshed := powerKept_shedDeps hlock n
    obtain ⟨hmode, hbur, hlock'⟩ := (s.shedDeps n).recordLock_shows n
    generalize (s.shedDeps n).recordLock 5 n = u at hmode hbur hlock'
    have hu : u.mode = .burrow := (hmode.trans hshed.mode).trans hs.mode
    have hnone : u.bur.abn = .none := by rw [hbur, hshed.abn, habn]
    have hman : u.bur.manPages = [] := by rw [hbur, hshed.man, hs.man]
    have htrigger : u.trigger .rail = u.joinCause .rail := by simp [State.trigger, hu, hnone]
    have hjoin : PowerKept u (u.joinCause .rail) := (powerKept_setF (by decide)).trans (powerKept_setF (by decide))
    have hrail := powerKept_burrowRail (s := u.joinCause .rail) (by rwa [hjoin.lock]) n
    rw [htrigger]
    exact PoweringUp.kept ⟨hu, hman, .inr ⟨hnone, hlock'⟩⟩ (hjoin.trans hrail)

theorem poweringUp_critDeps {s : State} (hs : PoweringUp s) (l : List Nat) (kind : Nat) : PoweringUp (s.critDeps l kind) := by
  have hfailed : PowerKept s (l.foldl (fun (a : State) m => (a.countFail m kind).setEnt m 5) s).repower :=
    (PowerKept.foldl (fun _ _ => powerKept_countFail.trans powerKept_setEnt) l s).trans powerKept_repower
  unfold State.critDeps
  dsimp only
  split
  · exact poweringUp_critFault (hs.kept hfailed) _
  · exact hs

theorem poweringUp_failUp {s : State} (hs : PoweringUp s) (n : Nat) (final : Bool) : PoweringUp (s.failUp n final) := by
  unfold State.failUp
  dsimp only
  split
  · exact poweringUp_critFault (hs.kept ((powerKept_countFail.trans powerKept_setEnt).trans powerKept_repower)) n
  · have hcount := hs.kept (powerKept_countFail (n := n) (kind := 4) |>.trans (powerKept_raise (src := .keeper) (cls := 0x24) (sev := .error)
      (param := n + 256 * 4)))
    split
    · unfold State.leaveOff
      dsimp only
      refine poweringUp_critDeps (hcount.kept ?_) _ _
      exact ((powerKept_setEnts.trans (powerKept_setF (by decide))).trans powerKept_repower).trans powerKept_recount
    · exact hcount.kept (powerKept_setEnt.trans powerKept_repower)

theorem poweringUp_brokenFail {s : State} (hs : PoweringUp s) : PoweringUp s.brokenFail := by
  have hfails (l : List Nat) : ∀ a : State, PoweringUp a → PoweringUp (l.foldl (fun (a : State) n => a.failUp n true) a) := by
    induction l with
    | nil => exact fun _ ha => ha
    | cons n l ih => exact fun a ha => ih _ (poweringUp_failUp ha n true)
  exact (hfails _ s hs).kept powerKept_setEnts

theorem State.brokenFail_whole {s : State} (h : ∀ n ∈ railEntries, s.broken n = false) : s.brokenFail = s := by
  have hnone : railEntries.filter s.broken = [] := List.filter_eq_nil_iff.mpr fun n hn => by simp [h n hn]
  unfold State.brokenFail
  rw [hnone]
  rfl

/-- The state in which the abandon powers up: its record stands, its manifest pages are gone. -/
def State.abandonRecorded (s : State) : State :=
  { s.jNow (.abandon s.bur.version s.bur.staging.length) with
    bur := { (s.jNow (.abandon s.bur.version s.bur.staging.length)).bur with abn := .powering, manPages := [] } }

/-- Beside the abandon's stage the record moves the keeper flash alone. -/
theorem State.abandonRecorded_frame (s : State) : s.abandonRecorded = { s with
    keep := s.abandonRecorded.keep, regs := s.abandonRecorded.regs, bur := { s.bur with abn := .powering, manPages := [] } } := by
  unfold State.abandonRecorded
  rw [(journalKept_jNow s _).1]

theorem regsKept_abandonRecorded (s : State) : RegsKept [Reg.EF_OPS_SUSPENDS] s s.abandonRecorded :=
  (journalKept_jNow s (.abandon s.bur.version s.bur.staging.length)).2.trans (.of_regs rfl)

theorem State.broken_abandonRecorded (s : State) (n : Nat) : s.abandonRecorded.broken n = s.broken n := by
  have hkept := regsKept_abandonRecorded s
  refine State.broken_congr (fun m => hkept _ ?_) (fun m => hkept _ ?_) (hkept _ (by decide)) n
  · simp only [List.mem_singleton, forall_eq, Fld.key, Reg.SQ_ENT_UP_EN, Reg.EF_OPS_SUSPENDS, RCls.code]
    omega
  · simp only [List.mem_singleton, forall_eq, Fld.key, Reg.SQ_ENT_PAR_PARENTS, Reg.EF_OPS_SUSPENDS, RCls.code]
    omega

theorem poweringUp_abandonRecorded {s : State} (h : s.mode = .burrow) : PoweringUp s.abandonRecorded := by
  have hframe := s.abandonRecorded_frame
  exact ⟨by rw [hframe]; exact h, by rw [hframe], .inl (by rw [hframe])⟩

/-- A field that stands clear of every entry's state and output. -/
def offEntries (g : Fld) : Bool := decide (g.key < 0x9100 * 128 ∨ 0x9300 * 128 ≤ g.key ∧ g.key < 0xA10C * 128)

/-- Entries set move registers alone, their own. -/
def EntriesMoved (s t : State) : Prop := t = { s with regs := t.regs } ∧ ∀ g, offEntries g = true → t.getF g = s.getF g

theorem entriesMoved_setEnt (s : State) (n st : Nat) : EntriesMoved s (s.setEnt n st) := by
  refine ⟨s.setEnt_frame n st, fun g hg => s.getF_setEnt n st ?_ fun hown => ?_⟩
  · simp only [offEntries, decide_eq_true_eq] at hg
    rw [show (Reg.SQ_ENT_ST_STATE n).key = (0xA10C + 16 * n) * 128 + 0 * 4 + RCls.por.code from rfl]
    omega
  · simp only [offEntries, ownOut, decide_eq_true_eq] at hg hown
    rw [show (Reg.PS_SET_ON n).key = (0x9100 + 16 * n) * 128 + 31 * 4 + 0 from rfl,
      show (Reg.PS_SET_PG n).key = (0x9100 + 16 * n) * 128 + 30 * 4 + 0 from rfl]
    omega

theorem EntriesMoved.foldl {α : Type} {f : State → α → State} (h : ∀ a x, EntriesMoved a (f a x)) (l : List α) (s : State) :
    EntriesMoved s (l.foldl f s) := by
  induction l generalizing s with
  | nil => exact ⟨rfl, fun _ _ => rfl⟩
  | cons x l ih =>
    obtain ⟨hone, hg⟩ := h s x
    obtain ⟨hrest, hg'⟩ := ih (f s x)
    refine ⟨?_, fun g hoff => (hg' g hoff).trans (hg g hoff)⟩
    rw [List.foldl_cons, hrest, hone]

/-- The sequence, its steps and its queue start afresh. -/
def State.abnStarted (s : State) : State :=
  let s0 := s.seqForce.setFs [(Reg.SQ_STATUS_SEQ, 2), (Reg.SQ_STATUS_ELAPSED, 0), (Reg.BE_STATUS_SHED, 15), (Reg.SQ_STATUS_QUEUED, 0)]
  { s0 with rail := { s0.rail with seqStart := s0.rail.tick, tries := [], downTo := 0 } }

/-- An entry that is off is to rise, or stands as broken. -/
def State.abnEntry (s a : State) (n : Nat) : State :=
  if a.entEn n && [0, 6, 7].contains (a.entSt n) then a.setEnt n (if s.broken n then 8 else 1) else a

theorem State.abnRise_eq (s : State) : s.abnRise = (railEntries.foldl s.seqForce.abnEntry s.abnStarted).repower := by
  unfold State.abnRise State.abnStarted State.abnEntry
  dsimp only

theorem entriesMoved_abnEntry (s a : State) (n : Nat) : EntriesMoved a (s.abnEntry a n) := by
  unfold State.abnEntry
  split
  · exact entriesMoved_setEnt a n _
  · exact ⟨rfl, fun _ _ => rfl⟩

theorem State.abnStarted_shows (s : State) : s.abnStarted.mode = s.mode ∧ s.abnStarted.bur = s.bur ∧ s.abnStarted.dram = s.dram ∧
    s.abnStarted.getF Reg.SQ_STATUS_SEQ = 2 ∧ s.abnStarted.getF Reg.BE_STATUS_SHED = 15 ∧ s.abnStarted.getF Reg.SQ_STATUS_QUEUED = 0 := by
  have hforce : s.seqForce = { s with regs := s.seqForce.regs, written := s.seqForce.written } := State.comeInto_frame _ _
  unfold State.abnStarted
  generalize s.seqForce = f at hforce
  refine ⟨by rw [hforce]; rfl, by rw [hforce]; rfl, by rw [hforce]; rfl, ?_, ?_, ?_⟩
  · exact State.getF_setFs_head f _ _ _ [Reg.SQ_STATUS_ELAPSED, Reg.BE_STATUS_SHED, Reg.SQ_STATUS_QUEUED] (by simp) (by decide)
  · exact State.getF_setFs_head ((f.setF Reg.SQ_STATUS_SEQ 2).setF Reg.SQ_STATUS_ELAPSED 0) _ _ _ [Reg.SQ_STATUS_QUEUED] (by simp) (by decide)
  · exact State.getF_setF_self (((f.setF Reg.SQ_STATUS_SEQ 2).setF Reg.SQ_STATUS_ELAPSED 0).setF Reg.BE_STATUS_SHED 15) _ _

/-- Entries that shed steps turned off are to rise, in BURROW still. -/
theorem State.abnRise_shows (s : State) : s.abnRise.mode = s.mode ∧ s.abnRise.bur.manPages = s.bur.manPages ∧ s.abnRise.bur.abn = s.bur.abn ∧
    s.abnRise.getF Reg.SQ_STATUS_SEQ = 2 ∧ s.abnRise.getF Reg.BE_STATUS_SHED = 15 ∧ s.abnRise.getF Reg.SQ_STATUS_QUEUED = 0 ∧
    s.abnRise.dram.cells = s.dram.cells := by
  obtain ⟨hmode, hbur, hdram, hseq, hshed, hqueued⟩ := s.abnStarted_shows
  obtain ⟨hframe, hregs⟩ := EntriesMoved.foldl (entriesMoved_abnEntry s.seqForce) railEntries s.abnStarted
  rw [State.abnRise_eq]
  generalize railEntries.foldl s.seqForce.abnEntry s.abnStarted = r at hframe hregs
  have hrmode : r.mode = s.mode := by rw [hframe, hmode]
  have hrbur : r.bur = s.bur := by rw [hframe, hbur]
  have hrdram : r.dram = s.dram := by rw [hframe, hdram]
  refine ⟨r.repower_mode.trans hrmode, ?_, ?_, ?_, ?_, ?_, ?_⟩
  · rw [State.repower_bur, hrbur]
  · rw [State.repower_bur, hrbur]
  · rw [State.getF_repower (by decide), hregs _ (by decide), hseq]
  · rw [State.getF_repower (by decide), hregs _ (by decide), hshed]
  · rw [State.getF_repower (by decide), hregs _ (by decide), hqueued]
  · rw [r.repower_kept.2.2, hrdram]

/-- The up sequence of an abandon goes on, or ends, in BURROW. -/
theorem State.abnRise_seqCheck {s : State} (hmode : s.mode = .burrow) :
    s.abnRise.seqCheck.mode = .burrow ∧ s.abnRise.seqCheck.bur.manPages = s.bur.manPages ∧ s.abnRise.seqCheck.bur.abn = s.bur.abn ∧
      s.abnRise.seqCheck.getF Reg.BE_STATUS_SHED = 15 ∧ s.abnRise.seqCheck.getF Reg.SQ_STATUS_QUEUED = 0 ∧
      s.abnRise.seqCheck.dram.cells = s.dram.cells := by
  obtain ⟨hkept, hman, habn, hseq, hshed, hqueued, hcells⟩ := s.abnRise_shows
  have hcheck : s.abnRise.seqCheck = if s.abnRise.upBusy then s.abnRise else s.abnRise.setFs [(Reg.SQ_STATUS_SEQ, 0)] := by
    have hup : s.abnRise.upEnd = s.abnRise.setFs [(Reg.SQ_STATUS_SEQ, 0)] := if_neg (by rw [hkept, hmode]; decide)
    rw [State.seqCheck, hseq, ← hup]
    rfl
  generalize s.abnRise = t at hkept hman habn hseq hshed hqueued hcells hcheck
  rw [hcheck]
  split
  · exact ⟨hkept.trans hmode, hman, habn, hshed, hqueued, hcells⟩
  · have hsets : RegsKept [Reg.SQ_STATUS_SEQ] t (t.setFs [(Reg.SQ_STATUS_SEQ, 0)]) := regsKept_setFs (by simp)
    exact ⟨hkept.trans hmode, hman, habn, (hsets _ (by decide)).trans hshed, (hsets _ (by decide)).trans hqueued, hcells⟩

theorem exec_abandonRecordWritten {s : State} (hmode : s.mode = .burrow) (habn : s.bur.abn = .finishing)
    (hidle : s.ctxCount (fun c => c.st == .prog || c.st == .check) = 0) :
    exec .abandonRecordWritten s = .next (
      let u := s.abandonRecorded.brokenFail
      if u.bur.abn ≠ .powering then u
      else if s.getF Reg.SQ_STATUS_SEQ = 3 then { (u.setF Reg.SQ_STATUS_QUEUED 0) with rail := { u.rail with downTo := 5 } }
      else u.abnRise.seqCheck) :=
  congrArg Host.Outcome.next (if_pos (by simp [hmode, habn, hidle]))

theorem abandonRecordWritten_powers {s : State} (hmode : s.mode = .burrow) (habn : s.bur.abn = .finishing)
    (hidle : s.ctxCount (fun c => c.st == .prog || c.st == .check) = 0) :
    ∃ t, exec .abandonRecordWritten s = .next t ∧ t.mode = .burrow ∧ t.bur.manPages = [] ∧
      ((∀ n ∈ railEntries, s.broken n = false) → t.bur.abn = .powering) ∧
      ((∀ n ∈ railEntries, s.broken n = false) → s.getF Reg.SQ_STATUS_SEQ = 3 → t.rail.downTo = 5 ∧ t.getF Reg.SQ_STATUS_QUEUED = 0 ∧
        t.getF Reg.SQ_STATUS_SEQ = 3 ∧ t.dram = s.dram ∧ t.cover = s.cover) ∧
      ((∀ n ∈ railEntries, s.broken n = false) → s.getF Reg.SQ_STATUS_SEQ ≠ 3 → t.getF Reg.BE_STATUS_SHED = 15 ∧ t.getF Reg.SQ_STATUS_QUEUED = 0 ∧
        t.dram.cells = s.dram.cells) := by
  have hexec := exec_abandonRecordWritten hmode habn hidle
  have hframe := s.abandonRecorded_frame
  have hkept := regsKept_abandonRecorded s
  have hup := poweringUp_brokenFail (poweringUp_abandonRecorded hmode)
  have hwhole (h : ∀ n ∈ railEntries, s.broken n = false) : s.abandonRecorded.brokenFail = s.abandonRecorded :=
    State.brokenFail_whole fun n hn => (s.broken_abandonRecorded n).trans (h n hn)
  have hpowers (h : ∀ n ∈ railEntries, s.broken n = false) : s.abandonRecorded.brokenFail.bur.abn = .powering := by
    rw [hwhole h, hframe]
  generalize s.abandonRecorded = r at hframe hkept hup hwhole hpowers hexec
  generalize r.brokenFail = u at hup hwhole hpowers hexec
  dsimp only at hexec
  by_cases hstage : u.bur.abn = .powering
  · rw [if_neg (not_not_intro hstage)] at hexec
    by_cases hseq : s.getF Reg.SQ_STATUS_SEQ = 3
    · rw [if_pos hseq] at hexec
      refine ⟨_, hexec, hup.mode, hup.man, fun _ => hstage, fun h _ => ⟨rfl, State.getF_setF_self _ _ _, ?_, ?_, ?_⟩, fun _ hne => absurd hseq hne⟩
      · refine (u.getF_setF_ne (f := Reg.SQ_STATUS_QUEUED) 0 (by decide)).trans ?_
        rw [hwhole h, hkept _ (by decide), hseq]
      · change u.dram = s.dram
        rw [hwhole h, hframe]
      · change u.cover = s.cover
        rw [hwhole h, hframe]
    · rw [if_neg hseq] at hexec
      obtain ⟨hrmode, hrman, hrabn, hshed, hqueued, hcells⟩ := State.abnRise_seqCheck hup.mode
      refine ⟨_, hexec, hrmode, hrman.trans hup.man, fun _ => hrabn.trans hstage, fun _ h => absurd h hseq, fun h _ => ⟨hshed, hqueued, ?_⟩⟩
      rw [hcells, hwhole h, hframe]
  · rw [if_pos hstage] at hexec
    have hnot (h : ∀ n ∈ railEntries, s.broken n = false) : False := hstage (hpowers h)
    exact ⟨u, hexec, hup.mode, hup.man, fun h => (hnot h).elim, fun h => (hnot h).elim, fun h => (hnot h).elim⟩

/-! #### The write path leaves the abandon and the fence alone -/

/-- The abandon's stage and the fence. -/
def State.gate (s : State) : AbnStep × Bool := (s.bur.abn, s.bur.fenced)

theorem State.gate_foldl {α : Type} {f : State → α → State} (h : ∀ a x, (f a x).gate = a.gate) (l : List α) (s : State) :
    (l.foldl f s).gate = s.gate := by
  induction l generalizing s with
  | nil => rfl
  | cons x l ih => exact (ih _).trans (h s x)

/-- A step that moves only the engines beside the burrow's. -/
theorem State.gate_of_frame {s t : State}
    (h : t = { s with host := t.host, cover := t.cover, dram := t.dram, nand := t.nand, twin := t.twin, regs := t.regs, ev := t.ev }) :
    t.gate = s.gate := by
  rw [h]
  rfl

theorem State.gate_ledgerTake {s t : State} {g : Nat} (h : s.ledgerTake g = some t) : t.gate = s.gate := by
  unfold State.ledgerTake at h
  split at h
  · cases h; exact State.gate_of_frame rfl
  · cases h; exact State.gate_of_frame rfl
  · cases h; exact State.gate_of_frame rfl
  · split at h
    · cases h; exact State.gate_of_frame rfl
    · split at h
      · cases h; exact State.gate_of_frame rfl
      · cases h

theorem State.gate_armCtx {s t : State} {n : Nat} (h : s.armCtx n = some t) : t.gate = s.gate := by
  unfold State.armCtx at h
  split at h
  · cases h
  · obtain ⟨loc, -, rfl⟩ := Option.map_eq_some_iff.mp h
    rfl

theorem State.gate_takeCtx {s t : State} {n : Nat} (h : s.takeCtx = some (n, t)) : t.gate = s.gate := by
  unfold State.takeCtx at h
  split at h
  · cases h
    rfl
  · simp only [Option.bind_eq_some_iff] at h
    obtain ⟨m, -, u, hu, h⟩ := h
    split at h
    · cases h
    · cases h
      exact State.gate_armCtx hu

theorem State.gate_rearm (s : State) (n : Nat) : (s.rearm n).gate = s.gate := by
  unfold State.rearm
  cases h : s.armCtx n with
  | none => rfl
  | some t => exact State.gate_armCtx h

theorem State.gate_askCtx (s : State) (n : Nat) : (s.askCtx n).gate = s.gate := by
  unfold State.askCtx
  dsimp only
  split <;> rfl

theorem State.gate_frameIf (s : State) (b : Bool) (ty par : Nat) : (s.frameIf b ty par).gate = s.gate := by
  cases b <;> rfl

theorem State.gate_raiseIf (s : State) (b : Bool) (src : EvSource) (cls : Nat) (sev : Sev) (param : Nat) :
    (s.raiseIf b src cls sev param).gate = s.gate := by
  cases b <;> rfl

theorem State.gate_wtTry (s : State) : s.wtTry.gate = s.gate := by
  unfold State.wtTry
  split
  · split
    · split
      case _ n t htake =>
        have htaken : t.gate = s.gate := State.gate_takeCtx htake
        exact (State.gate_askCtx _ n).trans htaken
      case _ => rfl
    · rfl
  · rfl

theorem State.gate_stageWrite (s : State) (w : Wr) : (s.stageWrite w).gate = s.gate := s.gate_frameIf _ _ _

theorem State.gate_stageWsn (s : State) : s.stageWsn.gate = s.gate := by
  unfold State.stageWsn
  split
  · split
    · exact State.gate_frameIf _ _ _ _
    · rfl
  · rfl

theorem State.gate_startWt (s : State) (w : Wr) : (s.startWt w).gate = s.gate := (State.gate_wtTry _).trans (State.gate_stageWsn _)

theorem State.gate_creditWait (s : State) (w : Wr) : (s.creditWait w).gate = s.gate := by
  unfold State.creditWait
  dsimp only
  split
  · exact (State.gate_startWt _ w).trans (State.gate_raiseIf _ _ _ _ _ _)
  · exact State.gate_raiseIf _ _ _ _ _ _

theorem State.gate_bufStep (s : State) (w : Wr) : (s.bufStep w).gate = s.gate := by
  unfold State.bufStep
  split
  · rfl
  · exact s.gate_stageWrite w

theorem State.gate_bufLeave (s : State) : s.bufLeave.gate = s.gate := by
  unfold State.bufLeave
  split
  · split
    · rfl
    · exact State.gate_stageWrite _ _
  · rfl

theorem State.gate_leaveIngress (s : State) (rest : List Wr) : (s.leaveIngress rest).gate = s.gate := State.gate_of_frame rfl

theorem State.gate_ledgerRun (n : Nat) (s : State) : (ledgerRun n s).gate = s.gate := by
  induction n generalizing s with
  | zero => rfl
  | succ n ih =>
    unfold ledgerRun
    split
    · split
      · rfl
      · split
        case _ a htake =>
          have htaken : a.gate = s.gate := (State.gate_ledgerTake htake).trans (State.gate_leaveIngress s _)
          exact (ih _).trans ((State.gate_bufStep _ _).trans htaken)
        case _ => exact (State.gate_creditWait _ _).trans (State.gate_leaveIngress s _)
    · rfl

theorem State.gate_mirrorWt (s : State) : s.mirrorWt.gate = s.gate := by
  unfold State.mirrorWt
  split
  · dsimp only
    split
    · exact State.gate_rearm _ _
    · rfl
  · rfl

theorem State.gate_commitTo (s : State) (wsn : Nat) : (s.commitTo wsn).gate = s.gate :=
  State.gate_foldl (f := fun (a : State) (w : Wr) => a.commitLine w.line w.be w.data) (fun _ _ => rfl) _ s

theorem State.gate_learnCommit (s : State) (cum : Nat) : (s.learnCommit cum).gate = s.gate :=
  (State.gate_mirrorWt _).trans (State.gate_commitTo _ _)

theorem State.gate_mirrorStep (s : State) (w : Wr) : (s.mirrorStep w).gate = s.gate := by
  unfold State.mirrorStep
  split
  · rfl
  · exact State.gate_learnCommit _ _

theorem State.gate_mirrorLeave (s : State) : s.mirrorLeave.gate = s.gate := by
  unfold State.mirrorLeave
  split
  · split
    · rfl
    · exact State.gate_learnCommit _ _
  · rfl

theorem State.gate_mirrorRun (n : Nat) (s : State) : (mirrorRun n s).gate = s.gate := by
  induction n generalizing s with
  | zero => rfl
  | succ n ih =>
    unfold mirrorRun
    split
    case _ w t _ _ =>
      have hwait : State.gate { s with twin := { s.twin with mwait := t } } = s.gate := State.gate_of_frame rfl
      dsimp only
      generalize ({ s with twin := { s.twin with mwait := t } } : State) = r at hwait ⊢
      split
      · rfl
      · split
        case _ a htake =>
          have htaken : a.gate = s.gate := (State.gate_ledgerTake htake).trans hwait
          exact (ih _).trans ((State.gate_mirrorStep _ _).trans htaken)
        case _ => exact (State.gate_creditWait _ _).trans hwait
    case _ => rfl

theorem State.gate_rsyRun (n : Nat) (s : State) : (rsyRun n s).gate = s.gate := by
  induction n generalizing s with
  | zero => rfl
  | succ n ih =>
    unfold rsyRun
    split
    · split
      · rfl
      · split
        case _ a htake =>
          have htaken : a.gate = s.gate := State.gate_ledgerTake htake
          exact (ih _).trans htaken
        case _ => rfl
    · split <;> rfl

theorem State.gate_ledgerGo (s : State) : s.ledgerGo.gate = s.gate := by
  unfold State.ledgerGo
  split
  · split
    · exact (State.gate_ledgerRun _ _).trans (State.gate_bufLeave _)
    · split
      · exact (State.gate_wtTry _).trans ((State.gate_ledgerRun _ _).trans (State.gate_bufLeave _))
      · rfl
  · split
    · exact (State.gate_rsyRun _ _).trans ((State.gate_mirrorRun _ _).trans (State.gate_mirrorLeave _))
    · rfl

theorem State.gate_armCopy {s t : State} {kind : CopyKind} {g age : Nat} (h : s.armCopy kind g age = some t) : t.gate = s.gate := by
  unfold State.armCopy at h
  split at h
  · cases h
  · obtain ⟨⟨n, u⟩, htake, rfl⟩ := Option.map_eq_some_iff.mp h
    have htaken : u.gate = s.gate := State.gate_takeCtx htake
    exact (State.gate_askCtx _ n).trans htaken

theorem State.gate_armRefresh (s : State) : s.armRefresh.gate = s.gate := by
  have hone (a : State) (g : Nat) : (a.armOneRefresh g).gate = a.gate := by
    unfold State.armOneRefresh
    split
    · rfl
    · cases h : a.armCopy .refresh g 0 with
      | none => rfl
      | some t => exact (State.gate_armCopy h : t.gate = a.gate)
  unfold State.armRefresh
  split
  · exact State.gate_foldl hone _ _
  · rfl

/-! #### The end of an abandon (R24, R60, R253, R273) -/

theorem still_ledgerGo {s : State} : Still s s.ledgerGo :=
  .of_pathKept pathKept_ledgerGo (congrArg Prod.fst s.gate_ledgerGo) (congrArg Prod.snd s.gate_ledgerGo)

theorem still_wtTry {s : State} : Still s s.wtTry :=
  .of_pathKept pathKept_wtTry (congrArg Prod.fst s.gate_wtTry) (congrArg Prod.snd s.gate_wtTry)

theorem pathKept_armCopy {s t : State} {kind : CopyKind} {g age : Nat} (h : s.armCopy kind g age = some t) : PathKept s t := by
  unfold State.armCopy at h
  split at h
  · cases h
  · obtain ⟨⟨n, u⟩, htake, rfl⟩ := Option.map_eq_some_iff.mp h
    exact (pathKept_takeCtx htake).trans ((PathKept.of_frame rfl).trans pathKept_askCtx)

theorem pathKept_armRefresh {s : State} : PathKept s s.armRefresh := by
  have hone (a : State) (g : Nat) : PathKept a (a.armOneRefresh g) := by
    unfold State.armOneRefresh
    split
    · exact .refl a
    · cases h : a.armCopy .refresh g 0 with
      | none => exact .refl a
      | some t => exact (pathKept_armCopy h).trans (.of_frame rfl)
  unfold State.armRefresh
  split
  · exact .foldl hone _ _
  · exact .refl s

theorem still_armRefresh {s : State} : Still s s.armRefresh :=
  .of_pathKept pathKept_armRefresh (congrArg Prod.fst s.gate_armRefresh) (congrArg Prod.snd s.gate_armRefresh)

theorem still_frameIf {s : State} {b : Bool} {ty par : Nat} : Still s (s.frameIf b ty par) := by
  cases b <;> exact .of_frame rfl

theorem still_discardAll {s : State} : Still s s.discardAll := (Still.of_frame rfl).trans still_frameIf

theorem still_discardHeld {s : State} : Still s s.discardHeld := by
  refine .of_frame ?_
  rw [s.discardHeld_frame]

theorem still_creditsIfDue {s : State} : Still s s.creditsIfDue := .ite still_openCredits (.refl s)

theorem still_ask {s : State} {q : DramQ} : Still s (s.ask q) := .of_frame rfl

theorem still_askReads {s : State} : Still s s.askReads :=
  (Still.of_frame rfl).trans (.foldl (fun a _ => .ite (.refl a) still_ask) _ s.dropHostReads)

theorem still_serveReads {s : State} : Still s s.serveReads := .of_frame rfl

/-- In RUN the latched triggers act one after the other, and RUN goes on. -/
theorem still_fireLatched {s : State} (hrun : s.mode = .run) : Still s s.fireLatched := by
  have hfires (l : List Cause) : ∀ a : State, a.mode = .run → Still a (l.foldl (fun (a : State) c => a.trigger c) a) := by
    induction l with
    | nil => exact fun a _ => .refl a
    | cons c l ih => exact fun a ha => (still_trigger ha c).trans (ih _ ((still_trigger ha c).mode.trans ha))
  exact (Still.of_frame (t := { s with bur := { s.bur with latched := [] } }) rfl).trans (hfires _ _ hrun)

/-- RUN is entered: the burrow's and the mirror's marks are reset. -/
def State.abandonRun (s : State) : State :=
  let n := s.heldWrites.length + s.twin.mstaged.length
  let clean := s.bur.handoff.filter (fun g => s.ledgerOf g == .clean)
  let t := ((s.zeroStaging).jNow (.runOpen s.nand.epoch 1)).enterMode .run .none
  { t with
    bur := { t.bur with
      handoff := [], fenced := false, abn := .none, stopped := false, trig := false, regroup := !s.host.staged.isEmpty
      ctx := t.bur.ctx.map (fun c => if c.2.st = .halt then (c.1, { Ctx.idle with blk := c.2.blk }) else c) }
    nand := { t.nand with superseded := [], refreshQ := (clean ++ t.nand.orphans.map (·.2)).foldl (fun q g => sadd g q) t.nand.refreshQ }
    twin := { t.twin with
      noAck := false
      fenceWait := false
      outcome := t.isStandby && !t.twin.mstaged.isEmpty
      ownAbandon := !t.isSolo && !(t.isActive && t.twinUp)
      burrowed := t.twin.burrowed && !t.twinUp }
    regs := setRegs [(Reg.BE_STATUS_ABANDONING, 0), (Reg.BE_STATUS_ACTIVE, 0), (Reg.HL_CREDIT_HELD_LAST, n),
      (Reg.MD_STATUS_MEDIA_READY, b2n (t.host.sanitize != 1 && t.host.sanitize != 4))] t.regs }

/-- A unit whose host link is down drops what it held. -/
def State.abandonHeld (s : State) : State :=
  if s.getB Reg.HL_STATUS_LINK_UP && s.pd 0 then s else if s.isStandby then s.discardHeld else s.discardAll

/-- It goes on: contexts, books, credits, reads, latched triggers and the write path. -/
def State.abandonGoOn (s : State) : State :=
  let t := (s.frameIf (s.isActive && s.twinUp) 0x0A 3).recount.keepMeta.armAll.rebaseBooks
  t.creditsIfDue.askReads.serveReads.fireLatched.ledgerGo.wtTry.armRefresh

theorem State.abandonEnd_eq (s : State) : s.abandonEnd = s.abandonRun.abandonHeld.abandonGoOn := by
  unfold State.abandonEnd State.abandonGoOn State.abandonHeld State.abandonRun
  dsimp only

theorem still_abandonHeld {s : State} : Still s s.abandonHeld := .ite (.refl s) (.ite still_discardHeld still_discardAll)

theorem still_abandonGoOn {s : State} (hrun : s.mode = .run) : Still s s.abandonGoOn := by
  have hbooks {t : State} : Still t (t.recount.keepMeta.armAll).rebaseBooks :=
    ((still_recount.trans still_keepMeta).trans still_armAll).trans still_rebaseBooks
  have hreads {t : State} : Still t t.creditsIfDue.askReads.serveReads := (still_creditsIfDue.trans still_askReads).trans still_serveReads
  have hread := (still_frameIf (s := s) (b := s.isActive && s.twinUp) (ty := 0x0A) (par := 3)).trans (hbooks.trans hreads)
  have hwrite {t : State} : Still t (t.ledgerGo.wtTry).armRefresh := (still_ledgerGo.trans still_wtTry).trans still_armRefresh
  exact (hread.trans (still_fireLatched (hread.mode.trans hrun))).trans hwrite

theorem State.abandonRun_shows (s : State) :
    s.abandonRun.mode = .run ∧ s.abandonRun.phase = .none ∧ s.abandonRun.bur.abn = .none ∧ s.abandonRun.bur.fenced = false ∧
      s.abandonRun.getF Reg.BE_STATUS_ABANDONING = 0 ∧ s.abandonRun.getF Reg.BE_STATUS_ACTIVE = 0 := by
  have hmode : (((s.zeroStaging).jNow (.runOpen s.nand.epoch 1)).enterMode .run .none).mode = .run := by rw [State.enterMode_frame]
  have hphase : (((s.zeroStaging).jNow (.runOpen s.nand.epoch 1)).enterMode .run .none).phase = .none := by rw [State.enterMode_frame]
  unfold State.abandonRun
  dsimp only
  generalize ((s.zeroStaging).jNow (.runOpen s.nand.epoch 1)).enterMode .run .none = t at hmode hphase ⊢
  refine ⟨hmode, hphase, rfl, rfl, ?_, ?_⟩
  · exact State.getF_setFs_head t _ _ _ [Reg.BE_STATUS_ACTIVE, Reg.HL_CREDIT_HELD_LAST, Reg.MD_STATUS_MEDIA_READY] (by simp) (by decide)
  · exact State.getF_setFs_head (t.setF Reg.BE_STATUS_ABANDONING 0) _ _ _ [Reg.HL_CREDIT_HELD_LAST, Reg.MD_STATUS_MEDIA_READY] (by simp) (by decide)

/-- What an abandon's end shows: the device is in RUN, and nothing of the abandon is left. -/
theorem State.abandonEnd_shows (s : State) :
    s.abandonEnd.mode = .run ∧ s.abandonEnd.phase = .none ∧ s.abandonEnd.bur.abn = .none ∧ s.abandonEnd.bur.fenced = false ∧
      s.abandonEnd.getF Reg.BE_STATUS_ABANDONING = 0 ∧ s.abandonEnd.getF Reg.BE_STATUS_ACTIVE = 0 := by
  obtain ⟨hmode, hphase, habn, hfenced, habandoning, hactive⟩ := s.abandonRun_shows
  have hstill := still_abandonHeld.trans (still_abandonGoOn (still_abandonHeld.mode.trans hmode))
  rw [State.abandonEnd_eq]
  exact ⟨hstill.mode.trans hmode, hstill.phase.trans hphase, hstill.abn.trans habn, hstill.fenced.trans hfenced,
    (hstill.getF _ (by decide)).trans habandoning, (hstill.getF _ (by decide)).trans hactive⟩

theorem abandonUpDone_ends {s : State} (hpowered : s.abnPowered = true) (hlink : s.linkAwaited = false) :
    ∃ t, exec .abandonUpDone s = .next t ∧ t.mode = .run ∧ t.phase = .none ∧ t.bur.abn = .none ∧ t.bur.fenced = false ∧
      t.getF Reg.BE_STATUS_ABANDONING = 0 ∧ t.getF Reg.BE_STATUS_ACTIVE = 0 :=
  ⟨_, congrArg Host.Outcome.next ((if_pos hpowered).trans (if_neg (by simp [hlink]))), State.abandonEnd_shows _⟩

theorem abandonLinkWaitExpiry_ends {s : State} (hmode : s.mode = .burrow) (hsettling : s.bur.abn = .settling) :
    ∃ t, exec .abandonLinkWaitExpiry s = .next t ∧ t.mode = .run ∧ t.phase = .none ∧ t.bur.abn = .none ∧ t.bur.fenced = false ∧
      t.getF Reg.BE_STATUS_ABANDONING = 0 ∧ t.getF Reg.BE_STATUS_ACTIVE = 0 :=
  ⟨_, congrArg Host.Outcome.next (if_pos (by simp [hmode, hsettling])), State.abandonEnd_shows _⟩

/-- Settles O26. Going on after an abandon is `Still`; an abandon that powers up with failures keeps `PoweringUp`. -/
theorem abandonSteps : Obligations.AbandonSteps :=
  ⟨fun _ => vinReturn_absent, fun _ => vinReturn_wakes, fun _ => vinReturn_endsDen, fun _ => vinReturn_abandons, fun _ => vinReturn_noted,
    fun _ => abandonRecordWritten_powers, fun _ => abandonUpDone_waits, fun _ => abandonUpDone_ends, fun _ => abandonLinkWaitExpiry_ends,
    fun _ => rfl⟩

end Sys2Proof.Machine

/-! SUPPORT. Proofs of the statements of the host link family. -/

namespace Sys2Proof.Machine

/-! ### Reads (R90, R288) -/

/-- A read of a granule that waits for its fetch asks for that fetch ahead of the background fetches (R288). -/
theorem memRd_prefers_fetch {s : State} {tag line : Nat} (hlink : s.getB Reg.HL_STATUS_LINK_UP = true)
    (hopen : s.getB Reg.HL_STATUS_CREDITS_OPEN = true) (hcredit : 0 < s.host.reqCredits) (hline : line < s.nLines)
    (hlrst : s.getB Reg.MD_STATUS_LRST_ACT = false) (hwaits : s.rst.pend.contains (granOf line) = true) :
    ∃ t, exec (.memRd tag line) s = .next t ∧ t.rst.prio = sadd (granOf line) s.rst.prio := by
  have htaken : (s.getB Reg.HL_STATUS_LINK_UP && s.getB Reg.HL_STATUS_CREDITS_OPEN && decide (0 < s.host.reqCredits)
      && decide (line < s.nLines) && !s.getB Reg.MD_STATUS_LRST_ACT) = true := by
    simp [hlink, hopen, hcredit, hline, hlrst]
  have hno : (s.noDram line || s.bur.fenced || s.rst.pend.contains (granOf line)) = true := by rw [hwaits, Bool.or_true]
  refine ⟨_, congrArg Host.Outcome.next ((if_pos htaken).trans (congrArg State.serveReads (if_pos hno))), ?_⟩
  simp only [State.serveReads, State.want, hwaits, if_true]

/-- A unit in an early-service RESTORE, its host link up, whose granule 0 waits for its fetch. -/
def fetchWaits : State := { State.reset.setFs [(Reg.HL_STATUS_LINK_UP, 1), (Reg.HL_STATUS_CREDITS_OPEN, 1), (Reg.MD_STATUS_MEDIA_READY, 1)] with
  mode := .restore
  host := { HostSt.reset with reqCredits := 1 }
  rst := { RestoreSt.reset with pend := [0] } }

/-- Refutes O8: a read of a granule that waits for its fetch moves that fetch ahead of the others (R288), which the statement's frame keeps in
its place. -/
theorem not_readsComplete : ¬ Obligations.ReadsComplete := by
  rintro ⟨hread, -⟩
  obtain ⟨t, ht, -, -, -, -, -, hframe⟩ := hread fetchWaits 1 0 (by decide) (by decide) (by decide) (by decide) (by decide)
  obtain ⟨u, hu, hahead⟩ := memRd_prefers_fetch (s := fetchWaits) (tag := 1) (line := 0) (by decide) (by decide) (by decide) (by decide)
    (by decide) (by decide)
  obtain rfl : t = u := Host.Outcome.next.inj (ht.symm.trans hu)
  have hkept : t.rst.prio = [] := by rw [hframe]; rfl
  rw [hkept] at hahead
  exact absurd hahead (by decide)

/-! ### GPF (R94, R95) -/

theorem State.gpf_answered {s : State} (hlink : s.getB Reg.HL_STATUS_LINK_UP = true) (hfence : s.bur.fenced = false) (phase : Nat) :
    s.gpf phase = { s with host := { s.host with tx := s.host.tx ++ [.gpf phase] } } := if_pos (by simp [hlink, hfence])

theorem State.gpf_fenced {s : State} (hfence : s.bur.fenced = true) (phase : Nat) : s.gpf phase = s := if_neg (by simp [hfence])

/-- Settles O9. Both phases are the one answer to a GPF request. -/
theorem gpfResponses : Obligations.GpfResponses :=
  ⟨fun _ hlink hfence => ⟨congrArg _ (State.gpf_answered hlink hfence 1), congrArg _ (State.gpf_answered hlink hfence 2)⟩,
    fun _ hfence => ⟨congrArg _ (State.gpf_fenced hfence 1), congrArg _ (State.gpf_fenced hfence 2)⟩⟩

/-! ### A command that the mailbox does not take (R85) -/

/-- A mailbox command reaches the mailbox under its opcode. -/
theorem exec_mailbox {c : Instr} {op : Nat} (h : mboxOp c = some op) (s : State) : ∃ f, exec c s = .next (s.mboxRun op f) := by
  cases c with
  | sanitize decoders =>
    cases decoders with
    | none => obtain rfl := Option.some.inj h; exact ⟨_, rfl⟩
    | some _ => cases h
  | unsupportedCommand opcode =>
    simp only [mboxOp] at h
    split at h
    · cases h
    · next hother =>
      obtain rfl := Option.some.inj h
      exact ⟨_, congrArg Host.Outcome.next (if_neg hother)⟩
  | identifyMemoryDevice | getShutdownState | setShutdownState | getHealthInfo | getAlertConfiguration | setAlertConfiguration
  | getEventRecords | clearEventRecords | getEventInterruptPolicy | setEventInterruptPolicy | getLsa | setLsa | getPoisonList | injectPoison
  | clearPoison | getTimestamp | setTimestamp | setPartitionInfo | vxAuthChallenge | vxAuthResponse | vxHostBurrow | vxCoverStatus
  | twinSwitchOver | forcedPromotion | vxJournalRead | serviceModeEnter | serviceModeLeave =>
    obtain rfl := Option.some.inj h
    exact ⟨_, rfl⟩
  | _ => cases h

theorem State.mboxRun_down {s : State} (hlink : s.getB Reg.HL_STATUS_LINK_UP = false) (op : Nat) (f : State → State) : s.mboxRun op f = s :=
  if_pos (by simp [hlink])

theorem State.mboxRun_busy {s : State} (hlink : s.getB Reg.HL_STATUS_LINK_UP = true)
    (hbusy : s.bur.fenced = true ∨ s.host.mboxBusy.isSome = true) (op : Nat) (f : State → State) : s.mboxRun op f = s.answered op rcBusy .none := by
  have hfree : s.mboxFree = false := by
    rcases hbusy with h | h <;> simp [State.mboxFree, h]
  exact (if_neg (by simp [hlink])).trans (if_pos (by simp [hfree]))

/-- A command that ends as its answer alone shows its code and output and moves nothing but the response and HL_MBOX. -/
theorem answered_shows {c : Instr} {s : State} {op ret : Nat} {out : MOut} (h : exec c s = .next (s.answered op ret out)) :
    ∃ t, exec c s = .next t ∧ t.host.mbox = ⟨op, ret, out⟩ ∧ RegsKept mboxFlds s t ∧
      t = { s with host := { s.host with mbox := t.host.mbox }, regs := t.regs } :=
  ⟨_, h, rfl, regsKept_answered s op ret out, s.answered_frame op ret out⟩

/-- Settles O11. Every mailbox command goes through the one gate of the mailbox. -/
theorem mailboxTurnsAway : Obligations.MailboxTurnsAway := by
  intro c op s hop
  obtain ⟨f, hexec⟩ := exec_mailbox hop s
  exact ⟨fun hlink => by rw [hexec, State.mboxRun_down hlink], fun hlink hbusy => answered_shows (by rw [hexec, State.mboxRun_busy hlink hbusy])⟩

/-! ### A command's output when the mailbox takes it -/

@[simp] theorem State.hostTouch_mode (s : State) : s.hostTouch.mode = s.mode := by rw [State.hostTouch_frame]
@[simp] theorem State.hostTouch_ms (s : State) : s.hostTouch.ms = s.ms := by rw [State.hostTouch_frame]
@[simp] theorem State.hostTouch_tstamp (s : State) : s.hostTouch.tstamp = s.tstamp := by rw [State.hostTouch_frame]
@[simp] theorem State.hostTouch_otp (s : State) : s.hostTouch.otp = s.otp := by rw [State.hostTouch_frame]
@[simp] theorem State.hostTouch_host (s : State) : s.hostTouch.host = s.host := by rw [State.hostTouch_frame]
@[simp] theorem State.hostTouch_cover (s : State) : s.hostTouch.cover = s.cover := by rw [State.hostTouch_frame]
@[simp] theorem State.hostTouch_dram (s : State) : s.hostTouch.dram = s.dram := by rw [State.hostTouch_frame]
@[simp] theorem State.hostTouch_keep (s : State) : s.hostTouch.keep = s.keep := by rw [State.hostTouch_frame]
@[simp] theorem State.hostTouch_ev (s : State) : s.hostTouch.ev = s.ev := by rw [State.hostTouch_frame]
@[simp] theorem State.hostTouch_dmk (s : State) : s.hostTouch.dmk = s.dmk := by rw [State.hostTouch_frame]

/-- Every field but the remaining time of service mode reads as before the host's touch. -/
theorem State.getB_hostTouch (s : State) {f : Fld} (h : f.key ≠ Reg.DT_SVC_LEFT_S.key) : s.hostTouch.getB f = s.getB f :=
  State.getB_congr (regsKept_hostTouch s f (by simpa using h))

theorem State.service_hostTouch (s : State) : s.hostTouch.service = s.service := s.getB_hostTouch (by decide)

/-- A mailbox command that is taken runs its meaning on the touched state. -/
theorem exec_taken {s : State} (hlink : s.getB Reg.HL_STATUS_LINK_UP = true) (hfree : s.mboxFree = true) (op : Nat) (f : State → State) :
    (.next (s.mboxRun op f) : Host.Outcome State Fault Refusal) = .next (f s.hostTouch) :=
  congrArg _ (State.mboxRun_free hlink hfree op f)

/-- The journal records that a read finds are its output (R123). -/
theorem vxJournalRead_answers {s : State} {start count : Nat} {r : JRec} {recs : List JRec} (hlink : s.getB Reg.HL_STATUS_LINK_UP = true)
    (hfree : s.mboxFree = true) (hpos : 1 ≤ count) (hmax : count ≤ 63) (hlive : s.hostTouch.jDead = false)
    (hrecs : (ksort (·.seq) (s.hostTouch.keep.recs.filter (fun r => decide (start ≤ r.seq)))).take count = r :: recs) :
    exec (.vxJournalRead start count 0) s = .next (s.answered 0xC005 rcOk
      (.journal r.seq (recs.length + 1) s.hostTouch.jOldest s.hostTouch.jNewest ((r :: recs).map JRec.bytes))) := by
  refine (exec_taken hlink hfree 0xC005 _).trans (congrArg _ ?_)
  rw [if_neg (by omega), if_neg (by simp [hlive]), hrecs]
  rfl

/-- Settles O12. Each command's meaning is an answer alone, so the frame is that of an answer. -/
theorem mailboxQueries : Obligations.MailboxQueries := by
  intro c op ret out s u hu hlink hfree hquery
  subst hu
  refine answered_shows ?_
  rcases hquery with ⟨rfl, rfl, rfl, rfl⟩ | ⟨rfl, rfl, rfl, rfl⟩ | ⟨rfl, rfl, rfl, rfl⟩ | ⟨rfl, rfl, rfl, rfl⟩
    | ⟨log, rfl, rfl, rfl, rfl⟩ | ⟨rfl, rfl, rfl, rfl⟩ | ⟨off, len, rfl, hin, rfl, rfl, rfl⟩
    | ⟨start, len, rfl, hmode, hin, rfl, rfl, rfl⟩ | ⟨start, len, rfl, hmode, rfl, rfl, rfl⟩ | ⟨rfl, rfl, rfl, rfl⟩
    | ⟨rfl, rfl, rfl, rfl⟩ | ⟨rfl, hother, rfl, rfl⟩ | ⟨rfl, rfl, rfl, rfl⟩
    | ⟨start, count, r, recs, rfl, hpos, hmax, hlive, hrecs, rfl, rfl, rfl⟩
  · exact exec_taken hlink hfree _ _
  · exact exec_taken hlink hfree _ _
  · exact exec_taken hlink hfree _ _
  · exact exec_taken hlink hfree _ _
  · exact exec_taken hlink hfree _ _
  · exact exec_taken hlink hfree _ _
  · exact (exec_taken hlink hfree _ _).trans (congrArg _ (if_pos hin))
  · exact (exec_taken hlink hfree _ _).trans (congrArg _ ((if_neg (by simpa using hmode)).trans (if_neg (by omega))))
  · exact (exec_taken hlink hfree _ _).trans (congrArg _ (if_pos (by simpa using hmode)))
  · rw [← s.hostTouch_tstamp]
    exact exec_taken hlink hfree _ _
  · exact exec_taken hlink hfree _ _
  · exact (congrArg _ (if_neg (by simpa using hother))).trans (exec_taken hlink hfree op _)
  · exact exec_taken hlink hfree _ _
  · exact vxJournalRead_answers hlink hfree hpos hmax hlive hrecs

/-! ### What events and journal requests leave alone -/

theorem State.raiseIf_frame (s : State) (b : Bool) (src : EvSource) (cls : Nat) (sev : Sev) (param : Nat) : s.raiseIf b src cls sev param =
    { s with regs := (s.raiseIf b src cls sev param).regs, ev := (s.raiseIf b src cls sev param).ev } := by
  cases b <;> rfl

theorem State.jShut_congr {s t : State} (hkeep : t.keep = s.keep) (hloss : t.getF Reg.PS_STATUS_VSYS_LOSS = s.getF Reg.PS_STATUS_VSYS_LOSS) :
    t.jShut = s.jShut := by
  simp only [State.jShut, State.jDead, hkeep, State.getB_congr hloss]

theorem getB_of_getF_b2n {s : State} {f : Fld} {b : Bool} (h : s.getF f = b2n b) : s.getB f = b := by
  rw [State.getB, h]
  cases b <;> rfl

@[simp] theorem State.mboxEnd_ev (s : State) (op ret : Nat) (out : MOut) : (s.mboxEnd op ret out).ev = s.ev := rfl
@[simp] theorem State.mboxEnd_keep (s : State) (op ret : Nat) (out : MOut) : (s.mboxEnd op ret out).keep = s.keep := rfl
@[simp] theorem State.jput_ev (s : State) (p : JPay) : (s.jput p).ev = s.ev := rfl
@[simp] theorem State.jput_jq (s : State) (p : JPay) : (s.jput p).keep.jq = if s.jShut then s.keep.jq else s.keep.jq ++ [p] := rfl

/-! ### SET_SHUTDOWN_STATE (R96) -/

/-- The shutdown state is set; a change logs an event. -/
def State.shutdownSet (u : State) (dirty : Bool) : State :=
  (u.setFs [(Reg.HL_SHUTDOWN_DIRTY, b2n dirty), (Reg.HL_SHUTDOWN_SELF_CLEAN, 0)]).raiseIf (u.getB Reg.HL_SHUTDOWN_DIRTY != dirty)
    .keeper 0x1D .warning 1

theorem State.shutdownSet_frame (u : State) (dirty : Bool) : u.shutdownSet dirty =
    { u with regs := (u.shutdownSet dirty).regs, ev := (u.shutdownSet dirty).ev } := by
  rw [State.shutdownSet, State.raiseIf_frame]
  rfl

theorem regsKept_shutdownSet (u : State) (dirty : Bool) :
    RegsKept (Reg.HL_SHUTDOWN_DIRTY :: Reg.HL_SHUTDOWN_SELF_CLEAN :: evFlds) u (u.shutdownSet dirty) :=
  (regsKept_setFs (by simp)).trans (regsKept_raiseIf.mono (by simp))

theorem State.shutdownSet_shows (u : State) (dirty : Bool) :
    (u.shutdownSet dirty).getF Reg.HL_SHUTDOWN_DIRTY = b2n dirty ∧ (u.shutdownSet dirty).getF Reg.HL_SHUTDOWN_SELF_CLEAN = 0 := by
  refine ⟨(regsKept_raiseIf _ (by decide)).trans ?_, (regsKept_raiseIf _ (by decide)).trans
    (State.getF_setF_self (u.setF Reg.HL_SHUTDOWN_DIRTY (b2n dirty)) Reg.HL_SHUTDOWN_SELF_CLEAN 0)⟩
  rw [State.getF_setFs_head _ _ _ [(Reg.HL_SHUTDOWN_SELF_CLEAN, 0)] [Reg.HL_SHUTDOWN_SELF_CLEAN] (by simp) (by decide)]
  cases dirty <;> rfl

theorem setShutdownState_sets {s : State} (dirty : Bool) (hlink : s.getB Reg.HL_STATUS_LINK_UP = true) (hfree : s.mboxFree = true) :
    ∃ t, exec (.setShutdownState dirty) s = .next t ∧ t.host.mbox = ⟨0x4204, rcOk, .none⟩ ∧ t.getB Reg.HL_SHUTDOWN_DIRTY = dirty ∧
      t.getF Reg.HL_SHUTDOWN_SELF_CLEAN = 0 ∧
      t.keep.jq = (if s.jDead || s.getB Reg.PS_STATUS_VSYS_LOSS then s.keep.jq else s.keep.jq ++ [.shutdown dirty]) ∧
      (s.getB Reg.HL_SHUTDOWN_DIRTY = dirty → t.ev = s.ev) ∧ (s.getB Reg.HL_SHUTDOWN_DIRTY ≠ dirty → t.ev.seq = s.ev.seq + 1) ∧
      RegsKept (Reg.HL_SHUTDOWN_DIRTY :: Reg.HL_SHUTDOWN_SELF_CLEAN :: mboxFlds ++ evFlds) s t ∧
      t = { s with host := { s.host with mbox := t.host.mbox }, regs := t.regs, ev := t.ev, keep := { s.keep with jq := t.keep.jq } } := by
  have hexec : exec (.setShutdownState dirty) s = .next (((s.hostTouch.shutdownSet dirty).jput (.shutdown dirty)).mboxEnd 0x4204 rcOk .none) :=
    exec_taken hlink hfree 0x4204 _
  have hframe := s.hostTouch.shutdownSet_frame dirty
  have hkept : RegsKept (Reg.HL_SHUTDOWN_DIRTY :: Reg.HL_SHUTDOWN_SELF_CLEAN :: mboxFlds ++ evFlds) s (s.hostTouch.shutdownSet dirty) :=
    ((regsKept_hostTouch s).mono (by simp [mboxFlds])).trans ((regsKept_shutdownSet _ dirty).mono (by decide))
  have hend := regsKept_mboxEnd ((s.hostTouch.shutdownSet dirty).jput (.shutdown dirty)) 0x4204 rcOk .none
  obtain ⟨hdirty, hself⟩ := s.hostTouch.shutdownSet_shows dirty
  have hshut : (s.hostTouch.shutdownSet dirty).jShut = s.jShut :=
    State.jShut_congr (by rw [hframe]; exact s.hostTouch_keep) (hkept _ (by decide))
  have htouch : s.hostTouch.getB Reg.HL_SHUTDOWN_DIRTY = s.getB Reg.HL_SHUTDOWN_DIRTY := s.getB_hostTouch (by decide)
  refine ⟨_, hexec, rfl, getB_of_getF_b2n ((hend _ (by decide)).trans hdirty), (hend _ (by decide)).trans hself, ?_, ?_, ?_,
    hkept.trans (hend.mono (by decide)), ?_⟩
  · rw [State.mboxEnd_keep, State.jput_jq, hshut, hframe, s.hostTouch_keep]
    rfl
  · intro hsame
    rw [State.mboxEnd_ev, State.jput_ev, State.shutdownSet, htouch, hsame, bne_self_eq_false]
    exact s.hostTouch_ev
  · intro hchange
    rw [State.mboxEnd_ev, State.jput_ev, State.shutdownSet, htouch, bne_iff_ne.mpr hchange, ← s.hostTouch_ev]
    rfl
  · rw [State.mboxEnd_frame, State.jput, hframe, State.hostTouch_frame]

/-! ### SET_ALERT_CONFIGURATION (R105) -/

/-- The alert thresholds are set. -/
def State.alertSet (u : State) (cfg : AlertCfg) : State := { u with host := { u.host with alert := cfg } }

theorem setAlertConfiguration_sets {s : State} (cfg : AlertCfg) (hlink : s.getB Reg.HL_STATUS_LINK_UP = true) (hfree : s.mboxFree = true) :
    ∃ t, exec (.setAlertConfiguration cfg) s = .next t ∧ t.host.mbox = ⟨0x4202, rcOk, .none⟩ ∧ t.host.alert = cfg ∧
      RegsKept (mboxFlds ++ evFlds) s t ∧
      t = { s with host := { s.host with mbox := t.host.mbox, alert := cfg }, regs := t.regs, ev := t.ev } := by
  have hexec : exec (.setAlertConfiguration cfg) s =
      .next (((s.hostTouch.alertSet cfg).alertScan s.hostTouch.crossed).mboxEnd 0x4202 rcOk .none) := exec_taken hlink hfree 0x4202 _
  have hframe := (s.hostTouch.alertSet cfg).alertScan_frame s.hostTouch.crossed
  have hset : RegsKept mboxFlds s (s.hostTouch.alertSet cfg) := (regsKept_hostTouch s).mono (by simp [mboxFlds])
  have hscan : RegsKept (mboxFlds ++ evFlds) s ((s.hostTouch.alertSet cfg).alertScan s.hostTouch.crossed) :=
    (hset.mono (by simp)).trans ((regsKept_alertScan _ _).mono (by simp))
  refine ⟨_, hexec, rfl, ?_, hscan.trans ((regsKept_mboxEnd _ _ _ _).mono (by simp)), ?_⟩
  · rw [State.mboxEnd_frame, hframe, State.alertSet]
  · rw [State.mboxEnd_frame, hframe, State.alertSet, State.hostTouch_frame]

/-! ### CLEAR_EVENT_RECORDS (R108) -/

/-- Clearing a whole log marks its records, and no others, and takes its overflow flag away. -/
theorem State.consume_all (s : State) (log : Sev) :
    (s.consume log fun _ => true).ev.ring = s.ev.ring.map (fun r => (r.1, { r.2 with consumed := r.2.consumed || r.2.sev == log })) ∧
      mget false (s.consume log fun _ => true).ev.ovf log.code = false := by
  have hring : (s.consume log fun _ => true).ev.ring =
      s.ev.ring.map (fun r => (r.1, { r.2 with consumed := r.2.consumed || r.2.sev == log })) := by
    refine List.map_congr_left fun r _ => ?_
    cases h : r.2.sev == log <;> simp
  have hnone : (s.consume log fun _ => true).ev.ring.any (fun r => r.2.sev == log && !r.2.consumed) = false := by
    rw [hring, List.any_map]
    exact List.any_eq_false.mpr fun r _ => by simpa using fun hlog _ => hlog
  refine ⟨hring, ?_⟩
  have hovf : (s.consume log fun _ => true).ev.ovf = mset log.code false s.ev.ovf := if_neg (Bool.eq_false_iff.mp hnone)
  rw [hovf, mget_mset_self]

theorem clearEventRecords_all {s : State} (log : Sev) (handles : List Nat) (hlink : s.getB Reg.HL_STATUS_LINK_UP = true)
    (hfree : s.mboxFree = true) :
    ∃ t, exec (.clearEventRecords log handles true) s = .next t ∧ t.host.mbox = ⟨0x0101, rcOk, .none⟩ ∧
      t.ev.ring = s.ev.ring.map (fun r => (r.1, { r.2 with consumed := r.2.consumed || r.2.sev == log })) ∧
      mget false t.ev.ovf log.code = false ∧ RegsKept mboxFlds s t ∧
      t = { s with host := { s.host with mbox := t.host.mbox }, regs := t.regs, ev := { s.ev with ring := t.ev.ring, ovf := t.ev.ovf } } := by
  have hexec : exec (.clearEventRecords log handles true) s = .next ((s.hostTouch.consume log fun _ => true).mboxEnd 0x0101 rcOk .none) :=
    exec_taken hlink hfree 0x0101 _
  obtain ⟨hring, hovf⟩ := s.hostTouch.consume_all log
  have hkept : RegsKept mboxFlds s (s.hostTouch.consume log fun _ => true) := (regsKept_hostTouch s).mono (by simp [mboxFlds])
  refine ⟨_, hexec, rfl, hring.trans (by rw [s.hostTouch_ev]), hovf, hkept.trans (regsKept_mboxEnd _ _ _ _), ?_⟩
  rw [State.mboxEnd_frame, State.consume, State.hostTouch_frame]

/-- A handle that names no unconsumed record of the log is refused. -/
theorem clearEventRecords_refuses {s : State} {log : Sev} {handles : List Nat} (hlink : s.getB Reg.HL_STATUS_LINK_UP = true)
    (hfree : s.mboxFree = true) (hbad : handles.all (fun h => (s.logRecs log).any (fun r => r.handle == h)) = false) :
    ∃ t, exec (.clearEventRecords log handles false) s = .next t ∧ t.host.mbox = ⟨0x0101, rcHandle, .none⟩ ∧ t.ev = s.ev := by
  have hrecs : s.hostTouch.logRecs log = s.logRecs log := by simp only [State.logRecs, s.hostTouch_ev]
  refine ⟨_, (exec_taken hlink hfree 0x0101 _).trans (congrArg _ ((if_neg Bool.false_ne_true).trans (if_neg ?_))), rfl, s.hostTouch_ev⟩
  rw [hrecs, hbad]
  exact Bool.false_ne_true

/-! ### SET_EVENT_INTERRUPT_POLICY and SET_TIMESTAMP (R110) -/

theorem setEventInterruptPolicy_sets {s : State} {policy : List Nat} (hlink : s.getB Reg.HL_STATUS_LINK_UP = true) (hfree : s.mboxFree = true)
    (hfour : policy.length = 4) :
    ∃ t, exec (.setEventInterruptPolicy policy) s = .next t ∧ t.host.mbox = ⟨0x0103, rcOk, .none⟩ ∧ RegsKept mboxFlds s t ∧
      t = { s with host := { s.host with mbox := t.host.mbox, policy := policy }, regs := t.regs } := by
  refine ⟨_, (exec_taken hlink hfree 0x0103 _).trans (congrArg _ (if_pos hfour)), rfl, regsKept_answered s 0x0103 rcOk .none, ?_⟩
  rw [State.mboxEnd_frame, State.hostTouch_frame]

theorem setTimestamp_sets {s : State} {ns : Nat} (hlink : s.getB Reg.HL_STATUS_LINK_UP = true) (hfree : s.mboxFree = true) (hns : ns < 2 ^ 64) :
    ∃ t, exec (.setTimestamp ns) s = .next t ∧ t.host.mbox = ⟨0x0301, rcOk, .none⟩ ∧ RegsKept mboxFlds s t ∧
      t = { s with host := { s.host with mbox := t.host.mbox }, regs := t.regs, tstamp := ns, tsSet := true } := by
  refine ⟨_, exec_taken hlink hfree 0x0301 _, rfl, regsKept_answered s 0x0301 rcOk .none, ?_⟩
  rw [Nat.mod_eq_of_lt hns, State.mboxEnd_frame, State.hostTouch_frame]

/-! ### SET_LSA (R85, R111, R453) -/

theorem lsaSectors_isEmpty_false {off len : Nat} (hpos : 0 < len) (hmax : off + len ≤ 131072) : (lsaSectors off len).isEmpty = false := by
  have hfirst : off / 4096 ∈ lsaSectors off len := by
    simp only [lsaSectors, List.mem_filter, List.mem_range, Bool.and_eq_true, decide_eq_true_eq]
    omega
  exact List.isEmpty_eq_false_iff.mpr (List.ne_nil_of_mem hfirst)

theorem setLsa_starts {s : State} {off : Nat} {data : List Byte} (hlink : s.getB Reg.HL_STATUS_LINK_UP = true) (hfree : s.mboxFree = true)
    (hin : off + data.length ≤ 131072) (hflash : s.keep.state ≠ 4) (hdead : (lsaSectors off data.length).any s.host.lsaDead.contains = false)
    (hdirty : (lsaSectors off data.length).any s.host.lsaDirty.contains = false) (hdata : data ≠ []) :
    ∃ t, exec (.setLsa off data) s = .next t ∧ t.host.mboxBusy = some 0x4103 ∧ t.host.lsaSet = some (off, data) ∧ t.host.lsa = s.host.lsa ∧
      t.keep.progs = s.keep.progs ++ (lsaSectors off data.length).map (fun j => ⟨512 * s.lsaAlt j + 511, 0, .lsa, false⟩) ∧
      RegsKept mboxFlds s t ∧
      t = { s with host := { s.host with mboxBusy := some 0x4103, lsaSet := some (off, data) }, regs := t.regs
                   keep := { s.keep with progs := t.keep.progs } } := by
  have hsome := lsaSectors_isEmpty_false (List.length_pos_iff.mpr hdata) hin
  have halt (j : Nat) : s.hostTouch.lsaAlt j = s.lsaAlt j := by rw [State.lsaAlt, s.hostTouch_host, State.lsaAlt]
  have hexec : exec (.setLsa off data) s = .next (s.hostTouch.lsaStart off data) := by
    refine (exec_taken hlink hfree 0x4103 _).trans (congrArg _ ?_)
    simp only [s.hostTouch_keep, s.hostTouch_host, hdead, hdirty, hsome, hflash, decide_false, Bool.or_self, Bool.false_eq_true, if_false]
    exact if_neg (by omega)
  have hframe : s.hostTouch.lsaStart off data = { s with
      host := { s.host with mboxBusy := some 0x4103, lsaSet := some (off, data) }, regs := s.hostTouch.regs
      keep := { s.keep with progs := (s.hostTouch.lsaStart off data).keep.progs } } := by
    rw [State.lsaStart, State.hostTouch_frame]
  refine ⟨_, hexec, rfl, rfl, by rw [hframe], ?_, (regsKept_hostTouch s).mono (by simp [mboxFlds]), hframe⟩
  simp only [State.lsaStart, s.hostTouch_keep, halt]

theorem setLsa_outside {s : State} {off : Nat} {data : List Byte} (hlink : s.getB Reg.HL_STATUS_LINK_UP = true) (hfree : s.mboxFree = true)
    (hout : 131072 < off + data.length) :
    ∃ t, exec (.setLsa off data) s = .next t ∧ t.host.mbox = ⟨0x4103, rcInput, .none⟩ ∧ t.host.lsa = s.host.lsa ∧ t.keep = s.keep :=
  ⟨_, (exec_taken hlink hfree 0x4103 _).trans (congrArg _ (if_pos hout)), rfl,
    by rw [State.mboxEnd_frame, State.hostTouch_frame], s.hostTouch_keep⟩

/-- Bytes written one after another from an address on read back in their places, and every other byte is as before. -/
theorem byteAt_foldl_putByte (off : Nat) (data : List Byte) (k : Nat) (m : List Host.Cell) (a : Nat) :
    byteAt (((List.range' k data.length).zip data).foldl (fun m x => putByte m (off + x.1) x.2) m) a =
      (if off + k ≤ a then data[a - (off + k)]? else none).getD (byteAt m a) := by
  induction data generalizing k m with
  | nil => simp
  | cons b data ih =>
    rw [List.length_cons, List.range'_succ, List.zip_cons_cons, List.foldl_cons, ih, byteAt_putByte]
    by_cases hat : a = off + k
    · subst hat
      simp
    by_cases hpast : off + k ≤ a
    · have hnext : a - (off + k) = a - (off + (k + 1)) + 1 := by omega
      rw [if_pos (by omega), if_pos hpast, if_neg hat, hnext, List.getElem?_cons_succ]
    · rw [if_neg (by omega), if_neg hpast, if_neg hat]

/-- The label storage once the data of a Set LSA stands in it. -/
def lsaAfter (off : Nat) (data : List Byte) (m : List Host.Cell) : List Host.Cell :=
  ((List.range data.length).zip data).foldl (fun m x => putByte m (off + x.1) x.2) m

theorem byteAt_lsaAfter_in {off i : Nat} {data : List Byte} {b : Byte} (h : data[i]? = some b) (m : List Host.Cell) :
    byteAt (lsaAfter off data m) (off + i) = b := by
  rw [lsaAfter, List.range_eq_range', byteAt_foldl_putByte, if_pos (by omega), show off + i - (off + 0) = i by omega, h]
  rfl

theorem byteAt_lsaAfter_out {off a : Nat} {data : List Byte} (h : a < off ∨ off + data.length ≤ a) (m : List Host.Cell) :
    byteAt (lsaAfter off data m) a = byteAt m a := by
  rw [lsaAfter, List.range_eq_range', byteAt_foldl_putByte]
  split
  · rw [List.getElem?_eq_none (by omega)]
    rfl
  · rfl

/-- A Set LSA whose last copy is complete: the new contents are current and the command has ended. -/
theorem State.lsaEnd_ends {s : State} {off : Nat} {data : List Byte} (hset : s.host.lsaSet = some (off, data))
    (hbusy : s.host.mboxBusy = some 0x4103) (hlast : s.keep.progs = []) :
    s.lsaEnd.host = { s.host with
      lsa := lsaAfter off data s.host.lsa, lsaOdd := s.lsaEnd.host.lsaOdd, lsaDirty := s.host.lsaDirty ++ lsaSectors off data.length
      lsaSet := none, mbox := ⟨0x4103, rcOk, .none⟩, mboxBusy := none } ∧ s.lsaEnd.dram = s.dram := by
  unfold State.lsaEnd
  rw [hset]
  dsimp only
  rw [if_neg (by simp [hlast]), foldl_startErase_frame, if_pos hbusy, if_pos hbusy]
  exact ⟨rfl, rfl⟩

/-- The last program of a Set LSA ends the command. -/
theorem wordProgramDone_endsLsa {s : State} {off word : Nat} {v : BitVec 64} {data : List Byte} (n : Nat)
    (hset : s.host.lsaSet = some (off, data)) (hbusy : s.host.mboxBusy = some 0x4103) (hlast : s.keep.progs = [⟨word, v, .lsa, false⟩]) :
    ∃ t, exec (.wordProgramDone n true) s = .next t ∧ t.host.mbox = ⟨0x4103, rcOk, .none⟩ ∧ t.host.mboxBusy = none ∧ t.host.lsaSet = none ∧
      (∀ i b, data[i]? = some b → byteAt t.host.lsa (off + i) = b) ∧
      (∀ a, a < off ∨ off + data.length ≤ a → byteAt t.host.lsa a = byteAt s.host.lsa a) ∧
      t.host.lsaDirty = s.host.lsaDirty ++ lsaSectors off data.length ∧ t.dram = s.dram := by
  have hexec : exec (.wordProgramDone n true) s =
      .next (({ s with keep := { s.keep with progs := [] } } : State).lsaEnd.alertScan s.crossed) := by
    simp only [exec, execWordProgramDone, hlast]
    rfl
  obtain ⟨hhost, hdram⟩ := State.lsaEnd_ends (s := { s with keep := { s.keep with progs := [] } }) hset hbusy rfl
  have hscan := ({ s with keep := { s.keep with progs := [] } } : State).lsaEnd.alertScan_frame s.crossed
  refine ⟨_, hexec, ?_⟩
  rw [hscan]
  dsimp only
  rw [hhost, hdram]
  exact ⟨rfl, rfl, rfl, fun i b h => byteAt_lsaAfter_in h _, fun a h => byteAt_lsaAfter_out h _, rfl, rfl⟩

/-- Settles O13, command by command. -/
theorem mailboxSettings : Obligations.MailboxSettings :=
  ⟨fun _ => setShutdownState_sets, fun _ => setAlertConfiguration_sets, fun _ => clearEventRecords_all, fun _ _ _ => clearEventRecords_refuses,
    fun _ _ => setEventInterruptPolicy_sets, fun _ _ => setTimestamp_sets, fun _ _ _ => setLsa_starts,
    fun _ _ n _ _ _ => wordProgramDone_endsLsa n, fun _ _ _ => setLsa_outside⟩

/-! ### INJECT_POISON (R98, R101) -/

theorem State.nReported_hostTouch (s : State) : s.hostTouch.nReported = s.nReported := by
  have huser : s.hostTouch.nUser = s.nUser := State.nUser_congr s.hostTouch_otp fun f hf => regsKept_hostTouch s f (by
    revert f
    decide)
  simp only [State.nReported, State.cap256M, huser]

theorem State.nLines_hostTouch (s : State) : s.hostTouch.nLines = s.nLines := by rw [State.nLines, s.nReported_hostTouch, State.nLines]

theorem State.wholly_hostTouch (s : State) (g : Nat) : s.hostTouch.wholly g = s.wholly g := by
  simp only [State.wholly, s.nReported_hostTouch, s.hostTouch_dram]

theorem State.poisoned_hostTouch (s : State) (line : Nat) : s.hostTouch.poisoned line = s.poisoned line := by
  simp only [State.poisoned, State.byWhole, s.wholly_hostTouch, s.hostTouch_dram]

/-- A line is poisoned, unless it is so already. -/
def State.injected (u : State) (line : Nat) : State := if u.poisoned line then u else u.setPoison line 3

theorem State.injected_frame (u : State) (line : Nat) : u.injected line = { u with
    dram := { u.dram with poison := (u.injected line).dram.poison } } := by
  unfold State.injected State.setPoison
  split_ifs <;> rfl

theorem State.poisoned_injected_self (u : State) (line : Nat) : (u.injected line).poisoned line = true := by
  unfold State.injected
  cases h : u.poisoned line
  · have hwhole : u.byWhole line = false := (Bool.or_eq_false_iff.mp h).2
    rw [if_neg Bool.false_ne_true, State.setPoison, if_neg (by rw [hwhole]; exact Bool.false_ne_true), State.poisoned, mfind_mset, if_pos rfl]
    rfl
  · exact h

theorem State.poisoned_injected_ne (u : State) {line l : Nat} (h : l ≠ line) : (u.injected line).poisoned l = u.poisoned l := by
  unfold State.injected State.setPoison
  split_ifs
  · rfl
  · rfl
  · rw [State.poisoned, mfind_mset, if_neg h]
    rfl

theorem injectPoison_sets {s : State} {line : Nat} (hlink : s.getB Reg.HL_STATUS_LINK_UP = true) (hfree : s.mboxFree = true)
    (hservice : s.service = true) (hline : line < s.nLines) :
    ∃ t, exec (.injectPoison line) s = .next t ∧ t.host.mbox = ⟨0x4301, rcOk, .none⟩ ∧ t.poisoned line = true ∧
      (∀ l, l ≠ line → t.poisoned l = s.poisoned l) ∧ RegsKept mboxFlds s t ∧
      t = { s with host := { s.host with mbox := t.host.mbox }, regs := t.regs, dram := { s.dram with poison := t.dram.poison } } := by
  have hexec : exec (.injectPoison line) s = .next ((s.hostTouch.injected line).mboxEnd 0x4301 rcOk .none) := by
    refine (exec_taken hlink hfree 0x4301 _).trans (congrArg _ ?_)
    rw [if_neg (by simp [s.service_hostTouch, hservice]), if_neg (by rw [s.nLines_hostTouch]; omega)]
    rfl
  have hframe := s.hostTouch.injected_frame line
  have hkept : RegsKept mboxFlds s (s.hostTouch.injected line) :=
    ((regsKept_hostTouch s).mono (by simp [mboxFlds])).trans (.of_regs (by rw [hframe]))
  refine ⟨_, hexec, rfl, s.hostTouch.poisoned_injected_self line, fun l hl => ?_, hkept.trans (regsKept_mboxEnd _ _ _ _), ?_⟩
  · exact (s.hostTouch.poisoned_injected_ne hl).trans (s.poisoned_hostTouch l)
  · rw [State.mboxEnd_frame, hframe, State.hostTouch_frame]

/-- Outside service mode neither command does anything but answer (R98). -/
theorem poison_needs_service {s : State} {line tag : Nat} {data : LineData} (hlink : s.getB Reg.HL_STATUS_LINK_UP = true)
    (hfree : s.mboxFree = true) (hservice : s.service = false) :
    (∃ t, exec (.injectPoison line) s = .next t ∧ t.host.mbox = ⟨0x4301, rcSec, .none⟩ ∧ t.dram = s.dram) ∧
    (∃ t, exec (.clearPoison tag line data) s = .next t ∧ t.host.mbox = ⟨0x4302, rcSec, .none⟩ ∧ t.dram = s.dram ∧
      t.heldWrites = s.heldWrites) := by
  have hno : (!s.hostTouch.service) = true := by rw [s.service_hostTouch, hservice]; rfl
  refine ⟨⟨_, (exec_taken hlink hfree 0x4301 _).trans (congrArg _ (if_pos hno)), rfl, s.hostTouch_dram⟩,
    _, (exec_taken hlink hfree 0x4302 _).trans (congrArg _ (if_pos hno)), rfl, s.hostTouch_dram, ?_⟩
  show s.hostTouch.heldWrites = s.heldWrites
  rw [State.heldWrites, s.hostTouch_host, State.heldWrites]

/-! ### CLEAR_POISON (R101, R144) -/

/-- The only write of the ingress buffer passes a cover check and is staged. -/
theorem State.ledgerGo_stages {s : State} {w : Wr} (hopen : s.pathOpen = true) (hgroup : s.bur.regroup = false) (hstage : s.host.stage = none)
    (hingress : s.host.ingress = [w]) (hmoves : s.headWaits w = false) (hclean : s.ledgerOf (granOf w.line) = .clean)
    (hdoubt : s.cover.doubtWriter = false) (henergy : s.energyOk = true) (hland : s.landOk = true) (hbuf : s.bufFull w.line = false) :
    s.ledgerGo = ((s.leaveIngress []).coverTaken (granOf w.line)).stageWrite w := by
  have htake : (s.leaveIngress []).ledgerTake (granOf w.line) = some ((s.leaveIngress []).coverTaken (granOf w.line)) :=
    State.ledgerTake_clean hclean hdoubt henergy hland
  have hstep : ((s.leaveIngress []).coverTaken (granOf w.line)).bufStep w = ((s.leaveIngress []).coverTaken (granOf w.line)).stageWrite w :=
    if_neg (Bool.eq_false_iff.mp hbuf)
  simp [State.ledgerGo, hopen, hgroup, hingress, State.bufLeave, hstage, ledgerRun, hmoves, htake, hstep]

theorem State.stageWrite_staged (s : State) (w : Wr) :
    (s.stageWrite w).host.staged = s.host.staged ++ [{ w with wsn := if s.isActive then s.nextWsn else 0 }] := by
  unfold State.stageWrite
  cases s.framing <;> rfl

/-- A Clear Poison's write holds no ingress slot (R101). -/
theorem State.occupied_stageWrite_mbox {s v : State} {w : Wr} (hmbox : w.mbox = true) (hstage : v.host.stage = none)
    (hstaged : v.host.staged = s.host.staged) (hingress : v.host.ingress = s.host.ingress) (hnone : s.host.stage = none) :
    (v.stageWrite w).occupied = s.occupied := by
  have hkept : (v.stageWrite w).host.stage = none ∧ (v.stageWrite w).host.ingress = s.host.ingress := by
    rw [State.stageWrite_frame]
    exact ⟨hstage, hingress⟩
  simp [State.occupied, State.heldWrites, State.stageWrite_staged, hkept, hstaged, hnone, hmbox]

/-- The state whose ledger stage a Clear Poison's write meets: the command is in progress, and the write is the last to have arrived. -/
def State.clearing (u : State) (w : Wr) : State :=
  ({ u with host := { u.host with mboxBusy := some 0x4302, clearSeq := u.host.nextSeq } } : State).arrive w

theorem exec_clearPoison {s u : State} {tag line : Nat} {data : LineData} (hu : u = s.hostTouch) (hlink : s.getB Reg.HL_STATUS_LINK_UP = true)
    (hfree : s.mboxFree = true) (hservice : u.service = true) (hline : line < u.nLines) (hopen : u.pathOpen = true)
    (hpend : u.rst.pend.contains (granOf line) = false) :
    exec (.clearPoison tag line data) s = .next (u.clearing ⟨tag, line, true, beAll, data, 0, true, 0⟩).ledgerGo := by
  refine (exec_taken hlink hfree 0x4302 _).trans (congrArg _ ?_)
  rw [← hu, if_neg (by simp [hservice]), if_neg (by omega), if_neg (by simp [hopen])]
  exact congrArg (fun v : State => (v.arrive _).ledgerGo) (if_neg (Bool.eq_false_iff.mp hpend))

theorem clearPoison_writes {s u : State} {tag line : Nat} {data : LineData} (hu : u = s.hostTouch) (hlink : s.getB Reg.HL_STATUS_LINK_UP = true)
    (hfree : s.mboxFree = true) (hservice : u.service = true) (hline : line < u.nLines) (hopen : u.pathOpen = true)
    (hgroup : u.bur.regroup = false) (hstage : u.host.stage = none) (hingress : u.host.ingress = [])
    (hmoves : u.headWaits ⟨tag, line, true, beAll, data, u.host.nextSeq, true, 0⟩ = false) (hclean : u.ledgerOf (granOf line) = .clean)
    (hdoubt : u.cover.doubtWriter = false) (henergy : u.energyOk = true) (hland : u.landOk = true) (hbuf : u.bufFull line = false) :
    ∃ t, exec (.clearPoison tag line data) s = .next t ∧ t.host.mboxBusy = some 0x4302 ∧ t.host.ingress = [] ∧
      t.host.staged = s.host.staged ++ [⟨tag, line, true, beAll, data, s.host.nextSeq, true, if u.isActive then u.nextWsn else 0⟩] ∧
      t.cover.nDirty = s.cover.nDirty + 1 ∧ t.cover.eDebt = s.cover.eDebt + s.cover.eg ∧ t.occupied = s.occupied ∧
      t.dram = { s.dram with rdOut := t.dram.rdOut, wback := sdel line s.dram.wback } := by
  have hpend : u.rst.pend.contains (granOf line) = false := (Bool.or_eq_false_iff.mp hmoves).2
  have hexec := exec_clearPoison (tag := tag) (data := data) hu hlink hfree hservice hline hopen hpend
  have hhost : u.host = s.host := by rw [hu, s.hostTouch_host]
  have hcover : u.cover = s.cover := by rw [hu, s.hostTouch_cover]
  have hdram : u.dram = s.dram := by rw [hu, s.hostTouch_dram]
  rw [State.ledgerGo_stages (s := u.clearing ⟨tag, line, true, beAll, data, 0, true, 0⟩)
    (w := ⟨tag, line, true, beAll, data, u.host.nextSeq, true, 0⟩) hopen hgroup hstage
    (by show u.host.ingress ++ _ = _; rw [hingress]; rfl) hmoves hclean hdoubt henergy hland hbuf] at hexec
  refine ⟨_, hexec, ?_, ?_, ?_, ?_, ?_, ?_, ?_⟩
  · rw [State.stageWrite_frame]
    rfl
  · rw [State.stageWrite_frame]
    rfl
  · rw [State.stageWrite_staged, ← hhost]
    rfl
  · rw [State.stageWrite_frame, ← hcover]
    rfl
  · rw [State.stageWrite_frame, ← hcover]
    rfl
  · have hstaged : u.host.staged = s.host.staged := by rw [hhost]
    have hempty : [] = s.host.ingress := by rw [← hhost, hingress]
    exact State.occupied_stageWrite_mbox rfl hstage hstaged hempty (by rw [← hhost, hstage])
  · rw [State.stageWrite_frame, ← hdram]
    rfl

/-- Settles O14. A Clear Poison takes the write path of a write that passes its cover check. -/
theorem mailboxPoison : Obligations.MailboxPoison :=
  ⟨fun _ _ _ _ => poison_needs_service, fun _ _ => injectPoison_sets, fun _ _ _ _ _ => clearPoison_writes⟩

/-! ### The journal's records under a write (R455, R459) -/

theorem mem_kins {α : Type} {key : α → Nat} {x y : α} {l : List α} (h : y ∈ kins key x l) : y = x ∨ y ∈ l := by
  induction l with
  | nil => simpa [kins] using h
  | cons z l ih =>
    simp only [kins] at h
    split at h
    · simpa using h
    · rcases List.mem_cons.mp h with rfl | h
      · exact .inr List.mem_cons_self
      · exact (ih h).imp id (List.mem_cons_of_mem z)

theorem mem_ksort {α : Type} {key : α → Nat} {y : α} {l : List α} (h : y ∈ ksort key l) : y ∈ l := by
  have hfold (l acc : List α) (h : y ∈ l.foldl (fun acc x => kins key x acc) acc) : y ∈ l ∨ y ∈ acc := by
    induction l generalizing acc with
    | nil => exact .inr h
    | cons x l ih =>
      rcases ih _ h with h | h
      · exact .inl (List.mem_cons_of_mem x h)
      · rcases mem_kins h with rfl | h
        · exact .inl List.mem_cons_self
        · exact .inr h
  exact (hfold l [] h).resolve_right List.not_mem_nil

/-- The payload stands in some record of the journal. -/
def State.recorded (s : State) (p : JPay) : Prop := ∃ r ∈ s.keep.recs, r.pay = p

theorem State.recorded_putRec {s : State} {p q : JPay} {orig : Option Nat} {copy relTm : Bool} {time : Nat}
    (h : (s.putRec p orig copy relTm time).recorded q) : q = p ∨ s.recorded q := by
  obtain ⟨r, hr, rfl⟩ := h
  rcases List.mem_append.mp hr with hr | hr
  · exact .inr ⟨r, hr, rfl⟩
  · exact .inl (by rw [List.mem_singleton.mp hr])

/-- Carrying records forward writes no payload but theirs. -/
theorem State.recorded_carry {l : List JRec} {s : State} {q : JPay}
    (h : (l.foldl (fun a r => a.putRec r.pay (some r.origSeq) true r.relTime r.time) s).recorded q) : (∃ r ∈ l, r.pay = q) ∨ s.recorded q := by
  induction l generalizing s with
  | nil => exact .inr h
  | cons r l ih =>
    rcases ih h with ⟨x, hx, rfl⟩ | h
    · exact .inl ⟨x, List.mem_cons_of_mem r hx, rfl⟩
    · rcases State.recorded_putRec h with rfl | h
      · exact .inl ⟨r, List.mem_cons_self, rfl⟩
      · exact .inr h

theorem mem_of_mem_carryList {l : List JRec} {sec : Nat} {r : JRec} (h : r ∈ carryList l sec) : r ∈ l :=
  (List.mem_filter.mp (mem_ksort h)).1

theorem State.recorded_jAhead {s : State} {q : JPay} (h : s.jAhead.recorded q) : s.recorded q := by
  unfold State.jAhead at h
  dsimp only at h
  split at h
  · exact h
  · obtain ⟨r, hr, rfl⟩ := h
    rcases State.recorded_carry ⟨r, (List.mem_filter.mp hr).1, rfl⟩ with ⟨x, hx, hpay⟩ | h
    · exact ⟨x, mem_of_mem_carryList hx, hpay⟩
    · exact h

/-- A journal that can be used takes the record into its next slot and then prepares the sectors ahead. -/
theorem State.jWrite_puts {s : State} (hlive : s.jDead = false) (p : JPay) :
    ∃ (u : State) (relTm : Bool) (time : Nat), s.jWrite p = (u.putRec p none false relTm time).jAhead ∧
      u.keep = { s.keep with erasing := u.keep.erasing } ∧ u.getB Reg.PS_STATUS_VSYS_LOSS = s.getB Reg.PS_STATUS_VSYS_LOSS := by
  unfold State.jWrite
  rw [if_neg (by rw [hlive]; exact Bool.false_ne_true)]
  exact ⟨_, _, _, rfl, rfl, State.getB_congr (State.getF_setF_ne s (f := Reg.EF_OPS_SUSPENDS) _ (by decide))⟩

/-- A write brings no payload but its own. -/
theorem State.recorded_jWrite {s : State} {p q : JPay} (h : (s.jWrite p).recorded q) : q = p ∨ s.recorded q := by
  cases hdead : s.jDead
  · obtain ⟨u, relTm, time, hput, hkeep, -⟩ := State.jWrite_puts hdead p
    rw [hput] at h
    refine (State.recorded_putRec (State.recorded_jAhead h)).imp_right fun hold => ?_
    unfold State.recorded at hold
    rwa [hkeep] at hold
  · rw [State.jWrite, if_pos hdead] at h
    exact .inr h

/-- With no record waiting, writing one now is one write. -/
theorem State.jNow_of_idle {s : State} (hloss : s.getB Reg.PS_STATUS_VSYS_LOSS = false) (hq : s.keep.jq = []) (p : JPay) : s.jNow p = s.jWrite p := by
  have hflush : s.jFlush = s := by
    unfold State.jFlush
    rw [hq]
    show { s with keep := { s.keep with jq := [] } } = s
    rw [← hq]
  rw [State.jNow, if_neg (by rw [hloss]; exact Bool.false_ne_true), hflush]

/-- A head with a free slot takes the record. -/
theorem State.putRec_stays {s : State} (hslot : s.keep.slot < 63) (hring : s.jRing s.keep.head = true) (p : JPay) (relTm : Bool) (time : Nat) :
    (s.putRec p none false relTm time).keep = { s.keep with
      words := (s.putRec p none false relTm time).keep.words, sseq := (s.putRec p none false relTm time).keep.sseq
      recs := s.keep.recs ++ [⟨s.keep.nextSeq, s.keep.nextSeq, false, relTm, time, p, s.keep.head, s.keep.slot⟩]
      nextSeq := s.keep.nextSeq + 1, slot := s.keep.slot + 1 } := by
  have hturn : (decide (63 ≤ s.keep.slot) || !s.jRing s.keep.head) = false := by simp [hring, hslot]
  simp only [State.putRec, hturn, Bool.false_eq_true, if_false, Option.getD_none]

/-- A full head gives way to the next sector of the window. -/
theorem State.putRec_turns {s : State} (hfull : 63 ≤ s.keep.slot) (p : JPay) (relTm : Bool) (time : Nat) :
    (s.putRec p none false relTm time).keep = { s.keep with
      words := (s.putRec p none false relTm time).keep.words, sseq := (s.putRec p none false relTm time).keep.sseq
      recs := s.keep.recs ++ [⟨s.keep.nextSeq, s.keep.nextSeq, false, relTm, time, p, s.jNextSector s.keep.head, 0⟩]
      nextSeq := s.keep.nextSeq + 1, head := s.jNextSector s.keep.head, slot := 1 } := by
  have hturn : (decide (63 ≤ s.keep.slot) || !s.jRing s.keep.head) = true := by simp [hfull]
  simp only [State.putRec, hturn, if_true, Option.getD_none]

theorem State.jAhead_of_clear {s : State}
    (h : s.keep.recs.any (fun r => r.sector == s.jNextSector (s.jNextSector s.keep.head)) = false) : s.jAhead = s :=
  if_pos (by simp [h])

/-- A sector whose records are not carried forward is erased with them. -/
theorem State.jAhead_erases {s : State} {sec : Nat} (hsec : s.jNextSector (s.jNextSector s.keep.head) = sec) (hother : sec ≠ s.keep.head)
    (hpowered : s.getB Reg.PS_STATUS_VSYS_LOSS = false) (hlists : s.keep.recs.any (fun r => r.sector == sec) = true)
    (hcarry : carryList s.keep.recs sec = []) : s.jAhead.keep.recs = s.keep.recs.filter (fun r => r.sector != sec) ∧
      s.jAhead.keep.jq = s.keep.jq ∧ s.jAhead.regs = s.regs := by
  unfold State.jAhead
  dsimp only
  rw [hsec, if_neg (by simp [hother, hpowered, hlists]), hcarry]
  exact ⟨rfl, rfl, rfl⟩

/-! ### A worn journal (R458) -/

/-- All but 19 of the journal's sectors are retired. -/
def wornSectors : List (Nat × Sector) := (List.range 493).map fun i => (256 + i, ⟨0, false, true, 0⟩)

theorem mfind_eq_none {α : Type} {k : Nat} {m : List (Nat × α)} (h : ∀ p ∈ m, p.1 ≠ k) : mfind k m = none := by
  induction m with
  | nil => rfl
  | cons p m ih =>
    rw [mfind, if_neg (h p List.mem_cons_self), ih fun q hq => h q (List.mem_cons_of_mem p hq)]

section
variable {s : State} (hworn : s.keep.sectors = wornSectors)
include hworn

theorem State.jRing_of_worn {k : Nat} (hk : 749 ≤ k) : s.jRing k = true := by
  have hnone : mfind k s.keep.sectors = none := by
    rw [hworn]
    refine mfind_eq_none fun p hp => ?_
    obtain ⟨i, hi, rfl⟩ := List.mem_map.mp hp
    have := List.mem_range.mp hi
    show 256 + i ≠ k
    omega
  simp [State.jRing, State.sector, mget, hnone]

/-- Nineteen good sectors leave a window of three. -/
theorem State.jWindow_of_worn : s.jWindow = 3 := by
  have hcount : s.sectCount 256 768 (fun x => x.retired || x.pending) = 493 := by
    rw [State.sectCount, hworn, List.filter_eq_self.mpr, wornSectors, List.length_map, List.length_range]
    intro p hp
    obtain ⟨i, hi, rfl⟩ := List.mem_map.mp hp
    have hlt : 256 + i < 768 := by have := List.mem_range.mp hi; omega
    simp [hlt]
  rw [State.jWindow, State.jGood, hcount]
  rfl

theorem State.window_of_worn (hstart : s.keep.start = 749) : s.window = [749, 750, 751] := by
  obtain ⟨rest, hring⟩ : ∃ rest, ringFrom 749 = 749 :: 750 :: 751 :: rest := by
    rw [ringFrom, List.range_eq_range', List.range'_succ, List.range'_succ, List.range'_succ]
    exact ⟨_, rfl⟩
  have hgood (k : Nat) (hk : 749 ≤ k) := State.jRing_of_worn hworn hk
  rw [State.window, State.jWindow_of_worn hworn, hstart, hring]
  simp [hgood]

theorem State.jNextSector_of_worn (hstart : s.keep.start = 749) :
    s.jNextSector 749 = 750 ∧ s.jNextSector 750 = 751 ∧ s.jNextSector 751 = 749 := by
  simp only [State.jNextSector, State.window_of_worn hworn hstart]
  decide

end

/-- A SANITIZE_DONE of another sanitize, whose ORIG_SEQ lies above the next record's. -/
def laterDone : JRec := ⟨5, 5, false, false, 0, .sanitizeDone 7, 750, 0⟩

/-- A worn journal that can be written, its window at sectors 749 to 751 and its head in the first of them, with no record waiting. -/
structure WornJournal (s : State) (slot : Nat) (recs : List JRec) : Prop where
  powered : s.getB Reg.PS_STATUS_VSYS_LOSS = false
  live : s.jDead = false
  idle : s.keep.jq = []
  worn : s.keep.sectors = wornSectors
  start : s.keep.start = 749
  head : s.keep.head = 749
  slot : s.keep.slot = slot
  recs : s.keep.recs = recs

theorem WornJournal.jShut {s : State} {slot : Nat} {recs : List JRec} (h : WornJournal s slot recs) : s.jShut = false := by
  rw [State.jShut, h.live, h.powered]
  rfl

theorem WornJournal.of_keep {s t : State} {slot : Nat} {recs : List JRec} (h : WornJournal s slot recs)
    (hkeep : t.keep = { s.keep with erasing := t.keep.erasing }) (hpowered : t.getB Reg.PS_STATUS_VSYS_LOSS = s.getB Reg.PS_STATUS_VSYS_LOSS) :
    WornJournal t slot recs where
  powered := hpowered.trans h.powered
  live := by rw [State.jDead, hkeep]; exact h.live
  idle := by rw [hkeep]; exact h.idle
  worn := by rw [hkeep]; exact h.worn
  start := by rw [hkeep]; exact h.start
  head := by rw [hkeep]; exact h.head
  slot := by rw [hkeep]; exact h.slot
  recs := by rw [hkeep]; exact h.recs

/-- The last slot of the head takes a record; the sector ahead holds none, so nothing is erased. -/
theorem WornJournal.takes {s : State} (h : WornJournal s 62 [laterDone]) (hnext : s.keep.nextSeq = 1) (p : JPay) :
    ∃ relTm time, WornJournal (s.jNow p) 63 [laterDone, ⟨1, 1, false, relTm, time, p, 749, 62⟩] := by
  obtain ⟨u, relTm, time, hput, hkeep, hpowered⟩ := State.jWrite_puts h.live p
  have hu := h.of_keep hkeep hpowered
  have hseq : u.keep.nextSeq = 1 := by rw [hkeep]; exact hnext
  have hv := State.putRec_stays (by rw [hu.slot]; decide) (State.jRing_of_worn hu.worn hu.head.ge) p relTm time
  rw [hseq, hu.recs, hu.head, hu.slot] at hv
  have hwritten : WornJournal (u.putRec p none false relTm time) 63 [laterDone, ⟨1, 1, false, relTm, time, p, 749, 62⟩] :=
    { powered := hu.powered, live := hu.live, idle := hu.idle, worn := hu.worn, start := hu.start
      head := by rw [hv]; exact hu.head
      slot := by rw [hv]
      recs := by rw [hv]; rfl }
  obtain ⟨hfirst, hsecond, -⟩ := State.jNextSector_of_worn hwritten.worn hwritten.start
  refine ⟨relTm, time, ?_⟩
  rw [State.jNow_of_idle h.powered h.idle, hput, State.jAhead_of_clear (by rw [hwritten.head, hfirst, hsecond, hwritten.recs]; rfl)]
  exact hwritten

/-- A SANITIZE_DONE in the last slot of the head, with a later ORIG_SEQ of its kind beside it, is not needed: the next record opens another sector,
and the one it lies in is erased without it (R459). -/
theorem WornJournal.loses {s : State} {epoch time : Nat} {relTm : Bool}
    (h : WornJournal s 63 [laterDone, ⟨1, 1, false, relTm, time, .sanitizeDone epoch, 749, 62⟩]) (p : JPay) :
    (∃ r, (s.jNow p).keep.recs = [laterDone, r] ∧ r.pay = p) ∧ (s.jNow p).keep.jq = [] ∧
      (s.jNow p).getB Reg.PS_STATUS_VSYS_LOSS = false := by
  obtain ⟨u, relTm', time', hput, hkeep, hpowered⟩ := State.jWrite_puts h.live p
  have hu := h.of_keep hkeep hpowered
  obtain ⟨hfirst, -⟩ := State.jNextSector_of_worn hu.worn hu.start
  have hv := State.putRec_turns (by rw [hu.slot]) p relTm' time'
  rw [hu.recs, hu.head, hfirst] at hv
  have hpowered' : (u.putRec p none false relTm' time').getB Reg.PS_STATUS_VSYS_LOSS = false := hu.powered
  have hidle : (u.putRec p none false relTm' time').keep.jq = [] := hu.idle
  have hworn : (u.putRec p none false relTm' time').keep.sectors = wornSectors := hu.worn
  have hstart : (u.putRec p none false relTm' time').keep.start = 749 := hu.start
  rw [State.jNow_of_idle h.powered h.idle, hput]
  generalize u.putRec p none false relTm' time' = v at hv hpowered' hidle hworn hstart
  have hhead : v.keep.head = 750 := by rw [hv]
  have hrecs : v.keep.recs = [laterDone, ⟨1, 1, false, relTm, time, .sanitizeDone epoch, 749, 62⟩,
      ⟨u.keep.nextSeq, u.keep.nextSeq, false, relTm', time', p, 750, 0⟩] := by rw [hv]; rfl
  obtain ⟨-, hsecond, hthird⟩ := State.jNextSector_of_worn hworn hstart
  have hcarry : carryList v.keep.recs 749 = [] := by
    rw [hrecs]
    simp [carryList, laterDone, jNeeded, JPay.slotKey, JPay.type, ksort]
  obtain ⟨hleft, hjq, hregs⟩ := State.jAhead_erases (by rw [hhead, hsecond, hthird]) (by rw [hhead]; decide) hpowered' (by rw [hrecs]; rfl) hcarry
  rw [hrecs] at hleft
  exact ⟨⟨_, hleft, rfl⟩, hjq.trans hidle, (State.getB_congr (RegsKept.of_regs (l := []) hregs _ (by simp))).trans hpowered'⟩

/-! ### SANITIZE_COMPLETE (R112) -/

/-- A unit whose sanitize has ended its erases, with one slot left in the head of a worn journal. -/
def sanitizeEnds : State := { State.reset with
  mode := .run
  host := { HostSt.reset with sanitize := 1 }
  keep := { KeeperSt.reset with sectors := wornSectors, recs := [laterDone], head := 749, slot := 62, start := 749 } }

/-- The state in which the records of a sanitize's end are written: zeros in user DRAM and in the label area, and no page. -/
def State.zeroed (s : State) : State := { s with
  dram := { s.dram.noPoison with cells := [], wbuf := [] }
  host := { s.host with lsa := [] }
  nand := { s.nand with sealTbl := [] }
  regs := setRegs [(Reg.NB_MANPTR_LOC, noLoc), (Reg.NB_ROOTPTR_LOC, noLoc)] s.regs }

/-- The record of an image without a page (R273, R276). -/
def State.emptyManifest (s : State) : JPay :=
  .manifestPtr noLoc s.nand.epoch 0 0 0 (s.getF Reg.HL_DSC_DSC) (s.getB Reg.HL_SHUTDOWN_DIRTY) (s.getB Reg.HL_SHUTDOWN_SELF_CLEAN) false 0

theorem State.sanitizeOwn_eq (s : State) : s.sanitizeOwn =
    (((s.zeroed.jNow (.sanitizeDone s.nand.epoch)).jNow s.emptyManifest).jNow (.runOpen s.nand.epoch 0)).setF Reg.MD_STATUS_MEDIA_READY 1 := rfl

/-- After the three records of a sanitize's end the command leaves the journal alone. -/
theorem sanitizeComplete_keep {s : State} (hsan : s.host.sanitize = 1) (herased : s.nand.eraseQ = []) (hrun : s.mode = .run) :
    ∃ t, exec .sanitizeComplete s = .next t ∧
      t.keep = (((s.zeroed.jNow (.sanitizeDone s.nand.epoch)).jNow s.emptyManifest).jNow (.runOpen s.nand.epoch 0)).keep := by
  refine ⟨_, congrArg Host.Outcome.next (if_pos ⟨.inl hsan, herased, hrun⟩), ?_⟩
  rw [State.creditsIfDue_frame]
  dsimp only
  rw [State.frameIf_frame, State.sanitizeOwn_eq, State.setF_keep]

/-- Refutes O15: the SANITIZE_DONE of a sanitize's end need not stand in the journal as the command completes. The statement asks nothing of the
journal's records; that of `sanitizeEnds` holds another SANITIZE_DONE with an ORIG_SEQ above the next SEQ, so R459 lets the new record go with its
sector as the next record opens another. -/
theorem not_sanitizing : ¬ Obligations.Sanitizing := by
  rintro ⟨-, -, hcomplete⟩
  obtain ⟨t, ht, -, -, -, -, -, -, hrecorded, -⟩ := hcomplete sanitizeEnds (.inl rfl) rfl rfl
  obtain ⟨-, hdone, -⟩ := hrecorded (by decide)
  obtain ⟨u, hu, hkeep⟩ := sanitizeComplete_keep (s := sanitizeEnds) rfl rfl rfl
  obtain rfl : t = u := Host.Outcome.next.inj (ht.symm.trans hu)
  have hjournal : WornJournal sanitizeEnds.zeroed 62 [laterDone] :=
    ⟨by decide, rfl, rfl, by simp only [State.zeroed, sanitizeEnds], rfl, rfl, rfl, rfl⟩
  obtain ⟨relTm, time, hwritten⟩ := hjournal.takes rfl (.sanitizeDone sanitizeEnds.nand.epoch)
  obtain ⟨⟨r, hrecs, hpay⟩, hidle, hpowered⟩ := hwritten.loses sanitizeEnds.emptyManifest
  rw [hkeep, State.jNow_of_idle hpowered hidle] at hdone
  rcases State.recorded_jWrite hdone with hopen | ⟨q, hq, hdone⟩
  · cases hopen
  · rw [hrecs] at hq
    simp only [List.mem_cons, List.not_mem_nil, or_false] at hq
    rcases hq with rfl | rfl
    · cases hdone
    · cases hpay.symm.trans hdone

/-! ### VX_AUTH_CHALLENGE (R117, R118) -/

/-- A vendor command's end shows in HL_MBOX, and no other field moves. -/
theorem State.getF_mboxEnd_vendor (s : State) {op : Nat} (hop : op / 256 = 0xC0) (ret : Nat) (out : MOut) (f : Fld) :
    (s.mboxEnd op ret out).getF f = (s.setFs [(Reg.HL_MBOX_RET_CODE, ret), (Reg.HL_MBOX_OPCODE, op)]).getF f := by
  have hregs : (s.mboxEnd op ret out).regs = (s.setFs [(Reg.HL_MBOX_RET_CODE, ret), (Reg.HL_MBOX_OPCODE, op)]).regs := if_pos hop
  simp only [State.getF, hregs]

theorem State.mboxEnd_vendor_shows (s : State) {op ret : Nat} (hop : op / 256 = 0xC0) (hret : ret < 2 ^ 16) (out : MOut) :
    (s.mboxEnd op ret out).getF Reg.HL_MBOX_OPCODE = op ∧ (s.mboxEnd op ret out).getF Reg.HL_MBOX_RET_CODE = ret := by
  refine ⟨?_, ?_⟩ <;> rw [State.getF_mboxEnd_vendor s hop]
  · exact (State.getF_setF_self (s.setF Reg.HL_MBOX_RET_CODE ret) _ _).trans (Nat.mod_eq_of_lt (show op < 65536 by omega))
  · rw [State.getF_setFs_head _ _ _ [(Reg.HL_MBOX_OPCODE, op)] [Reg.HL_MBOX_OPCODE] (by simp) (by decide)]
    exact Nat.mod_eq_of_lt hret

/-- The challenge that the next nonce opens; a challenge takes the ticket away. -/
def State.challenged (u : State) (purpose : Nat) : State := { u with
  freeCount := u.freeCount + 1
  host := { u.host with auth := { u.host.auth with chal := some ((Config.entropy u.freeCount).toNat, purpose, u.ms), ticket := none } } }

theorem vxAuthChallenge_opens {s : State} {purpose : Nat} (hlink : s.getB Reg.HL_STATUS_LINK_UP = true) (hfree : s.mboxFree = true)
    (hmin : 1 ≤ purpose) (hmax : purpose ≤ 3) (hopen : s.getB Reg.HL_AUTH_REFUSING = false) :
    ∃ t nonce, exec (.vxAuthChallenge purpose 0) s = .next t ∧ t.host.auth.chal = some (nonce, purpose, s.ms) ∧ t.host.auth.ticket = none ∧
      t.host.mbox = ⟨0xC000, rcOk, .challenge nonce purpose s.otp.serial 10000⟩ ∧ t.getF Reg.HL_MBOX_OPCODE = 0xC000 ∧
      t.getF Reg.HL_MBOX_RET_CODE = rcOk ∧ RegsKept mboxFlds s t ∧
      t = { s with host := { s.host with mbox := t.host.mbox, auth := t.host.auth }, regs := t.regs, freeCount := t.freeCount } := by
  have hexec : exec (.vxAuthChallenge purpose 0) s = .next ((s.hostTouch.challenged purpose).mboxEnd 0xC000 rcOk
      (.challenge (Config.entropy s.hostTouch.freeCount).toNat purpose s.hostTouch.otp.serial 10000)) := by
    refine (exec_taken hlink hfree 0xC000 _).trans (congrArg _ ?_)
    rw [if_neg (by omega), if_neg (by rw [s.getB_hostTouch (by decide), hopen]; exact Bool.false_ne_true)]
    rfl
  obtain ⟨hop, hret⟩ := (s.hostTouch.challenged purpose).mboxEnd_vendor_shows (op := 0xC000) (ret := rcOk) rfl (by decide)
    (.challenge (Config.entropy s.hostTouch.freeCount).toNat purpose s.hostTouch.otp.serial 10000)
  have hkept : RegsKept mboxFlds s (s.hostTouch.challenged purpose) := (regsKept_hostTouch s).mono (by simp [mboxFlds])
  refine ⟨_, (Config.entropy s.hostTouch.freeCount).toNat, hexec, ?_, rfl, ?_, hop, hret, hkept.trans (regsKept_mboxEnd _ _ _ _), ?_⟩
  · rw [← s.hostTouch_ms]
    rfl
  · rw [← s.hostTouch_otp]
    rfl
  · rw [State.mboxEnd_frame, State.challenged, State.hostTouch_frame]

theorem vxAuthChallenge_refused {s : State} {purpose : Nat} (hlink : s.getB Reg.HL_STATUS_LINK_UP = true) (hfree : s.mboxFree = true)
    (hmin : 1 ≤ purpose) (hmax : purpose ≤ 3) (hrefusing : s.getB Reg.HL_AUTH_REFUSING = true) :
    ∃ t, exec (.vxAuthChallenge purpose 0) s = .next t ∧ t.host.mbox = ⟨0xC000, rcBusy, .none⟩ ∧ t.host.auth = s.host.auth := by
  have hbusy : s.hostTouch.getB Reg.HL_AUTH_REFUSING = true := (s.getB_hostTouch (by decide)).trans hrefusing
  refine ⟨_, (exec_taken hlink hfree 0xC000 _).trans (congrArg _ ((if_neg (by omega)).trans (if_pos hbusy))), rfl, ?_⟩
  rw [State.mboxEnd_frame, State.hostTouch_frame]

/-! ### VX_AUTH_RESPONSE (R117, R118) -/

/-- The check that passes closes the challenge and grants its ticket. -/
def State.granted (u : State) (purpose : Nat) : State := { u with
  host := { u.host with auth := { u.host.auth with chal := none, ticket := some (purpose, u.ms + 10000) } } }

theorem vxAuthResponse_grants {s : State} {nonce purpose at0 : Nat} (hlink : s.getB Reg.HL_STATUS_LINK_UP = true) (hfree : s.mboxFree = true)
    (hchal : s.host.auth.chal = some (nonce, purpose, at0)) (htime : s.ms ≤ at0 + 10000) (hkey : s.dmk.svcKey.isSome = true) :
    ∃ t, exec (.vxAuthResponse nonce purpose 0 true) s = .next t ∧ t.host.mbox = ⟨0xC001, rcOk, .ticket 10000⟩ ∧
      t.host.auth.chal = none ∧ t.host.auth.ticket = some (purpose, s.ms + 10000) ∧ t.ev = s.ev ∧ RegsKept mboxFlds s t ∧
      t = { s with host := { s.host with mbox := t.host.mbox, auth := t.host.auth }, regs := t.regs } := by
  have hexec : exec (.vxAuthResponse nonce purpose 0 true) s = .next ((s.hostTouch.granted purpose).mboxEnd 0xC001 rcOk (.ticket 10000)) := by
    refine (exec_taken hlink hfree 0xC001 _).trans (congrArg _ ?_)
    have hopen : s.hostTouch.host.auth.chal = some (nonce, purpose, at0) := by rw [s.hostTouch_host, hchal]
    rw [hopen]
    dsimp only
    rw [if_neg (by simp), if_pos ⟨rfl, rfl, by rw [s.hostTouch_ms]; exact htime, rfl, by rw [s.hostTouch_dmk]; exact hkey⟩]
    rfl
  have hkept : RegsKept mboxFlds s (s.hostTouch.granted purpose) := (regsKept_hostTouch s).mono (by simp [mboxFlds])
  refine ⟨_, hexec, rfl, rfl, ?_, s.hostTouch_ev, hkept.trans (regsKept_mboxEnd _ _ _ _), ?_⟩
  · rw [← s.hostTouch_ms]
    rfl
  · rw [State.mboxEnd_frame, State.granted, State.hostTouch_frame]

/-- The check that fails closes the challenge and counts a failure. -/
def State.failCounted (u : State) : State := { u with
  host := { u.host with auth := { u.host.auth with chal := none, fails := u.failWindow ++ [u.ms] } } }

/-- The third failure in 60 s starts the refusal, and each logs an event. -/
def State.checkFailed (u : State) (purpose : Nat) : State :=
  (u.failCounted.setF Reg.HL_AUTH_REFUSING (if 3 ≤ (u.failWindow ++ [u.ms]).length then 1 else u.getF Reg.HL_AUTH_REFUSING)).raise
    .keeper 0x16 .warning purpose

theorem regsKept_checkFailed (u : State) (purpose : Nat) : RegsKept (Reg.HL_AUTH_REFUSING :: evFlds) u (u.checkFailed purpose) :=
  (regsKept_setF (s := u.failCounted) List.mem_cons_self).trans (regsKept_raise.mono (List.subset_cons_self _ _))

theorem State.checkFailed_refuses {u : State} (h : 2 ≤ u.failWindow.length) (purpose : Nat) :
    (u.checkFailed purpose).getF Reg.HL_AUTH_REFUSING = 1 := by
  refine (regsKept_raise _ (by decide)).trans ((State.getF_setF_self _ _ _).trans ?_)
  rw [if_pos (by simpa using h)]
  rfl

theorem exec_vxAuthResponse_fails {s : State} {nonce purpose n p at0 : Nat} (hlink : s.getB Reg.HL_STATUS_LINK_UP = true)
    (hfree : s.mboxFree = true) (hchal : s.host.auth.chal = some (n, p, at0)) :
    exec (.vxAuthResponse nonce purpose 0 false) s = .next ((s.hostTouch.checkFailed p).mboxEnd 0xC001 rcInput .none) := by
  refine (exec_taken hlink hfree 0xC001 _).trans (congrArg _ ?_)
  have hopen : s.hostTouch.host.auth.chal = some (n, p, at0) := by rw [s.hostTouch_host, hchal]
  rw [hopen]
  dsimp only
  rw [if_neg (by simp), if_neg (by simp)]
  rfl

theorem vxAuthResponse_fails {s : State} {nonce purpose n p at0 : Nat} (hlink : s.getB Reg.HL_STATUS_LINK_UP = true) (hfree : s.mboxFree = true)
    (hchal : s.host.auth.chal = some (n, p, at0)) :
    ∃ t, exec (.vxAuthResponse nonce purpose 0 false) s = .next t ∧ t.host.mbox = ⟨0xC001, rcInput, .none⟩ ∧
      t.host.auth.chal = none ∧ t.host.auth.ticket = s.host.auth.ticket ∧ t.host.auth.fails = s.failWindow ++ [s.ms] ∧
      (2 ≤ s.failWindow.length → t.getB Reg.HL_AUTH_REFUSING = true) ∧ t.ev.seq = s.ev.seq + 1 ∧
      RegsKept (Reg.HL_AUTH_REFUSING :: mboxFlds ++ evFlds) s t := by
  have hwindow : s.hostTouch.failWindow = s.failWindow := by simp only [State.failWindow, s.hostTouch_host, s.hostTouch_ms]
  have hend := regsKept_mboxEnd (s.hostTouch.checkFailed p) 0xC001 rcInput .none
  have hkept : RegsKept (Reg.HL_AUTH_REFUSING :: mboxFlds ++ evFlds) s (s.hostTouch.checkFailed p) :=
    ((regsKept_hostTouch s).mono (by simp [mboxFlds])).trans ((regsKept_checkFailed _ p).mono (by decide))
  refine ⟨_, exec_vxAuthResponse_fails hlink hfree hchal, rfl, rfl, ?_, ?_, fun htwo => ?_, ?_, hkept.trans (hend.mono (by decide))⟩
  · rw [← s.hostTouch_host]
    rfl
  · rw [← hwindow, ← s.hostTouch_ms]
    rfl
  · rw [State.getB, hend _ (by decide), State.checkFailed_refuses (by rw [hwindow]; exact htwo)]
    rfl
  · rw [← s.hostTouch_ev]
    rfl

/-! ### The three expiries (R117, R118) -/

theorem authRefusalEnd_ends {s : State} (h : s.getB Reg.HL_AUTH_REFUSING = true) :
    ∃ t, exec .authRefusalEnd s = .next t ∧ t.getB Reg.HL_AUTH_REFUSING = false ∧ t.host.auth.fails = [] ∧
      RegsKept [Reg.HL_AUTH_REFUSING] s t ∧ t = { s with host := { s.host with auth := { s.host.auth with fails := [] } }, regs := t.regs } := by
  refine ⟨_, congrArg Host.Outcome.next (if_neg (by simp [h])), ?_, rfl, ?_, rfl⟩
  · rw [State.getB, State.getF_setF_self]
    rfl
  · exact regsKept_setF (s := { s with host := _ }) List.mem_cons_self

/-- Settles O16, command by command. -/
theorem authorisation : Obligations.Authorisation :=
  ⟨fun _ _ => vxAuthChallenge_opens, fun _ _ => vxAuthChallenge_refused, fun _ _ _ _ => vxAuthResponse_grants,
    fun _ _ _ _ _ _ => vxAuthResponse_fails, fun _ => rfl, fun _ => rfl, fun _ => authRefusalEnd_ends⟩

/-! ### Service mode (R119, R505) -/

/-- Service mode is entered on a ticket, for 600 s. -/
def State.served (u : State) : State :=
  (u.useTicket.setFs [(Reg.MD_STATUS_SERVICE, 1), (Reg.DT_SVC_LEFT_S, 600)]).raise .keeper 0x03 .info 1

theorem regsKept_served (u : State) : RegsKept (Reg.MD_STATUS_SERVICE :: Reg.DT_SVC_LEFT_S :: evFlds) u u.served :=
  (regsKept_setFs (s := u.useTicket) (by simp)).trans (regsKept_raise.mono (by simp))

theorem State.served_shows (u : State) : u.served.getF Reg.MD_STATUS_SERVICE = 1 ∧ u.served.getF Reg.DT_SVC_LEFT_S = 600 := by
  refine ⟨(regsKept_raise _ (by decide)).trans ?_, (regsKept_raise _ (by decide)).trans
    (State.getF_setF_self (u.useTicket.setF Reg.MD_STATUS_SERVICE 1) Reg.DT_SVC_LEFT_S 600)⟩
  exact State.getF_setFs_head _ _ _ [(Reg.DT_SVC_LEFT_S, 600)] [Reg.DT_SVC_LEFT_S] (by simp) (by decide)

theorem State.served_frame (u : State) : u.served = { u with
    host := { u.host with auth := { u.host.auth with ticket := none } }, regs := u.served.regs, ev := u.served.ev } := rfl

theorem State.served_seq (u : State) : u.served.ev.seq = u.ev.seq + 1 := rfl

theorem State.service_of_getF {s : State} {b : Bool} (h : s.getF Reg.MD_STATUS_SERVICE = b2n b) : s.service = b := getB_of_getF_b2n h

theorem serviceModeEnter_serves {s : State} {e : Nat} (hlink : s.getB Reg.HL_STATUS_LINK_UP = true) (hfree : s.mboxFree = true)
    (hwake : s.mode ≠ .wake) (hticket : s.host.auth.ticket = some (1, e)) (htime : s.ms < e) :
    ∃ t, exec (.serviceModeEnter 0) s = .next t ∧ t.host.mbox = ⟨0xC006, rcOk, .service 1⟩ ∧ t.service = true ∧
      t.getF Reg.DT_SVC_LEFT_S = 600 ∧ t.host.auth.ticket = none ∧ t.ev.seq = s.ev.seq + 1 ∧
      RegsKept (Reg.MD_STATUS_SERVICE :: mboxFlds ++ evFlds) s t ∧
      t = { s with host := { s.host with mbox := t.host.mbox, auth := { s.host.auth with ticket := none } }, regs := t.regs, ev := t.ev } := by
  have hhas : s.hostTouch.ticketFor 1 = true := by simp [State.ticketFor, hticket, htime]
  have hexec : exec (.serviceModeEnter 0) s = .next (s.hostTouch.served.mboxEnd 0xC006 rcOk (.service 1)) :=
    (exec_taken hlink hfree 0xC006 _).trans (congrArg _ ((if_neg (by simp)).trans ((if_neg (by simpa using hwake)).trans (if_pos hhas))))
  obtain ⟨hservice, hleft⟩ := s.hostTouch.served_shows
  have hend := regsKept_mboxEnd s.hostTouch.served 0xC006 rcOk (.service 1)
  have hkept : RegsKept (Reg.MD_STATUS_SERVICE :: mboxFlds ++ evFlds) s s.hostTouch.served :=
    ((regsKept_hostTouch s).mono (by simp [mboxFlds])).trans ((regsKept_served _).mono (by decide))
  refine ⟨_, hexec, rfl, State.service_of_getF ((hend _ (by decide)).trans hservice), ?_, ?_, ?_, hkept.trans (hend.mono (by decide)), ?_⟩
  · rw [State.getF_mboxEnd_vendor _ rfl, State.getF_setFs_ne _ _ _ (by simp only [List.forall_mem_cons]; decide), hleft]
  · rw [State.mboxEnd_frame, State.served_frame]
  · rw [State.mboxEnd_ev, State.served_seq, s.hostTouch_ev]
  · rw [State.mboxEnd_frame, State.served_frame, State.hostTouch_frame]

theorem serviceModeEnter_refused {s : State} (hlink : s.getB Reg.HL_STATUS_LINK_UP = true) (hfree : s.mboxFree = true) (hwake : s.mode ≠ .wake)
    (hticket : s.host.auth.ticket = none) :
    ∃ t, exec (.serviceModeEnter 0) s = .next t ∧ t.host.mbox = ⟨0xC006, rcSec, .none⟩ ∧ t.service = s.service := by
  have hnone : s.hostTouch.ticketFor 1 = false := by simp [State.ticketFor, hticket]
  refine ⟨_, (exec_taken hlink hfree 0xC006 _).trans (congrArg _ ((if_neg (by simp)).trans ((if_neg (by simpa using hwake)).trans
    (if_neg (by rw [hnone]; exact Bool.false_ne_true))))), rfl, ?_⟩
  exact (State.getB_congr (regsKept_mboxEnd _ _ _ _ _ (by decide))).trans s.service_hostTouch

/-- Leaving service mode shows why, with no time left, and logs an event. -/
theorem State.leaveService_shows {s : State} (h : s.service = true) {exit : Nat} (hexit : exit < 16) :
    (s.leaveService exit).service = false ∧ (s.leaveService exit).getF Reg.DT_SVC_EXIT = exit ∧
      (s.leaveService exit).getF Reg.DT_SVC_LEFT_S = 0 ∧ (s.leaveService exit).ev.seq = s.ev.seq + 1 := by
  have hleaves : s.leaveService exit = (s.setFs [(Reg.MD_STATUS_SERVICE, 0), (Reg.DT_SVC_EXIT, exit), (Reg.DT_SVC_LEFT_S, 0)]).raise
      .keeper 0x03 .info 0 := if_pos h
  rw [hleaves]
  refine ⟨State.service_of_getF ((regsKept_raise _ (by decide)).trans ?_), (regsKept_raise _ (by decide)).trans ?_,
    (regsKept_raise _ (by decide)).trans ?_, rfl⟩
  · exact State.getF_setFs_head _ _ _ [(Reg.DT_SVC_EXIT, exit), (Reg.DT_SVC_LEFT_S, 0)] [Reg.DT_SVC_EXIT, Reg.DT_SVC_LEFT_S] (by simp)
      (by decide)
  · exact (State.getF_setFs_head (s.setF Reg.MD_STATUS_SERVICE 0) _ _ [(Reg.DT_SVC_LEFT_S, 0)] [Reg.DT_SVC_LEFT_S] (by simp) (by decide)).trans
      (Nat.mod_eq_of_lt hexit)
  · exact State.getF_setF_self ((s.setF Reg.MD_STATUS_SERVICE 0).setF Reg.DT_SVC_EXIT exit) Reg.DT_SVC_LEFT_S 0

theorem serviceModeLeave_leaves {s : State} (hlink : s.getB Reg.HL_STATUS_LINK_UP = true) (hfree : s.mboxFree = true)
    (hservice : s.service = true) :
    ∃ t, exec (.serviceModeLeave 0) s = .next t ∧ t.host.mbox = ⟨0xC006, rcOk, .service 0⟩ ∧ t.service = false ∧
      t.getF Reg.DT_SVC_EXIT = 1 ∧ t.ev.seq = s.ev.seq + 1 ∧
      RegsKept (Reg.MD_STATUS_SERVICE :: Reg.DT_SVC_EXIT :: mboxFlds ++ evFlds) s t ∧
      t = { s with host := { s.host with mbox := t.host.mbox }, regs := t.regs, ev := t.ev } := by
  have hexec : exec (.serviceModeLeave 0) s = .next ((s.hostTouch.leaveService 1).mboxEnd 0xC006 rcOk (.service 0)) :=
    (exec_taken hlink hfree 0xC006 _).trans (congrArg _ (if_neg (by simp)))
  obtain ⟨hleft, hexit, -, hseq⟩ := State.leaveService_shows (s.service_hostTouch.trans hservice) (exit := 1) (by decide)
  have hend := regsKept_mboxEnd (s.hostTouch.leaveService 1) 0xC006 rcOk (.service 0)
  have hkept : RegsKept (Reg.MD_STATUS_SERVICE :: Reg.DT_SVC_EXIT :: mboxFlds ++ evFlds) s (s.hostTouch.leaveService 1) :=
    ((regsKept_hostTouch s).mono (by simp [mboxFlds])).trans ((regsKept_leaveService _ 1).mono (by decide))
  refine ⟨_, hexec, rfl, (State.getB_congr (hend _ (by decide))).trans hleft, (hend _ (by decide)).trans hexit, ?_,
    hkept.trans (hend.mono (by decide)), ?_⟩
  · rw [State.mboxEnd_ev, hseq, s.hostTouch_ev]
  · rw [State.mboxEnd_frame, State.leaveService_frame, State.hostTouch_frame]

theorem serviceTimeout_leaves {s : State} (hservice : s.service = true) :
    ∃ t, exec .serviceTimeout s = .next t ∧ t.service = false ∧ t.getF Reg.DT_SVC_EXIT = 5 ∧ t.getF Reg.DT_SVC_LEFT_S = 0 ∧
      t.ev.seq = s.ev.seq + 1 ∧ RegsKept (Reg.MD_STATUS_SERVICE :: Reg.DT_SVC_EXIT :: Reg.DT_SVC_LEFT_S :: evFlds) s t ∧
      t = { s with regs := t.regs, ev := t.ev } := by
  obtain ⟨hleft, hexit, htime, hseq⟩ := State.leaveService_shows hservice (exit := 5) (by decide)
  refine ⟨_, rfl, hleft, hexit, htime, hseq, regsKept_leaveService s 5, ?_⟩
  rw [State.leaveService_frame]

/-- Settles O17, command by command. -/
theorem serviceMode : Obligations.ServiceMode :=
  ⟨fun _ _ => serviceModeEnter_serves, fun _ => serviceModeEnter_refused, fun _ => serviceModeLeave_leaves, fun _ => serviceTimeout_leaves⟩

end Sys2Proof.Machine

/-! SUPPORT. Proofs of the statements of the ledger and cover family. -/

namespace Sys2Proof.Machine

/-! ### A write that waits for a write-buffer entry (R144, R168) -/

/-- The only write of the ingress buffer passes its cover check and finds no free write-buffer entry: it waits at the write-buffer step. -/
theorem State.ledgerGo_holds {s : State} {w : Wr} (hopen : s.pathOpen = true) (hgroup : s.bur.regroup = false) (hstage : s.host.stage = none)
    (hingress : s.host.ingress = [w]) (hmoves : s.headWaits w = false) (hclean : s.ledgerOf (granOf w.line) = .clean)
    (hdoubt : s.cover.doubtWriter = false) (henergy : s.energyOk = true) (hland : s.landOk = true) (hbuf : s.bufFull w.line = true) :
    s.ledgerGo = { (s.leaveIngress []).coverTaken (granOf w.line) with
      host := { (s.leaveIngress []).host with stage := some ⟨w, .bufWait⟩ } } := by
  have htake : (s.leaveIngress []).ledgerTake (granOf w.line) = some ((s.leaveIngress []).coverTaken (granOf w.line)) :=
    State.ledgerTake_clean hclean hdoubt henergy hland
  have hstep : ((s.leaveIngress []).coverTaken (granOf w.line)).bufStep w = { (s.leaveIngress []).coverTaken (granOf w.line) with
      host := { (s.leaveIngress []).host with stage := some ⟨w, .bufWait⟩ } } := if_pos hbuf
  simp [State.ledgerGo, hopen, hgroup, hingress, State.bufLeave, hstage, ledgerRun, hmoves, htake, hstep]

/-- A write that waits at the write-buffer step leaves the DRAM controller alone, the write-backs that wait included (R188). -/
theorem memWr_waits_keeps_dram {s : State} {tag line : Nat} {data : LineData} (hmay : s.mayArrive line = true) (hopen : s.pathOpen = true)
    (hgroup : s.bur.regroup = false) (hstage : s.host.stage = none) (hingress : s.host.ingress = [])
    (hmoves : s.headWaits ⟨tag, line, true, beAll, data, s.host.nextSeq, false, 0⟩ = false) (hclean : s.ledgerOf (granOf line) = .clean)
    (hdoubt : s.cover.doubtWriter = false) (henergy : s.energyOk = true) (hland : s.landOk = true) (hbuf : s.bufFull line = true) :
    ∃ t, exec (.memWr tag line data) s = .next t ∧ t.dram = s.dram := by
  have hwant : s.want line = s := if_neg (by simpa using (Bool.or_eq_false_iff.mp hmoves).2)
  have hexec : exec (.memWr tag line data) s = .next (s.arrive ⟨tag, line, true, beAll, data, 0, false, 0⟩).ledgerGo := by
    simp only [exec, execMemWr, hmay, hwant, if_true]
  have harrived : (s.arrive ⟨tag, line, true, beAll, data, 0, false, 0⟩).host.ingress = [⟨tag, line, true, beAll, data, s.host.nextSeq, false, 0⟩] := by
    show s.host.ingress ++ _ = _
    rw [hingress]
    rfl
  refine ⟨_, hexec, ?_⟩
  rw [State.ledgerGo_holds (s := s.arrive ⟨tag, line, true, beAll, data, 0, false, 0⟩) hopen hgroup hstage harrived hmoves hclean hdoubt henergy
    hland hbuf]
  rfl

/-- The entries of a channel's full write buffer, of lines 1 to 128. -/
def takenEntries : List WbEntry := (List.range' 1 128).map fun line => ⟨line, beAll, 5, false, none, false⟩

/-- A unit in RUN with cover for a write to line 0, the 128 write-buffer entries of its channel taken, and a corrected line 0 that waits to be
written back (R168, R188). -/
def bufFullBackWaits : State :=
  { State.reset.setFs [(Reg.MD_STATUS_MEDIA_READY, 1), (Reg.HL_STATUS_LINK_UP, 1), (Reg.HL_STATUS_CREDITS_OPEN, 1)] with
    mode := .run
    cover := { CoverSt.reset with eLimit := 1000, eg := 10 }
    nand := { NandSt.reset with pErased := 66 }
    dram := { DramSt.reset with wbuf := takenEntries, wback := [0] } }

theorem granOf_takenEntries {e : WbEntry} (he : e ∈ takenEntries) : granOf e.line = granOf 0 := by
  simp only [takenEntries, List.mem_map, List.mem_range'_1] at he
  obtain ⟨line, hline, rfl⟩ := he
  show line / 256 = 0
  omega

/-- All its write-buffer entries are of granule 0. -/
theorem bufFullBackWaits_bufFull : bufFullBackWaits.bufFull 0 = true := by
  have hchan (e : WbEntry) (he : e ∈ takenEntries) :
      (bufFullBackWaits.chanOf (granOf e.line) == bufFullBackWaits.chanOf (granOf 0)) = true :=
    beq_iff_eq.mpr (congrArg _ (granOf_takenEntries he))
  have hused : bufFullBackWaits.wbUsed (bufFullBackWaits.chanOf (granOf 0)) = 128 := by
    unfold State.wbUsed
    rw [show bufFullBackWaits.dram.wbuf = takenEntries from rfl, List.filter_eq_self.mpr hchan, takenEntries, List.length_map, List.length_range']
    rfl
  simp [State.bufFull, hused]

/-- Refutes O6: a write that waits for a write-buffer entry is not staged yet, so a write-back that waits for its line stays (R188), which the
statement's frame drops. -/
theorem not_writeToCleanGranule : ¬ Obligations.WriteToCleanGranule := by
  intro h
  have hmay : bufFullBackWaits.mayArrive 0 = true := by decide
  have hopen : bufFullBackWaits.pathOpen = true := by decide
  have hmoves : bufFullBackWaits.headWaits ⟨1, 0, true, beAll, 5, 0, false, 0⟩ = false := by decide
  have hclean : bufFullBackWaits.ledgerOf (granOf 0) = .clean := by decide
  have henergy : bufFullBackWaits.energyOk = true := by decide
  have hland : bufFullBackWaits.landOk = true := by decide
  obtain ⟨t, ht, -, -, -, -, -, -, -, -, hframe⟩ := (h bufFullBackWaits 1 0 beAll 5 (.memWr 1 0 5) ⟨1, 0, true, beAll, 5, 0, false, 0⟩
    (.inl ⟨rfl, rfl⟩) hmay).2 hopen rfl rfl rfl hmoves hclean rfl henergy hland
  obtain ⟨u, hu, hdram⟩ := memWr_waits_keeps_dram (tag := 1) (data := 5) hmay hopen rfl rfl rfl hmoves hclean rfl henergy hland
    bufFullBackWaits_bufFull
  obtain rfl : t = u := Host.Outcome.next.inj (ht.symm.trans hu)
  have hdropped : t.dram.wback = [] := by rw [hframe]; rfl
  rw [hdram] at hdropped
  cases hdropped

/-! ### What the ledger stage leaves alone of the books and the flash (R142, R145) -/

/-- E_avail and E_LIMIT, which only a re-base moves, and the flash pages. -/
def State.figures (s : State) : Nat × Nat × List (Nat × NPage) := (s.cover.eAvail, s.cover.eLimit, s.nand.pages)

theorem State.figures_foldl {α : Type} {f : State → α → State} (h : ∀ a x, (f a x).figures = a.figures) (l : List α) (s : State) :
    (l.foldl f s).figures = s.figures := by
  induction l generalizing s with
  | nil => rfl
  | cons x l ih => exact (ih _).trans (h s x)

theorem State.figures_ite {p : Prop} [Decidable p] {s t u : State} (ht : t.figures = s.figures) (hu : u.figures = s.figures) :
    (if p then t else u).figures = s.figures := by
  split
  · exact ht
  · exact hu

theorem State.figures_ledgerTake {s t : State} {g : Nat} (h : s.ledgerTake g = some t) : t.figures = s.figures := by
  unfold State.ledgerTake at h
  split at h
  · cases h; rfl
  · cases h; rfl
  · cases h; rfl
  · split at h
    · cases h; rfl
    · split at h
      · cases h; rfl
      · cases h

theorem State.figures_armCtx {s t : State} {n : Nat} (h : s.armCtx n = some t) : t.figures = s.figures := by
  unfold State.armCtx at h
  split at h
  · cases h
  · obtain ⟨loc, -, rfl⟩ := Option.map_eq_some_iff.mp h
    rfl

theorem State.figures_takeCtx {s t : State} {n : Nat} (h : s.takeCtx = some (n, t)) : t.figures = s.figures := by
  unfold State.takeCtx at h
  split at h
  · cases h
    rfl
  · simp only [Option.bind_eq_some_iff] at h
    obtain ⟨m, -, u, hu, h⟩ := h
    split at h
    · cases h
    · cases h
      exact State.figures_armCtx hu

theorem State.figures_rearm (s : State) (n : Nat) : (s.rearm n).figures = s.figures := by
  unfold State.rearm
  cases h : s.armCtx n with
  | none => rfl
  | some t => exact State.figures_armCtx h

theorem State.figures_askCtx (s : State) (n : Nat) : (s.askCtx n).figures = s.figures := State.figures_ite rfl rfl

theorem State.figures_frameIf (s : State) (b : Bool) (ty par : Nat) : (s.frameIf b ty par).figures = s.figures := State.figures_ite rfl rfl

theorem State.figures_raiseIf (s : State) (b : Bool) (src : EvSource) (cls : Nat) (sev : Sev) (param : Nat) :
    (s.raiseIf b src cls sev param).figures = s.figures := State.figures_ite rfl rfl

theorem State.figures_wtTry (s : State) : s.wtTry.figures = s.figures := by
  unfold State.wtTry
  split
  · split
    · split
      case _ n t htake =>
        have htaken : t.figures = s.figures := State.figures_takeCtx htake
        exact (State.figures_askCtx _ n).trans htaken
      case _ => rfl
    · rfl
  · rfl

theorem State.figures_stageWrite (s : State) (w : Wr) : (s.stageWrite w).figures = s.figures := s.figures_frameIf _ _ _

theorem State.figures_stageWsn (s : State) : s.stageWsn.figures = s.figures := by
  unfold State.stageWsn
  split
  · exact State.figures_ite (State.figures_frameIf _ _ _ _) rfl
  · rfl

theorem State.figures_startWt (s : State) (w : Wr) : (s.startWt w).figures = s.figures :=
  (State.figures_wtTry _).trans (State.figures_stageWsn _)

theorem State.figures_creditWait (s : State) (w : Wr) : (s.creditWait w).figures = s.figures :=
  State.figures_ite ((State.figures_startWt _ w).trans (State.figures_raiseIf _ _ _ _ _ _)) (State.figures_raiseIf _ _ _ _ _ _)

theorem State.figures_bufStep (s : State) (w : Wr) : (s.bufStep w).figures = s.figures := State.figures_ite rfl (s.figures_stageWrite w)

theorem State.figures_bufLeave (s : State) : s.bufLeave.figures = s.figures := by
  unfold State.bufLeave
  split
  · exact State.figures_ite rfl (State.figures_stageWrite _ _)
  · rfl

theorem State.figures_ledgerRun (n : Nat) (s : State) : (ledgerRun n s).figures = s.figures := by
  induction n generalizing s with
  | zero => rfl
  | succ n ih =>
    unfold ledgerRun
    split
    · split
      · rfl
      · split
        case _ a htake =>
          have htaken : a.figures = s.figures := (State.figures_ledgerTake htake).trans (by exact rfl)
          exact (ih _).trans ((State.figures_bufStep _ _).trans htaken)
        case _ => exact State.figures_creditWait _ _
    · rfl

theorem State.figures_mirrorWt (s : State) : s.mirrorWt.figures = s.figures := by
  unfold State.mirrorWt
  split
  · exact State.figures_ite (State.figures_rearm _ _) rfl
  · rfl

theorem State.figures_learnCommit (s : State) (cum : Nat) : (s.learnCommit cum).figures = s.figures :=
  (State.figures_mirrorWt _).trans
    (State.figures_foldl (f := fun (a : State) (w : Wr) => a.commitLine w.line w.be w.data) (fun _ _ => rfl) _ { s with twin := _ })

theorem State.figures_mirrorStep (s : State) (w : Wr) : (s.mirrorStep w).figures = s.figures :=
  State.figures_ite rfl (State.figures_learnCommit _ _)

theorem State.figures_mirrorLeave (s : State) : s.mirrorLeave.figures = s.figures := by
  unfold State.mirrorLeave
  split
  · exact State.figures_ite rfl (State.figures_learnCommit _ _)
  · rfl

theorem State.figures_mirrorRun (n : Nat) (s : State) : (mirrorRun n s).figures = s.figures := by
  induction n generalizing s with
  | zero => rfl
  | succ n ih =>
    unfold mirrorRun
    split
    case _ w t _ _ =>
      have hwait : State.figures { s with twin := { s.twin with mwait := t } } = s.figures := rfl
      dsimp only
      generalize ({ s with twin := { s.twin with mwait := t } } : State) = r at hwait ⊢
      split
      · rfl
      · split
        case _ a htake => exact (ih _).trans ((State.figures_mirrorStep _ _).trans ((State.figures_ledgerTake htake).trans hwait))
        case _ => exact (State.figures_creditWait _ _).trans hwait
    case _ => rfl

theorem State.figures_rsyRun (n : Nat) (s : State) : (rsyRun n s).figures = s.figures := by
  induction n generalizing s with
  | zero => rfl
  | succ n ih =>
    unfold rsyRun
    split
    · split
      · rfl
      · split
        case _ a htake =>
          have htaken : a.figures = s.figures := State.figures_ledgerTake htake
          exact (ih _).trans htaken
        case _ => rfl
    · exact State.figures_ite rfl rfl

theorem State.figures_ledgerGo (s : State) : s.ledgerGo.figures = s.figures := by
  unfold State.ledgerGo
  split
  · split
    · exact (State.figures_ledgerRun _ _).trans (State.figures_bufLeave _)
    · refine State.figures_ite ?_ rfl
      exact (State.figures_wtTry _).trans ((State.figures_ledgerRun _ _).trans (State.figures_bufLeave _))
  · refine State.figures_ite ?_ rfl
    exact (State.figures_rsyRun _ _).trans ((State.figures_mirrorRun _ _).trans (State.figures_mirrorLeave _))

/-! ### One re-base (R135 to R142, R144, R146) -/

/-- LG_ fields in force, and the fields that a re-base refreshes before it takes the books. -/
def State.refreshed (s : State) : State :=
  (s.blockForce 3).setFs [(Reg.ES_PMAX_P_STORE_MAX, (s.blockForce 3).pStoreMax), (Reg.LG_STATUS_STALE, 0), (Reg.LG_EAVAIL_HI_AGE_US, 0)]

theorem State.getF_rebaseBooks_refreshed (s : State) {f : Fld} (h : f.key ≠ Reg.LG_NMAX_NMAX.key) : s.rebaseBooks.getF f = s.refreshed.getF f :=
  State.getF_setF_ne _ _ h

theorem State.rebaseBooks_fresh (s : State) : s.rebaseBooks.getF Reg.LG_STATUS_STALE = 0 ∧ s.rebaseBooks.getF Reg.LG_EAVAIL_HI_AGE_US = 0 := by
  rw [s.getF_rebaseBooks_refreshed (by decide), s.getF_rebaseBooks_refreshed (by decide)]
  constructor <;>
    simp (disch := decide) only [State.refreshed, State.getF_setFs_cons, State.setFs_nil, State.getF_setF_ne, State.getF_setF_self, Nat.zero_mod]

/-- The books are new; the ledger and N_dirty are as before. -/
theorem State.rebaseBooks_cover (s : State) : s.rebaseBooks.cover = { s.cover with
    eAvail := s.rebaseBooks.cover.eAvail, eLimit := s.rebaseBooks.cover.eLimit, eBridge := s.rebaseBooks.cover.eBridge,
    eg := s.rebaseBooks.cover.eg, eDebt := s.rebaseBooks.cover.eDebt } := by
  unfold State.rebaseBooks State.blockForce
  rw [State.comeInto_frame]
  rfl

theorem State.margin_congr {s t : State} (h : t.getF Reg.LG_CFG_MARGIN = s.getF Reg.LG_CFG_MARGIN) : t.margin = s.margin := by
  rw [State.margin, h, State.margin]

theorem State.debtOf_congr {s t : State} (h : t.getF Reg.LG_EFIXED_E_FIXED_MJ = s.getF Reg.LG_EFIXED_E_FIXED_MJ)
    (hbridge : t.cover.eBridge = s.cover.eBridge) (heg : t.cover.eg = s.cover.eg) (n : Nat) : t.debtOf n = s.debtOf n := by
  rw [State.debtOf, State.eFixed, h, hbridge, heg]
  rfl

theorem State.rebaseBooks_eLimit (s : State) :
    s.rebaseBooks.cover.eLimit = s.rebaseBooks.cover.eAvail * 1000 / (1000 + s.rebaseBooks.margin) := by
  rw [State.margin_congr (s := s.refreshed) (s.getF_rebaseBooks_refreshed (by decide))]
  rfl

/-- With no ledger-doubt writer E_DEBT is rebuilt from N_dirty, in BURROW less the granules landed (R141; log entry 118). -/
theorem State.rebaseBooks_eDebt {s : State} (hdoubt : s.cover.doubtWriter = false) : s.rebaseBooks.cover.eDebt =
    s.rebaseBooks.debtOf (if s.mode = .burrow then s.cover.nDirty - s.getF Reg.BE_LANDED_LANDED else s.cover.nDirty) := by
  have hdebt : s.rebaseBooks.cover.eDebt =
      s.refreshed.eFixed + s.rebaseBooks.cover.eBridge * 10 + s.refreshed.owed * s.rebaseBooks.cover.eg := rfl
  have hfixed : s.rebaseBooks.eFixed = s.refreshed.eFixed := by
    rw [State.eFixed, s.getF_rebaseBooks_refreshed (by decide), State.eFixed]
  have hlanded : s.refreshed.getF Reg.BE_LANDED_LANDED = s.getF Reg.BE_LANDED_LANDED :=
    (s.getF_rebaseBooks_refreshed (by decide)).symm.trans (s.getF_rebaseBooks (by decide))
  have hframe : s.refreshed = { s with regs := s.refreshed.regs, written := s.refreshed.written } := by
    unfold State.refreshed State.blockForce
    rw [State.comeInto_frame]
    rfl
  have howed : s.refreshed.owed = if s.mode = .burrow then s.cover.nDirty - s.getF Reg.BE_LANDED_LANDED else s.cover.nDirty := by
    rw [← hlanded]
    unfold State.owed
    rw [show s.refreshed.cover = s.cover by rw [hframe], show s.refreshed.mode = s.mode by rw [hframe], hdoubt]
    rfl
  rw [hdebt, howed, State.debtOf, hfixed]

/-- The tests of the books that follow: the balance, the ledger-doubt window and the energy stop (R146, R157, R216). -/
def State.balanced (s : State) : State := (s.shortCheck.doubtCheck).energyStop

/-- The fields that these tests may set. -/
def balanceFlds : List Fld := [Reg.LG_STATUS_SHORTFALL, Reg.LG_STATUS_DOUBT, Reg.BE_STATUS_ESTOP] ++ evFlds

theorem State.balanced_frame (s : State) : s.balanced = { s with regs := s.balanced.regs, ev := s.balanced.ev, bur := s.balanced.bur } := by
  have hshort : s.shortCheck = { s with regs := s.shortCheck.regs, ev := s.shortCheck.ev } := State.raiseIf_frame _ _ _ _ _ _
  have hdoubt (u : State) : u.doubtCheck = { u with regs := u.doubtCheck.regs, ev := u.doubtCheck.ev } := by
    unfold State.doubtCheck
    split <;> rfl
  have hstop (u : State) : u.energyStop = { u with regs := u.energyStop.regs, bur := u.energyStop.bur } := by
    unfold State.energyStop State.stopSweep
    split
    · split <;> rfl
    · rfl
  rw [State.balanced, hstop, hdoubt, hshort]

theorem regsKept_balanced (s : State) : RegsKept balanceFlds s s.balanced := by
  have hraise {u : State} {b : Bool} {cls : Nat} {sev : Sev} {param : Nat} : RegsKept balanceFlds u (u.raiseIf b .lamp cls sev param) :=
    regsKept_raiseIf.mono (List.subset_append_right _ _)
  have hshort : RegsKept balanceFlds s s.shortCheck := (regsKept_setF (by decide)).trans hraise
  have hdoubt (u : State) : RegsKept balanceFlds u u.doubtCheck := by
    unfold State.doubtCheck
    split
    · exact (regsKept_setF (by decide)).trans (hraise (b := true))
    · exact .refl _ u
  have hstop (u : State) : RegsKept balanceFlds u u.energyStop := by
    unfold State.energyStop State.stopSweep
    split
    · split
      · exact .refl _ u
      · exact regsKept_setFs (s := u) (a := [(Reg.BE_STATUS_ESTOP, 1)]) (by decide)
    · exact .refl _ u
  exact (hshort.trans (hdoubt _)).trans (hstop _)

theorem State.rebase_eq (s : State) : s.rebase = s.rebaseBooks.balanced.ledgerGo := rfl

theorem regsKept_rebase (s : State) : RegsKept (balanceFlds ++ pathFlds) s.rebaseBooks s.rebase :=
  ((regsKept_balanced _).mono (List.subset_append_left _ _)).trans (pathKept_ledgerGo.2.mono (List.subset_append_right _ _))

theorem State.mode_rebase (s : State) : s.rebase.mode = s.mode := by
  rw [State.rebase_eq, pathKept_ledgerGo.1.mode, State.balanced_frame, State.rebaseBooks_frame]

theorem State.figures_rebase (s : State) : s.rebase.figures = s.rebaseBooks.figures := by
  rw [State.rebase_eq, State.figures_ledgerGo, State.figures, State.balanced_frame, State.figures]

theorem State.pages_rebase (s : State) : s.rebase.nand.pages = s.nand.pages := by
  have hfigures := s.figures_rebase
  simp only [State.figures, Prod.mk.injEq] at hfigures
  rw [hfigures.2.2, State.rebaseBooks_frame]

theorem State.eLimit_rebase (s : State) : s.rebase.cover.eLimit = s.rebase.cover.eAvail * 1000 / (1000 + s.rebase.margin) := by
  have hfigures := s.figures_rebase
  simp only [State.figures, Prod.mk.injEq] at hfigures
  obtain ⟨havail, hlimit, -⟩ := hfigures
  rw [hlimit, havail, State.margin_congr (regsKept_rebase s _ (by decide)), State.rebaseBooks_eLimit]

theorem State.isStandby_congr {s t : State} (h : t.getF Reg.TW_STATUS_ROLE = s.getF Reg.TW_STATUS_ROLE) : t.isStandby = s.isStandby := by
  rw [State.isStandby, State.role, h, State.isStandby, State.role]

/-- A ledger stage with nothing in it and nothing behind it moves nothing; it may only end the regrouping after an abandon (R24). -/
theorem State.ledgerGo_idle {s : State} (hingress : s.host.ingress = []) (hstage : s.host.stage = none) (hstandby : s.isStandby = false) :
    s.ledgerGo = { s with bur := s.ledgerGo.bur } := by
  have hleave : s.regrouped.bufLeave = s.regrouped := by simp [State.bufLeave, State.regrouped, hstage]
  have htry : s.regrouped.wtTry = s.regrouped := by simp [State.wtTry, State.regrouped, hstage]
  have hmirror : s.mirrorOpen = false := by simp [State.mirrorOpen, hstandby]
  by_cases hopen : s.pathOpen = true
  · by_cases hgroup : s.bur.regroup = false
    · rw [State.ledgerGo_of_empty hopen hgroup hstage hingress]
    · unfold State.ledgerGo
      rw [if_pos hopen, if_neg (by simpa using hgroup), hingress]
      split
      · rw [show ledgerRun ([] : List Wr).length s.regrouped.bufLeave = s.regrouped from hleave, htry]
        rfl
      · rfl
  · unfold State.ledgerGo
    rw [if_neg hopen, hmirror]
    rfl

/-- With nothing on the write path a re-base leaves the ledger, N_dirty and the host side alone. -/
theorem State.rebase_idle {s : State} (hingress : s.host.ingress = []) (hstage : s.host.stage = none) (hstandby : s.isStandby = false) :
    s.rebase.host = s.host ∧ s.rebase.cover = s.rebaseBooks.cover := by
  have hhost : s.rebaseBooks.balanced.host = s.host := by rw [State.balanced_frame, State.rebaseBooks_frame]
  have hrole : s.rebaseBooks.balanced.getF Reg.TW_STATUS_ROLE = s.getF Reg.TW_STATUS_ROLE :=
    (regsKept_balanced _ _ (by decide)).trans (s.getF_rebaseBooks (by decide))
  have hcover : s.rebaseBooks.balanced.cover = s.rebaseBooks.cover := by rw [State.balanced_frame]
  have hgo := State.ledgerGo_idle (by rw [hhost, hingress]) (by rw [hhost, hstage]) ((State.isStandby_congr hrole).trans hstandby)
  have hgoHost : s.rebase.host = s.rebaseBooks.balanced.host := by rw [State.rebase_eq, hgo]
  have hgoCover : s.rebase.cover = s.rebaseBooks.balanced.cover := by rw [State.rebase_eq, hgo]
  exact ⟨hgoHost.trans hhost, hgoCover.trans hcover⟩

theorem State.rebase_idle_debt {s : State} (hingress : s.host.ingress = []) (hstage : s.host.stage = none) (hstandby : s.isStandby = false)
    (hdoubt : s.cover.doubtWriter = false) : s.rebase.cover.eDebt =
      s.rebase.debtOf (if s.mode = .burrow then s.cover.nDirty - s.getF Reg.BE_LANDED_LANDED else s.cover.nDirty) := by
  have hcover := (State.rebase_idle hingress hstage hstandby).2
  rw [State.debtOf_congr (s := s.rebaseBooks) (regsKept_rebase s _ (by decide)) (by rw [hcover]) (by rw [hcover]), hcover,
    State.rebaseBooks_eDebt hdoubt]

/-! ### REBASE and REBASE_NOW (R141, R142) -/

/-- Both commands re-base; on the CXL path the register write restarts the 600 s of service mode first (R119). -/
theorem exec_rebases {s : State} {c : Instr} {p : Path} (hc : c = .rebase ∨ (c = .rebaseNow p ∧ s.reach p 0x3058 = true))
    (hruns : s.coverRuns = true) :
    ∃ u, exec c s = .next u.rebase ∧ u = { s with regs := u.regs } ∧ RegsKept [Reg.DT_SVC_LEFT_S] s u := by
  obtain rfl | ⟨rfl, hreach⟩ := hc
  · exact ⟨s, by simp only [exec, execRebase, hruns, if_true], rfl, .refl _ s⟩
  · have hstays : (s.wrote p).coverRuns = true := by
      have hdom : (s.wrote p).getF Reg.PS_DOM_PD = s.getF Reg.PS_DOM_PD := regsKept_wrote _ (by decide)
      have hreset : (s.wrote p).getF Reg.MD_STATUS_LRST_ACT = s.getF Reg.MD_STATUS_LRST_ACT := regsKept_wrote _ (by decide)
      simpa only [State.coverRuns, State.lampUp, State.pd, State.pdState, State.getB, hdom, hreset] using hruns
    exact ⟨s.wrote p, by simp only [exec, execRebaseNow, State.doRebaseNow, hreach, hstays, if_true], s.wrote_frame p, regsKept_wrote⟩

theorem rebase_takes {s : State} {c : Instr} {p : Path} (hc : c = .rebase ∨ (c = .rebaseNow p ∧ s.reach p 0x3058 = true))
    (hruns : s.coverRuns = true) :
    ∃ t, exec c s = .next t ∧ t.mode = s.mode ∧ t.getF Reg.LG_STATUS_STALE = 0 ∧ t.getF Reg.LG_EAVAIL_HI_AGE_US = 0 ∧
      t.cover.eLimit = t.cover.eAvail * 1000 / (1000 + t.margin) ∧ t.dram.cells = s.dram.cells ∧ t.nand.pages = s.nand.pages ∧
      (s.host.ingress = [] → s.host.stage = none → s.isStandby = false → s.cover.doubtWriter = false → t.cover.nDirty = s.cover.nDirty ∧
        t.cover.eDebt = t.debtOf (if s.mode = .burrow then s.cover.nDirty - s.getF Reg.BE_LANDED_LANDED else s.cover.nDirty) ∧
        t.cover.ledger = s.cover.ledger ∧ t.host = s.host) := by
  obtain ⟨u, hexec, hframe, hregs⟩ := exec_rebases hc hruns
  have hmode : u.mode = s.mode := by rw [hframe]
  have hhost : u.host = s.host := by rw [hframe]
  have hcover : u.cover = s.cover := by rw [hframe]
  have hdram : u.dram = s.dram := by rw [hframe]
  have hnand : u.nand = s.nand := by rw [hframe]
  have hrole : u.isStandby = s.isStandby := State.isStandby_congr (hregs _ (by decide))
  have hlanded : u.getF Reg.BE_LANDED_LANDED = s.getF Reg.BE_LANDED_LANDED := hregs _ (by decide)
  refine ⟨_, hexec, u.mode_rebase.trans hmode, (regsKept_rebase u _ (by decide)).trans u.rebaseBooks_fresh.1,
    (regsKept_rebase u _ (by decide)).trans u.rebaseBooks_fresh.2, u.eLimit_rebase, ?_, ?_, ?_⟩
  · rw [u.rebase_kept.2.2, hdram]
  · rw [u.pages_rebase, hnand]
  · rw [← hmode, ← hhost, ← hcover, ← hrole, ← hlanded]
    intro hingress hstage hstandby hdoubt
    obtain ⟨hkept, hbooks⟩ := State.rebase_idle hingress hstage hstandby
    exact ⟨by rw [hbooks, u.rebaseBooks_cover], State.rebase_idle_debt hingress hstage hstandby hdoubt, by rw [hbooks, u.rebaseBooks_cover], hkept⟩

/-! ### COVER_STALE and COVER_STALE_ERROR (R142) -/

theorem coverStale_closes {s : State} (hlamp : s.lampUp = true) :
    ∃ t, exec .coverStale s = .next t ∧ t.cover.eLimit = 0 ∧ t.getF Reg.LG_STATUS_STALE = 1 ∧
      (0 < s.cover.eDebt + s.cover.eg → t.energyOk = false) ∧ RegsKept [Reg.LG_STATUS_STALE] s t ∧
      t = { s with regs := t.regs, cover := { s.cover with eLimit := 0 } } := by
  have hkept : RegsKept [Reg.LG_STATUS_STALE] s (s.setF Reg.LG_STATUS_STALE 1) := regsKept_setF (by decide)
  refine ⟨_, congrArg Host.Outcome.next (if_pos hlamp), rfl, s.getF_setF_self Reg.LG_STATUS_STALE 1, fun hdebt => ?_, hkept, rfl⟩
  refine Bool.and_eq_false_iff.mpr (.inl (decide_eq_false ?_))
  show ¬ s.cover.eDebt + s.cover.eg ≤ 0 * 10
  omega

/-! ### LEDGER_SCRUB and DOUBT_WRITER_DONE (R131, R157) -/

/-- A ledger-doubt window is open and every entry is DIRTY, before the event goes out. -/
def State.doubted (s : State) (word : Nat) : State :=
  { s.setFs [(Reg.LG_STATUS_DOUBT, 1), (Reg.LG_PARITY_ADDR, word), (Reg.LG_PARITY_COUNT, min 0xFF (s.getF Reg.LG_PARITY_COUNT + 1))] with
    cover := { s.cover with ledger := [], ledDflt := .dirty 0, doubtWriter := true, nDirty := s.nReported } }

theorem State.openDoubt_eq (s : State) (word : Nat) : s.openDoubt word = (s.doubted word).raise .lamp 0x11 .warning 1 := rfl

theorem State.doubted_shows (s : State) {word : Nat} (hword : word < 262144) :
    (s.doubted word).getF Reg.LG_STATUS_DOUBT = 1 ∧ (s.doubted word).getF Reg.LG_PARITY_ADDR = word := by
  have hset (f : Fld) : (s.doubted word).getF f = (s.setFs [(Reg.LG_STATUS_DOUBT, 1), (Reg.LG_PARITY_ADDR, word),
      (Reg.LG_PARITY_COUNT, min 0xFF (s.getF Reg.LG_PARITY_COUNT + 1))]).getF f := rfl
  rw [hset, hset]
  simp (disch := decide) only [State.getF_setFs_cons, State.setFs_nil, State.getF_setF_ne, State.getF_setF_self]
  exact ⟨rfl, Nat.mod_eq_of_lt hword⟩

theorem regsKept_openDoubt (s : State) (word : Nat) :
    RegsKept (Reg.LG_STATUS_DOUBT :: Reg.LG_PARITY_ADDR :: Reg.LG_PARITY_COUNT :: evFlds) s (s.openDoubt word) := by
  have hset : RegsKept [Reg.LG_STATUS_DOUBT, Reg.LG_PARITY_ADDR, Reg.LG_PARITY_COUNT] s (s.doubted word) :=
    regsKept_setFs (s := s) (a := [(Reg.LG_STATUS_DOUBT, 1), (Reg.LG_PARITY_ADDR, word),
      (Reg.LG_PARITY_COUNT, min 0xFF (s.getF Reg.LG_PARITY_COUNT + 1))]) (by simp)
  exact RegsKept.trans (hset.mono (by simp)) (regsKept_raise.mono (List.subset_append_right [_, _, _] _))

/-- Below the reported capacity every entry reads DIRTY (R125, R157). -/
theorem State.openDoubt_dirty (s : State) (word : Nat) {g : Nat} (hg : g < s.nReported) : (s.openDoubt word).ledgerOf g = .dirty 0 := by
  have huser : (s.openDoubt word).nUser = s.nUser := State.nUser_congr rfl fun f hf => regsKept_openDoubt s word f (by
    revert f
    decide)
  have hreported : g < (s.openDoubt word).nReported := by rwa [State.nReported, State.cap256M, huser]
  exact if_pos hreported

theorem ledgerScrub_clean {s : State} {word : Nat} : exec (.ledgerScrub word false) s = .next s := by
  simp only [exec, execLedgerScrub, Bool.false_and, Bool.false_eq_true, if_false]

theorem ledgerScrub_doubts {s : State} {word : Nat} (hlamp : s.lampUp = true) (hword : word < 262144) (hrun : s.mode = .run) :
    ∃ t, exec (.ledgerScrub word true) s = .next t ∧ (∀ g, g < s.nReported → t.ledgerOf g = .dirty 0) ∧ t.cover.doubtWriter = true ∧
      t.coverOk = true ∧ t.cover.nDirty = s.nReported ∧ t.getF Reg.LG_STATUS_DOUBT = 1 ∧ t.getF Reg.LG_PARITY_ADDR = word ∧
      t.ev.seq = s.ev.seq + 1 ∧ RegsKept (Reg.LG_STATUS_DOUBT :: Reg.LG_PARITY_ADDR :: Reg.LG_PARITY_COUNT :: evFlds) s t ∧
      t = { s with regs := t.regs, cover := t.cover, ev := t.ev } := by
  have hexec : exec (.ledgerScrub word true) s = .next (s.openDoubt word) := congrArg Host.Outcome.next (if_pos (by simp [hlamp, hword, hrun]))
  obtain ⟨hdoubt, haddr⟩ := s.doubted_shows hword
  exact ⟨_, hexec, fun g => s.openDoubt_dirty word, rfl, rfl, rfl, (regsKept_raise _ (by decide)).trans hdoubt,
    (regsKept_raise _ (by decide)).trans haddr, rfl, regsKept_openDoubt s word, rfl⟩

theorem doubtWriterDone_counts {s : State} (hdoubt : s.cover.doubtWriter = true) :
    exec .doubtWriterDone s = .next { s with cover := { s.cover with
      doubtWriter := false, nDirty := s.nReported, eDebt := s.eFixed + s.cover.eBridge * 10 + s.nReported * s.cover.eg } } :=
  congrArg Host.Outcome.next (if_pos hdoubt)

/-! ### MIRROR_WRITE (R133) -/

/-- Updates written in order leave each entry at its last update. -/
theorem mget_foldl_msetD {α : Type} [DecidableEq α] (d : α) (g : Nat) (l : List (Nat × α)) (m : List (Nat × α)) :
    mget d (l.foldl (fun m x => msetD d x.1 x.2 m) m) g = (((l.filter fun x => x.1 == g).getLast?).map (·.2)).getD (mget d m g) := by
  induction l using List.reverseRecOn with
  | nil => rfl
  | append_singleton l x ih =>
    rw [List.foldl_append, List.foldl_cons, List.foldl_nil, mget_msetD, List.filter_append]
    by_cases hx : x.1 = g
    · simp [hx]
    · simp [hx, Ne.symm hx, ih]

theorem mirrorWrite_writes (s : State) (g : Nat) : ∃ t, exec (.mirrorWrite g) s = .next t ∧ (∀ x ∈ t.cover.mirrorPend, x.1 ≠ g) ∧
    mget t.cover.mirrorDflt t.cover.mirror g =
      (((s.cover.mirrorPend.filter (fun x => x.1 == g)).getLast?).map (·.2)).getD (mget s.cover.mirrorDflt s.cover.mirror g) ∧
    t.cover.ledger = s.cover.ledger ∧ t = { s with cover := { s.cover with mirror := t.cover.mirror, mirrorPend := t.cover.mirrorPend } } := by
  refine ⟨_, rfl, fun x hx => ?_, ?_, rfl, rfl⟩
  · simpa using (List.mem_filter.mp hx).2
  · refine (mget_foldl_msetD _ g _ _).trans ?_
    rw [List.filter_filter]
    simp only [Bool.and_self]

/-- Settles O31, command by command. -/
theorem coverBooks : Obligations.CoverBooks :=
  ⟨fun _ _ _ => rebase_takes, fun _ => coverStale_closes,
    fun _ hlamp hstale => congrArg Host.Outcome.next (if_pos (Bool.and_eq_true_iff.mpr ⟨hlamp, hstale⟩)),
    fun _ _ hlamp hword hrun => ⟨ledgerScrub_clean, ledgerScrub_doubts hlamp hword hrun⟩, fun _ => doubtWriterDone_counts, mirrorWrite_writes⟩

end Sys2Proof.Machine

/-! SUPPORT. Proofs of the statements of the DRAM controller family. -/

namespace Sys2Proof.Machine

/-! ### Subchannels and the channels that run (R164, R171, R181) -/

@[simp] theorem State.subCh_setSub_self (s : State) (k : Nat) (x : SubCh) : (s.setSub k x).subCh k = x := mget_mset_self _ _ _ _

theorem last32_length {α : Type} (l : List α) : (last32 l).length ≤ 32 := by
  simp only [last32, List.length_drop]
  omega

/-- The newest command is among the last 32. -/
theorem last32_append_getLast {α : Type} (l : List α) (x : α) : (last32 (l ++ [x])).getLast? = some x := by
  rw [last32, List.getLast?_drop, if_neg (by simp), List.getLast?_concat]

@[simp] theorem State.subCh_issue (s : State) (k nowNs : Nat) (c : DramCmd) :
    (s.issue k nowNs c).subCh k = { s.subCh k with retry := last32 ((s.subCh k).retry ++ [(nowNs, c)]) } := State.subCh_setSub_self _ _ _

/-- Commands that issue move the retry buffer of their subchannel alone. -/
theorem State.issueAll_frame (s : State) (k nowNs : Nat) (l : List DramCmd) :
    s.issueAll k nowNs l = { s with dram := { s.dram with sub := (s.issueAll k nowNs l).dram.sub } } := by
  induction l generalizing s with
  | nil => rfl
  | cons c l ih =>
    refine (ih (s.issue k nowNs c)).trans ?_
    rfl

theorem State.subCh_issueAll (s : State) (k nowNs : Nat) (l : List DramCmd) :
    (s.issueAll k nowNs l).subCh k = { s.subCh k with retry := ((s.issueAll k nowNs l).subCh k).retry } := by
  induction l generalizing s with
  | nil => rfl
  | cons c l ih =>
    refine (ih (s.issue k nowNs c)).trans ?_
    rw [State.subCh_issue]
    rfl

theorem State.issueAll_append (s : State) (k nowNs : Nat) (l : List DramCmd) (c : DramCmd) :
    s.issueAll k nowNs (l ++ [c]) = (s.issueAll k nowNs l).issue k nowNs c := by
  simp only [State.issueAll, List.foldl_append, List.foldl_cons, List.foldl_nil]

theorem State.channels_le (s : State) : s.channels ≤ 2 := by
  unfold State.channels
  split <;> omega

section
variable {s : State} {ch : Nat} (h : s.chRuns ch = true)
include h

theorem State.chRuns_lt : ch < s.channels := by
  simp only [State.chRuns, Bool.and_eq_true, decide_eq_true_eq] at h
  exact h.1.1.1.2

theorem State.chRuns_alive : s.chanFailed ch = false := by
  simp only [State.chRuns, Bool.and_eq_true, Bool.not_eq_true'] at h
  exact h.1.2

theorem State.chRuns_lt_two : ch < 2 := Nat.lt_of_lt_of_le (State.chRuns_lt h) s.channels_le

end

/-! ### REFRESH (R175) -/

/-- The last command of a rank's refresh. -/
def State.refLast (s : State) (rank : Nat) : DramCmd := if s.getB Reg.DC_CFG_REFSB_EN then .refsb rank 3 else .refab rank

theorem State.refCmds_eq (s : State) (rank : Nat) : ∃ l, s.refCmds rank = l ++ [s.refLast rank] := by
  unfold State.refCmds State.refLast
  split
  · exact ⟨(List.range 3).map fun ba => .refsb rank ba, rfl⟩
  · exact ⟨[], rfl⟩

/-- The commands of several refreshes of a rank end with that of the last one. -/
theorem State.flatMap_refCmds_eq (s : State) (n rank : Nat) :
    ∃ l, (List.range (n + 1)).flatMap (fun _ => s.refCmds rank) = l ++ [s.refLast rank] := by
  obtain ⟨l, hl⟩ := s.refCmds_eq rank
  refine ⟨(List.range n).flatMap (fun _ => s.refCmds rank) ++ l, ?_⟩
  rw [List.range_succ, List.flatMap_append, List.flatMap_singleton, hl, List.append_assoc]

theorem length_flatMap_const {α : Type} (n : Nat) (l : List α) : ((List.range n).flatMap fun _ => l).length = n * l.length := by
  simp [List.length_flatMap]

/-- One more refresh of a rank waits. -/
def State.refreshOwed (s : State) (k rank : Nat) : State :=
  s.setSub k { s.subCh k with postponed := mset rank (mget 0 (s.subCh k).postponed rank + 1) (s.subCh k).postponed }

theorem State.subCh_refreshOwed (s : State) (k rank : Nat) : (s.refreshOwed k rank).subCh k =
    { s.subCh k with postponed := mset rank (mget 0 (s.subCh k).postponed rank + 1) (s.subCh k).postponed } := s.subCh_setSub_self _ _

theorem exec_refresh {s : State} {ch sub rank : Nat} (hruns : s.chRuns ch = true) (hsub : sub < 2) (hrank : rank ≤ b2n (s.getB Reg.DC_CFG_RANKS)) :
    exec (.refresh ch sub rank) s = .next (
      if (s.subCh (2 * ch + sub)).queue = [] ∨ 4 ≤ mget 0 (s.subCh (2 * ch + sub)).postponed rank
      then (s.refreshOwed (2 * ch + sub) rank).refreshNow (2 * ch + sub) s.dram.now rank else s.refreshOwed (2 * ch + sub) rank) := by
  refine (congrArg Host.Outcome.next (if_pos (by simp [hruns, hsub, hrank]))).trans ?_
  simp only [Bool.or_eq_true, List.isEmpty_iff, decide_eq_true_eq]
  rfl

/-- Refreshes that issue move their subchannel alone, and not its queue. -/
theorem State.refreshNow_frame (s : State) (k nowNs rank : Nat) :
    s.refreshNow k nowNs rank = { s with dram := { s.dram with sub := (s.refreshNow k nowNs rank).dram.sub } } ∧
      ((s.refreshNow k nowNs rank).subCh k).queue = (s.subCh k).queue := by
  unfold State.refreshNow
  dsimp only
  split
  · refine ⟨?_, ?_⟩
    · conv_lhs => rw [State.issueAll_frame]
      rfl
    · rw [State.subCh_setSub_self, State.subCh_issueAll]
  · exact ⟨rfl, rfl⟩

/-- While a subchannel replays, no refresh issues (R182). -/
theorem State.refreshNow_replaying {s : State} {k : Nat} (h : s.replaying k = true) (nowNs rank : Nat) : s.refreshNow k nowNs rank = s := by
  simp [State.refreshNow, h]

/-- Where the window has room for them the refreshes that wait issue together (R175, R181; log entry 86). -/
theorem State.refreshNow_issues {s : State} {k nowNs rank n : Nat} (hreplay : s.replaying k = false) (hn : mget 0 (s.subCh k).postponed rank = n + 1)
    (hroom : s.room k nowNs ((n + 1) * (s.refCmds rank).length) = true) :
    mget 0 ((s.refreshNow k nowNs rank).subCh k).postponed rank = 0 ∧ ((s.refreshNow k nowNs rank).subCh k).retry.length ≤ 32 ∧
      ((s.refreshNow k nowNs rank).subCh k).retry.getLast? = some (nowNs, s.refLast rank) := by
  obtain ⟨l, hl⟩ := s.flatMap_refCmds_eq n rank
  have hlen : s.room k nowNs (l ++ [s.refLast rank]).length = true := by rw [← hl, length_flatMap_const]; exact hroom
  have hnow : s.refreshNow k nowNs rank = (s.issueAll k nowNs (l ++ [s.refLast rank])).setSub k
      { (s.issueAll k nowNs (l ++ [s.refLast rank])).subCh k with
        postponed := mdel rank ((s.issueAll k nowNs (l ++ [s.refLast rank])).subCh k).postponed
        raa := (List.range (n + 1)).foldl (fun m _ => refLowers rank m) ((s.issueAll k nowNs (l ++ [s.refLast rank])).subCh k).raa } := by
    unfold State.refreshNow
    dsimp only
    rw [hn, hl, if_pos (by rw [hlen, hreplay]; rfl)]
  rw [hnow, State.subCh_setSub_self, State.issueAll_append, State.subCh_issue]
  exact ⟨by simp [mget, mfind_mdel], last32_length _, last32_append_getLast _ _⟩

section
variable {s : State} {ch sub rank : Nat} (hruns : s.chRuns ch = true) (hsub : sub < 2) (hrank : rank ≤ b2n (s.getB Reg.DC_CFG_RANKS))
include hruns hsub hrank

/-- Behind requests a refresh waits, up to the fourth (R175). -/
theorem refresh_waits (hqueue : (s.subCh (2 * ch + sub)).queue ≠ []) (hfew : mget 0 (s.subCh (2 * ch + sub)).postponed rank < 4) :
    ∃ t, exec (.refresh ch sub rank) s = .next t ∧ mget 0 (t.subCh (2 * ch + sub)).postponed rank = mget 0 (s.subCh (2 * ch + sub)).postponed rank + 1 ∧
      (t.subCh (2 * ch + sub)).retry = (s.subCh (2 * ch + sub)).retry ∧ t = { s with dram := { s.dram with sub := t.dram.sub } } := by
  refine ⟨_, (exec_refresh hruns hsub hrank).trans (congrArg _ (if_neg (not_or_intro hqueue (by omega)))), ?_, ?_, rfl⟩
  · rw [State.subCh_refreshOwed, mget_mset_self]
  · rw [State.subCh_refreshOwed]

/-- With nothing queued, or at the fifth, the refreshes that wait issue, unless a replay runs (R175, R182). -/
theorem refresh_issues (hdue : (s.subCh (2 * ch + sub)).queue = [] ∨ 4 ≤ mget 0 (s.subCh (2 * ch + sub)).postponed rank) :
    ∃ t, exec (.refresh ch sub rank) s = .next t ∧ t = { s with dram := { s.dram with sub := t.dram.sub } } ∧
      (t.subCh (2 * ch + sub)).queue = (s.subCh (2 * ch + sub)).queue ∧
      (s.replaying (2 * ch + sub) = false →
        s.room (2 * ch + sub) s.dram.now ((mget 0 (s.subCh (2 * ch + sub)).postponed rank + 1) * (s.refCmds rank).length) = true →
        mget 0 (t.subCh (2 * ch + sub)).postponed rank = 0 ∧ (t.subCh (2 * ch + sub)).retry.length ≤ 32 ∧
        (t.subCh (2 * ch + sub)).retry.getLast? = some (s.dram.now, s.refLast rank)) ∧
      (s.replaying (2 * ch + sub) = true → (t.subCh (2 * ch + sub)).retry = (s.subCh (2 * ch + sub)).retry ∧
        mget 0 (t.subCh (2 * ch + sub)).postponed rank = mget 0 (s.subCh (2 * ch + sub)).postponed rank + 1) := by
  rw [exec_refresh hruns hsub hrank]
  generalize 2 * ch + sub = k at hdue ⊢
  have howed := s.subCh_refreshOwed k rank
  have hcount : mget 0 ((s.refreshOwed k rank).subCh k).postponed rank = mget 0 (s.subCh k).postponed rank + 1 := by rw [howed, mget_mset_self]
  have hretry : ((s.refreshOwed k rank).subCh k).retry = (s.subCh k).retry := by rw [howed]
  have hreplaying : (s.refreshOwed k rank).replaying k = s.replaying k := by simp only [State.replaying, howed]
  obtain ⟨hframe, hqueue⟩ := (s.refreshOwed k rank).refreshNow_frame k s.dram.now rank
  refine ⟨_, congrArg _ (if_pos hdue), ?_, ?_, ?_, ?_⟩
  · conv_lhs => rw [hframe]
    rfl
  · rw [hqueue, howed]
  · intro hreplay hroom
    refine State.refreshNow_issues (hreplaying.trans hreplay) hcount ?_
    rw [← hroom]
    simp only [State.room, State.inWindow, hretry]
    rfl
  · intro hreplay
    rw [State.refreshNow_replaying (hreplaying.trans hreplay)]
    exact ⟨hretry, hcount⟩

end

/-! ### RETRAIN_PAUSE (R175, R180) -/

theorem State.pauseForce_frame (s : State) : s.pauseForce = { s with regs := s.pauseForce.regs, written := s.pauseForce.written } :=
  State.comeInto_frame _ _

/-- What a pause leaves: the refresh rate that MR4 asks for, its count, and the event of a device over its limit. -/
def State.paused (u : State) (ch sub : Nat) (forced dbl hot : Bool) : State :=
  (((u.setSub (2 * ch + sub) { u.subCh (2 * ch + sub) with doubled := dbl || hot }).addSat (Reg.DC_MAINT_RETRAIN_COUNT ch) 1).addSat
    (Reg.DC_MAINT_FORCED ch) (b2n forced)).raiseIf hot .lamp 0x2A .error ch

theorem exec_retrainPause {s : State} {ch sub : Nat} {forced : Bool} (dbl hot : Bool) (hruns : s.chRuns ch = true) (hsub : sub < 2)
    (hready : forced = true ∨ (s.subCh (2 * ch + sub)).queue = []) (hreplay : s.replaying (2 * ch + sub) = false) (hrun : s.mode = .run) :
    exec (.retrainPause ch sub forced dbl hot) s = .next (s.pauseForce.paused ch sub forced dbl hot) :=
  congrArg Host.Outcome.next (if_pos (by
    simp only [hruns, hsub, hreplay, hrun, decide_true, Bool.not_false, Bool.and_true, Bool.true_and, Bool.or_eq_true, Bool.and_eq_true,
      List.isEmpty_iff, beq_self_eq_true, true_or, and_true]
    exact hready))

theorem State.paused_frame (u : State) (ch sub : Nat) (forced dbl hot : Bool) : u.paused ch sub forced dbl hot =
    { u with
      regs := (u.paused ch sub forced dbl hot).regs, ev := (u.paused ch sub forced dbl hot).ev
      dram := { u.dram with sub := (u.paused ch sub forced dbl hot).dram.sub } } := by
  unfold State.paused State.raiseIf
  split <;> rfl

theorem regsKept_paused (u : State) (ch sub : Nat) (forced dbl hot : Bool) :
    RegsKept (Reg.DC_MAINT_RETRAIN_COUNT ch :: Reg.DC_MAINT_FORCED ch :: evFlds) u (u.paused ch sub forced dbl hot) := by
  have hcounts : RegsKept (Reg.DC_MAINT_RETRAIN_COUNT ch :: Reg.DC_MAINT_FORCED ch :: evFlds) u
      (((u.setSub (2 * ch + sub) { u.subCh (2 * ch + sub) with doubled := dbl || hot }).addSat (Reg.DC_MAINT_RETRAIN_COUNT ch) 1).addSat
        (Reg.DC_MAINT_FORCED ch) (b2n forced)) :=
    (RegsKept.of_regs (s := u) rfl).trans ((regsKept_addSat (by simp)).trans (regsKept_addSat (by simp)))
  exact hcounts.trans (regsKept_raiseIf.mono fun f hf => List.mem_cons_of_mem _ (List.mem_cons_of_mem _ hf))

theorem State.subCh_paused (u : State) (ch sub : Nat) (forced dbl hot : Bool) :
    (u.paused ch sub forced dbl hot).subCh (2 * ch + sub) = { u.subCh (2 * ch + sub) with doubled := dbl || hot } := by
  have hsub : (u.paused ch sub forced dbl hot).subCh (2 * ch + sub) =
      (u.setSub (2 * ch + sub) { u.subCh (2 * ch + sub) with doubled := dbl || hot }).subCh (2 * ch + sub) := by
    unfold State.paused State.raiseIf
    split <;> rfl
  rw [hsub, State.subCh_setSub_self]

theorem State.getF_paused_count (u : State) {ch : Nat} (hch : ch < 2) (sub : Nat) (forced dbl hot : Bool) :
    (u.paused ch sub forced dbl hot).getF (Reg.DC_MAINT_RETRAIN_COUNT ch) =
      min (2 ^ (Reg.DC_MAINT_RETRAIN_COUNT ch).w - 1) (u.getF (Reg.DC_MAINT_RETRAIN_COUNT ch) + 1) := by
  have hforced : RegsKept (Reg.DC_MAINT_FORCED ch :: evFlds)
      ((u.setSub (2 * ch + sub) { u.subCh (2 * ch + sub) with doubled := dbl || hot }).addSat (Reg.DC_MAINT_RETRAIN_COUNT ch) 1)
      (u.paused ch sub forced dbl hot) :=
    (regsKept_addSat (by simp)).trans (regsKept_raiseIf.mono (List.subset_cons_self _ _))
  rw [hforced _ (by interval_cases ch <;> decide), State.getF_addSat_self]
  rfl

theorem State.paused_seq (u : State) (ch sub : Nat) (forced dbl hot : Bool) :
    (u.paused ch sub forced dbl hot).ev.seq = u.ev.seq + if hot then 1 else 0 := by
  cases hot <;> rfl

theorem retrainPause_completes {s u : State} {ch sub : Nat} {forced : Bool} (dbl hot : Bool) (hu : u = s.pauseForce) (hruns : s.chRuns ch = true)
    (hsub : sub < 2) (hready : forced = true ∨ (s.subCh (2 * ch + sub)).queue = []) (hreplay : s.replaying (2 * ch + sub) = false)
    (hrun : s.mode = .run) :
    ∃ t, exec (.retrainPause ch sub forced dbl hot) s = .next t ∧ (t.subCh (2 * ch + sub)).doubled = (dbl || hot) ∧
      t.getF (Reg.DC_MAINT_RETRAIN_COUNT ch) = min (2 ^ (Reg.DC_MAINT_RETRAIN_COUNT ch).w - 1) (u.getF (Reg.DC_MAINT_RETRAIN_COUNT ch) + 1) ∧
      t.ev.seq = s.ev.seq + (if hot then 1 else 0) ∧
      RegsKept (Reg.DC_MAINT_RETRAIN_COUNT ch :: Reg.DC_MAINT_FORCED ch :: evFlds) u t ∧
      t = { u with regs := t.regs, ev := t.ev, dram := { s.dram with sub := t.dram.sub } } := by
  subst hu
  have hdram : s.pauseForce.dram = s.dram := by rw [State.pauseForce_frame]
  have hev : s.pauseForce.ev = s.ev := by rw [State.pauseForce_frame]
  refine ⟨_, exec_retrainPause dbl hot hruns hsub hready hreplay hrun, ?_, State.getF_paused_count _ (State.chRuns_lt_two hruns) .., ?_, regsKept_paused _ _ _ _ _ _,
    ?_⟩
  · rw [State.subCh_paused]
  · rw [State.paused_seq, hev]
  · conv_lhs => rw [State.paused_frame, hdram]

/-! ### CA_PARITY_ALERT: a replay begins (R182) -/

/-- A replay begins: its window stands, and the channel's fields show it. -/
def State.replayBegun (s : State) (ch sub : Nat) (r : Replay) : State :=
  ((s.setSub (2 * ch + sub) { s.subCh (2 * ch + sub) with replay := some r }).addSat (Reg.DC_REPLAY_REPLAYS ch) 1).setFs
    [(Reg.DC_REPLAY_LAST_LEN ch, min 32 r.win.length), (chState ch, 5)]

/-- Of two fields set the second reads as set. -/
theorem State.getF_setFs_pair (s : State) (f g : Fld) (v w : Nat) : (s.setFs [(f, v), (g, w)]).getF g = w % 2 ^ g.w :=
  (s.setF f v).getF_setF_self g w

theorem State.subCh_replayBegun (s : State) (ch sub : Nat) (r : Replay) :
    (s.replayBegun ch sub r).subCh (2 * ch + sub) = { s.subCh (2 * ch + sub) with replay := some r } := s.subCh_setSub_self _ _

theorem regsKept_replayBegun (s : State) (ch sub : Nat) (r : Replay) :
    RegsKept [Reg.DC_REPLAY_REPLAYS ch, Reg.DC_REPLAY_LAST_LEN ch, chState ch] s (s.replayBegun ch sub r) :=
  (RegsKept.of_regs (s := s) rfl).trans ((regsKept_addSat (by simp)).trans (regsKept_setFs (by simp)))

theorem State.getF_replayBegun (s : State) {ch : Nat} (hch : ch < 2) (sub : Nat) (r : Replay) :
    (s.replayBegun ch sub r).getF (Reg.DC_REPLAY_LAST_LEN ch) = min 32 r.win.length ∧ (s.replayBegun ch sub r).getF (chState ch) = 5 ∧
      (s.replayBegun ch sub r).getF (Reg.DC_REPLAY_REPLAYS ch) =
        min (2 ^ (Reg.DC_REPLAY_REPLAYS ch).w - 1) (s.getF (Reg.DC_REPLAY_REPLAYS ch) + 1) := by
  refine ⟨?_, ?_, ?_⟩
  · refine (State.getF_setFs_head _ _ _ _ [chState ch] (by simp) (by interval_cases ch <;> decide)).trans (Nat.mod_eq_of_lt ?_)
    exact Nat.lt_of_le_of_lt (Nat.min_le_left 32 _) (show 32 < 2 ^ 8 by decide)
  · refine (State.getF_setFs_pair _ _ _ _ _).trans ?_
    interval_cases ch <;> rfl
  · refine (regsKept_setFs (l := [Reg.DC_REPLAY_LAST_LEN ch, chState ch]) (by simp) _ (by interval_cases ch <;> decide)).trans ?_
    exact State.getF_addSat_self _ _ _

theorem State.chanFailed_replayBegun {s : State} {ch : Nat} (h : s.chanFailed ch = false) (hch : ch < 2) (sub : Nat) (r : Replay) :
    (s.replayBegun ch sub r).chanFailed ch = false :=
  (State.getB_congr (regsKept_replayBegun s ch sub r _ (by interval_cases ch <;> decide))).trans h

/-- The replay that an alert makes of the one that runs, or of none (R182, R183). -/
def State.alertReplay (s : State) (k nowNs highNs : Nat) : Replay :=
  match (s.subCh k).replay with
  | none => ⟨nowNs, alertWait nowNs highNs, 0,
      ((s.subCh k).retry.filter (fun c => decide (nowNs ≤ c.1 + s.parWin))).map (·.2), none, nowNs⟩
  | some r => { r with ready := alertWait nowNs highNs, fails := r.fails + 1, left := none }

theorem State.alertReplay_first {s : State} {k : Nat} (h : (s.subCh k).replay = none) (nowNs highNs : Nat) : s.alertReplay k nowNs highNs =
    ⟨nowNs, alertWait nowNs highNs, 0, ((s.subCh k).retry.filter (fun c => decide (nowNs ≤ c.1 + s.parWin))).map (·.2), none, nowNs⟩ := by
  simp only [State.alertReplay, h]

theorem State.alertReplay_again {s : State} {k : Nat} {r : Replay} (h : (s.subCh k).replay = some r) (nowNs highNs : Nat) :
    s.alertReplay k nowNs highNs = { r with ready := alertWait nowNs highNs, fails := r.fails + 1, left := none } := by
  simp only [State.alertReplay, h]

/-- Short of the third failure of a window an alert begins a replay. -/
theorem State.alertSeen_begins {s : State} {ch sub : Nat} (h : ∀ r, (s.subCh (2 * ch + sub)).replay = some r → r.fails ≠ 2) (nowNs highNs : Nat) :
    s.alertSeen ch sub nowNs highNs = s.replayBegun ch sub (s.alertReplay (2 * ch + sub) nowNs highNs) := by
  unfold State.alertSeen
  dsimp only
  split
  · next hnone => rw [State.alertReplay_first hnone]; rfl
  · next r hsome => rw [State.alertReplay_again hsome, if_neg (h r hsome)]; rfl

/-- The third failed replay of a window fails the channel (R183). -/
theorem State.alertSeen_fails {s : State} {ch sub : Nat} {r : Replay} (hr : (s.subCh (2 * ch + sub)).replay = some r) (h : r.fails = 2)
    (nowNs highNs : Nat) : s.alertSeen ch sub nowNs highNs = s.failChannel ch := by
  unfold State.alertSeen
  dsimp only
  rw [hr]
  exact if_pos h

theorem exec_caParityAlert {s : State} {ch sub : Nat} (hruns : s.chRuns ch = true) (hsub : sub < 2) (nowNs highNs : Nat) :
    exec (.caParityAlert ch sub nowNs highNs) s = .next (s.alertSeen ch sub nowNs highNs) :=
  congrArg Host.Outcome.next (if_pos (by simp [hruns, hsub]))

/-! ### A channel fails (R163, R183, R184) -/

/-- The fields, beside the channel's own, that a failing channel sets. -/
def loseFlds : List Fld := [Reg.BE_TAKEN_TAKEN, Reg.BE_LOST_LOST, Reg.LG_STATUS_CLEAN_ALL]

/-- Copies, ledger, restore and host reads may have moved: the DRAM's cells and its training are as before, and all else but the fields of
`loseFlds`. -/
def LoseKept (s t : State) : Prop :=
  t = { s with
    regs := t.regs, host := t.host, cover := t.cover, bur := t.bur, nand := t.nand, rst := t.rst
    dram := { t.dram with cells := s.dram.cells, trained := s.dram.trained } } ∧ RegsKept loseFlds s t

theorem LoseKept.refl (s : State) : LoseKept s s := ⟨rfl, .refl _ s⟩

theorem LoseKept.trans {s t u : State} (h : LoseKept s t) (h' : LoseKept t u) : LoseKept s u := by
  refine ⟨?_, h.2.trans h'.2⟩
  rw [h'.1, h.1]

theorem LoseKept.foldl {α : Type} {f : State → α → State} (h : ∀ a x, LoseKept a (f a x)) (l : List α) (s : State) : LoseKept s (l.foldl f s) := by
  induction l generalizing s with
  | nil => exact .refl s
  | cons x l ih => exact (h s x).trans (ih _)

theorem LoseKept.ite {s t u : State} {p : Prop} [Decidable p] (ht : LoseKept s t) (hu : LoseKept s u) : LoseKept s (if p then t else u) := by
  split
  · exact ht
  · exact hu

/-- A step that sets no field. -/
theorem LoseKept.of_frame {s t : State} (h : t = { s with
    host := t.host, cover := t.cover, bur := t.bur, nand := t.nand, rst := t.rst
    dram := { t.dram with cells := s.dram.cells, trained := s.dram.trained } }) : LoseKept s t :=
  ⟨by rw [h], .of_regs (by rw [h])⟩

theorem loseKept_takenLost {s : State} {g : Nat} : LoseKept s (s.takenLost g) :=
  ⟨rfl, (RegsKept.of_regs (s := s) (t := s.lostSlot g) rfl).trans (regsKept_setFs (s := s.lostSlot g) (by simp [loseFlds]))⟩

theorem loseKept_recordLost {s : State} {g : Nat} : LoseKept s (s.recordLost g) :=
  ⟨rfl, (RegsKept.of_regs (s := s) (t := s.lostSlot g) rfl).trans (regsKept_setFs (s := s.lostSlot g) (by simp [loseFlds]))⟩

theorem loseKept_copyAbandoned {s : State} {c : Ctx} : LoseKept s (s.copyAbandoned c) := by
  unfold State.copyAbandoned
  split
  · exact .of_frame rfl
  · exact .of_frame rfl
  · exact .of_frame rfl
  · exact .refl s

theorem loseKept_keepPage {s : State} {n : Nat} : LoseKept s (s.keepPage n) := .of_frame rfl

theorem loseKept_dropLoad {s : State} {ch n : Nat} : LoseKept s (s.dropLoad ch n) := by
  have hdrop : LoseKept s (s.dropCtxReads n) := .of_frame rfl
  unfold State.dropLoad
  exact .ite (.ite ((hdrop.trans loseKept_takenLost).trans loseKept_keepPage) ((hdrop.trans loseKept_copyAbandoned).trans loseKept_keepPage)) (.refl s)

theorem loseKept_burrowLosesChannel {s : State} {ch : Nat} : LoseKept s (s.burrowLosesChannel ch) :=
  LoseKept.trans (.of_frame rfl) (.foldl (fun _ _ => loseKept_recordLost) _ _)

theorem loseKept_loseLedger {s : State} {ch : Nat} : LoseKept s (s.loseLedger ch) := by
  unfold State.loseLedger
  refine LoseKept.trans (.of_frame ?_) ⟨?_, (regsKept_cleanAllCheck _).mono (by simp [loseFlds])⟩
  · rfl
  · rw [State.cleanAllCheck_frame]

/-- The channel shows as failed, with its event. -/
def State.chanMarked (s : State) (ch : Nat) : State := (s.setFs [(Reg.DC_REPLAY_FAILED ch, 1), (chState ch, 6)]).raise .lamp 0x32 .critical ch

/-- The copies that read the channel give up, and in a burrow its granules are recorded LOST. -/
def State.chanDropped (s : State) (ch : Nat) : State :=
  let t := (s.bur.ctx.map (·.1)).foldl (fun (a : State) n => a.dropLoad ch n) s
  if s.mode = .burrow then t.burrowLosesChannel ch else t

theorem State.failChannel_eq {s : State} {ch : Nat} (halive : s.chanFailed ch = false) (hch : ch < s.channels) : s.failChannel ch =
    ((((((s.chanMarked ch).chanDropped ch).loseLedger ch).setSub (2 * ch) SubCh.reset).setSub (2 * ch + 1) SubCh.reset).restoreLoses ch).failReads ch :=
  if_neg (by simp [halive, hch])

theorem loseKept_chanDropped {s : State} {ch : Nat} : LoseKept s (s.chanDropped ch) := by
  have hdrops : LoseKept s ((s.bur.ctx.map (·.1)).foldl (fun (a : State) n => a.dropLoad ch n) s) := .foldl (fun _ _ => loseKept_dropLoad) _ s
  exact .ite (hdrops.trans loseKept_burrowLosesChannel) hdrops

theorem loseKept_chanReset {s : State} {ch : Nat} :
    LoseKept s ((((s.setSub (2 * ch) SubCh.reset).setSub (2 * ch + 1) SubCh.reset).restoreLoses ch).failReads ch) := .of_frame rfl

theorem loseKept_failChannel {s : State} {ch : Nat} (halive : s.chanFailed ch = false) (hch : ch < s.channels) :
    LoseKept (s.chanMarked ch) (s.failChannel ch) := by
  rw [State.failChannel_eq halive hch]
  exact (loseKept_chanDropped.trans loseKept_loseLedger).trans loseKept_chanReset

theorem State.getF_chanMarked (s : State) {ch : Nat} (hch : ch < 2) :
    (s.chanMarked ch).getF (Reg.DC_REPLAY_FAILED ch) = 1 ∧ (s.chanMarked ch).getF (chState ch) = 6 := by
  refine ⟨(regsKept_raise _ (by interval_cases ch <;> decide)).trans ?_, (regsKept_raise _ (by interval_cases ch <;> decide)).trans ?_⟩
  · exact State.getF_setFs_head _ _ _ _ [chState ch] (by simp) (by interval_cases ch <;> decide)
  · refine (State.getF_setFs_pair _ _ _ _ _).trans ?_
    interval_cases ch <;> rfl

/-- The fields that the failure of a channel may move. -/
def chanFlds (ch : Nat) : List Fld := Reg.DC_REPLAY_FAILED ch :: chState ch :: (evFlds ++ loseFlds)

theorem regsKept_failChannel (s : State) (ch : Nat) : RegsKept (chanFlds ch) s (s.failChannel ch) := by
  by_cases h : s.chanFailed ch = false ∧ ch < s.channels
  · have hmarked : RegsKept (chanFlds ch) s (s.chanMarked ch) :=
      (regsKept_setFs (by simp [chanFlds])).trans (regsKept_raise.mono (by intro f hf; simp [chanFlds, hf]))
    exact hmarked.trans ((loseKept_failChannel h.1 h.2).2.mono (by intro f hf; simp [chanFlds, hf]))
  · have hsame : s.failChannel ch = s := if_pos (by
      rw [not_and_or, Bool.not_eq_false, Nat.not_lt] at h
      simpa using h)
    rw [hsame]
    exact .refl _ s

/-- Beside the fields, the event and what the channel's granules meant to the engines, nothing moves. -/
theorem State.failChannel_frame (s : State) (ch : Nat) : s.failChannel ch = { s with
    regs := (s.failChannel ch).regs, ev := (s.failChannel ch).ev, host := (s.failChannel ch).host, cover := (s.failChannel ch).cover
    bur := (s.failChannel ch).bur, nand := (s.failChannel ch).nand, rst := (s.failChannel ch).rst
    dram := { (s.failChannel ch).dram with cells := s.dram.cells, trained := s.dram.trained } } := by
  by_cases h : s.chanFailed ch = false ∧ ch < s.channels
  · have hkept := (loseKept_failChannel h.1 h.2).1
    have hev : (s.failChannel ch).ev = (s.chanMarked ch).ev := by rw [hkept]
    conv_lhs => rw [hkept]
    rw [hev]
    rfl
  · have hsame : s.failChannel ch = s := if_pos (by
      rw [not_and_or, Bool.not_eq_false, Nat.not_lt] at h
      simpa using h)
    rw [hsame]

theorem mem_foldl_recordLost_dramBad {ch : Nat} (l : List Nat) {s : State} (h : ch ∈ s.bur.dramBad) :
    ch ∈ (l.foldl (fun (a : State) g => a.recordLost g) s).bur.dramBad := by
  induction l generalizing s with
  | nil => exact h
  | cons g l ih => exact ih h

section
variable {s : State} {ch : Nat} (halive : s.chanFailed ch = false) (hch : ch < s.channels)
include halive hch

theorem State.failChannel_shows : (s.failChannel ch).getF (Reg.DC_REPLAY_FAILED ch) = 1 ∧ (s.failChannel ch).getF (chState ch) = 6 := by
  have htwo : ch < 2 := Nat.lt_of_lt_of_le hch s.channels_le
  obtain ⟨hfailed, hstate⟩ := s.getF_chanMarked htwo
  have hkept := (loseKept_failChannel halive hch).2
  exact ⟨(hkept _ (by interval_cases ch <;> decide)).trans hfailed, (hkept _ (by interval_cases ch <;> decide)).trans hstate⟩

theorem State.failChannel_seq : (s.failChannel ch).ev.seq = s.ev.seq + 1 := by
  rw [(loseKept_failChannel halive hch).1]
  rfl

/-- Reads of the failed channel are answered, with poison where they were not served (R184). -/
theorem State.failChannel_reads {r : Rd} (hr : r ∈ (s.failChannel ch).host.reads) (hof : (s.failChannel ch).chanOf (granOf r.line) = ch) :
    r.ready = true ∨ r.value = some (0, true) := by
  rw [State.failChannel_eq halive hch] at hr hof
  obtain ⟨q, -, rfl⟩ := List.mem_map.mp hr
  split
  · exact .inl rfl
  · next hnot =>
    rw [if_neg hnot] at hof
    simp only [Bool.and_eq_true, beq_iff_eq, Bool.not_eq_true', not_and, Bool.not_eq_false] at hnot
    exact .inl (hnot hof)

/-- A burrow knows the channel as failed (R225). -/
theorem State.failChannel_dramBad (hburrow : s.mode = .burrow) : ch ∈ (s.failChannel ch).bur.dramBad := by
  have hdropped : ch ∈ ((s.chanMarked ch).chanDropped ch).bur.dramBad := by
    unfold State.chanDropped
    dsimp only
    rw [if_pos (show (s.chanMarked ch).mode = .burrow from hburrow)]
    refine mem_foldl_recordLost_dramBad _ ?_
    show ch ∈ sadd ch _
    unfold sadd
    split
    · next h => exact List.contains_iff_mem.mp h
    · simp
  rw [State.failChannel_eq halive hch]
  have hledger : (((s.chanMarked ch).chanDropped ch).loseLedger ch).bur = ((s.chanMarked ch).chanDropped ch).bur := by
    unfold State.loseLedger
    rw [State.cleanAllCheck_frame]
    rfl
  show ch ∈ (((s.chanMarked ch).chanDropped ch).loseLedger ch).bur.dramBad
  rw [hledger]
  exact hdropped

end

/-! ### CA_PARITY_ALERT (R182 to R184) -/

section
variable {s : State} {ch sub : Nat} (hruns : s.chRuns ch = true)
include hruns

theorem State.replayBegun_shows (r : Replay) : (s.replayBegun ch sub r).chanFailed ch = false ∧ (s.replayBegun ch sub r).getF (chState ch) = 5 ∧
    (s.replayBegun ch sub r).getF (Reg.DC_REPLAY_REPLAYS ch) =
      min (2 ^ (Reg.DC_REPLAY_REPLAYS ch).w - 1) (s.getF (Reg.DC_REPLAY_REPLAYS ch) + 1) ∧
    RegsKept [Reg.DC_REPLAY_REPLAYS ch, Reg.DC_REPLAY_LAST_LEN ch, chState ch] s (s.replayBegun ch sub r) ∧
    s.replayBegun ch sub r = { s with regs := (s.replayBegun ch sub r).regs, dram := { s.dram with sub := (s.replayBegun ch sub r).dram.sub } } := by
  have hch := State.chRuns_lt_two hruns
  obtain ⟨-, hstate, hcount⟩ := s.getF_replayBegun hch sub r
  exact ⟨State.chanFailed_replayBegun (State.chRuns_alive hruns) hch sub r, hstate, hcount, regsKept_replayBegun s ch sub r, rfl⟩

theorem State.failChannel_ends : (s.failChannel ch).chanFailed ch = true ∧ (s.failChannel ch).getF (chState ch) = 6 ∧
    (s.failChannel ch).ev.seq = s.ev.seq + 1 ∧ (s.failChannel ch).dram.cells = s.dram.cells ∧
    (∀ r ∈ (s.failChannel ch).host.reads, (s.failChannel ch).chanOf (granOf r.line) = ch → r.ready = true ∨ r.value = some (0, true)) ∧
    (s.mode = .burrow → ch ∈ (s.failChannel ch).bur.dramBad) := by
  have halive := State.chRuns_alive hruns
  have hch := State.chRuns_lt hruns
  obtain ⟨hfailed, hstate⟩ := State.failChannel_shows halive hch
  refine ⟨?_, hstate, State.failChannel_seq halive hch, by rw [State.failChannel_frame], fun r => State.failChannel_reads halive hch,
    State.failChannel_dramBad halive hch⟩
  simp only [State.chanFailed, State.getB, hfailed]
  rfl

/-- An alert begins a replay, begins it again, or is the third of a window. -/
theorem caParityAlert_completes (hsub : sub < 2) (nowNs highNs : Nat) :
    ∃ t, exec (.caParityAlert ch sub nowNs highNs) s = .next t ∧
      ((s.subCh (2 * ch + sub)).replay = none → ∃ r, (t.subCh (2 * ch + sub)).replay = some r ∧ r.first = nowNs ∧
        r.ready = max (nowNs + 120) highNs ∧ r.fails = 0 ∧ r.left = none ∧
        r.win = ((s.subCh (2 * ch + sub)).retry.filter (fun c => decide (nowNs ≤ c.1 + s.parWin))).map (·.2) ∧
        t.getF (Reg.DC_REPLAY_LAST_LEN ch) = min 32 r.win.length) ∧
      (∀ r, (s.subCh (2 * ch + sub)).replay = some r → r.fails ≠ 2 →
        (t.subCh (2 * ch + sub)).replay = some { r with ready := max (nowNs + 120) highNs, fails := r.fails + 1, left := none } ∧
        t.getF (Reg.DC_REPLAY_LAST_LEN ch) = min 32 r.win.length) ∧
      ((∀ r, (s.subCh (2 * ch + sub)).replay = some r → r.fails ≠ 2) → t.chanFailed ch = false ∧ t.getF (chState ch) = 5 ∧
        t.getF (Reg.DC_REPLAY_REPLAYS ch) = min (2 ^ (Reg.DC_REPLAY_REPLAYS ch).w - 1) (s.getF (Reg.DC_REPLAY_REPLAYS ch) + 1) ∧
        RegsKept [Reg.DC_REPLAY_REPLAYS ch, Reg.DC_REPLAY_LAST_LEN ch, chState ch] s t ∧
        t = { s with regs := t.regs, dram := { s.dram with sub := t.dram.sub } }) ∧
      (∀ r, (s.subCh (2 * ch + sub)).replay = some r → r.fails = 2 → t.chanFailed ch = true ∧ t.getF (chState ch) = 6 ∧
        t.ev.seq = s.ev.seq + 1 ∧ t.dram.cells = s.dram.cells ∧
        (∀ r ∈ t.host.reads, t.chanOf (granOf r.line) = ch → r.ready = true ∨ r.value = some (0, true)) ∧
        (s.mode = .burrow → ch ∈ t.bur.dramBad)) := by
  have hch := State.chRuns_lt_two hruns
  refine ⟨_, exec_caParityAlert hruns hsub nowNs highNs, ?_, ?_, ?_, ?_⟩
  · intro hnone
    rw [State.alertSeen_begins (by simp [hnone])]
    refine ⟨_, by rw [State.subCh_replayBegun], ?_, ?_, ?_, ?_, ?_, (s.getF_replayBegun hch sub _).1⟩ <;> rw [State.alertReplay_first hnone]
    rfl
  · intro r hsome hfew
    have hbegins : ∀ q, (s.subCh (2 * ch + sub)).replay = some q → q.fails ≠ 2 := fun q hq => by rwa [← Option.some.inj (hsome.symm.trans hq)]
    rw [State.alertSeen_begins hbegins, State.subCh_replayBegun, State.alertReplay_again hsome]
    exact ⟨rfl, (s.getF_replayBegun hch sub _).1⟩
  · intro hfew
    rw [State.alertSeen_begins hfew]
    exact State.replayBegun_shows hruns _
  · intro r hsome hthird
    rw [State.alertSeen_fails hsome hthird]
    exact State.failChannel_ends hruns

end

/-! ### SELF_REFRESH_ENTRY and SELF_REFRESH_EXIT (R189, R190) -/

theorem selfRefreshEntry_enters {s : State} {ch : Nat} (hrun : s.mode = .run) (hlamp : s.lampUp = true) (hruns : s.chRuns ch = true)
    (hstate : s.getF (chState ch) = 2) (hen : s.getB Reg.DC_CFG_SR_IDLE_EN = true) (hidle : s.chIdle ch = true) :
    exec (.selfRefreshEntry ch) s = .next (s.setF (chState ch) 3) :=
  congrArg Host.Outcome.next (if_pos (by simp [hrun, hlamp, hruns, hstate, hen, hidle]))

theorem selfRefreshExit_leaves {s : State} {ch : Nat} (hlamp : s.lampUp = true) (hch : ch < s.channels) (hstate : s.getF (chState ch) = 3)
    (hhold : s.getB Reg.DC_STATUS_HOLD = false) : exec (.selfRefreshExit ch) s = .next (s.setF (chState ch) 2) :=
  congrArg Host.Outcome.next (if_pos (by simp [hlamp, hch, hstate, hhold]))

/-- Settles O34, command by command. -/
theorem dramMaintenance : Obligations.DramMaintenance :=
  ⟨fun _ _ _ _ hruns hsub hrank => ⟨refresh_waits hruns hsub hrank, refresh_issues hruns hsub hrank⟩,
    fun _ _ _ _ dbl hot _ hu hruns hsub => retrainPause_completes dbl hot hu hruns hsub,
    fun _ _ _ nowNs highNs hruns hsub => caParityAlert_completes hruns hsub nowNs highNs, fun _ _ => selfRefreshEntry_enters,
    fun _ _ => selfRefreshExit_leaves⟩

/-! ### What the ways down from WAKE and its up sequence leave of the daymark read (R490, R499, R508) -/

/-- The report of the daymark read on its copies, and the recorded reasons. -/
def reportFlds : List Fld :=
  [Reg.MD_LOCKOUT_ALL, Reg.DT_DMK_C0_CAUSE, Reg.DT_DMK_C1_CAUSE, Reg.DT_DMK_COPY, Reg.DT_DMKVER_IMG_VER, Reg.DT_DMKCRC_CRC]

/-- The daymark in force, the OTP row and the report stay; what is gone of the image stays gone, a recorded reason stays recorded, and WAKE goes on
or ends in OFF. -/
structure DmkKept (s t : State) : Prop where
  dmk : t.dmk = s.dmk
  otp : t.otp = s.otp
  held : s.bur.heldVer = 0 → t.bur.heldVer = 0
  cells : s.dram.cells = [] → t.dram.cells = []
  mode : s.mode = .wake ∨ s.mode = .off → t.mode = .wake ∨ t.mode = .off
  lock : ∀ i, (s.getF Reg.MD_LOCKOUT_ALL).testBit i = true → (t.getF Reg.MD_LOCKOUT_ALL).testBit i = true
  report : ∀ g ∈ reportFlds, g ≠ Reg.MD_LOCKOUT_ALL → t.getF g = s.getF g

theorem DmkKept.refl (s : State) : DmkKept s s := ⟨rfl, rfl, id, id, id, fun _ => id, fun _ _ _ => rfl⟩

theorem DmkKept.trans {s t u : State} (h : DmkKept s t) (h' : DmkKept t u) : DmkKept s u :=
  ⟨h'.dmk.trans h.dmk, h'.otp.trans h.otp, h'.held ∘ h.held, h'.cells ∘ h.cells, h'.mode ∘ h.mode, fun i => h'.lock i ∘ h.lock i,
    fun g hg hne => (h'.report g hg hne).trans (h.report g hg hne)⟩

theorem DmkKept.ite {s t u : State} {p : Prop} [Decidable p] (ht : DmkKept s t) (hu : DmkKept s u) : DmkKept s (if p then t else u) := by
  split
  · exact ht
  · exact hu

theorem DmkKept.foldl_mem {α : Type} {f : State → α → State} (l : List α) (h : ∀ a, ∀ x ∈ l, DmkKept a (f a x)) (s : State) :
    DmkKept s (l.foldl f s) := by
  induction l generalizing s with
  | nil => exact .refl s
  | cons x l ih => exact (h s x List.mem_cons_self).trans (ih (fun a y hy => h a y (List.mem_cons_of_mem _ hy)) _)

theorem DmkKept.foldl {α : Type} {f : State → α → State} (h : ∀ a x, DmkKept a (f a x)) (l : List α) (s : State) : DmkKept s (l.foldl f s) :=
  .foldl_mem l (fun a x _ => h a x) s

/-- A step that leaves every field of the report alone. -/
theorem DmkKept.of_getF {s t : State} (hreport : ∀ g ∈ reportFlds, t.getF g = s.getF g) (hdmk : t.dmk = s.dmk := by rfl)
    (hotp : t.otp = s.otp := by rfl) (hheld : t.bur.heldVer = s.bur.heldVer := by rfl) (hcells : t.dram.cells = s.dram.cells := by rfl)
    (hmode : t.mode = s.mode := by rfl) : DmkKept s t where
  dmk := hdmk
  otp := hotp
  held h := hheld.trans h
  cells h := hcells.trans h
  mode h := by rwa [hmode]
  lock i h := by rwa [hreport _ List.mem_cons_self]
  report g hg _ := hreport g hg

/-- A step that leaves the registers alone. -/
theorem DmkKept.of_regs {s t : State} (h : t.regs = s.regs) (hdmk : t.dmk = s.dmk := by rfl)
    (hotp : t.otp = s.otp := by rfl) (hheld : t.bur.heldVer = s.bur.heldVer := by rfl) (hcells : t.dram.cells = s.dram.cells := by rfl)
    (hmode : t.mode = s.mode := by rfl) : DmkKept s t :=
  .of_getF (fun g _ => RegsKept.of_regs (l := []) h g (by simp)) hdmk hotp hheld hcells hmode

/-- A field of an entry, of a slave or of an output has another key than every field of the report. -/
theorem reportKey_ne {f g : Fld} (hg : g ∈ reportFlds) (hlo : f.lo < 32) (hlow : 0x1009 ≤ f.off) (hoff : f.off % 16 = 12 ∨ f.off < 0xF000) :
    g.key ≠ f.key := by
  have hcode : f.cls.code < 4 := by cases f.cls <;> decide
  have hkey : f.key = f.off * 128 + f.lo * 4 + f.cls.code := rfl
  have hreport : g.key / 128 = 0x1008 ∨ g.key / 128 = 0xF000 ∨ g.key / 128 = 0xF004 ∨ g.key / 128 = 0xF008 := by
    revert g
    decide
  omega

theorem dmkKept_setF {s : State} {f : Fld} {v : Nat} (h : ∀ g ∈ reportFlds, g.key ≠ f.key) : DmkKept s (s.setF f v) :=
  .of_getF fun g hg => State.getF_setF_ne s v (h g hg)

theorem dmkKept_setFs {s : State} {a : List (Fld × Nat)} (h : ∀ g ∈ reportFlds, ∀ p ∈ a, g.key ≠ p.1.key) : DmkKept s (s.setFs a) :=
  .of_getF fun g hg => State.getF_setFs_ne s a g (h g hg)

theorem dmkKept_raise {s : State} {src : EvSource} {cls : Nat} {sev : Sev} {param : Nat} : DmkKept s (s.raise src cls sev param) :=
  .of_getF fun g hg => regsKept_raise g fun f hf => by revert g f; decide

theorem dmkKept_setEnt {s : State} {n st : Nat} : DmkKept s (s.setEnt n st) := by
  have hframe := s.setEnt_frame n st
  refine .of_getF (fun g hg => s.getF_setEnt n st ?_ fun hown => ⟨?_, ?_⟩) (by rw [hframe]) (by rw [hframe]) (by rw [hframe]) (by rw [hframe])
    (by rw [hframe])
  · exact reportKey_ne hg (by simp [Reg.SQ_ENT_ST_STATE]) (by simp only [Reg.SQ_ENT_ST_STATE]; omega) (.inl (by simp only [Reg.SQ_ENT_ST_STATE]; omega))
  all_goals
    simp only [ownOut, decide_eq_true_eq] at hown
    refine reportKey_ne hg (by simp [Reg.PS_SET_ON, Reg.PS_SET_PG]) ?_ (.inr ?_) <;> simp only [Reg.PS_SET_ON, Reg.PS_SET_PG] <;> omega

theorem dmkKept_setEnts {s : State} {l : List Nat} {st : Nat} : DmkKept s (s.setEnts l st) := .foldl (fun _ _ => dmkKept_setEnt) l s

@[simp] theorem State.repower_cells (s : State) : s.repower.dram.cells = s.dram.cells := s.repower_kept.2.2

theorem dmkKept_repower {s : State} : DmkKept s s.repower := by
  have hboard := boardKept_repower s
  refine .of_getF (fun g hg => s.getF_repower (by revert g; decide)) ?_ hboard.otp (by rw [s.repower_bur]) s.repower_cells hboard.mode
  rw [show s.repower = _ from hboard]

theorem dmkKept_recount {s : State} : DmkKept s s.recount := .of_regs rfl

/-! #### A reason is recorded (R62) -/

theorem State.getF_recordLock_all (s : State) (code rail : Nat) : (s.recordLock code rail).getF Reg.MD_LOCKOUT_ALL =
    (s.getF Reg.MD_LOCKOUT_ALL ||| 2 ^ (code - 1)) % 2 ^ Reg.MD_LOCKOUT_ALL.w := by
  unfold State.recordLock
  dsimp only
  rw [regsKept_raiseIf _ (by decide)]
  exact State.getF_setFs_head s Reg.MD_LOCKOUT_ALL _ [(Reg.MD_LOCKOUT_REASON, _), (Reg.MD_LOCKOUT_RAIL, _)]
    [Reg.MD_LOCKOUT_REASON, Reg.MD_LOCKOUT_RAIL] (by simp) (by decide)

/-- Codes 1 to 9 have a bit each. -/
theorem State.recordLock_records (s : State) {code : Nat} (hcode : code - 1 < 9) (rail : Nat) :
    ((s.recordLock code rail).getF Reg.MD_LOCKOUT_ALL).testBit (code - 1) = true := by
  rw [State.getF_recordLock_all, Nat.testBit_mod_two_pow, Nat.testBit_or, Nat.testBit_two_pow_self, Bool.or_true, Bool.and_true, decide_eq_true_eq]
  exact hcode

theorem dmkKept_recordLock {s : State} {code rail : Nat} : DmkKept s (s.recordLock code rail) where
  dmk := by unfold State.recordLock State.raiseIf; dsimp only; split <;> rfl
  otp := by unfold State.recordLock State.raiseIf; dsimp only; split <;> rfl
  held h := by unfold State.recordLock State.raiseIf; dsimp only; split <;> exact h
  cells h := by unfold State.recordLock State.raiseIf; dsimp only; split <;> exact h
  mode h := by unfold State.recordLock State.raiseIf; dsimp only; split <;> exact h
  lock i h := by
    have hlt : i < 9 := by
      by_contra hge
      rw [Nat.testBit_lt_two_pow (Nat.lt_of_lt_of_le (s.getF_lt _) (Nat.pow_le_pow_right (by decide) (Nat.not_lt.mp hge)))] at h
      cases h
    rw [State.getF_recordLock_all, Nat.testBit_mod_two_pow, Nat.testBit_or, h, Bool.true_or, Bool.and_true, decide_eq_true_eq]
    exact hlt
  report g hg hne := by
    unfold State.recordLock
    dsimp only
    rw [regsKept_raiseIf g (by revert g; decide)]
    refine State.getF_setFs_ne s _ g ?_
    simp only [List.mem_cons, List.not_mem_nil, or_false, forall_eq_or_imp, forall_eq]
    revert g
    decide

/-! #### Down sequences (R359, R363, R369) -/

theorem dmkKept_seqForce {s : State} : DmkKept s s.seqForce := by
  have hframe : s.seqForce = { s with regs := s.seqForce.regs, written := s.seqForce.written } := State.comeInto_frame _ _
  exact .of_getF (fun g hg => State.getF_comeInto_of_not _ _ (by revert g; decide)) (by rw [hframe]) (by rw [hframe]) (by rw [hframe])
    (by rw [hframe]) (by rw [hframe])

theorem mem_slavesReady {s : State} {m : Nat} (h : m ∈ s.slavesReady) : m < 8 := by
  unfold State.slavesReady at h
  split at h
  · exact List.mem_range.mp (List.mem_filter.mp h).1
  · cases h

theorem dmkKept_spmiAll {s : State} {op arg cls : Nat} : DmkKept s (s.spmiAll op arg cls) := by
  refine .foldl_mem _ (fun a m hm => ?_) s
  have hm := mem_slavesReady hm
  refine (dmkKept_setF (s := a) (f := Reg.SQ_SLVSEQ_NEXT m) fun g hg => reportKey_ne hg ?_ ?_ (.inr ?_)).trans (.of_regs rfl)
  · simp [Reg.SQ_SLVSEQ_NEXT]
  · simp only [Reg.SQ_SLVSEQ_NEXT]; omega
  · simp only [Reg.SQ_SLVSEQ_NEXT]; omega

/-- The fields of a slave's sequence numbers. -/
theorem regsKept_spmiAll (s : State) (op arg cls : Nat) : RegsKept ((List.range 8).map Reg.SQ_SLVSEQ_NEXT) s (s.spmiAll op arg cls) ∧
    (s.spmiAll op arg cls).rail = s.rail := by
  have hfold : ∀ (l : List Nat) (a : State), (∀ m ∈ l, m < 8) →
      RegsKept ((List.range 8).map Reg.SQ_SLVSEQ_NEXT) a (l.foldl (fun b m => b.spmiPut m op 0xFF arg cls) a) ∧
        (l.foldl (fun b m => b.spmiPut m op 0xFF arg cls) a).rail = a.rail := by
    intro l
    induction l with
    | nil => exact fun a _ => ⟨.refl _ a, rfl⟩
    | cons m l ih =>
      intro a hl
      obtain ⟨hregs, hrail⟩ := ih (a.spmiPut m op 0xFF arg cls) fun x hx => hl x (List.mem_cons_of_mem _ hx)
      refine ⟨RegsKept.trans ?_ hregs, hrail⟩
      exact regsKept_setFs (s := a) (by simpa using ⟨m, hl m List.mem_cons_self, rfl⟩)
  exact hfold _ s fun m => mem_slavesReady

/-- What the start of a down sequence sets, beside the entries that still waited. -/
def downSets (s : State) : List (Fld × Nat) :=
  [(Reg.SQ_STATUS_SEQ, 4), (Reg.SQ_STATUS_ELAPSED, 0), (Reg.SQ_STATUS_QUEUED, 0), (Reg.ES_STATUS_ACC_ON, 0),
    (Reg.ES_STATUS_CHG, if s.getF Reg.ES_STATUS_CHG = 5 then 5 else 0)]

/-- The down sequence before its command to the slaves. -/
def State.downBegun (s : State) (target : Nat) : State :=
  let t := s.seqForce.setFs (downSets s.seqForce)
  ({ t with rail := { t.rail with downTo := target, seqStart := t.rail.tick } } : State).setEnts
    (railEntries.filter fun n => s.seqForce.entSt n == 1 || s.seqForce.entSt n == 4) 0

theorem State.startDown_cases (s : State) (target : Nat) :
    s.startDown target = s.downBegun target ∨ s.startDown target = (s.downBegun target).spmiAll 4 0 1 := by
  unfold State.startDown
  dsimp only
  split
  · exact .inr rfl
  · exact .inl rfl

theorem dmkKept_downBegun {s : State} {target : Nat} : DmkKept s (s.downBegun target) := by
  have hregs : RegsKept [Reg.SQ_STATUS_SEQ, Reg.SQ_STATUS_ELAPSED, Reg.SQ_STATUS_QUEUED, Reg.ES_STATUS_ACC_ON, Reg.ES_STATUS_CHG] s.seqForce
      (s.seqForce.setFs (downSets s.seqForce)) := regsKept_setFs (by simp [downSets])
  have hsets : DmkKept s.seqForce (s.seqForce.setFs (downSets s.seqForce)) := .of_getF fun g hg => hregs g (by revert g; decide)
  have hrail {u : State} {r : RailSt} : DmkKept u { u with rail := r } := .of_regs rfl
  exact ((dmkKept_seqForce.trans hsets).trans hrail).trans dmkKept_setEnts

theorem State.downBegun_shows (s : State) (target : Nat) : (s.downBegun target).getF Reg.SQ_STATUS_SEQ = 4 ∧
    (s.downBegun target).rail.downTo = target := by
  refine ⟨?_, ?_⟩
  · refine ((EntriesMoved.foldl (fun a n => entriesMoved_setEnt a n 0) _ _).2 Reg.SQ_STATUS_SEQ (by decide)).trans ?_
    exact State.getF_setFs_head _ _ _ _ [Reg.SQ_STATUS_ELAPSED, Reg.SQ_STATUS_QUEUED, Reg.ES_STATUS_ACC_ON, Reg.ES_STATUS_CHG] (by simp) (by decide)
  · unfold State.downBegun
    dsimp only
    rw [State.setEnts_frame]

theorem dmkKept_startDown {s : State} {target : Nat} : DmkKept s (s.startDown target) := by
  rcases s.startDown_cases target with h | h <;> rw [h]
  · exact dmkKept_downBegun
  · exact dmkKept_downBegun.trans dmkKept_spmiAll

theorem State.startDown_shows (s : State) (target : Nat) : (s.startDown target).getF Reg.SQ_STATUS_SEQ = 4 ∧
    (s.startDown target).rail.downTo = target := by
  obtain ⟨hseq, hto⟩ := s.downBegun_shows target
  rcases s.startDown_cases target with h | h <;> rw [h]
  · exact ⟨hseq, hto⟩
  · obtain ⟨hregs, hrail⟩ := regsKept_spmiAll (s.downBegun target) 4 0 1
    exact ⟨(hregs _ (by decide)).trans hseq, by rw [hrail, hto]⟩

/-- A down sequence that is not for DEN goes on, or ends in OFF at once. -/
theorem State.goDown_cases (s : State) {target : Nat} (h : target ≠ 2) :
    s.goDown target = s.startDown target ∨ s.goDown target = (s.startDown target).reachOff := by
  obtain ⟨hseq, hto⟩ := s.startDown_shows target
  have hcheck : s.goDown target = if (s.startDown target).goersUp then s.startDown target else (s.startDown target).downLand := by
    unfold State.goDown State.seqCheck
    rw [hseq]
    rfl
  rw [hcheck]
  split
  · exact .inl rfl
  · exact .inr (if_pos (by rwa [hto]))

/-! #### OFF (R46, R62, R380, R384) -/

theorem dmkKept_dropDram {s : State} : DmkKept s s.dropDram where
  dmk := rfl
  otp := rfl
  held _ := rfl
  cells _ := rfl
  mode h := h
  lock i h := by rwa [show s.dropDram.getF Reg.MD_LOCKOUT_ALL = s.getF Reg.MD_LOCKOUT_ALL from
    regsKept_setFs (s := s) (a := [(Reg.MD_STATUS_DRAM_HELD, 0)]) (l := [Reg.MD_STATUS_DRAM_HELD]) (by simp) _ (by decide)]
  report g hg _ := regsKept_setFs (s := s) (a := [(Reg.MD_STATUS_DRAM_HELD, 0)]) (l := [Reg.MD_STATUS_DRAM_HELD]) (by simp) g (by revert g; decide)

/-- A change of mode, to WAKE or OFF. -/
theorem dmkKept_enterMode {s : State} {m : Mode} {ph : Phase} (hm : m = .wake ∨ m = .off) : DmkKept s (s.enterMode m ph) := by
  have hframe := s.enterMode_frame m ph
  have hregs : ∀ g ∈ reportFlds, (s.enterMode m ph).getF g = s.getF g := fun g hg => regsKept_enterMode s m ph g (by revert g; decide)
  exact ⟨by rw [hframe], by rw [hframe], fun h => by rw [hframe]; exact h, fun h => by rw [hframe]; exact h, fun _ => by rw [hframe]; exact hm,
    fun i h => by rwa [hregs _ List.mem_cons_self], fun g hg _ => hregs g hg⟩

/-- The fields that OFF's beginning sets. -/
def offFlds : List Fld :=
  [Reg.SQ_STATUS_SEQ, Reg.SQ_STATUS_QUEUED, Reg.MD_STATUS_MEDIA_READY, Reg.MD_STATUS_BRIDGE, Reg.MD_STATUS_LRST_ACT, Reg.MD_STATUS_LOCKOUT,
    Reg.BE_STATUS_ACTIVE, Reg.TH_STATUS_LEVEL, Reg.TH_STATUS_PEND, Reg.ES_STATUS_ACC_ON, Reg.ES_STATUS_BAL_ACTIVE, Reg.ES_STATUS_AUDIT_BUSY,
    Reg.ES_STATUS_PATH, Reg.DC_STATUS_HOLD, Reg.DC_STATUS_CH0_STATE, Reg.DC_STATUS_CH1_STATE, Reg.TW_STATUS_LINK, Reg.TW_STATUS_LANES, Reg.PS_ADC_SCAN,
    Reg.ES_STATUS_CHG]

/-- What OFF's beginning touches of the state whose DRAM is gone. -/
theorem State.offBase_frame (s : State) : ∃ u, u = ((s.pendLock.setEnts railEntries 0).enterMode .off .none).dropDram ∧ RegsKept offFlds u s.offBase ∧
    s.offBase = { u with
      regs := s.offBase.regs, rail := s.offBase.rail, spmi := s.offBase.spmi, therm := s.offBase.therm, twin := s.offBase.twin
      bur := { u.bur with trig := false, fenced := false, offReq := false, abn := .none } } := by
  refine ⟨_, rfl, ?_, ?_⟩
  · unfold State.offBase
    dsimp only
    generalize ((s.pendLock.setEnts railEntries 0).enterMode .off .none).dropDram = u
    exact regsKept_setFs (s := u) (by simp [offFlds])
  · unfold State.offBase
    dsimp only

theorem dmkKept_offBase {s : State} : DmkKept s s.offBase := by
  have hpend : DmkKept s s.pendLock := .ite dmkKept_recordLock (.refl s)
  have hoff := ((hpend.trans (dmkKept_setEnts (l := railEntries) (st := 0))).trans (dmkKept_enterMode (m := .off) (ph := .none) (.inr rfl))).trans
    dmkKept_dropDram
  obtain ⟨u, hu, hregs, hframe⟩ := s.offBase_frame
  rw [← hu] at hoff
  exact hoff.trans (.of_getF (fun g hg => hregs g (by revert g; decide)) (by rw [hframe]) (by rw [hframe]) (by rw [hframe]) (by rw [hframe])
    (by rw [hframe]))

theorem dmkKept_wakeBase {s : State} {cause : Nat} {warm : Bool} : DmkKept s (s.wakeBase cause warm) := by
  have hframe := s.wakeBase_frame cause warm
  have hregs : ∀ g ∈ reportFlds, (s.wakeBase cause warm).getF g = s.getF g := fun g hg =>
    s.getF_wakeBase cause warm (by revert g; decide) (by revert g; decide)
  refine ⟨by rw [hframe], by rw [hframe], fun h => h, fun h => by rw [hframe]; exact h, fun _ => .inl (by rw [hframe]),
    fun i h => by rwa [hregs _ List.mem_cons_self], fun g hg _ => hregs g hg⟩

theorem dmkKept_reachOff {s : State} : DmkKept s s.reachOff := by
  have hoff : DmkKept s s.offBase.repower := dmkKept_offBase.trans dmkKept_repower
  exact .ite (hoff.trans (dmkKept_wakeBase.trans dmkKept_repower)) hoff

theorem dmkKept_goDown {s : State} {target : Nat} (h : target ≠ 2) : DmkKept s (s.goDown target) := by
  rcases s.goDown_cases h with hgo | hgo <;> rw [hgo]
  · exact dmkKept_startDown
  · exact dmkKept_startDown.trans dmkKept_reachOff

/-! #### The up sequence of WAKE and its failures (R351, R353 to R355, R365) -/

theorem dmkKept_markFault {s : State} {n kind : Nat} : DmkKept s (s.markFault n kind) := by
  have hregs : RegsKept [Reg.PS_FLTBITS_FLT, Reg.PS_FIRST_KIND, Reg.PS_FIRST_RAIL, Reg.PS_FIRST_MODE] s (s.markFault n kind) :=
    regsKept_setFs (by simp)
  exact .of_getF fun g hg => hregs g (by revert g; decide)

theorem dmkKept_countFail {s : State} {n kind : Nat} : DmkKept s (s.countFail n kind) := by
  have htries {t : State} : DmkKept t (t.addSat (Reg.SQ_ENT_ST_TRIES n) 1) :=
    dmkKept_setF fun g hg => reportKey_ne hg (by simp [Reg.SQ_ENT_ST_TRIES]) (by simp only [Reg.SQ_ENT_ST_TRIES]; omega)
      (.inl (by simp only [Reg.SQ_ENT_ST_TRIES]; omega))
  have hrail {t : State} {r : RailSt} : DmkKept t { t with rail := r } := .of_regs rfl
  exact ((DmkKept.ite (p := ownOut n = true) dmkKept_markFault (.refl s)).trans hrail).trans htries

section
variable {s : State} (hm : s.mode = .wake ∨ s.mode = .off)
include hm

/-- A critical fault of WAKE records its reason and goes down; OFF has none (Table 10-3). -/
theorem dmkKept_critFault (n : Nat) : DmkKept s (s.critFault n) := by
  unfold State.critFault
  rcases hm with h | h <;> rw [h]
  · exact dmkKept_recordLock.trans (dmkKept_goDown (by decide))
  · exact .refl s

theorem dmkKept_critDeps (l : List Nat) (kind : Nat) : DmkKept s (s.critDeps l kind) := by
  have hfailed : DmkKept s (l.foldl (fun (a : State) m => (a.countFail m kind).setEnt m 5) s).repower :=
    (DmkKept.foldl (fun _ _ => dmkKept_countFail.trans dmkKept_setEnt) l s).trans dmkKept_repower
  unfold State.critDeps
  dsimp only
  split
  · exact hfailed.trans (dmkKept_critFault (hfailed.mode hm) _)
  · exact .refl s

theorem dmkKept_leaveOff (n : Nat) : DmkKept s (s.leaveOff n) := by
  unfold State.leaveOff
  dsimp only
  have hleft {t : State} : DmkKept t (t.setF Reg.SQ_STATUS_LEFT_OFF 1) := dmkKept_setF (by decide)
  have hoff : DmkKept s ((s.setEnts (n :: (s.allDependants n).filter fun m => !s.critical m) 5).setF Reg.SQ_STATUS_LEFT_OFF 1).repower.recount :=
    ((dmkKept_setEnts.trans hleft).trans dmkKept_repower).trans dmkKept_recount
  exact hoff.trans (dmkKept_critDeps (hoff.mode hm) _ _)

theorem dmkKept_failUp (n : Nat) (final : Bool) : DmkKept s (s.failUp n final) := by
  unfold State.failUp
  dsimp only
  split
  · have hfailed : DmkKept s ((s.countFail n 4).setEnt n 5).repower := (dmkKept_countFail.trans dmkKept_setEnt).trans dmkKept_repower
    exact hfailed.trans (dmkKept_critFault (hfailed.mode hm) n)
  · have hcount : DmkKept s ((s.countFail n 4).raise .keeper 0x24 .error (n + 256 * 4)) := dmkKept_countFail.trans dmkKept_raise
    exact .ite (hcount.trans (dmkKept_leaveOff (hcount.mode hm) n)) (hcount.trans (dmkKept_setEnt.trans dmkKept_repower))

theorem dmkKept_brokenFail : DmkKept s s.brokenFail := by
  have hfails (l : List Nat) : ∀ a : State, a.mode = .wake ∨ a.mode = .off → DmkKept a (l.foldl (fun (a : State) n => a.failUp n true) a) := by
    induction l with
    | nil => exact fun a _ => .refl a
    | cons n l ih => exact fun a ha => (dmkKept_failUp ha n true).trans (ih _ ((dmkKept_failUp ha n true).mode ha))
  exact (hfails _ s hm).trans dmkKept_setEnts

theorem dmkKept_beginUp : DmkKept s s.beginUp := by
  have hsets {t : State} : DmkKept t (t.setFs [(Reg.SQ_STATUS_SEQ, 2), (Reg.SQ_STATUS_ELAPSED, 0), (Reg.SQ_STATUS_LEFT_OFF, 0)]) :=
    dmkKept_setFs (by simp; decide)
  have hrail {t : State} {r : RailSt} : DmkKept t { t with rail := r } := .of_regs rfl
  have hstart : DmkKept s s.startUp :=
    ((dmkKept_seqForce.trans hsets).trans hrail).trans (.foldl (fun _ _ => .ite dmkKept_setEnt (.refl _)) _ _)
  exact hstart.trans (dmkKept_brokenFail (hstart.mode hm))

end

theorem dmkKept_probeAll {s : State} : DmkKept s s.probeAll := by
  have hsets : DmkKept s (s.setFs (((List.range 8).filter fun m => s.getB (Reg.SQ_SLV_EN m)).map fun m => (Reg.SQ_SLV_STATE m, 1))) := by
    refine dmkKept_setFs fun g hg p hp => ?_
    obtain ⟨m, hm, rfl⟩ := List.mem_map.mp hp
    have hlt : m < 8 := List.mem_range.mp (List.mem_filter.mp hm).1
    exact reportKey_ne hg (by simp [Reg.SQ_SLV_STATE]) (by simp only [Reg.SQ_SLV_STATE]; omega) (.inr (by simp only [Reg.SQ_SLV_STATE]; omega))
  have hspmi {t : State} {m : SpmiSt} : DmkKept t { t with spmi := m } := .of_regs rfl
  exact .ite (hsets.trans hspmi) (.refl s)

/-! ### The daymark read ends in LOCKOUT (R499) -/

/-- The registers that show step 4's end in LOCKOUT. -/
def State.lockoutShown (s : State) : State :=
  s.setFs [(Reg.DT_DMKVER_IMG_VER, 0), (Reg.DT_DMKCRC_CRC, 0), (Reg.DT_BOARD_BOARD_ID, 0), (Reg.DT_DMK_BOUND_NOW, 0),
    (Reg.DT_DMK_PREV_LOCK, b2n s.dmk.lockedLast), (Reg.DT_WAKE_STEP, 4)]

theorem State.dmkLockout_shows (s : State) {code : Nat} (hcode : code - 1 < 9) : ((s.dmkLockout code).getF Reg.MD_LOCKOUT_ALL).testBit (code - 1) = true ∧
    (s.dmkLockout code).dram.cells = [] ∧ (s.dmkLockout code).dmk.inForce = false ∧ (s.dmkLockout code).bur.heldVer = 0 ∧
    (s.dmkLockout code).otp = s.otp ∧ (s.dmkLockout code).getF Reg.DT_DMKCRC_CRC = 0 ∧
    (∀ g ∈ [Reg.DT_DMK_C0_CAUSE, Reg.DT_DMK_C1_CAUSE], (s.dmkLockout code).getF g = s.getF g) := by
  set u : State := { s.lockoutShown with dmk := { DmkSt.reset with lockedLast := true } } with hu
  have hdown : s.dmkLockout code = ((u.recordLock code 0).dropDram).goDown 1 := rfl
  have hregs : RegsKept [Reg.DT_DMKVER_IMG_VER, Reg.DT_DMKCRC_CRC, Reg.DT_BOARD_BOARD_ID, Reg.DT_DMK_BOUND_NOW, Reg.DT_DMK_PREV_LOCK, Reg.DT_WAKE_STEP]
      s u := regsKept_setFs (s := s) (by simp)
  have hcrc : u.getF Reg.DT_DMKCRC_CRC = 0 :=
    State.getF_setFs_head (s.setF Reg.DT_DMKVER_IMG_VER 0) Reg.DT_DMKCRC_CRC 0 _
      [Reg.DT_BOARD_BOARD_ID, Reg.DT_DMK_BOUND_NOW, Reg.DT_DMK_PREV_LOCK, Reg.DT_WAKE_STEP] (by simp) (by decide)
  have hend : DmkKept (u.recordLock code 0).dropDram (s.dmkLockout code) := hdown ▸ dmkKept_goDown (by decide)
  have hall : DmkKept u (s.dmkLockout code) := (dmkKept_recordLock.trans dmkKept_dropDram).trans hend
  have hlock := (dmkKept_dropDram (s := u.recordLock code 0)).lock _ (u.recordLock_records hcode 0)
  refine ⟨hend.lock _ hlock, hend.cells rfl, ?_, hend.held rfl, hall.otp, ?_, fun g hg => ?_⟩
  · rw [hall.dmk]; rfl
  · rw [hall.report _ (by decide) (by decide), hcrc]
  · rw [hall.report g (by revert g; decide) (by revert g; decide), hregs g (by revert g; decide)]

/-! ### A copy of the daymark is put in force (R491, R492, R508) -/

/-- No CL field of the row's register n reports on copy 0 of the daymark. -/
def Reg.Row.clClear (r : Reg.Row) (n : Nat) : Bool :=
  decide (r.count ≤ n) || (r.fields n).all fun f => f.acc != .cl || f.key != Reg.DT_DMK_C0_CAUSE.key

/-- The index's registers, sixteen of a row at a time, name no CL field with the key of the report on copy 0. -/
theorem Reg.rows_clClear : (List.range 16).all (fun b => (Reg.rowsOf (4096 * b)).all fun r =>
    (List.range (r.count / 16 + 1)).all fun i => (List.range 16).all fun j => r.clClear (16 * i + j)) = true := by
  decide

/-- A block of 4 KiB shares its rows. -/
theorem Reg.rowsOf_block (off : Nat) : Reg.rowsOf off = Reg.rowsOf (4096 * (off / 4096)) := by
  unfold Reg.rowsOf
  rw [Nat.mul_div_cancel_left _ (by decide)]

/-- REGS cannot write the report on copy 0 (R492). -/
theorem cause0_ne_clFields {off : Nat} {f : Fld} (h : f ∈ clFields off) : f.key ≠ Reg.DT_DMK_C0_CAUSE.key := by
  obtain ⟨hf, hcl⟩ := List.mem_filter.mp h
  unfold Reg.fieldsAt at hf
  split at hf
  case h_2 => cases hf
  case h_1 r hr =>
    obtain ⟨hmem, hhit⟩ : r ∈ Reg.rowsOf off ∧ r.hit off = true := ⟨List.mem_of_find?_eq_some hr, by simpa using List.find?_some hr⟩
    have hb : off / 4096 < 16 := by
      by_contra hge
      have hnil : Reg.rowsOf off = [] := by
        unfold Reg.rowsOf
        split
        case h_17 => rfl
        all_goals omega
      rw [hnil] at hmem
      cases hmem
    set n := (off - r.base) / r.stride with hn
    have hcount : n < r.count := by
      simp only [Reg.Row.hit, Bool.and_eq_true, decide_eq_true_eq] at hhit
      exact hhit.1.2
    have hrow := Reg.rows_clClear
    simp only [List.all_eq_true, List.mem_range] at hrow
    have hclear := hrow _ hb r (by rwa [← Reg.rowsOf_block]) (n / 16) (by have := Nat.div_le_div_right (c := 16) hcount.le; omega) (n % 16) (Nat.mod_lt _ (by decide))
    rw [Nat.div_add_mod] at hclear
    simp only [Reg.Row.clClear, Bool.or_eq_true, decide_eq_true_eq, Nat.not_le.mpr hcount, false_or, List.all_eq_true] at hclear
    simpa [beq_iff_eq.mp hcl] using hclear f hf

theorem dmkCause_lt (otp : List (Option Nat)) (bus : Bool) (c : Option DmkCopy) : dmkCause otp bus c < 2 ^ 4 := by
  cases c with
  | none => exact (by decide : 1 < 2 ^ 4)
  | some c =>
    unfold dmkCause
    dsimp only
    split_ifs <;> decide

/-- What REGS and the masks leave of the daymark read: the mode, the OTP row and the report on copy 0. -/
structure CauseKept (s t : State) : Prop where
  mode : t.mode = s.mode
  otp : t.otp = s.otp
  cause : t.getF Reg.DT_DMK_C0_CAUSE = s.getF Reg.DT_DMK_C0_CAUSE

theorem CauseKept.refl (s : State) : CauseKept s s := ⟨rfl, rfl, rfl⟩

theorem CauseKept.trans {s t u : State} (h : CauseKept s t) (h' : CauseKept t u) : CauseKept s u :=
  ⟨h'.mode.trans h.mode, h'.otp.trans h.otp, h'.cause.trans h.cause⟩

theorem CauseKept.foldl {α : Type} {f : State → α → State} (h : ∀ a x, CauseKept a (f a x)) (l : List α) (s : State) :
    CauseKept s (l.foldl f s) := by
  induction l generalizing s with
  | nil => exact .refl s
  | cons x l ih => exact (h s x).trans (ih _)

theorem causeKept_setFs {s : State} {a : List (Fld × Nat)} (h : ∀ p ∈ a, Reg.DT_DMK_C0_CAUSE.key ≠ p.1.key) : CauseKept s (s.setFs a) :=
  ⟨rfl, rfl, State.getF_setFs_ne s a _ h⟩

theorem causeKept_applyReg (s : State) (e : Nat × Nat) : CauseKept s (s.applyReg e) := causeKept_setFs fun p hp => by
  obtain ⟨f, hf, rfl⟩ := List.mem_map.mp hp
  exact (cause0_ne_clFields hf).symm

theorem causeKept_dropCl (s : State) : CauseKept s s.dropCl := by
  have hclear : (clFields (keyOff Reg.DT_DMK_C0_CAUSE.key)).any (fun f => f.key == Reg.DT_DMK_C0_CAUSE.key) = false :=
    List.any_eq_false.mpr fun f hf => by simpa using cause0_ne_clFields hf
  refine ⟨rfl, rfl, ?_⟩
  simp only [State.getF, State.dropCl, mget, mfind_filter_key (fun k => !(clFields (keyOff k)).any fun f => f.key == k), hclear, Bool.not_false,
    if_true]

theorem causeKept_raise {s : State} {src : EvSource} {cls : Nat} {sev : Sev} {param : Nat} : CauseKept s (s.raise src cls sev param) :=
  ⟨rfl, rfl, regsKept_raise _ (by decide)⟩

theorem causeKept_sanitiseMasks (s : State) : CauseKept s s.sanitiseMasks := by
  have hmask {a : State} {k v : Nat} : CauseKept a (a.setF (Reg.DC_XOR_MASK k) v) := by
    refine ⟨rfl, rfl, State.getF_setF_ne _ _ ?_⟩
    simp only [Fld.key, Reg.DT_DMK_C0_CAUSE, Reg.DC_XOR_MASK, RCls.code]
    omega
  have hadj {a : State} {v : Nat} : CauseKept a (a.setF Reg.DC_ADJ_ADJ_MASK v) := ⟨rfl, rfl, State.getF_setF_ne _ _ (by decide)⟩
  unfold State.sanitiseMasks
  extract_lets t src m
  have ht : CauseKept s t := .foldl (fun a k => by
    dsimp only
    split
    · exact .refl a
    · exact hmask.trans causeKept_raise) _ s
  split
  · exact ht.trans hadj
  · exact ht

/-- The registers as a copy's REGS set them. -/
def State.regsApplied (s : State) (c : DmkCopy) : State :=
  ((c.regs.foldl (fun (a : State) e => a.applyReg e) ({ s with otp := { s.otp with dmkHash := bindHash s.otp.dmkHash c.keyHash } } : State).dropCl).setFs
    [(Reg.ID_BL_BL, c.bl), (Reg.DT_FITREQ_FIT_REQ, c.fitReq)]).sanitiseMasks

theorem State.regsApplied_shows (s : State) (c : DmkCopy) : (s.regsApplied c).mode = s.mode ∧
    (s.regsApplied c).otp = { s.otp with dmkHash := bindHash s.otp.dmkHash c.keyHash } ∧
    (s.regsApplied c).getF Reg.DT_DMK_C0_CAUSE = s.getF Reg.DT_DMK_C0_CAUSE := by
  have hsets {t : State} : CauseKept t (t.setFs [(Reg.ID_BL_BL, c.bl), (Reg.DT_FITREQ_FIT_REQ, c.fitReq)]) := causeKept_setFs (by simp; decide)
  have hkept (u : State) : CauseKept u ((c.regs.foldl (fun (a : State) e => a.applyReg e) u.dropCl).setFs
      [(Reg.ID_BL_BL, c.bl), (Reg.DT_FITREQ_FIT_REQ, c.fitReq)]).sanitiseMasks :=
    (((causeKept_dropCl u).trans (.foldl causeKept_applyReg _ _)).trans hsets).trans (causeKept_sanitiseMasks _)
  obtain ⟨hmode, hotp, hcause⟩ := hkept { s with otp := { s.otp with dmkHash := bindHash s.otp.dmkHash c.keyHash } }
  exact ⟨hmode, hotp, hcause.trans (RegsKept.of_regs (l := []) (by rfl) _ (by simp))⟩

/-- The registers that show the copy in force. -/
def copySets (u s : State) (k : Nat) (c : DmkCopy) : List (Fld × Nat) :=
  [(Reg.LG_EG_EG_INC25, u.getF Reg.LG_EGCFG_EG_INC25_INIT), (Reg.DT_DMK_COPY, k), (Reg.DT_DMK_BOUND, 1), (Reg.DT_DMK_BOUND_NOW, b2n !s.bound),
    (Reg.DT_DMK_PREV_LOCK, b2n s.dmk.lockedLast), (Reg.DT_DMK_SVC_REJ, 0), (Reg.DT_DMKVER_IMG_VER, c.imgVer), (Reg.DT_DMKCRC_CRC, c.crc),
    (Reg.DT_BOARD_BOARD_ID, c.boardId), (Reg.DT_WAKE_STEP, 5)]


theorem State.getF_setFs_mid (s : State) (a : List (Fld × Nat)) (f : Fld) (v : Nat) (b : List (Fld × Nat)) (h : ∀ p ∈ b, f.key ≠ p.1.key) :
    (s.setFs (a ++ (f, v) :: b)).getF f = v % 2 ^ f.w := by
  rw [State.setFs_append, State.getF_setFs_cons, State.getF_setFs_ne _ _ _ h, State.getF_setF_self]

theorem State.copySets_show (u s : State) (k : Nat) (c : DmkCopy) :
    (u.setFs (copySets u s k c)).getF Reg.DT_DMK_C0_CAUSE = u.getF Reg.DT_DMK_C0_CAUSE ∧
    (u.setFs (copySets u s k c)).getF Reg.DT_DMK_COPY = k % 2 ^ Reg.DT_DMK_COPY.w ∧
    (u.setFs (copySets u s k c)).getF Reg.DT_DMKVER_IMG_VER = c.imgVer % 2 ^ 32 ∧
    (u.setFs (copySets u s k c)).getF Reg.DT_DMKCRC_CRC = c.crc % 2 ^ 32 := by
  refine ⟨State.getF_setFs_ne _ _ _ ?_, ?_, ?_, ?_⟩
  · simp only [copySets, List.mem_cons, List.not_mem_nil, or_false, forall_eq_or_imp, forall_eq]
    decide
  · exact u.getF_setFs_mid ((copySets u s k c).take 1) _ k ((copySets u s k c).drop 2) (by simp [copySets]; decide)
  · exact u.getF_setFs_mid ((copySets u s k c).take 6) _ c.imgVer ((copySets u s k c).drop 7) (by simp [copySets]; decide)
  · exact u.getF_setFs_mid ((copySets u s k c).take 7) _ c.crc ((copySets u s k c).drop 8) (by simp [copySets]; decide)

/-- What a copy that is put in force shows. -/
theorem State.dmkApply_shows (s : State) (k : Nat) (c : DmkCopy) : (s.dmkApply k c).mode = s.mode ∧
    (s.dmkApply k c).dmk = { inForce := true, svcKey := c.svcKey, storeT := c.storeT, ltoOcv := c.ltoOcv, lockedLast := false } ∧
    (s.dmkApply k c).otp = { s.otp with dmkHash := bindHash s.otp.dmkHash c.keyHash } ∧
    (s.dmkApply k c).getF Reg.DT_DMK_C0_CAUSE = s.getF Reg.DT_DMK_C0_CAUSE ∧
    (s.dmkApply k c).getF Reg.DT_DMK_COPY = k % 2 ^ Reg.DT_DMK_COPY.w ∧
    (s.dmkApply k c).getF Reg.DT_DMKVER_IMG_VER = c.imgVer % 2 ^ 32 ∧ (s.dmkApply k c).getF Reg.DT_DMKCRC_CRC = c.crc % 2 ^ 32 := by
  obtain ⟨hmode, hotp, hcause⟩ := s.regsApplied_shows c
  have happly : s.dmkApply k c = { (s.regsApplied c).setFs (copySets (s.regsApplied c) s k c) with
      dmk := { inForce := true, svcKey := c.svcKey, storeT := c.storeT, ltoOcv := c.ltoOcv, lockedLast := false } } := rfl
  have hregs := State.copySets_show (s.regsApplied c) s k c
  generalize s.regsApplied c = u at happly hregs hmode hotp hcause
  dsimp only at happly
  have hget (g : Fld) : (s.dmkApply k c).getF g = (u.setFs (copySets u s k c)).getF g :=
    RegsKept.of_regs (l := []) (by rw [happly]) g (by simp)
  refine ⟨?_, by rw [happly], ?_, ?_, ?_⟩
  · simp only [happly, State.setFs_mode, hmode]
  · simp only [happly, State.setFs_otp, hotp]
  · rw [hget, hregs.1]; exact hcause
  · rw [hget, hget, hget]; exact hregs.2

/-! ### The loads of step 6 (R394, R411, R457, R465, R477) -/

theorem dmkKept_ringReload {s : State} : DmkKept s s.ringReload := by
  unfold State.ringReload
  split
  · exact .refl s
  · exact .of_regs rfl

/-- The twin's fields that a WAKE loads. -/
def twinFlds : List Fld := [Reg.TW_STATUS_ROLE, Reg.TW_STATUS_MIRROR, Reg.TW_STATUS_FORCED, Reg.TW_EPOCH_EPOCH, Reg.TW_STALE_EPOCH]

theorem dmkKept_loadTwin {s : State} : DmkKept s s.loadTwin := by
  have hkept {a : List (Fld × Nat)} (h : ∀ p ∈ a, p.1 ∈ twinFlds) : DmkKept s (s.setFs a) :=
    .of_getF fun g hg => regsKept_setFs (l := twinFlds) h g (by revert g; decide)
  unfold State.loadTwin
  split
  · exact hkept (by simp [twinFlds])
  · split
    · next r m f e st w _ =>
      have hsets := hkept (a := [(Reg.TW_STATUS_ROLE, r), (Reg.TW_STATUS_MIRROR, m), (Reg.TW_STATUS_FORCED, b2n f), (Reg.TW_EPOCH_EPOCH, e),
        (Reg.TW_STALE_EPOCH, st)]) (by simp [twinFlds])
      exact hsets.trans (.of_regs rfl)
    · exact hkept (by simp [twinFlds])

theorem dmkKept_wakeTwin {s : State} : DmkKept s s.wakeTwin := by
  have hrole {t : State} : DmkKept t t.cdatRole := .of_regs rfl
  have htwin {t : State} {w : TwinSt} : DmkKept t { t with twin := w } := .of_regs rfl
  have hsets {t : State} {g f : Nat} : DmkKept t (t.setFs [(Reg.TW_STATUS_FOLLOW, 0), (Reg.TW_STATUS_LS_ON, 0), (Reg.TW_STATUS_GOVERN, g),
      (Reg.TW_STATUS_ST_FAIL, f)]) := dmkKept_setFs (by simp; decide)
  exact ((dmkKept_loadTwin.trans hrole).trans hsets).trans htwin

theorem dmkKept_loadJournal {s : State} : DmkKept s s.loadJournal := by
  have hkeep {t : State} {k : KeeperSt} : DmkKept t { t with keep := k } := .of_regs rfl
  have hsets {t : State} {a b c d e f g h i : Nat} : DmkKept t (t.setFs [(Reg.HL_DSC_DSC, a), (Reg.PS_KEEP_LAST, b), (Reg.HL_SHUTDOWN_DIRTY, c),
      (Reg.HL_SHUTDOWN_SELF_CLEAN, d), (Reg.DC_DEVFAIL_DEVICES 0, e), (Reg.DC_DEVFAIL_DEVICES 1, f), (Reg.PS_KEEP_HOLD_COUNT, g),
      (Reg.NB_MANPTR_LOC, h), (Reg.NB_ROOTPTR_LOC, i)]) := dmkKept_setFs (by simp; decide)
  unfold State.loadJournal
  dsimp only
  exact ((hkeep.trans hsets).trans hkeep).trans dmkKept_wakeTwin

/-- Steps 5 and 6 of a WAKE after a copy was put in force. -/
theorem dmkKept_wakeLoads {s : State} (h : s.mode = .wake) : DmkKept s ((s.ringReload.loadJournal).beginUp).probeAll := by
  have hload : DmkKept s s.ringReload.loadJournal := dmkKept_ringReload.trans dmkKept_loadJournal
  exact (hload.trans (dmkKept_beginUp (hload.mode (.inl h)))).trans dmkKept_probeAll

/-! ### DAYMARK_READ (R490 to R499) -/

/-- The causes that a read of the two copies finds. -/
def State.copyCause (s : State) (c : Option DmkCopy) : Nat := dmkCause s.otp.dmkHash (s.rail.vioOk && s.entSt 17 == 3) c

/-- The state that shows what the read found on the copies. -/
def State.copiesShown (s : State) (c0 c1 : Option DmkCopy) (sfdp x4 : Bool) : State :=
  s.setFs [(Reg.DT_DMK_C0_CAUSE, s.copyCause c0), (Reg.DT_DMK_C1_CAUSE, s.copyCause c1),
    (Reg.DT_DMK_SFDP, b2n (s.rail.vioOk && s.entSt 17 == 3 && sfdp)), (Reg.DT_DMK_X4, b2n (s.rail.vioOk && s.entSt 17 == 3 && sfdp && x4)),
    (Reg.DT_DMK_BOUND, b2n s.bound)]

theorem State.copiesShown_shows (s : State) (c0 c1 : Option DmkCopy) (sfdp x4 : Bool) :
    (s.copiesShown c0 c1 sfdp x4).getF Reg.DT_DMK_C0_CAUSE = s.copyCause c0 ∧
    (s.copiesShown c0 c1 sfdp x4).getF Reg.DT_DMK_C1_CAUSE = s.copyCause c1 := by
  refine ⟨(s.getF_setFs_mid [] _ _ _ (by simp; decide)).trans ?_,
    (s.getF_setFs_mid [(Reg.DT_DMK_C0_CAUSE, s.copyCause c0)] _ _ _ (by simp; decide)).trans ?_⟩
  · exact Nat.mod_eq_of_lt (dmkCause_lt _ _ _)
  · exact Nat.mod_eq_of_lt (dmkCause_lt _ _ _)

/-- Copy 0 put in force, copy 1 being absent. -/
def State.copyForced (s : State) (c : DmkCopy) : State := (s.dmkApply 0 c).setF Reg.DT_DMK_C1_CAUSE 1

/-- The loads and the up sequence after that. -/
def State.copyTaken (s : State) (c : DmkCopy) : State := ((((s.copyForced c).ringReload).loadJournal).beginUp).probeAll

theorem State.copyForced_shows (s : State) (c : DmkCopy) : (s.copyForced c).mode = s.mode ∧
    (s.copyForced c).dmk = { inForce := true, svcKey := c.svcKey, storeT := c.storeT, ltoOcv := c.ltoOcv, lockedLast := false } ∧
    (s.copyForced c).otp = { s.otp with dmkHash := bindHash s.otp.dmkHash c.keyHash } ∧
    (s.copyForced c).getF Reg.DT_DMK_C0_CAUSE = s.getF Reg.DT_DMK_C0_CAUSE ∧ (s.copyForced c).getF Reg.DT_DMK_COPY = 0 ∧
    (s.copyForced c).getF Reg.DT_DMKVER_IMG_VER = c.imgVer % 2 ^ 32 ∧ (s.copyForced c).getF Reg.DT_DMKCRC_CRC = c.crc % 2 ^ 32 := by
  have hother (g : Fld) (hg : g.key ≠ Reg.DT_DMK_C1_CAUSE.key) : (s.copyForced c).getF g = (s.dmkApply 0 c).getF g := State.getF_setF_ne _ _ hg
  have happly := s.dmkApply_shows 0 c
  rw [hother _ (by decide), hother _ (by decide), hother _ (by decide), hother _ (by decide), State.copyForced, State.setF_mode, State.setF_dmk,
    State.setF_otp]
  exact happly

theorem State.copyTaken_shows {s : State} (c : DmkCopy) (hwake : s.mode = .wake) :
    (s.copyTaken c).dmk = { inForce := true, svcKey := c.svcKey, storeT := c.storeT, ltoOcv := c.ltoOcv, lockedLast := false } ∧
    (s.copyTaken c).otp = { s.otp with dmkHash := bindHash s.otp.dmkHash c.keyHash } ∧
    (s.copyTaken c).getF Reg.DT_DMK_C0_CAUSE = s.getF Reg.DT_DMK_C0_CAUSE ∧ (s.copyTaken c).getF Reg.DT_DMK_COPY = 0 ∧
    (s.copyTaken c).getF Reg.DT_DMKVER_IMG_VER = c.imgVer % 2 ^ 32 ∧ (s.copyTaken c).getF Reg.DT_DMKCRC_CRC = c.crc % 2 ^ 32 := by
  obtain ⟨hmode, hdmk, hotp, hregs⟩ := s.copyForced_shows c
  have hloads : DmkKept (s.copyForced c) (s.copyTaken c) := dmkKept_wakeLoads (hmode.trans hwake)
  have hreport (g : Fld) (hg : g ∈ reportFlds) (hne : g ≠ Reg.MD_LOCKOUT_ALL) := hloads.report g hg hne
  rw [hloads.dmk, hloads.otp, hreport _ (by decide) (by decide), hreport _ (by decide) (by decide), hreport _ (by decide) (by decide),
    hreport _ (by decide) (by decide)]
  exact ⟨hdmk, hotp, hregs⟩

section
variable {s : State} (hready : s.dmkReady = true) (sfdp x4 : Bool)
include hready

theorem exec_daymarkRead_lockout {c0 c1 : Option DmkCopy} (h0 : s.copyCause c0 ≠ 0) (h1 : s.copyCause c1 ≠ 0) :
    exec (.daymarkRead c0 c1 sfdp x4) s = .next ((s.copiesShown c0 c1 sfdp x4).dmkLockout 1) := by
  refine congrArg Host.Outcome.next ((if_pos hready).trans ?_)
  dsimp only
  rw [show dmkCause s.otp.dmkHash (s.rail.vioOk && s.entSt 17 == 3) c0 = s.copyCause c0 from rfl,
    show dmkCause s.otp.dmkHash (s.rail.vioOk && s.entSt 17 == 3) c1 = s.copyCause c1 from rfl, if_neg h0, if_neg h1]
  rfl

theorem exec_daymarkRead_copy0 {c : DmkCopy} (h0 : s.copyCause (some c) = 0) : exec (.daymarkRead (some c) none sfdp x4) s = .next
    (if !s.fitHonoured c then (s.copiesShown (some c) none sfdp x4).dmkLockout 2
      else if !s.blHonoured c.bl then (s.copiesShown (some c) none sfdp x4).dmkLockout 3
      else (s.copiesShown (some c) none sfdp x4).copyTaken c) := by
  refine congrArg Host.Outcome.next ((if_pos hready).trans ?_)
  dsimp only
  rw [show dmkCause s.otp.dmkHash (s.rail.vioOk && s.entSt 17 == 3) (some c) = s.copyCause (some c) from rfl, if_pos h0]
  rfl

theorem daymarkRead_fails {c0 c1 : Option DmkCopy} (h0 : s.copyCause c0 ≠ 0) (h1 : s.copyCause c1 ≠ 0) :
    ∃ t, exec (.daymarkRead c0 c1 sfdp x4) s = .next t ∧ (t.getF Reg.MD_LOCKOUT_ALL).testBit 0 = true ∧ t.dram.cells = [] ∧
      t.dmk.inForce = false ∧ t.bur.heldVer = 0 ∧ t.getF Reg.DT_DMKCRC_CRC = 0 ∧ t.otp = s.otp ∧
      t.getF Reg.DT_DMK_C0_CAUSE = s.copyCause c0 ∧ t.getF Reg.DT_DMK_C1_CAUSE = s.copyCause c1 := by
  obtain ⟨hlock, hcells, hforce, hheld, hotp, hcrc, hcause⟩ := (s.copiesShown c0 c1 sfdp x4).dmkLockout_shows (code := 1) (by decide)
  obtain ⟨hshown0, hshown1⟩ := s.copiesShown_shows c0 c1 sfdp x4
  exact ⟨_, exec_daymarkRead_lockout hready sfdp x4 h0 h1, hlock, hcells, hforce, hheld, hcrc, hotp, (hcause _ (by simp)).trans hshown0,
    (hcause _ (by simp)).trans hshown1⟩

theorem daymarkRead_unfit {c : DmkCopy} (h0 : s.copyCause (some c) = 0) (hfit : s.fitHonoured c = false) :
    ∃ t, exec (.daymarkRead (some c) none sfdp x4) s = .next t ∧ (t.getF Reg.MD_LOCKOUT_ALL).testBit 1 = true ∧ t.dram.cells = [] ∧
      t.dmk.inForce = false ∧ t.otp = s.otp := by
  have hexec := exec_daymarkRead_copy0 hready sfdp x4 h0
  simp only [hfit, Bool.not_false, if_true] at hexec
  obtain ⟨hlock, hcells, hforce, -, hotp, -⟩ := (s.copiesShown (some c) none sfdp x4).dmkLockout_shows (code := 2) (by decide)
  exact ⟨_, hexec, hlock, hcells, hforce, hotp⟩

theorem daymarkRead_takes {c : DmkCopy} (h0 : s.copyCause (some c) = 0) (hfit : s.fitHonoured c = true) (hbl : s.blHonoured c.bl = true) :
    ∃ t, exec (.daymarkRead (some c) none sfdp x4) s = .next t ∧
      t.dmk = { inForce := true, svcKey := c.svcKey, storeT := c.storeT, ltoOcv := c.ltoOcv, lockedLast := false } ∧
      t.otp.dmkHash = bindHash s.otp.dmkHash c.keyHash ∧ t.otp.ident = s.otp.ident ∧ t.getF Reg.DT_DMK_COPY = 0 ∧
      t.getF Reg.DT_DMK_C0_CAUSE = 0 ∧ t.getF Reg.DT_DMKCRC_CRC = c.crc % 2 ^ 32 ∧ t.getF Reg.DT_DMKVER_IMG_VER = c.imgVer % 2 ^ 32 := by
  have hexec := exec_daymarkRead_copy0 hready sfdp x4 h0
  simp only [hfit, hbl, Bool.not_true, Bool.false_eq_true, if_false] at hexec
  have hwake : (s.copiesShown (some c) none sfdp x4).mode = .wake := by
    simp only [State.dmkReady, Bool.and_eq_true, beq_iff_eq] at hready
    exact (State.setFs_mode _ _).trans hready.1.1.1.1
  have hshown := (s.copiesShown_shows (some c) none sfdp x4).1
  have hotp0 : (s.copiesShown (some c) none sfdp x4).otp = s.otp := State.setFs_otp _ _
  obtain ⟨hdmk, hotp, hcause, hcopy, hver, hcrc⟩ := State.copyTaken_shows c hwake
  rw [hotp0] at hotp
  exact ⟨_, hexec, hdmk, by rw [hotp], by rw [hotp]; rfl, hcopy, hcause.trans (hshown.trans h0), hcrc, hver⟩

end

/-! ### A LUN fails (R247, R250) -/

/-- The fields that moving the copies of a failed LUN may set. -/
def lunFlds : List Fld := evFlds ++ [Reg.BE_TAKEN_TAKEN, Reg.BE_LOST_LOST, Reg.NB_STATUS_RSV_SHORT]

/-- Copies, pages, blocks and the books of the ledger may have moved: the granule map, the DRAM's contents and its training are as before, and all
else but the event and the fields of `lunFlds`. -/
def CopiesMoved (s t : State) : Prop :=
  t = { s with
    regs := t.regs, ev := t.ev, host := t.host, cover := t.cover, bur := t.bur
    nand := { t.nand with map := s.nand.map, mapDflt := s.nand.mapDflt }
    dram := { t.dram with cells := s.dram.cells, trained := s.dram.trained } } ∧ RegsKept lunFlds s t

theorem CopiesMoved.refl (s : State) : CopiesMoved s s := ⟨rfl, .refl _ s⟩

theorem CopiesMoved.trans {s t u : State} (h : CopiesMoved s t) (h' : CopiesMoved t u) : CopiesMoved s u := by
  refine ⟨?_, h.2.trans h'.2⟩
  rw [h'.1, h.1]

theorem CopiesMoved.foldl {α : Type} {f : State → α → State} (h : ∀ a x, CopiesMoved a (f a x)) (l : List α) (s : State) :
    CopiesMoved s (l.foldl f s) := by
  induction l generalizing s with
  | nil => exact .refl s
  | cons x l ih => exact (h s x).trans (ih _)

theorem CopiesMoved.ite {s t u : State} {p : Prop} [Decidable p] (ht : CopiesMoved s t) (hu : CopiesMoved s u) :
    CopiesMoved s (if p then t else u) := by
  split
  · exact ht
  · exact hu

/-- A step that sets no field. -/
theorem CopiesMoved.of_frame {s t : State} (h : t = { s with
    host := t.host, cover := t.cover, bur := t.bur
    nand := { t.nand with map := s.nand.map, mapDflt := s.nand.mapDflt }
    dram := { t.dram with cells := s.dram.cells, trained := s.dram.trained } }) : CopiesMoved s t :=
  ⟨by rw [h], .of_regs (by rw [h])⟩

theorem ArmKept.moved {s t : State} (h : ArmKept s t) : CopiesMoved s t := .of_frame (by rw [show t = _ from h])

section
variable {s t : State} (h : CopiesMoved s t)
include h

theorem CopiesMoved.mode : t.mode = s.mode := by rw [h.1]
theorem CopiesMoved.otp : t.otp = s.otp := by rw [h.1]
theorem CopiesMoved.cells : t.dram.cells = s.dram.cells := by rw [h.1]
theorem CopiesMoved.trained : t.dram.trained = s.dram.trained := by rw [h.1]
theorem CopiesMoved.map : t.nand.map = s.nand.map := by rw [h.1]
theorem CopiesMoved.store : t.store = s.store := by rw [h.1]
theorem CopiesMoved.getF {f : Fld} (hf : ∀ g ∈ lunFlds, f.key ≠ g.key) : t.getF f = s.getF f := h.2 f hf

end

section
variable {s : State}

theorem copiesMoved_setCtx {n : Nat} {c : Ctx} : CopiesMoved s (s.setCtx n c) := .of_frame rfl

theorem copiesMoved_rearm {n : Nat} : CopiesMoved s (s.rearm n) := (armKept_rearm n).moved

theorem copiesMoved_handoff {g : Nat} : CopiesMoved s (s.handoff g) := .of_frame rfl

theorem copiesMoved_trickleBack {g age : Nat} : CopiesMoved s (s.trickleBack g age) := .of_frame rfl

theorem copiesMoved_handBack {g : Nat} : CopiesMoved s (s.handBack g) :=
  copiesMoved_handoff.trans ⟨rfl, regsKept_setF (by simp [lunFlds])⟩

theorem copiesMoved_takenLost {g : Nat} : CopiesMoved s (s.takenLost g) :=
  ⟨rfl, (RegsKept.of_regs (s := s) (t := s.lostSlot g) rfl).trans (regsKept_setFs (s := s.lostSlot g) (by simp [lunFlds]))⟩

theorem copiesMoved_copyAbandoned {c : Ctx} : CopiesMoved s (s.copyAbandoned c) := by
  unfold State.copyAbandoned
  split
  · exact .of_frame rfl
  · exact .of_frame rfl
  · exact .of_frame rfl
  · exact .refl s

theorem copiesMoved_beginLoad {n : Nat} {c : Ctx} : CopiesMoved s (s.beginLoad n c) :=
  .ite copiesMoved_setCtx ((copiesMoved_setCtx.trans copiesMoved_setCtx).trans (armKept_askCtx n).moved)

theorem copiesMoved_moveOn {n : Nat} {c : Ctx} : CopiesMoved s (s.moveOn n c) := by
  unfold State.moveOn
  split
  · next loc _ => exact CopiesMoved.trans (t := s.takeLoc loc) (.of_frame rfl) copiesMoved_beginLoad
  · exact (CopiesMoved.ite copiesMoved_takenLost copiesMoved_copyAbandoned).trans copiesMoved_setCtx

theorem copiesMoved_metaBack {n : Nat} : CopiesMoved s (s.metaBack n) := by
  unfold State.metaBack
  dsimp only
  exact (CopiesMoved.trans (.of_frame rfl) copiesMoved_rearm).trans armKept_metaWave.moved

theorem copiesMoved_loseCtx {n : Nat} : CopiesMoved s (s.loseCtx n) := by
  unfold State.loseCtx
  extract_lets c s0
  have h0 : CopiesMoved s s0 := copiesMoved_setCtx
  split
  · exact h0.trans copiesMoved_rearm
  · split
    · exact h0.trans copiesMoved_metaBack
    · split
      · split
        · exact .ite (h0.trans copiesMoved_moveOn) (h0.trans (copiesMoved_handBack.trans copiesMoved_rearm))
        · exact h0.trans ((copiesMoved_trickleBack.trans copiesMoved_handoff).trans copiesMoved_rearm)
        · exact (CopiesMoved.ite h0 (h0.trans copiesMoved_handoff)).trans copiesMoved_rearm
        · exact h0.trans copiesMoved_rearm
      · exact h0.trans copiesMoved_moveOn

theorem copiesMoved_reserveCheck : CopiesMoved s s.reserveCheck := by
  have hshort : CopiesMoved s ((s.setF Reg.NB_STATUS_RSV_SHORT 1).raise .lamp 0x29 .error 0) :=
    ⟨rfl, (regsKept_setF (by simp [lunFlds])).trans (regsKept_raise.mono (by intro f hf; simp [lunFlds, hf]))⟩
  exact .ite (.ite (.refl s) hshort) (.refl s)

theorem copiesMoved_openMeta {want : Nat} (n : Nat) : CopiesMoved s (s.openMeta want n) := by
  induction n generalizing s with
  | zero => exact .refl s
  | succ n ih =>
    unfold State.openMeta
    split
    · exact .refl s
    · split
      · exact CopiesMoved.trans (.of_frame rfl) ih
      · exact .refl s

theorem copiesMoved_keepMeta : CopiesMoved s s.keepMeta := .ite (copiesMoved_openMeta 64) (.refl s)

end

/-! #### The failed LUNs as their registers show them -/

/-- The fields that say which LUNs have failed. -/
def lunFailFlds : List Fld := [Reg.NB_LUNFAIL_FAILED 0, Reg.NB_LUNFAIL_FAILED 1]

/-- What page reads, failures of LUNs and a root's list of them leave of a WAKE: the mode, the OTP row, the store, the DRAM and the granule map; a failed LUN
stays failed, and no register moves but the counts, the event and the list. -/
structure LunsMoved (s t : State) : Prop where
  mode : t.mode = s.mode
  otp : t.otp = s.otp
  store : t.store = s.store
  cells : t.dram.cells = s.dram.cells
  trained : t.dram.trained = s.dram.trained
  map : t.nand.map = s.nand.map
  regs : RegsKept (lunFlds ++ lunFailFlds ++ [Reg.BE_FAULTS_LUN_FAILED, Reg.NB_ECC_STAGE2, Reg.NB_ECC_STAGE3, Reg.NB_ECC_UNCORR]) s t
  failed : ∀ l < 64, s.lunFailed l = true → t.lunFailed l = true

theorem LunsMoved.refl (s : State) : LunsMoved s s := ⟨rfl, rfl, rfl, rfl, rfl, rfl, .refl _ s, fun _ _ => id⟩

theorem LunsMoved.trans {s t u : State} (h : LunsMoved s t) (h' : LunsMoved t u) : LunsMoved s u :=
  ⟨h'.mode.trans h.mode, h'.otp.trans h.otp, h'.store.trans h.store, h'.cells.trans h.cells, h'.trained.trans h.trained, h'.map.trans h.map,
    h.regs.trans h'.regs, fun l hl => h'.failed l hl ∘ h.failed l hl⟩

theorem LunsMoved.foldl {α : Type} {f : State → α → State} (h : ∀ a x, LunsMoved a (f a x)) (l : List α) (s : State) : LunsMoved s (l.foldl f s) := by
  induction l generalizing s with
  | nil => exact .refl s
  | cons x l ih => exact (h s x).trans (ih _)

theorem lunFailed_congr {s t : State} (h : ∀ f ∈ lunFailFlds, t.getF f = s.getF f) {l : Nat} (hl : l < 64) : t.lunFailed l = s.lunFailed l := by
  have hfield : Reg.NB_LUNFAIL_FAILED (l / 32) ∈ lunFailFlds := by
    have hword : l / 32 = 0 ∨ l / 32 = 1 := by omega
    rcases hword with h | h <;> rw [h] <;> simp [lunFailFlds]
  unfold State.lunFailed
  rw [h _ hfield]

theorem CopiesMoved.luns {s t : State} (h : CopiesMoved s t) : LunsMoved s t :=
  ⟨h.mode, h.otp, h.store, h.cells, h.trained, h.map, h.2.mono (by intro f hf; simp [hf]), fun l hl => by
    rw [lunFailed_congr (fun f hf => h.getF (by revert f; decide)) hl]
    exact id⟩

/-- A populated LUN is one of 64. -/
theorem lunPop_lt {s : State} {l : Nat} (h : s.lunPop l = true) : l < 64 := by
  have hch : s.nandCh ≤ 8 := by
    unfold State.nandCh
    split <;> decide
  simp only [State.lunPop, Bool.and_eq_true, decide_eq_true_eq] at h
  omega

theorem LunsMoved.lunPop {s t : State} (h : LunsMoved s t) (l : Nat) : t.lunPop l = s.lunPop l := by
  have hregs {f : Fld} (hf : f ∈ [Reg.NB_CFG_CH_EN, Reg.NB_CFG_CE_PER_CH, Reg.NB_CFG_LUNS]) : t.getF f = s.getF f :=
    h.regs f (by revert f; decide)
  simp only [State.lunPop, State.nandCh, State.cePerCh, State.lunsPerCe, State.is8430, h.otp, hregs (f := Reg.NB_CFG_CH_EN) (by simp),
    hregs (f := Reg.NB_CFG_CE_PER_CH) (by simp), hregs (f := Reg.NB_CFG_LUNS) (by simp)]
  rfl

/-- The failed LUN's registers, before its blocks and copies move. -/
def State.lunMarks (s : State) (l : Nat) : State :=
  s.setFs [(Reg.NB_LUNFAIL_FAILED (l / 32), s.getF (Reg.NB_LUNFAIL_FAILED (l / 32)) + 2 ^ (l % 32)),
    (Reg.BE_FAULTS_LUN_FAILED, s.getF Reg.BE_FAULTS_LUN_FAILED + b2n (!(s.mode != .burrow)))]

theorem State.failLun_cases (s : State) (l : Nat) : (s.failLun l = s ∧ (s.lunFailed l = true ∨ s.lunPop l = false)) ∨
    (s.lunFailed l = false ∧ s.lunPop l = true ∧ CopiesMoved (s.lunMarks l) (s.failLun l)) := by
  by_cases h : (s.lunFailed l || !s.lunPop l) = true
  · refine .inl ⟨if_pos h, ?_⟩
    simpa using h
  · refine .inr ?_
    obtain ⟨hfailed, hpop⟩ : s.lunFailed l = false ∧ s.lunPop l = true := by simpa using h
    refine ⟨hfailed, hpop, ?_⟩
    unfold State.failLun
    rw [if_neg h]
    extract_lets f mapped inRun b n s1 s2 hit
    have h1 : CopiesMoved (s.lunMarks l) s1 := .of_frame rfl
    have h2 : CopiesMoved s1 s2 := by
      refine CopiesMoved.trans (t := s1.raiseIf inRun .lamp 0x28 .error l) ?_ (.of_frame rfl)
      unfold State.raiseIf
      exact .ite ⟨rfl, regsKept_raise.mono (by intro f hf; simp [lunFlds, hf])⟩ (.refl s1)
    exact (((h1.trans h2).trans (.foldl (fun _ _ => copiesMoved_loseCtx) hit s2)).trans copiesMoved_reserveCheck).trans copiesMoved_keepMeta

/-- Adding a power of two whose bit is clear sets that bit. -/
theorem add_two_pow_of_clear {v k : Nat} (h : v.testBit k = false) : v + 2 ^ k = v ||| 2 ^ k := by
  have hbit : v / 2 ^ k % 2 = 0 := by
    rw [Nat.testBit_eq_decide_div_mod_eq, decide_eq_false_iff_not] at h
    omega
  have hlow : v % 2 ^ (k + 1) = v % 2 ^ k := by rw [Nat.mod_pow_succ, hbit, Nat.mul_zero, Nat.add_zero]
  have hlt : v % 2 ^ k < 2 ^ k := Nat.mod_lt _ (Nat.two_pow_pos k)
  have hsplit : v = 2 ^ (k + 1) * (v / 2 ^ (k + 1)) + v % 2 ^ k := by rw [← hlow]; exact (Nat.div_add_mod _ _).symm
  have hfit : v % 2 ^ k < 2 ^ (k + 1) := by rw [Nat.pow_succ]; omega
  have hfit' : v % 2 ^ k + 2 ^ k < 2 ^ (k + 1) := by rw [Nat.pow_succ]; omega
  calc v + 2 ^ k = 2 ^ (k + 1) * (v / 2 ^ (k + 1)) + (v % 2 ^ k + 2 ^ k) := by omega
    _ = 2 ^ (k + 1) * (v / 2 ^ (k + 1)) ||| (v % 2 ^ k ||| 2 ^ k) := by
      rw [Nat.two_pow_add_eq_or_of_lt hfit', Nat.or_two_pow_eq_add_of_lt hlt]
    _ = v ||| 2 ^ k := by rw [← Nat.or_assoc, ← Nat.two_pow_add_eq_or_of_lt hfit, ← hsplit]

/-- An assignment to the list that keeps its bits keeps the failed LUNs. -/
theorem lunFailed_of_bits {s t : State} {w : Nat} (hother : ∀ f ∈ lunFailFlds, f ≠ Reg.NB_LUNFAIL_FAILED w → t.getF f = s.getF f)
    (hbits : ∀ i < 32, (s.getF (Reg.NB_LUNFAIL_FAILED w)).testBit i = true → (t.getF (Reg.NB_LUNFAIL_FAILED w)).testBit i = true) {l : Nat}
    (hl : l < 64) (hfailed : s.lunFailed l = true) : t.lunFailed l = true := by
  unfold State.lunFailed at hfailed ⊢
  by_cases hlw : l / 32 = w
  · rw [hlw] at hfailed ⊢
    exact hbits _ (Nat.mod_lt _ (by decide)) hfailed
  · have hword : l / 32 < 2 := by omega
    have hne : Reg.NB_LUNFAIL_FAILED (l / 32) ≠ Reg.NB_LUNFAIL_FAILED w := fun heq => by
      have hoff := congrArg Fld.off heq
      simp only [Reg.NB_LUNFAIL_FAILED] at hoff
      omega
    have hmem : Reg.NB_LUNFAIL_FAILED (l / 32) ∈ lunFailFlds := by interval_cases l / 32 <;> simp [lunFailFlds]
    rw [hother _ hmem hne]
    exact hfailed

theorem State.getF_lunMarks_self {s : State} {l : Nat} (hl : l < 64) (hfailed : s.lunFailed l = false) :
    (s.lunMarks l).getF (Reg.NB_LUNFAIL_FAILED (l / 32)) = (s.getF (Reg.NB_LUNFAIL_FAILED (l / 32)) ||| 2 ^ (l % 32)) % 2 ^ 32 := by
  have hhead : (s.lunMarks l).getF (Reg.NB_LUNFAIL_FAILED (l / 32)) = (s.getF (Reg.NB_LUNFAIL_FAILED (l / 32)) + 2 ^ (l % 32)) % 2 ^ 32 := by
    refine s.getF_setFs_mid [] _ _ _ ?_
    have hword : l / 32 < 2 := by omega
    simp only [List.mem_singleton, forall_eq]
    interval_cases l / 32 <;> decide
  rw [hhead, add_two_pow_of_clear hfailed]

theorem lunsMoved_lunMarks {s : State} {l : Nat} (hl : l < 64) (hfailed : s.lunFailed l = false) : LunsMoved s (s.lunMarks l) := by
  have hword : l / 32 < 2 := by omega
  have hfields : Reg.NB_LUNFAIL_FAILED (l / 32) ∈ lunFailFlds := by interval_cases l / 32 <;> simp [lunFailFlds]
  have hregs : RegsKept [Reg.NB_LUNFAIL_FAILED (l / 32), Reg.BE_FAULTS_LUN_FAILED] s (s.lunMarks l) := regsKept_setFs (by simp)
  refine ⟨rfl, rfl, rfl, rfl, rfl, rfl, hregs.mono ?_, fun m hm => lunFailed_of_bits (w := l / 32) (fun f hf hne => ?_) (fun i hi hset => ?_) hm⟩
  · intro f hf
    rcases List.mem_cons.mp hf with rfl | hf
    · simp only [List.mem_append]; exact .inl (.inr hfields)
    · rw [List.mem_singleton.mp hf]; simp
  · refine hregs f ?_
    interval_cases l / 32 <;> revert f <;> decide
  · rw [s.getF_lunMarks_self hl hfailed, Nat.testBit_mod_two_pow, Nat.testBit_or, hset, Bool.true_or, Bool.and_true, decide_eq_true_eq]
    exact hi

theorem lunsMoved_failLun (s : State) (l : Nat) : LunsMoved s (s.failLun l) := by
  rcases s.failLun_cases l with ⟨h, -⟩ | ⟨hfailed, hpop, hmoved⟩
  · rw [h]; exact .refl s
  · exact (lunsMoved_lunMarks (lunPop_lt hpop) hfailed).trans hmoved.luns

/-- A populated LUN that is declared failed shows as failed. -/
theorem State.failLun_fails {s : State} {l : Nat} (hpop : s.lunPop l = true) : (s.failLun l).lunFailed l = true := by
  rcases s.failLun_cases l with ⟨h, hor⟩ | ⟨hfailed, -, hmoved⟩
  · rw [h]
    exact hor.resolve_right (by rw [hpop]; decide)
  · have hl := lunPop_lt hpop
    refine hmoved.luns.failed l hl ?_
    unfold State.lunFailed
    rw [s.getF_lunMarks_self hl hfailed, Nat.testBit_mod_two_pow, Nat.testBit_or, Nat.testBit_two_pow_self, Bool.or_true, Bool.and_true,
      decide_eq_true_eq]
    exact Nat.mod_lt _ (by decide)

/-- Every populated LUN of a list of failures shows as failed. -/
theorem foldl_failLun_fails (ls : List Nat) {s : State} {l : Nat} (hl : l ∈ ls) (hpop : s.lunPop l = true) :
    (ls.foldl (fun (a : State) n => a.failLun n) s).lunFailed l = true := by
  induction ls generalizing s with
  | nil => cases hl
  | cons n ls ih =>
    rcases List.mem_cons.mp hl with rfl | hl
    · exact (LunsMoved.foldl lunsMoved_failLun ls _).failed l (lunPop_lt hpop) (State.failLun_fails hpop)
    · exact ih hl (((lunsMoved_failLun s n).lunPop l).trans hpop)

/-! #### Page reads (R236, R237) and a root's list (R255) -/

theorem lunsMoved_eccCount (s : State) (rd : NandRead) : LunsMoved s (s.eccCount rd) := by
  have hkey : ∀ f ∈ [Reg.NB_ECC_STAGE2, Reg.NB_ECC_STAGE3, Reg.NB_ECC_UNCORR], ∀ g ∈ lunFailFlds, g.key ≠ f.key := by decide
  have hsat {u : State} {f : Fld} {n : Nat} (hf : f ∈ [Reg.NB_ECC_STAGE2, Reg.NB_ECC_STAGE3, Reg.NB_ECC_UNCORR]) : LunsMoved u (u.addSat f n) :=
    have hregs : RegsKept [f] u (u.addSat f n) := regsKept_addSat (List.mem_singleton_self f)
    ⟨rfl, rfl, rfl, rfl, rfl, rfl, hregs.mono (by intro g hg; rw [List.mem_singleton.mp hg]; simp at hf ⊢; tauto),
      fun l hl => by
        rw [lunFailed_congr (fun g hg => hregs g (by simpa using hkey f hf g hg)) hl]
        exact id⟩
  unfold State.eccCount
  dsimp only
  split
  · exact .refl s
  · exact ((hsat (by simp)).trans (hsat (by simp))).trans (hsat (by simp))

theorem lunsMoved_nand (s : State) {n : NandSt} (h : n.map = s.nand.map) : LunsMoved s { s with nand := n } :=
  ⟨rfl, rfl, rfl, rfl, rfl, h, .of_regs rfl, fun _ _ => id⟩

theorem lunsMoved_readPages (s : State) (reads : List (Nat × NandRead)) : LunsMoved s (s.readPages reads) := by
  refine LunsMoved.foldl (fun a x => ?_) reads s
  have hcount := lunsMoved_eccCount a x.2
  dsimp only
  generalize a.eccCount x.2 = u at hcount
  exact hcount.trans (lunsMoved_nand u rfl)

/-- The list of failed LUNs as two words' worth of bits are added to it. -/
theorem lunsMoved_addLuns (s : State) (a b : Nat) : LunsMoved s (s.setFs [(Reg.NB_LUNFAIL_FAILED 0, s.getF (Reg.NB_LUNFAIL_FAILED 0) ||| a),
    (Reg.NB_LUNFAIL_FAILED 1, s.getF (Reg.NB_LUNFAIL_FAILED 1) ||| b)]) := by
  generalize hsets : [(Reg.NB_LUNFAIL_FAILED 0, s.getF (Reg.NB_LUNFAIL_FAILED 0) ||| a),
    (Reg.NB_LUNFAIL_FAILED 1, s.getF (Reg.NB_LUNFAIL_FAILED 1) ||| b)] = sets
  have h0 : (s.setFs sets).getF (Reg.NB_LUNFAIL_FAILED 0) = (s.getF (Reg.NB_LUNFAIL_FAILED 0) ||| a) % 2 ^ 32 := by
    rw [← hsets]; exact s.getF_setFs_mid [] _ _ _ (by simp; decide)
  have h1 : (s.setFs sets).getF (Reg.NB_LUNFAIL_FAILED 1) = (s.getF (Reg.NB_LUNFAIL_FAILED 1) ||| b) % 2 ^ 32 := by
    rw [← hsets]; exact s.getF_setFs_mid [(Reg.NB_LUNFAIL_FAILED 0, _)] _ _ _ (by simp)
  have hregs : RegsKept lunFailFlds s (s.setFs sets) := regsKept_setFs (by rw [← hsets]; simp [lunFailFlds])
  refine ⟨rfl, rfl, rfl, rfl, rfl, rfl, hregs.mono (by intro f hf; simp [hf]), fun l hl hfailed => ?_⟩
  unfold State.lunFailed at hfailed ⊢
  have hword : l / 32 = 0 ∨ l / 32 = 1 := by omega
  have hlt : l % 32 < 32 := Nat.mod_lt _ (by decide)
  rcases hword with hw | hw <;> rw [hw] at hfailed ⊢
  · rw [h0, Nat.testBit_mod_two_pow, Nat.testBit_or, hfailed, Bool.true_or, Bool.and_true, decide_eq_true_eq]; exact hlt
  · rw [h1, Nat.testBit_mod_two_pow, Nat.testBit_or, hfailed, Bool.true_or, Bool.and_true, decide_eq_true_eq]; exact hlt

theorem lunsMoved_rootLuns (s : State) : LunsMoved s s.rootLuns := by
  unfold State.rootLuns
  split
  · exact lunsMoved_addLuns s _ _
  · exact .refl s

/-! ### DRAM_TRAINING_DONE (R163, R179, R498) -/

/-- The failure of a channel in a WAKE: the mode, the OTP row, the store and the DRAM stay, and no register moves but the event, the books of the
copies and the channel's own. -/
structure ChanDown (ch : Nat) (s t : State) : Prop where
  mode : t.mode = s.mode
  otp : t.otp = s.otp
  store : t.store = s.store
  cells : t.dram.cells = s.dram.cells
  trained : t.dram.trained = s.dram.trained
  regs : RegsKept (chanFlds ch) s t

theorem ChanDown.refl (ch : Nat) (s : State) : ChanDown ch s s := ⟨rfl, rfl, rfl, rfl, rfl, .refl _ s⟩

theorem chanDown_failChannel (s : State) (ch : Nat) : ChanDown ch s (s.failChannel ch) := by
  have hframe := s.failChannel_frame ch
  exact ⟨by rw [hframe], by rw [hframe], by rw [hframe], by rw [hframe], by rw [hframe], regsKept_failChannel s ch⟩

theorem State.failChannel_failed {s : State} {ch : Nat} (hch : ch < s.channels) : (s.failChannel ch).chanFailed ch = true := by
  by_cases halive : s.chanFailed ch = false
  · have hone := (State.failChannel_shows halive hch).1
    simp [State.chanFailed, State.getB, hone]
  · have hfailed : s.chanFailed ch = true := by simpa using halive
    rw [show s.failChannel ch = s from if_pos (by simp [hfailed])]
    exact hfailed

/-- A channel whose training failed is declared failed. -/
def State.trainFails (s : State) (ok0 ok1 : Bool) : State :=
  let t := if ok0 then s else s.failChannel 0
  if ok1 then t else t.failChannel 1

theorem State.trainFails_shows (s : State) (ok0 ok1 : Bool) : (s.trainFails ok0 ok1).mode = s.mode ∧ (s.trainFails ok0 ok1).store = s.store ∧
    (s.trainFails ok0 ok1).dram.cells = s.dram.cells ∧ (s.trainFails ok0 ok1).dram.trained = s.dram.trained ∧
    RegsKept (chanFlds 0 ++ chanFlds 1) s (s.trainFails ok0 ok1) ∧
    (ok0 = true → (s.trainFails ok0 ok1).getF Reg.DC_STATUS_CH0_STATE = s.getF Reg.DC_STATUS_CH0_STATE) ∧
    (ok0 = false → (s.trainFails ok0 ok1).chanFailed 0 = true) := by
  set t := if ok0 then s else s.failChannel 0 with ht
  have h0 : ChanDown 0 s t := by
    rw [ht]
    split
    · exact .refl 0 s
    · exact chanDown_failChannel s 0
  have h1 : ChanDown 1 t (s.trainFails ok0 ok1) := by
    unfold State.trainFails
    dsimp only
    rw [← ht]
    split
    · exact .refl 1 t
    · exact chanDown_failChannel t 1
  refine ⟨h1.mode.trans h0.mode, h1.store.trans h0.store, h1.cells.trans h0.cells, h1.trained.trans h0.trained,
    (h0.regs.mono (by intro f hf; simp [hf])).trans (h1.regs.mono (by intro f hf; simp [hf])), fun hok => ?_, fun hbad => ?_⟩
  · rw [h1.regs _ (by decide), ht, if_pos hok]
  · have hchannels : 0 < s.channels := by
      unfold State.channels
      split <;> decide
    unfold State.chanFailed
    rw [State.getB_congr (h1.regs _ (by decide)), ht, if_neg (by rw [hbad]; decide)]
    exact State.failChannel_failed hchannels

/-- The DRAM as the training leaves it, with what the pointers' pages say. -/
def State.trainRead (s : State) (reads : List (Nat × NandRead)) : State := (s.trained.rootLuns).readPages reads

/-- The channels go into service. -/
def State.channelsUp (s : State) : State :=
  let t := s.setFs [(Reg.DC_STATUS_HOLD, 0), (Reg.DC_STATUS_CH0_STATE, 2), (Reg.DC_STATUS_CH1_STATE, if s.channels = 2 then 2 else 0),
    (Reg.NB_STATUS_SCAN, b2n s.scanNeeded), (Reg.DT_WAKE_STEP, 7)]
  { t with
    freeCount := t.freeCount + 2
    dram := { t.dram with
      trained := true
      lfsr := [(0, (Config.lfsrSeed t.freeCount).toNat), (1, (Config.lfsrSeed (t.freeCount + 1)).toNat)] } }

theorem State.channelsUp_shows (s : State) : s.channelsUp.mode = s.mode ∧ s.channelsUp.store = s.store ∧ s.channelsUp.dram.cells = s.dram.cells ∧
    s.channelsUp.dram.trained = true ∧ s.channelsUp.getF Reg.DC_STATUS_HOLD = 0 ∧ s.channelsUp.getF Reg.DC_STATUS_CH0_STATE = 2 ∧
    s.channelsUp.getF Reg.DT_WAKE_STEP = 7 ∧ s.channelsUp.getF Reg.MD_STATUS_DRAM_HELD = s.getF Reg.MD_STATUS_DRAM_HELD := by
  unfold State.channelsUp
  dsimp only
  generalize (if s.channels = 2 then 2 else 0) = st
  generalize b2n s.scanNeeded = scan
  have hget {t u : State} (h : u.regs = t.regs) (f : Fld) : u.getF f = t.getF f := RegsKept.of_regs (l := []) h f (by simp)
  refine ⟨rfl, rfl, rfl, rfl, (hget (by rfl) _).trans ?_, (hget (by rfl) _).trans ?_, (hget (by rfl) _).trans ?_, (hget (by rfl) _).trans ?_⟩
  · exact s.getF_setFs_mid [] _ _ _ (by simp; decide)
  · exact s.getF_setFs_mid [(Reg.DC_STATUS_HOLD, 0)] _ _ _ (by simp; decide)
  · exact s.getF_setFs_mid [(Reg.DC_STATUS_HOLD, 0), (Reg.DC_STATUS_CH0_STATE, 2), (Reg.DC_STATUS_CH1_STATE, st), (Reg.NB_STATUS_SCAN, scan)] _ _ _
      (by simp)
  · exact State.getF_setFs_ne _ _ _ (by simp; decide)

/-- Step 7 has ended: audits that are still due are waited for. -/
def State.auditGate (s : State) : State := if s.auditWaits then s else s.setF Reg.DT_WAKE_STEP 9

theorem State.auditWaits_congr {s t : State} (haudit : t.getF Reg.ES_STATUS_AUDIT_BUSY = s.getF Reg.ES_STATUS_AUDIT_BUSY)
    (hok : t.getF Reg.ES_STATUS_STORE = s.getF Reg.ES_STATUS_STORE) (hmode : t.mode = s.mode) (hstore : t.store = s.store) :
    t.auditWaits = s.auditWaits := by
  simp only [State.auditWaits, State.storeOk, State.getB_congr haudit, hok, hmode, hstore]

theorem State.auditGate_shows {s : State} (h : s.getF Reg.DT_WAKE_STEP = 7) : s.auditGate.mode = s.mode ∧ s.auditGate.dram = s.dram ∧
    RegsKept [Reg.DT_WAKE_STEP] s s.auditGate ∧ s.auditGate.getF Reg.DT_WAKE_STEP = if s.auditGate.auditWaits then 7 else 9 := by
  unfold State.auditGate
  split
  · next hwaits => exact ⟨rfl, rfl, .refl _ s, h⟩
  · next hno =>
    have hsame : (s.setF Reg.DT_WAKE_STEP 9).auditWaits = s.auditWaits :=
      State.auditWaits_congr (State.getF_setF_ne _ _ (by decide)) (State.getF_setF_ne _ _ (by decide)) rfl rfl
    exact ⟨rfl, rfl, regsKept_setF (by simp), by rw [hsame, if_neg hno, State.getF_setF_self]; rfl⟩

/-- What a training leaves of the DRAM's contents (R179, R498). -/
theorem State.trainRead_shows (s : State) (reads : List (Nat × NandRead)) : (s.trainRead reads).mode = s.mode ∧
    (s.getB Reg.MD_STATUS_DRAM_HELD = true → s.dmkChanged = true →
      (s.trainRead reads).dram.cells = [] ∧ (s.trainRead reads).getF Reg.MD_STATUS_DRAM_HELD = 0) ∧
    (s.getB Reg.MD_STATUS_DRAM_HELD = false → (s.trainRead reads).dram.cells = []) ∧
    (s.getB Reg.MD_STATUS_DRAM_HELD = true → s.dmkChanged = false → (s.trainRead reads).dram.cells = s.dram.cells) := by
  have hmoved : LunsMoved s.trained (s.trainRead reads) := (lunsMoved_rootLuns s.trained).trans (lunsMoved_readPages s.trained.rootLuns reads)
  have hheld : (s.trainRead reads).getF Reg.MD_STATUS_DRAM_HELD = s.trained.getF Reg.MD_STATUS_DRAM_HELD := hmoved.regs _ (by decide)
  rw [hmoved.mode, hmoved.cells, hheld]
  have hdrop (h : (s.getB Reg.MD_STATUS_DRAM_HELD && !s.dmkChanged) = false) : s.trained = s.dropDram := if_neg (by rw [h]; decide)
  refine ⟨?_, fun h hchanged => ?_, fun h => ?_, fun h hsame => ?_⟩
  · unfold State.trained
    split <;> rfl
  · rw [hdrop (by rw [h, hchanged]; rfl)]
    exact ⟨rfl, s.getF_setFs_mid [] Reg.MD_STATUS_DRAM_HELD 0 [] (by simp)⟩
  · rw [hdrop (by rw [h]; rfl)]
    rfl
  · rw [show s.trained = s from if_pos (by rw [h, hsame]; rfl)]

section
variable {s : State} (hmode : s.mode = .wake) (hstep : s.getF Reg.DT_WAKE_STEP = 6) (hseq : s.getF Reg.SQ_STATUS_SEQ ≠ 4) (hlamp : s.lampUp = true)
  (hforce : s.dmk.inForce = true) (ok0 ok1 : Bool) (reads : List (Nat × NandRead))
include hmode hstep hseq hlamp hforce

theorem exec_dramTrainingDone : exec (.dramTrainingDone ok0 ok1 reads) s = .next
    ((s.trainRead reads).channelsUp.trainFails ok0 (ok1 || !decide ((s.trainRead reads).channels = 2))).auditGate :=
  congrArg Host.Outcome.next (if_pos (by simp [hmode, hstep, hseq, hlamp, hforce]))

theorem dramTrainingDone_completes :
    ∃ t, exec (.dramTrainingDone ok0 ok1 reads) s = .next t ∧ t.mode = .wake ∧ t.dram.trained = true ∧ t.getF Reg.DC_STATUS_HOLD = 0 ∧
      (ok0 = true → t.getF Reg.DC_STATUS_CH0_STATE = 2) ∧ (ok0 = false → t.chanFailed 0 = true) ∧
      t.getF Reg.DT_WAKE_STEP = (if t.auditWaits then 7 else 9) ∧
      (s.getB Reg.MD_STATUS_DRAM_HELD = true → s.dmkChanged = true → t.dram.cells = [] ∧ t.getF Reg.MD_STATUS_DRAM_HELD = 0) ∧
      (s.getB Reg.MD_STATUS_DRAM_HELD = false → t.dram.cells = []) ∧
      (s.getB Reg.MD_STATUS_DRAM_HELD = true → s.dmkChanged = false → t.dram.cells = s.dram.cells) := by
  have hexec := exec_dramTrainingDone hmode hstep hseq hlamp hforce ok0 ok1 reads
  obtain ⟨hreadMode, hread⟩ := s.trainRead_shows reads
  generalize s.trainRead reads = u at hexec hreadMode hread
  generalize (ok1 || !decide (u.channels = 2)) = ok at hexec
  obtain ⟨hupMode, -, hupCells, hupTrained, hupHold, hupCh0, hupStep, hupHeld⟩ := u.channelsUp_shows
  generalize u.channelsUp = v at hexec hupMode hupCells hupTrained hupHold hupCh0 hupStep hupHeld
  obtain ⟨hfMode, -, hfCells, hfTrained, hfRegs, hfGood, hfBad⟩ := v.trainFails_shows ok0 ok
  generalize v.trainFails ok0 ok = w at hexec hfMode hfCells hfTrained hfRegs hfGood hfBad
  obtain ⟨hgMode, hgDram, hgRegs, hgStep⟩ := State.auditGate_shows ((hfRegs _ (by decide)).trans hupStep)
  have hcells : w.auditGate.dram.cells = u.dram.cells := by rw [hgDram, hfCells, hupCells]
  have hheld : w.auditGate.getF Reg.MD_STATUS_DRAM_HELD = u.getF Reg.MD_STATUS_DRAM_HELD := by
    rw [hgRegs _ (by decide), hfRegs _ (by decide), hupHeld]
  refine ⟨_, hexec, ?_, ?_, ?_, fun hok => ?_, fun hbad => ?_, hgStep, ?_⟩
  · rw [hgMode, hfMode, hupMode, hreadMode, hmode]
  · rw [hgDram, hfTrained, hupTrained]
  · rw [hgRegs _ (by decide), hfRegs _ (by decide), hupHold]
  · rw [hgRegs _ (by decide), hfGood hok, hupCh0]
  · exact (State.getB_congr (hgRegs (Reg.DC_REPLAY_FAILED 0) (by decide))).trans (hfBad hbad)
  · rw [hcells, hheld]
    exact hread

end

/-! ### NAND_SCAN_DONE (R233, R263) -/

/-- The LUNs declared failed, and the pages read. -/
def State.scanRead (s : State) (l ces : List Nat) (reads : List (Nat × NandRead)) : State :=
  ((l ++ ces.flatMap fun c => [2 * c, 2 * c + 1]).foldl (fun (a : State) n => a.failLun n) s).readPages reads

theorem lunsMoved_scanRead (s : State) (l ces : List Nat) (reads : List (Nat × NandRead)) : LunsMoved s (s.scanRead l ces reads) :=
  (LunsMoved.foldl lunsMoved_failLun _ s).trans (lunsMoved_readPages _ reads)

theorem State.scanRead_fails {s : State} {l ces : List Nat} {reads : List (Nat × NandRead)} {n : Nat}
    (hn : n ∈ l ++ ces.flatMap fun c => [2 * c, 2 * c + 1]) (hpop : s.lunPop n = true) : (s.scanRead l ces reads).lunFailed n = true :=
  (lunsMoved_readPages _ reads).failed n (lunPop_lt hpop) (foldl_failLun_fails _ hn hpop)

/-- The pointers as the scan leaves them. -/
def State.scanEnd (s : State) : State :=
  if s.getB Reg.NB_STATUS_SCAN then (if s.scanForPtr then s.scanTakes.rootLuns else s.setF Reg.NB_STATUS_SCAN 0)
  else s.setB Reg.NB_STATUS_SCAN s.scanForPtr

theorem State.scanTakes_shows (s : State) : s.scanTakes.getF Reg.NB_STATUS_SCAN = 0 ∧
    s.scanTakes.getF Reg.NB_MANPTR_LOC = ((s.topManifest (fun _ => true)).map (·.1)).getD noLoc % 2 ^ 32 ∧
    s.scanTakes.getF Reg.NB_ROOTPTR_LOC = (s.topRoot.map (·.1)).getD noLoc % 2 ^ 32 ∧ (∀ f ∈ lunFailFlds, s.scanTakes.getF f = s.getF f) := by
  unfold State.scanTakes
  generalize ((s.topManifest (fun _ => true)).map (·.1)).getD noLoc = man
  generalize (s.topRoot.map (·.1)).getD noLoc = root
  refine ⟨?_, ?_, ?_, fun f hf => ?_⟩
  · exact s.getF_setFs_mid [] Reg.NB_STATUS_SCAN 0 [(Reg.NB_MANPTR_LOC, man), (Reg.NB_ROOTPTR_LOC, root)] (by simp; decide)
  · exact s.getF_setFs_mid [(Reg.NB_STATUS_SCAN, 0)] Reg.NB_MANPTR_LOC man [(Reg.NB_ROOTPTR_LOC, root)] (by simp; decide)
  · exact s.getF_setFs_mid [(Reg.NB_STATUS_SCAN, 0), (Reg.NB_MANPTR_LOC, man)] Reg.NB_ROOTPTR_LOC root [] (by simp)
  · refine State.getF_setFs_ne _ _ _ ?_
    simp only [List.mem_cons, List.not_mem_nil, or_false, forall_eq_or_imp, forall_eq]
    revert f
    decide

theorem State.scanEnd_shows (s : State) : s.scanEnd.mode = s.mode ∧ s.scanEnd.dram = s.dram ∧
    (∀ l < 64, s.lunFailed l = true → s.scanEnd.lunFailed l = true) ∧
    (s.getB Reg.NB_STATUS_SCAN = true → s.scanEnd.getF Reg.NB_STATUS_SCAN = 0) ∧
    (s.getB Reg.NB_STATUS_SCAN = false → s.scanEnd.getB Reg.NB_STATUS_SCAN = s.scanForPtr) ∧
    (s.getB Reg.NB_STATUS_SCAN = true → s.scanForPtr = true →
      s.scanEnd.getF Reg.NB_MANPTR_LOC = ((s.topManifest (fun _ => true)).map (·.1)).getD noLoc % 2 ^ 32 ∧
      s.scanEnd.getF Reg.NB_ROOTPTR_LOC = (s.topRoot.map (·.1)).getD noLoc % 2 ^ 32) := by
  have hset (v : Nat) : ∀ l < 64, s.lunFailed l = true → (s.setF Reg.NB_STATUS_SCAN v).lunFailed l = true := fun l hl h => by
    rwa [lunFailed_congr (fun f hf => State.getF_setF_ne s v (by revert f; decide)) hl]
  cases hscan : s.getB Reg.NB_STATUS_SCAN with
  | false =>
    have hend : s.scanEnd = s.setF Reg.NB_STATUS_SCAN (b2n s.scanForPtr) := if_neg (by rw [hscan]; decide)
    rw [hend]
    refine ⟨State.setF_mode _ _ _, rfl, hset _, fun h => Bool.noConfusion h, fun _ => ?_, fun h => Bool.noConfusion h⟩
    unfold State.getB
    rw [State.getF_setF_self]
    cases s.scanForPtr <;> rfl
  | true =>
    cases hptr : s.scanForPtr with
    | false =>
      have hend : s.scanEnd = s.setF Reg.NB_STATUS_SCAN 0 := (if_pos hscan).trans (if_neg (by rw [hptr]; decide))
      rw [hend]
      exact ⟨State.setF_mode _ _ _, rfl, hset 0, fun _ => State.getF_setF_self _ _ _, fun h => Bool.noConfusion h, fun _ h => Bool.noConfusion h⟩
    | true =>
      have hend : s.scanEnd = s.scanTakes.rootLuns := (if_pos hscan).trans (if_pos hptr)
      obtain ⟨htScan, htMan, htRoot, htFailed⟩ := s.scanTakes_shows
      have hluns := lunsMoved_rootLuns s.scanTakes
      have hdram : s.scanTakes.rootLuns.dram = s.scanTakes.dram := by
        unfold State.rootLuns
        split
        · exact State.setFs_dram _ _
        · rfl
      have hmode : s.scanTakes.mode = s.mode ∧ s.scanTakes.dram = s.dram := ⟨State.setFs_mode _ _, State.setFs_dram _ _⟩
      rw [hend, hluns.mode, hdram, hmode.1, hmode.2]
      refine ⟨rfl, rfl, fun l hl h => hluns.failed l hl ?_, fun _ => ?_, fun h => Bool.noConfusion h, fun _ _ => ⟨?_, ?_⟩⟩
      · rwa [lunFailed_congr htFailed hl]
      · rw [hluns.regs _ (by decide), htScan]
      · rw [hluns.regs _ (by decide), htMan]
      · rw [hluns.regs _ (by decide), htRoot]

section
variable {s : State} (hmode : s.mode = .wake) (hstep : 6 ≤ s.getF Reg.DT_WAKE_STEP) (hlamp : s.lampUp = true) (hforce : s.dmk.inForce = true)
  (l ces : List Nat) (reads : List (Nat × NandRead))
include hmode hstep hlamp hforce

theorem exec_nandScanDone : exec (.nandScanDone l ces reads) s = .next ((s.scanRead l ces reads).scanEnd.alertScan s.crossed) :=
  congrArg Host.Outcome.next (if_pos (by simp [hmode, hstep, hlamp, hforce]))

theorem nandScanDone_completes :
    ∃ t, exec (.nandScanDone l ces reads) s = .next t ∧ t.mode = .wake ∧ t.dram.cells = s.dram.cells ∧
      (s.getB Reg.NB_STATUS_SCAN = true → t.getF Reg.NB_STATUS_SCAN = 0) ∧
      (l = [] → ces = [] → reads = [] → s.getB Reg.NB_STATUS_SCAN = false → t.getB Reg.NB_STATUS_SCAN = s.scanForPtr) ∧
      (∀ n ∈ l, s.lunPop n = true → t.lunFailed n = true) ∧ (∀ c ∈ ces, s.lunPop (2 * c) = true → t.lunFailed (2 * c) = true) ∧
      (l = [] → ces = [] → reads = [] → s.getB Reg.NB_STATUS_SCAN = true → s.scanForPtr = true →
        t.getF Reg.NB_MANPTR_LOC = ((s.topManifest (fun _ => true)).map (·.1)).getD noLoc % 2 ^ 32 ∧
        t.getF Reg.NB_ROOTPTR_LOC = (s.topRoot.map (·.1)).getD noLoc % 2 ^ 32) := by
  have hexec := exec_nandScanDone hmode hstep hlamp hforce l ces reads
  have hread := lunsMoved_scanRead s l ces reads
  have hfails (n : Nat) (hn : n ∈ l ++ ces.flatMap fun c => [2 * c, 2 * c + 1]) (hpop : s.lunPop n = true) :=
    State.scanRead_fails (reads := reads) hn hpop
  have hnone : l = [] → ces = [] → reads = [] → s.scanRead l ces reads = s := by
    rintro rfl rfl rfl
    rfl
  generalize s.scanRead l ces reads = u at hexec hread hfails hnone
  obtain ⟨heMode, heDram, heFailed, heScan, heNext, hePtr⟩ := u.scanEnd_shows
  have hscan : u.getB Reg.NB_STATUS_SCAN = s.getB Reg.NB_STATUS_SCAN := State.getB_congr (hread.regs _ (by decide))
  have hframe := u.scanEnd.alertScan_frame s.crossed
  have hregs {f : Fld} (hf : ∀ g ∈ evFlds, f.key ≠ g.key) := regsKept_alertScan u.scanEnd s.crossed f hf
  have hfailed (n : Nat) (hn : n ∈ l ++ ces.flatMap fun c => [2 * c, 2 * c + 1]) (hpop : s.lunPop n = true) :
      (u.scanEnd.alertScan s.crossed).lunFailed n = true := by
    rw [lunFailed_congr (fun f hf => hregs (by revert f; decide)) (lunPop_lt hpop)]
    exact heFailed n (lunPop_lt hpop) (hfails n hn hpop)
  refine ⟨_, hexec, ?_, ?_, fun h => ?_, fun hl hc hr h => ?_, fun n hn => hfailed n (by simp [hn]), fun c hc => hfailed (2 * c) ?_,
    fun hl hc hr h hptr => ?_⟩
  · rw [hframe, heMode, hread.mode, hmode]
  · rw [hframe, heDram, hread.cells]
  · rw [hregs (by decide), heScan (hscan.trans h)]
  · rw [State.getB_congr (hregs (by decide)), heNext (hscan.trans h), hnone hl hc hr]
  · exact List.mem_append_right _ (List.mem_flatMap.mpr ⟨c, hc, by simp⟩)
  · rw [hregs (by decide), hregs (by decide), ← hnone hl hc hr]
    exact hePtr (hscan.trans h) (by rw [hnone hl hc hr]; exact hptr)

end

/-! ### The statement -/

/-- Settles O28: the daymark read with both copies bad and with an unfit copy ends in LOCKOUT, and with a good copy 0 it puts that copy in force;
the training and the scan leave the mode, and of the DRAM what their rules say. -/
theorem wakeSteps : Obligations.WakeSteps :=
  ⟨fun _ _ _ sfdp x4 hready h0 h1 => daymarkRead_fails hready sfdp x4 h0 h1,
    fun _ _ sfdp x4 hready h0 hfit => daymarkRead_unfit hready sfdp x4 h0 hfit,
    fun _ _ sfdp x4 hready h0 hfit hbl => daymarkRead_takes hready sfdp x4 h0 hfit hbl,
    fun _ ok0 ok1 reads hmode hstep hseq hlamp hforce => dramTrainingDone_completes hmode hstep hseq hlamp hforce ok0 ok1 reads,
    fun _ l ces reads hmode hstep hlamp hforce => nandScanDone_completes hmode hstep hlamp hforce l ces reads⟩

/-! ### The restore's own steps (R279, R283, R285, R287, R289) -/

/-- A trigger before media ready does nothing, and a later one in RESTORE burrows: the restore's work stays as it is. -/
theorem State.trigger_rst {s : State} (hmode : s.mode = .restore) (c : Cause) : (s.trigger c).rst = s.rst := by
  have hbridge := s.openBridge_frame c
  have hstart := s.startBurrow_frame c
  simp only [State.trigger, hmode]
  split
  · rfl
  · split
    · rfl
    · split
      · rfl
      · split
        · split
          · rfl
          · rw [hbridge]
        · rw [hstart]

/-- Going live in RESTORE leaves the restore's work alone. -/
theorem State.goLive_rst {s : State} (hmode : s.mode = .restore) : s.goLive.rst = s.rst := by
  have hserving := still_liveServing (s := s)
  rw [State.goLive_eq]
  generalize s.liveBooks.liveCredits.liveSolo = u at hserving
  have hu : u.rst = s.rst := hserving.rst.trans rfl
  unfold State.pendStop
  split
  · exact (State.trigger_rst (s := (u.setF Reg.TH_STATUS_PEND 0).recordLock 6 0) (hserving.mode.trans hmode) .therm).trans hu
  · exact hu

/-- Early service goes on with the fetched list pending, the open run recorded. -/
def State.earlyLoaded (s : State) : State := ({ s with rst := { s.rst with pend := s.rst.todo } } : State).jNow (.runOpen s.nand.epoch 0)

/-- The selection of a restore after the segment pages were read. -/
def State.selected (s : State) (bad : List Nat) : State := (({ s with rst := { s.rst with badSegs := bad } } : State).readPages []).applySel

theorem exec_manifestLoad {s : State} (bad : List Nat) (hmode : s.mode = .restore) (hdecided : s.rst.decided = true) (hloaded : s.rst.loaded = false)
    (hkeep : s.keep.up = true) (hlamp : s.lampUp = true) (hseq : s.getF Reg.SQ_STATUS_SEQ ≠ 4)
    (hform : s.getF Reg.MD_STATUS_RSTR_FORM = 2 ∨ s.getF Reg.MD_STATUS_RSTR_FORM = 3) :
    exec (.manifestLoad bad) s = .next (if (s.selected bad).getF Reg.MD_STATUS_RSTR_FORM = 3 then (s.selected bad).earlyLoaded.goLive
      else s.selected bad) :=
  congrArg Host.Outcome.next (if_pos (by simp [hmode, hdecided, hloaded, hkeep, hlamp, hseq, hform]))

theorem manifestLoad_loads {s : State} (bad : List Nat) (hmode : s.mode = .restore) (hdecided : s.rst.decided = true)
    (hloaded : s.rst.loaded = false) (hkeep : s.keep.up = true) (hlamp : s.lampUp = true) (hseq : s.getF Reg.SQ_STATUS_SEQ ≠ 4)
    (hform : s.getF Reg.MD_STATUS_RSTR_FORM = 2 ∨ s.getF Reg.MD_STATUS_RSTR_FORM = 3) :
    ∃ t, exec (.manifestLoad bad) s = .next t ∧ t.rst.loaded = true ∧ t.dram.cells = [] := by
  have hexec := exec_manifestLoad bad hmode hdecided hloaded hkeep hlamp hseq hform
  have hsel : (s.selected bad).mode = .restore ∧ (s.selected bad).rst.loaded = true ∧ (s.selected bad).dram.cells = [] := ⟨hmode, rfl, rfl⟩
  generalize s.selected bad = u at hexec hsel
  obtain ⟨humode, huloaded, hucells⟩ := hsel
  refine ⟨_, hexec, ?_, ?_⟩
  · split
    · obtain ⟨hframe, -⟩ := journalKept_jNow { u with rst := { u.rst with pend := u.rst.todo } } (.runOpen u.nand.epoch 0)
      have hearly : u.earlyLoaded.mode = u.mode ∧ u.earlyLoaded.rst.loaded = u.rst.loaded := by
        unfold State.earlyLoaded
        rw [hframe]
        exact ⟨rfl, rfl⟩
      rw [State.goLive_rst (hearly.1.trans humode), hearly.2, huloaded]
    · exact huloaded
  · split
    · obtain ⟨hframe, -⟩ := journalKept_jNow { u with rst := { u.rst with pend := u.rst.todo } } (.runOpen u.nand.epoch 0)
      rw [u.earlyLoaded.goLive_kept.2.2, State.earlyLoaded, hframe]
      exact hucells
    · exact hucells

/-! #### A granule is fetched or verified -/

/-- The mode and the list of what is to do stay. -/
def TodoKept (s t : State) : Prop := t.mode = s.mode ∧ t.rst.todo = s.rst.todo

theorem TodoKept.trans {s t u : State} (h : TodoKept s t) (h' : TodoKept t u) : TodoKept s u := ⟨h'.1.trans h.1, h'.2.trans h.2⟩

theorem todoKept_eccCount {s : State} {rd : NandRead} : TodoKept s (s.eccCount rd) := by
  unfold State.eccCount
  dsimp only
  split
  · exact ⟨rfl, rfl⟩
  · exact ⟨rfl, rfl⟩

theorem todoKept_fillGran {s : State} {g loc : Nat} {p : NPage} {bad : List Nat} : TodoKept s (s.fillGran g loc p bad) := ⟨rfl, rfl⟩

theorem todoKept_setLost {s : State} {g : Nat} : TodoKept s (s.setLost g) := ⟨rfl, rfl⟩

theorem todoKept_fetch {s : State} {g loc : Nat} {rd rd2 : NandRead} : TodoKept s (s.fetch g loc rd rd2) := by
  unfold State.fetch
  dsimp only
  split
  · exact todoKept_eccCount.trans todoKept_fillGran
  · split
    · split
      · exact (todoKept_eccCount.trans todoKept_eccCount).trans todoKept_setLost
      · exact (todoKept_eccCount.trans todoKept_eccCount).trans todoKept_fillGran
    · exact todoKept_eccCount.trans todoKept_setLost

/-- A granule that is done leaves the list. -/
theorem State.granDone_shows (s : State) (g : Nat) : (s.granDone g).mode = s.mode ∧ (s.granDone g).rst.todo = sdel g s.rst.todo := by
  unfold State.granDone
  extract_lets was r t
  have hserved : Still t t.askReads.serveReads.ledgerGo := (still_askReads.trans still_serveReads).trans still_ledgerGo
  split
  · exact ⟨hserved.mode.trans rfl, by rw [hserved.rst]⟩
  · exact ⟨rfl, rfl⟩

theorem granuleFetchDone_ends {s : State} {g : Nat} (rd : NandRead) (hrest : s.restoring = true) (hform : s.getF Reg.MD_STATUS_RSTR_FORM ≠ 1)
    (hturn : s.fetchTurn g = true) :
    ∃ t, exec (.granuleFetchDone g rd) s = .next t ∧ t.rst.todo = sdel g s.rst.todo ∧ t.mode = s.mode := by
  have hexec : exec (.granuleFetchDone g rd) s = .next (((s.wentAhead g).fetch g (s.mapOf g) rd NandRead.clean).granDone g) :=
    congrArg Host.Outcome.next (if_pos (by simp [hrest, hform, hturn]))
  have hahead : TodoKept s (s.wentAhead g) := ⟨rfl, rfl⟩
  have hfetch := hahead.trans (todoKept_fetch (g := g) (loc := s.mapOf g) (rd := rd) (rd2 := NandRead.clean))
  obtain ⟨hmode, htodo⟩ := ((s.wentAhead g).fetch g (s.mapOf g) rd NandRead.clean).granDone_shows g
  exact ⟨_, hexec, by rw [htodo, hfetch.2], hmode.trans hfetch.1⟩

theorem verifyGranule_matches {s : State} {g : Nat} (rd : NandRead) (hrest : s.restoring = true) (hform : s.getF Reg.MD_STATUS_RSTR_FORM = 1)
    (hg : g < s.nUser) (hlost : s.ledgerOf g ≠ .lost) (hchan : s.chanFailed (s.chanOf g) = false) (hpend : s.rst.pend.contains g = false)
    (hseal : dataCrc (granCells s.image g (s.granPoison g)) = s.sealOf g) :
    ∃ t, exec (.verifyGranule g [] false rd) s = .next t ∧ t.rst.todo = sdel g s.rst.todo ∧ t.dram = s.dram := by
  have hexec : exec (.verifyGranule g [] false rd) s = .next (s.granDone g) := by
    refine congrArg Host.Outcome.next ((if_pos (by simp [hrest, hform, hg, hlost, hchan])).trans (if_pos ?_))
    simp [hseal]
  refine ⟨_, hexec, (s.granDone_shows g).2, ?_⟩
  unfold State.granDone
  dsimp only
  rw [hpend]
  rfl

/-! #### The restore's end -/

/-- RUN entered, from RUN itself after an early service that an abandon had returned there. -/
theorem State.toRun_shows (s : State) : s.toRun.mode = .run ∧ s.toRun.mediaReady = true := by
  have hlive (u : State) (hu : u.mode = .run) : u.goLive.mode = .run ∧ u.goLive.mediaReady = true := by
    have hstill := still_goLive hu
    refine ⟨hstill.mode.trans hu, ?_⟩
    rw [State.mediaReady, State.getB, hstill.getF _ (by decide), u.getF_mediaShown]
    rfl
  unfold State.toRun
  refine hlive _ ?_
  split
  · next hrun => exact hrun
  · exact (show (s.enterMode .run .none).mode = .run by rw [State.enterMode_frame])

theorem restoreComplete_runs {s : State} (hrest : s.restoring = true) (hkeep : s.keep.up = true) (htodo : s.rst.todo = [])
    (htrig : s.bur.trig = false) : ∃ t, exec .restoreComplete s = .next t ∧ t.mode = .run ∧ t.mediaReady = true :=
  ⟨_, congrArg Host.Outcome.next (if_pos (by simp [hrest, hkeep, htodo, htrig])), (s.closeRestore []).toRun_shows⟩

theorem restoreDecision_decides {s : State} (hmay : s.mayDecide = true) : ∃ t, exec .restoreDecision s = .next t ∧ t.rst.decided = true ∧
    t.mode = (if s.sanResume.deferCommit.imageNow then .restore else .run) := by
  cases himage : s.sanResume.deferCommit.imageNow with
  | false =>
    obtain ⟨t, hexec, hmode, -, -, -, -, hdecided, -⟩ := restoreDecision_empty hmay himage
    exact ⟨t, hexec, hdecided, hmode⟩
  | true =>
    cases hheld : s.sanResume.deferCommit.heldNow with
    | false =>
      obtain ⟨t, hexec, hmode, -, -, -, hdecided⟩ := restoreDecision_fetches hmay himage hheld
      exact ⟨t, hexec, hdecided, hmode⟩
    | true =>
      obtain ⟨t, hexec, hmode, -, -, -, hdecided, -⟩ := restoreDecision_held hmay himage hheld
      exact ⟨t, hexec, hdecided, hmode⟩

/-! ### What the back end's bookkeeping leaves of the flash (R198, R245 to R249, R257) -/

/-- The registers that the back end's bookkeeping sets. -/
def stockFlds : List Fld := evFlds ++ [Reg.NB_STATUS_EA_MODE, Reg.NB_STATUS_RSV_SHORT, Reg.EF_OPS_SUSPENDS]

/-- Contexts and blocks may be taken, opened and queued: the pages, the granule map, the relocations, the changed segments and the erase counts stay,
and no checkpoint begins. -/
structure StockKept (s t : State) : Prop where
  pages : t.nand.pages = s.nand.pages
  map : t.nand.map = s.nand.map
  relocQ : t.nand.relocQ = s.nand.relocQ
  changed : t.nand.changed = s.nand.changed
  ckpt : s.nand.ckpt = none → t.nand.ckpt = none
  erases : ∀ b, (t.blkOf b).erases = (s.blkOf b).erases
  regs : RegsKept stockFlds s t

theorem StockKept.refl (s : State) : StockKept s s := ⟨rfl, rfl, rfl, rfl, id, fun _ => rfl, .refl _ s⟩

theorem StockKept.trans {s t u : State} (h : StockKept s t) (h' : StockKept t u) : StockKept s u :=
  ⟨h'.pages.trans h.pages, h'.map.trans h.map, h'.relocQ.trans h.relocQ, h'.changed.trans h.changed, h'.ckpt ∘ h.ckpt,
    fun b => (h'.erases b).trans (h.erases b), h.regs.trans h'.regs⟩

theorem StockKept.foldl {α : Type} {f : State → α → State} (h : ∀ a x, StockKept a (f a x)) (l : List α) (s : State) : StockKept s (l.foldl f s) := by
  induction l generalizing s with
  | nil => exact .refl s
  | cons x l ih => exact (h s x).trans (ih _)

theorem StockKept.ite {s t u : State} {p : Prop} [Decidable p] (ht : StockKept s t) (hu : StockKept s u) : StockKept s (if p then t else u) := by
  split
  · exact ht
  · exact hu

/-- A step that leaves the blocks alone. -/
theorem StockKept.of_blocks {s t : State} (hblocks : t.nand.blocks = s.nand.blocks := by rfl) (hregs : t.regs = s.regs := by rfl)
    (hpages : t.nand.pages = s.nand.pages := by rfl) (hmap : t.nand.map = s.nand.map := by rfl) (hreloc : t.nand.relocQ = s.nand.relocQ := by rfl)
    (hchanged : t.nand.changed = s.nand.changed := by rfl) (hckpt : t.nand.ckpt = s.nand.ckpt := by rfl) : StockKept s t :=
  ⟨hpages, hmap, hreloc, hchanged, fun h => hckpt.trans h, fun b => by simp only [State.blkOf, hblocks], .of_regs hregs⟩

/-- A step that sets one block and keeps its erase count. -/
theorem StockKept.of_block {s t : State} {b : Nat} {x : Blk} (hx : x.erases = (s.blkOf b).erases)
    (hblocks : t.nand.blocks = mset b x s.nand.blocks := by rfl) (hregs : t.regs = s.regs := by rfl)
    (hpages : t.nand.pages = s.nand.pages := by rfl) (hmap : t.nand.map = s.nand.map := by rfl) (hreloc : t.nand.relocQ = s.nand.relocQ := by rfl)
    (hchanged : t.nand.changed = s.nand.changed := by rfl) (hckpt : t.nand.ckpt = s.nand.ckpt := by rfl) : StockKept s t := by
  refine ⟨hpages, hmap, hreloc, hchanged, fun h => hckpt.trans h, fun c => ?_, .of_regs hregs⟩
  by_cases hc : c = b
  · subst hc
    simp only [State.blkOf, hblocks, mget_mset_self]
    exact hx
  · simp only [State.blkOf, hblocks, mget_mset_ne _ _ _ hc]

theorem stockKept_setF {s : State} {f : Fld} {v : Nat} (h : f ∈ stockFlds) : StockKept s (s.setF f v) :=
  ⟨rfl, rfl, rfl, rfl, id, fun _ => rfl, regsKept_setF h⟩

section
variable {s : State}

theorem stockKept_setCtx {n : Nat} {c : Ctx} : StockKept s (s.setCtx n c) := .of_blocks

theorem stockKept_takeLoc {loc : Nat} : StockKept s (s.takeLoc loc) := .of_block (b := locBlock loc) (x := (s.blkOf (locBlock loc)).take s.ppb) rfl

theorem stockKept_armCtx {t : State} {n : Nat} (h : s.armCtx n = some t) : StockKept s t := by
  unfold State.armCtx at h
  split at h
  · cases h
  · obtain ⟨loc, -, rfl⟩ := Option.map_eq_some_iff.mp h
    exact stockKept_takeLoc.trans stockKept_setCtx

theorem stockKept_takeCtx {t : State} {n : Nat} (h : s.takeCtx = some (n, t)) : StockKept s t := by
  unfold State.takeCtx at h
  split at h
  · cases h
    exact .refl s
  · obtain ⟨m, -, h⟩ := Option.bind_eq_some_iff.mp h
    obtain ⟨u, hu, h⟩ := Option.bind_eq_some_iff.mp h
    split at h
    · cases h
    · cases h
      exact stockKept_armCtx hu

theorem stockKept_askCtx (n : Nat) : StockKept s (s.askCtx n) := .ite (.refl s) .of_blocks

theorem stockKept_armCopy {t : State} {kind : CopyKind} {g age : Nat} (h : s.armCopy kind g age = some t) : StockKept s t := by
  unfold State.armCopy at h
  split at h
  · cases h
  · obtain ⟨⟨n, u⟩, htake, rfl⟩ := Option.map_eq_some_iff.mp h
    exact (stockKept_takeCtx htake).trans (StockKept.trans .of_blocks (stockKept_askCtx n))

theorem stockKept_armOneRefresh (g : Nat) : StockKept s (s.armOneRefresh g) := by
  unfold State.armOneRefresh
  split
  · exact .refl s
  · split
    · next h => exact (stockKept_armCopy h).trans .of_blocks
    · exact .refl s

theorem stockKept_armRefresh : StockKept s s.armRefresh := .ite (.foldl (fun _ => stockKept_armOneRefresh) _ s) (.refl s)

theorem stockKept_wtTry : StockKept s s.wtTry := by
  unfold State.wtTry
  split
  · split
    · split
      · next n t htake => exact (stockKept_takeCtx htake).trans (StockKept.trans .of_blocks (stockKept_askCtx n))
      · exact .refl s
    · exact .refl s
  · exact .refl s

theorem stockKept_openMeta {want : Nat} (n : Nat) : StockKept s (s.openMeta want n) := by
  induction n generalizing s with
  | zero => exact .refl s
  | succ n ih =>
    unfold State.openMeta
    split
    · exact .refl s
    · split
      · next b _ =>
        exact (StockKept.of_block (b := b) (x := { s.blkOf b with st := .metaBlk, next := 0, metaUse := true }) rfl).trans ih
      · exact .refl s

theorem stockKept_keepMeta : StockKept s s.keepMeta := .ite (stockKept_openMeta 64) (.refl s)

theorem stockKept_reserveBack : StockKept s s.reserveBack := .ite (stockKept_setF (by simp [stockFlds])) (.refl s)

theorem stockKept_eraseOne (b : Nat) : StockKept s (s.eraseOne b) := .ite .of_blocks (.refl s)

theorem stockKept_eraseGo : StockKept s s.eraseGo :=
  .ite (.refl s) ((StockKept.foldl (fun _ => stockKept_eraseOne) _ s).trans (.foldl (fun a b => .ite (stockKept_eraseOne b) (.refl a)) _ _))

theorem stockKept_eaCheck : StockKept s s.eaCheck := stockKept_eraseGo.trans (stockKept_setF (by simp [stockFlds]))

theorem stockKept_alertScan (before : Nat) : StockKept s (s.alertScan before) := by
  have hframe := s.alertScan_frame before
  have hnand : (s.alertScan before).nand = s.nand := by rw [hframe]
  refine ⟨by rw [hnand], by rw [hnand], by rw [hnand], by rw [hnand], fun h => by rw [hnand, h], fun b => ?_, (regsKept_alertScan s before).mono ?_⟩
  · simp only [State.blkOf, hnand]
  · intro f hf; simp [stockFlds, hf]

/-- Blocks that change their state alone keep their erase counts. -/
theorem erases_map_st (l : List (Nat × Blk)) (p : Nat × Blk → Bool) (st : BlkSt) (d : Blk) (b : Nat) :
    (mget d (l.map fun x => if p x then (x.1, { x.2 with st := st }) else x) b).erases = (mget d l b).erases := by
  induction l with
  | nil => rfl
  | cons x l ih =>
    obtain ⟨k, v⟩ := x
    by_cases hk : k = b <;> by_cases hp : p (k, v) = true <;> simp_all [mget, mfind]

theorem stockKept_retireBad : StockKept s s.retireBad := by
  refine .ite ⟨rfl, rfl, rfl, rfl, id, fun b => ?_, .of_regs rfl⟩ (.refl s)
  exact erases_map_st s.nand.blocks s.deadBlk .bad _ b

theorem stockKept_takeMeta {loc : Nat} : StockKept s (s.takeMeta loc) :=
  .ite (.of_block (b := locBlock loc) (x := { s.blkOf (locBlock loc) with next := (s.blkOf (locBlock loc)).next + 1 }) rfl) stockKept_takeLoc

theorem stockKept_giveBack {n : Nat} : StockKept s (s.giveBack n) :=
  .ite (.of_block (b := locBlock (s.ctxOf n).page)
    (x := { s.blkOf (locBlock (s.ctxOf n).page) with next := (s.blkOf (locBlock (s.ctxOf n).page)).next - 1, st := .opened }) rfl) (.refl s)

theorem stockKept_metaTake {n loc : Nat} : StockKept s (s.metaTake n loc) := (StockKept.ite (.refl s) stockKept_giveBack).trans stockKept_takeMeta

theorem stockKept_metaStart (l : Nat) : StockKept s (s.metaStart l) := by
  unfold State.metaStart
  split
  · next k loc hckpt _ =>
    split
    · next kind i rest _ =>
      split
      · exact .refl s
      · split
        · exact .refl s
        · next n _ =>
          have htake : StockKept s (s.metaTake n loc) := stockKept_metaTake
          dsimp only
          generalize s.metaTake n loc = u at htake ⊢
          exact ⟨htake.pages, htake.map, htake.relocQ, htake.changed, fun h => (by rw [hckpt] at h; cases h), htake.erases,
            htake.regs.trans (.of_regs rfl)⟩
    · exact .refl s
  · exact .refl s

theorem stockKept_rootWave : StockKept s s.rootWave := by
  unfold State.rootWave
  split
  · next k hckpt =>
    refine .ite ⟨rfl, rfl, rfl, rfl, fun h => ?_, fun _ => rfl, .of_regs rfl⟩ (.refl s)
    rw [hckpt] at h
    cases h
  · exact .refl s

theorem stockKept_metaWave : StockKept s s.metaWave := .ite (stockKept_rootWave.trans (.foldl (fun _ => stockKept_metaStart) _ _)) (.refl s)

theorem stockKept_jNow {p : JPay} : StockKept s (s.jNow p) := by
  obtain ⟨hframe, hregs⟩ := journalKept_jNow s p
  have hnand : (s.jNow p).nand = s.nand := by rw [hframe]
  refine ⟨by rw [hnand], by rw [hnand], by rw [hnand], by rw [hnand], fun h => by rw [hnand, h], fun b => ?_, hregs.mono ?_⟩
  · simp only [State.blkOf, hnand]
  · intro f hf; simp [stockFlds] at hf ⊢; tauto

end

/-! ### The NAND back end's upkeep (R236, R247 to R250, R254) -/

theorem stockKept_pagesCame {s : State} : StockKept s s.pagesCame :=
  .ite ((((stockKept_keepMeta.trans stockKept_reserveBack).trans stockKept_eaCheck).trans stockKept_wtTry).trans stockKept_armRefresh)
    stockKept_reserveBack

section
variable {s : State} {b : Nat} (herasing : s.nand.erasing.contains b = true) (hup : s.lunUp (blockLun b) = true)
include herasing hup

theorem eraseDone_erases : ∃ t, exec (.eraseDone b true) s = .next t ∧ (t.blkOf b).erases = (s.blkOf b).erases + 1 ∧
    (∀ p ∈ t.nand.pages, locBlock p.1 ≠ b) := by
  have hexec : exec (.eraseDone b true) s = .next ((s.erased b).pagesCame.alertScan s.crossed) :=
    congrArg Host.Outcome.next (if_pos (by simp only [herasing, hup, Bool.and_self]))
  have hkept : StockKept (s.erased b) ((s.erased b).pagesCame.alertScan s.crossed) := stockKept_pagesCame.trans (stockKept_alertScan _)
  refine ⟨_, hexec, ?_, fun p hp => ?_⟩
  · rw [hkept.erases, State.blkOf]
    exact congrArg Blk.erases (mget_mset_self _ _ _ _)
  · rw [hkept.pages] at hp
    simpa using (List.mem_filter.mp hp).2

/-- The erases of a failed LUN end. -/
def State.erasesEnd (s : State) (l : Nat) : State :=
  { s with nand := { s.nand with
    eraseQ := s.nand.eraseQ.filter (fun b => blockLun b != l)
    erasing := s.nand.erasing.filter (fun b => blockLun b != l) } }

theorem eraseTimeout_fails : ∃ t, exec (.eraseTimeout b) s = .next t ∧ t.lunFailed (blockLun b) = true ∧ t.nand.map = s.nand.map := by
  have hpop : s.lunPop (blockLun b) = true := by
    unfold State.lunUp at hup
    simp only [Bool.and_eq_true] at hup
    exact hup.1.1
  have hexec : exec (.eraseTimeout b) s = .next (((s.failLun (blockLun b)).erasesEnd (blockLun b)).alertScan s.crossed) :=
    congrArg Host.Outcome.next (if_pos (by simp only [herasing, hup, Bool.and_self]))
  have hmoved := lunsMoved_failLun s (blockLun b)
  have hfailed := State.failLun_fails hpop
  generalize s.failLun (blockLun b) = u at hexec hmoved hfailed
  have hscan := stockKept_alertScan (s := u.erasesEnd (blockLun b)) s.crossed
  refine ⟨_, hexec, ?_, ?_⟩
  · rw [lunFailed_congr (fun f hf => hscan.regs f (by revert f; decide)) (lunPop_lt hpop)]
    exact hfailed
  · rw [hscan.map]
    exact hmoved.map

end

theorem State.eccCount_frame (s : State) (rd : NandRead) : s.eccCount rd = { s with regs := (s.eccCount rd).regs } := by
  unfold State.eccCount
  dsimp only
  split <;> rfl

theorem relocate_drops {s : State} {g src : Nat} {rest : List (Nat × Nat)} (rd : NandRead) (hrun : s.mode = .run) (hlamp : s.lampUp = true)
    (hfence : s.bur.fenced = false) (hqueue : s.nand.relocQ = (g, src) :: rest) (hdrop : s.mapOf g ≠ src ∨ pageClass rd ≠ .lines []) :
    ∃ t, exec (.relocate rd) s = .next t ∧ t.nand.relocQ = rest ∧ t.nand.map = s.nand.map := by
  have hsome : s.nand.relocQ.isEmpty = false := by rw [hqueue]; rfl
  have hexec : exec (.relocate rd) s = .next ((s.eccCount rd).relocNext rd) := by
    refine congrArg Host.Outcome.next ((if_pos (by simp [hrun, hlamp, hfence])).trans ?_)
    simp only [hsome, Bool.false_eq_true, if_false]
  have hframe := s.eccCount_frame rd
  generalize s.eccCount rd = u at hexec hframe
  have hnand : u.nand = s.nand := by rw [hframe]
  have hnext : u.relocNext rd = if u.mapOf g != src then { u with nand := { u.nand with relocQ := rest } }
      else if pageClass rd != .lines [] then
        ({ u with nand := { u.nand with relocQ := rest, refreshQ := sadd g u.nand.refreshQ } } : State).armRefresh
      else (({ u with nand := { u.nand with relocQ := rest } } : State).armReloc g src (u.pageVer src)).getD u := by
    unfold State.relocNext
    rw [hnand, hqueue]
  have hmap : u.mapOf g = s.mapOf g := State.mapOf_congr hnand g
  rw [hnext, hmap] at hexec
  refine ⟨_, hexec, ?_⟩
  by_cases hmoved : s.mapOf g = src
  · have hclass : pageClass rd ≠ .lines [] := hdrop.resolve_left (not_not_intro hmoved)
    rw [if_neg (by simp [hmoved]), if_pos (by simpa using hclass)]
    have hkept := stockKept_armRefresh (s := { u with nand := { u.nand with relocQ := rest, refreshQ := sadd g u.nand.refreshQ } })
    exact ⟨hkept.relocQ, by rw [hkept.map, ← hnand]⟩
  · rw [if_pos (by simpa using hmoved)]
    exact ⟨rfl, by rw [← hnand]⟩

theorem nandPatrol_lists {s : State} {g : Nat} {rd : NandRead} (hrun : s.mode = .run) (hlamp : s.lampUp = true) (hfence : s.bur.fenced = false)
    (hdays : s.getF Reg.NB_POLICY_PATROL_D ≠ 0) (hpage : isPage (s.mapOf g) = true) (hup : s.lunUp (locLun (s.mapOf g)) = true)
    (hclass : pageClass rd = .lines []) (hstage : 2 ≤ s.readStage rd) :
    ∃ t, exec (.nandPatrol g rd) s = .next t ∧ (g, s.mapOf g) ∈ t.nand.relocQ ∧ t.nand.map = s.nand.map := by
  have hexec : exec (.nandPatrol g rd) s = .next (if 2 ≤ s.readStage rd ∧ ¬ (s.eccCount rd).nand.relocQ.contains (g, s.mapOf g) then
      { s.eccCount rd with nand := { (s.eccCount rd).nand with relocQ := (s.eccCount rd).nand.relocQ ++ [(g, s.mapOf g)] } } else s.eccCount rd) :=
    congrArg Host.Outcome.next ((if_pos (by simp [hrun, hlamp, hfence, hdays, hpage, hup])).trans (if_neg (by simp [hclass])))
  have hframe := s.eccCount_frame rd
  generalize s.eccCount rd = u at hexec hframe
  have hnand : u.nand = s.nand := by rw [hframe]
  refine ⟨_, hexec, ?_⟩
  by_cases hlisted : u.nand.relocQ.contains (g, s.mapOf g) = true
  · rw [if_neg (by simpa [hstage] using hlisted)]
    exact ⟨List.contains_iff_mem.mp hlisted, by rw [hnand]⟩
  · rw [if_pos ⟨hstage, hlisted⟩]
    exact ⟨List.mem_append_right _ (List.mem_singleton_self _), by rw [hnand]⟩

/-! ### Checkpoints (R257, R258) -/

/-- The checkpoint's work is listed. -/
def State.ckptBegun (s : State) : State :=
  { s.setF Reg.NB_STATUS_CKPT_BUSY 1 with nand := { s.nand with ckpt := some (s.ckptNew (s.ckptPages s.ckptSegs)), changed := [] } }

theorem checkpointStart_begins {s : State} (hrun : s.mode = .run) (hlamp : s.lampUp = true) (hfence : s.bur.fenced = false)
    (hnone : s.nand.ckpt = none) (hdue : s.ckptDue = true) (hpages : s.fMeta + s.ckptFull < s.nand.metaErased) :
    ∃ t, exec .checkpointStart s = .next t ∧ t.getF Reg.NB_STATUS_CKPT_BUSY = 1 ∧ t.nand.changed = [] := by
  have hopen : s.openMeta (s.fMeta + s.ckptFull) 64 = s := if_pos (.inl hpages)
  have hexec : exec .checkpointStart s = .next s.nbForce.ckptBegun.metaWave := by
    refine congrArg Host.Outcome.next ((if_pos (by simp [hrun, hlamp, hfence, hnone, hdue])).trans ?_)
    dsimp only
    rw [hopen, if_pos hpages]
    rfl
  have hwave : StockKept s.nbForce.ckptBegun s.nbForce.ckptBegun.metaWave := stockKept_metaWave
  refine ⟨_, hexec, ?_, hwave.changed⟩
  rw [hwave.regs _ (by decide)]
  exact State.getF_setF_self s.nbForce Reg.NB_STATUS_CKPT_BUSY 1

/-- The root's figures are in force. -/
def State.rootForced (s : State) (r : RootPage) : State :=
  { s with nand := { s.nand with
    ceil := r.ceil, plan := r.plan.filter (fun b => (s.blkOf b).st == .free || s.erasable b), live := [], superseded := [] } }

theorem State.rootCommits_shows {s : State} (hnone : s.nand.ckpt = none) (loc : Nat) (r : RootPage) : (s.rootCommits loc r).nand.ckpt = none ∧
    (s.rootCommits loc r).getF Reg.NB_ROOTPTR_LOC = loc % 2 ^ Reg.NB_ROOTPTR_LOC.w := by
  have hj : StockKept s (s.jNow (.mapRootPtr loc r.rootSeq r.ceil r.manVer)) := stockKept_jNow
  have hcommit : s.rootCommits loc r =
      (((s.jNow (.mapRootPtr loc r.rootSeq r.ceil r.manVer)).setF Reg.NB_ROOTPTR_LOC loc).rootForced r).retireBad.eaCheck := rfl
  rw [hcommit]
  generalize s.jNow (.mapRootPtr loc r.rootSeq r.ceil r.manVer) = u at hj
  have hend : StockKept ((u.setF Reg.NB_ROOTPTR_LOC loc).rootForced r) ((u.setF Reg.NB_ROOTPTR_LOC loc).rootForced r).retireBad.eaCheck :=
    stockKept_retireBad.trans stockKept_eaCheck
  refine ⟨hend.ckpt (hj.ckpt hnone), ?_⟩
  rw [hend.regs _ (by decide)]
  exact State.getF_setF_self u Reg.NB_ROOTPTR_LOC loc

theorem checkpointCommit_commits {s : State} {k : Ckpt} {loc : Nat} {p : NPage} {r : RootPage} (hrun : s.mode = .run) (hfence : s.bur.fenced = false)
    (hckpt : s.nand.ckpt = some k) (htodo : k.todo = []) (hroot : k.root = some loc) (hpage : mfind loc s.nand.pages = some p)
    (hrp : p.root = some r) (hmay : s.mayCommitRoot false = true) :
    ∃ t, exec .checkpointCommit s = .next t ∧ t.nand.ckpt = none ∧ t.getF Reg.NB_ROOTPTR_LOC = loc % 2 ^ Reg.NB_ROOTPTR_LOC.w := by
  have hready : k.ready = true := by simp [Ckpt.ready, htodo, hroot]
  have hexec : exec .checkpointCommit s = .next ((((s.ckptRoot k false).keepMeta).wtTry).armRefresh.alertScan s.crossed) := by
    simp only [exec, execCheckpointCommit, hckpt, hrun, hfence, hready, beq_self_eq_true, Bool.not_false, Bool.and_self, if_true]
  have hcommit : s.ckptRoot k false = (({ s with nand := { s.nand with ckpt := none } } : State).setF Reg.NB_STATUS_CKPT_BUSY 0).rootCommits loc r := by
    unfold State.ckptRoot
    simp only [hroot, hpage, hrp, Option.bind_some, Option.map_some, hmay, if_true]
  obtain ⟨hnone, hptr⟩ := State.rootCommits_shows
    (s := ({ s with nand := { s.nand with ckpt := none } } : State).setF Reg.NB_STATUS_CKPT_BUSY 0) rfl loc r
  rw [← hcommit] at hnone hptr
  generalize s.ckptRoot k false = u at hexec hnone hptr
  have hend : StockKept u (u.keepMeta.wtTry.armRefresh.alertScan s.crossed) :=
    ((stockKept_keepMeta.trans stockKept_wtTry).trans stockKept_armRefresh).trans (stockKept_alertScan _)
  exact ⟨_, hexec, hend.ckpt hnone, (hend.regs _ (by decide)).trans hptr⟩

/-! ### What the ledger stage leaves of the DRAM's commands (R142, R171, R188) -/

/-- The command queues, and the line and time of each read that is out. -/
def State.issuing (s : State) : List (Nat × Nat) × (Nat → List DramQ) :=
  (s.dram.rdOut.map fun r => (r.line, r.issuedAt), fun k => (s.subCh k).queue)

/-- A step that moves neither the subchannels nor the reads that are out, but for the mark of a newer write. -/
theorem State.issuing_congr {s t : State} (hsub : t.dram.sub = s.dram.sub)
    (hreads : t.dram.rdOut.map (fun r => (r.line, r.issuedAt)) = s.dram.rdOut.map fun r => (r.line, r.issuedAt)) : t.issuing = s.issuing := by
  simp only [State.issuing, State.subCh, hsub, hreads]

theorem rdNewer_keeps (line : Nat) (l : List RdOut) :
    (rdNewer line l).map (fun r => (r.line, r.issuedAt)) = l.map fun r => (r.line, r.issuedAt) := by
  rw [rdNewer, List.map_map]
  refine List.map_congr_left fun r _ => ?_
  simp only [Function.comp_apply]
  split <;> rfl

theorem State.issuing_setSub {s : State} {k : Nat} {x : SubCh} (h : x.queue = (s.subCh k).queue) : (s.setSub k x).issuing = s.issuing := by
  refine Prod.ext rfl (funext fun j => ?_)
  show (mget SubCh.reset (mset k x s.dram.sub) j).queue = (s.subCh j).queue
  by_cases hj : j = k
  · rw [hj, mget_mset_self, h]
  · rw [mget_mset_ne _ _ _ hj]
    rfl

theorem State.issuing_ask (s : State) (q : DramQ) : (s.ask q).issuing = s.issuing := State.issuing_setSub rfl

theorem State.issuing_ite {p : Prop} [Decidable p] {s t u : State} (ht : t.issuing = s.issuing) (hu : u.issuing = s.issuing) :
    (if p then t else u).issuing = s.issuing := by
  split
  · exact ht
  · exact hu

theorem State.issuing_foldl {α : Type} {f : State → α → State} (h : ∀ a x, (f a x).issuing = a.issuing) (l : List α) (s : State) :
    (l.foldl f s).issuing = s.issuing := by
  induction l generalizing s with
  | nil => rfl
  | cons x l ih => exact (ih _).trans (h s x)

theorem State.issuing_askCtx (s : State) (n : Nat) : (s.askCtx n).issuing = s.issuing :=
  State.issuing_ite rfl ((State.issuing_ask _ _).trans (State.issuing_ask _ _))

/-- Arming moves no command: its frame leaves the DRAM alone but for what waits for admission. -/
theorem State.issuing_armCtx {s t : State} {n : Nat} (h : s.armCtx n = some t) : t.issuing = s.issuing := by
  unfold State.armCtx at h
  split at h
  · cases h
  · obtain ⟨loc, -, rfl⟩ := Option.map_eq_some_iff.mp h
    rfl

theorem State.issuing_takeCtx {s t : State} {n : Nat} (h : s.takeCtx = some (n, t)) : t.issuing = s.issuing := by
  unfold State.takeCtx at h
  split at h
  · cases h
    rfl
  · obtain ⟨m, -, h⟩ := Option.bind_eq_some_iff.mp h
    obtain ⟨u, hu, h⟩ := Option.bind_eq_some_iff.mp h
    split at h
    · cases h
    · cases h
      exact State.issuing_armCtx hu

theorem State.issuing_rearm (s : State) (n : Nat) : (s.rearm n).issuing = s.issuing := by
  unfold State.rearm
  cases h : s.armCtx n with
  | none => rfl
  | some t => exact State.issuing_armCtx h

theorem State.issuing_wtTry (s : State) : s.wtTry.issuing = s.issuing := by
  unfold State.wtTry
  split
  · split
    · split
      · next n t htake =>
        have htaken := State.issuing_takeCtx htake
        exact (State.issuing_askCtx _ n).trans htaken
      · rfl
    · rfl
  · rfl

theorem State.issuing_ledgerTake {s t : State} {g : Nat} (h : s.ledgerTake g = some t) : t.issuing = s.issuing := by
  unfold State.ledgerTake at h
  split at h
  · cases h; rfl
  · cases h; rfl
  · cases h; rfl
  · split at h
    · cases h; rfl
    · split at h
      · cases h; rfl
      · cases h

theorem State.issuing_frameIf (s : State) (b : Bool) (ty par : Nat) : (s.frameIf b ty par).issuing = s.issuing := State.issuing_ite rfl rfl

theorem State.issuing_stageWrite (s : State) (w : Wr) : (s.stageWrite w).issuing = s.issuing := by
  have hframe := s.issuing_frameIf s.framing 1 (if s.isActive then s.nextWsn else 0)
  unfold State.stageWrite
  dsimp only
  generalize s.frameIf s.framing 1 (if s.isActive then s.nextWsn else 0) = u at hframe
  refine Eq.trans (State.issuing_congr ?_ ?_) hframe
  · rfl
  · exact rdNewer_keeps _ _

theorem State.issuing_stageWsn (s : State) : s.stageWsn.issuing = s.issuing := by
  unfold State.stageWsn
  split
  · exact State.issuing_ite (State.issuing_frameIf _ _ _ _) rfl
  · rfl

theorem State.issuing_startWt (s : State) (w : Wr) : (s.startWt w).issuing = s.issuing :=
  (State.issuing_wtTry _).trans (State.issuing_stageWsn _)

theorem State.issuing_raiseIf (s : State) (b : Bool) (src : EvSource) (cls : Nat) (sev : Sev) (param : Nat) :
    (s.raiseIf b src cls sev param).issuing = s.issuing := State.issuing_ite (State.issuing_congr rfl rfl) rfl

theorem State.issuing_creditWait (s : State) (w : Wr) : (s.creditWait w).issuing = s.issuing := by
  have hwaits {h : HostSt} {b : Bool} :
      ((({ s with host := h } : State).addSat Reg.LG_CWAIT_CNT_CWAIT_COUNT 1).raiseIf b .lamp 0x01 .info 0).issuing = s.issuing :=
    (State.issuing_raiseIf _ _ _ _ _ _).trans (State.issuing_congr rfl rfl)
  exact State.issuing_ite ((State.issuing_startWt _ w).trans hwaits) hwaits

theorem State.issuing_bufStep (s : State) (w : Wr) : (s.bufStep w).issuing = s.issuing := State.issuing_ite rfl (s.issuing_stageWrite w)

theorem State.issuing_bufLeave (s : State) : s.bufLeave.issuing = s.issuing := by
  unfold State.bufLeave
  split
  · exact State.issuing_ite rfl (State.issuing_stageWrite _ _)
  · rfl

theorem State.issuing_ledgerRun (n : Nat) (s : State) : (ledgerRun n s).issuing = s.issuing := by
  induction n generalizing s with
  | zero => rfl
  | succ n ih =>
    unfold ledgerRun
    split
    · split
      · rfl
      · split
        · next a htake =>
          have htaken : a.issuing = s.issuing := (State.issuing_ledgerTake htake).trans (by exact rfl)
          exact (ih _).trans ((State.issuing_bufStep _ _).trans htaken)
        · exact State.issuing_creditWait _ _
    · rfl

/-! #### The standby's side -/

theorem State.issuing_commitLine (s : State) (line : Nat) (be : ByteEn) (d : LineData) : (s.commitLine line be d).issuing = s.issuing :=
  State.issuing_congr rfl (rdNewer_keeps _ _)

theorem State.issuing_markWt (s : State) (line : Nat) : (s.markWt line).issuing = s.issuing := State.issuing_congr rfl rfl

theorem State.issuing_mirrorWt (s : State) : s.mirrorWt.issuing = s.issuing := by
  unfold State.mirrorWt
  split
  · next w n _ =>
    have hend {u : State} {h : HostSt} {g : Nat} :
        ((({ u with host := h } : State).addSat Reg.LG_WT_CNT_WT_COUNT 1).raise .lamp 0x12 .warning g).issuing = u.issuing :=
      State.issuing_congr rfl rfl
    have hmapped {g loc ver crc l : Nat} : ((s.lunFine l).mapCopy g loc ver crc).issuing = s.issuing := State.issuing_congr rfl rfl
    refine State.issuing_ite ?_ rfl
    exact hend.trans ((State.issuing_rearm _ n).trans ((State.issuing_markWt _ _).trans ((State.issuing_commitLine _ _ _ _).trans hmapped)))
  · rfl

theorem State.issuing_learnCommit (s : State) (cum : Nat) : (s.learnCommit cum).issuing = s.issuing :=
  (State.issuing_mirrorWt _).trans (State.issuing_foldl (f := fun (a : State) (w : Wr) => a.commitLine w.line w.be w.data)
    (fun a w => a.issuing_commitLine w.line w.be w.data) _ { s with twin := _ })

theorem State.issuing_stageMirror (s : State) (w : Wr) : (s.stageMirror w).issuing = s.issuing := State.issuing_congr rfl (rdNewer_keeps _ _)

theorem State.issuing_mirrorStep (s : State) (w : Wr) : (s.mirrorStep w).issuing = s.issuing :=
  State.issuing_ite rfl ((State.issuing_learnCommit _ _).trans (s.issuing_stageMirror w))

theorem State.issuing_mirrorLeave (s : State) : s.mirrorLeave.issuing = s.issuing := by
  unfold State.mirrorLeave
  split
  · exact State.issuing_ite rfl ((State.issuing_learnCommit _ _).trans (State.issuing_stageMirror _ _))
  · rfl

theorem State.issuing_mirrorRun (n : Nat) (s : State) : (mirrorRun n s).issuing = s.issuing := by
  induction n generalizing s with
  | zero => rfl
  | succ n ih =>
    unfold mirrorRun
    split
    · next w t _ _ =>
      have hwait : State.issuing { s with twin := { s.twin with mwait := t } } = s.issuing := rfl
      dsimp only
      generalize ({ s with twin := { s.twin with mwait := t } } : State) = r at hwait ⊢
      split
      · rfl
      · split
        · next a htake => exact (ih _).trans ((State.issuing_mirrorStep _ _).trans ((State.issuing_ledgerTake htake).trans hwait))
        · exact (State.issuing_creditWait _ _).trans hwait
    · rfl

theorem State.issuing_rsyRun (n : Nat) (s : State) : (rsyRun n s).issuing = s.issuing := by
  induction n generalizing s with
  | zero => rfl
  | succ n ih =>
    unfold rsyRun
    split
    · split
      · rfl
      · split
        · next a htake =>
          have htaken : a.issuing = s.issuing := State.issuing_ledgerTake htake
          exact (ih _).trans ((State.issuing_commitLine _ _ _ _).trans htaken)
        · rfl
    · exact State.issuing_ite (State.issuing_congr rfl rfl) rfl

theorem State.issuing_ledgerGo (s : State) : s.ledgerGo.issuing = s.issuing := by
  unfold State.ledgerGo
  split
  · split
    · exact (State.issuing_ledgerRun _ _).trans (State.issuing_bufLeave _)
    · refine State.issuing_ite ?_ rfl
      exact (State.issuing_wtTry _).trans ((State.issuing_ledgerRun _ _).trans (State.issuing_bufLeave _))
  · refine State.issuing_ite ?_ rfl
    exact (State.issuing_rsyRun _ _).trans ((State.issuing_mirrorRun _ _).trans (State.issuing_mirrorLeave _))

/-! ### One request through a cycle of the scheduler (R171 to R173) -/

/-- A host read that waits for admission (Table 5-5). -/
def hostReq (line : Nat) : DramQ := ⟨line, false, 2, 0, 0⟩

/-- A lone source is picked wherever the pointer stands. -/
theorem pickSrc_singleton (q : DramQ) (hsrc : q.src < 4) (last : Nat) : pickSrc [q] last = some q.src := by
  unfold pickSrc
  simp only [List.any_cons, List.any_nil, Bool.or_false]
  cases hfind : ((List.range 4).map fun i => (last + 1 + i) % 4).find? (fun s => q.src == s) with
  | some x =>
    have hx := List.find?_some hfind
    rw [beq_iff_eq.mp hx]
  | none =>
    exfalso
    have hnone := List.find?_eq_none.mp hfind
    have hmem : q.src ∈ (List.range 4).map fun i => (last + 1 + i) % 4 := by
      refine List.mem_map.mpr ⟨(q.src + 3 * (last + 1)) % 4, List.mem_range.mpr (Nat.mod_lt _ (by decide)), ?_⟩
      omega
    exact hnone _ hmem (by simp)

/-- A subchannel where one host read waits and nothing else stands. -/
structure Lone (s : State) (k line : Nat) : Prop where
  queue : (s.subCh k).queue = []
  waiting : (s.subCh k).waiting = [hostReq line]
  retry : (s.subCh k).retry = []
  nref : (s.subCh k).nref = []
  postponed : (s.subCh k).postponed = []
  rfm : s.getB Reg.DC_CFG_RFM_EN = false
  wbuf : s.dram.wbuf = []

/-- The subchannel once that read is admitted. -/
def SubCh.admitted (x : SubCh) (line : Nat) : SubCh :=
  { x with queue := [hostReq line], waiting := [], lastSrc := mset 2 0 x.lastSrc }

section
variable {s : State} {k line : Nat} (h : Lone s k line)
include h

theorem Lone.drainReq : s.drainReq k = none := by
  unfold State.drainReq
  rw [h.wbuf]
  rfl

theorem Lone.candidates (hrun : s.mode = .run) : s.candidates k = [hostReq line] := by
  unfold State.candidates
  rw [h.waiting, h.drainReq, hrun]
  rfl

theorem Lone.admitPick (hrun : s.mode = .run) : s.admitPick k = some (hostReq line) := by
  unfold State.admitPick
  dsimp only
  rw [h.candidates hrun, h.queue]
  have hpick := pickSrc_singleton (hostReq line) (by decide : (0 : Nat) < 4) (mget 3 (s.subCh k).lastSrc 2)
  simp only [hostReq] at hpick ⊢
  simp [hpick, ctxSource]

theorem Lone.takeIn (hrun : s.mode = .run) : s.takeIn k = s.setSub k ((s.subCh k).admitted line) := by
  unfold State.takeIn
  rw [h.admitPick hrun]
  dsimp only
  rw [h.drainReq, h.queue, h.waiting]
  simp [dropFirst, SubCh.admitted, hostReq, ctxSource]

end

/-- A subchannel whose queue holds one host read, with nothing else due. -/
structure Queued (s : State) (k line : Nat) : Prop where
  queue : (s.subCh k).queue = [hostReq line]
  retry : (s.subCh k).retry = []
  nref : (s.subCh k).nref = []
  postponed : (s.subCh k).postponed = []
  rfm : s.getB Reg.DC_CFG_RFM_EN = false

theorem Lone.queued {s : State} {k line : Nat} (h : Lone s k line) : Queued (s.setSub k ((s.subCh k).admitted line)) k line := by
  refine ⟨?_, ?_, ?_, ?_, h.rfm⟩ <;> rw [State.subCh_setSub_self]
  · rfl
  · exact h.retry
  · exact h.nref
  · exact h.postponed

/-- What an ACT leaves of the commands that wait and of the reads that are out. -/
theorem State.issuing_issue (s : State) (k nowNs : Nat) (c : DramCmd) : (s.issue k nowNs c).issuing = s.issuing := State.issuing_setSub rfl

theorem State.issuing_act (s : State) (ch sub nowNs b row : Nat) : (s.act ch sub nowNs b row).issuing = s.issuing := by
  have hissue := s.issuing_issue (2 * ch + sub) nowNs (.act (b / 32) (b % 32) row)
  unfold State.act
  dsimp only
  generalize s.issue (2 * ch + sub) nowNs (.act (b / 32) (b % 32) row) = t at hissue
  split
  · refine Eq.trans (b := State.issuing (t.setSub _ _)) rfl ((State.issuing_setSub ?_).trans hissue)
    split <;> rfl
  · refine Eq.trans (State.issuing_setSub ?_) hissue
    rfl

/-- The read of a host's request is out from here on. -/
theorem State.column_read (s : State) (k nowNs line : Nat) : (s.column k nowNs (hostReq line) true).issuing =
    ((s.issuing).1 ++ [(line, nowNs)], (s.issuing).2) := by
  have hissue := s.issuing_issue k nowNs (.rd line true)
  have hcolumn : s.column k nowNs (hostReq line) true = { s.issue k nowNs (.rd line true) with
      dram := { (s.issue k nowNs (.rd line true)).dram with
        rdOut := (s.issue k nowNs (.rd line true)).dram.rdOut ++ [⟨line, none, false, nowNs⟩] } } := rfl
  rw [hcolumn, ← hissue]
  generalize s.issue k nowNs (.rd line true) = u
  refine Prod.ext ?_ rfl
  simp [State.issuing]

section
variable {s : State} {ch sub line : Nat} (h : Queued s (2 * ch + sub) line) (nowNs : Nat)
include h

theorem Queued.serveGroup : s.serveGroup ch sub nowNs (hostReq line) =
    ((s.setSub (2 * ch + sub) { s.subCh (2 * ch + sub) with queue := [] }).act ch sub nowNs (s.flatBank line) (s.rowOf line)).column (2 * ch + sub) nowNs
      (hostReq line) true := by
  have hpending : State.actPending ch sub nowNs (s.flatBank line) 16 s = s := by
    unfold State.actPending
    dsimp only
    rw [h.nref]
    rfl
  have hroom : s.room (2 * ch + sub) nowNs 2 = true := by
    unfold State.room State.inWindow
    rw [h.retry]
    rfl
  have hallows : s.rfmAllows (2 * ch + sub) (s.flatBank line) = true := by simp [State.rfmAllows, h.rfm]
  unfold State.serveGroup
  dsimp only
  rw [h.queue]
  have hline : (hostReq line).line = line := rfl
  simp only [hline, bne_self_eq_false, List.dropWhile_cons, List.takeWhile_cons, Bool.false_eq_true, if_false, List.drop_one, List.tail_cons,
    State.gather, List.length_nil, Nat.add_zero, List.append_nil, hpending, hroom, hallows, h.nref]
  rfl

theorem Queued.scheduleOne {ready : List Nat} (hready : ready.contains (s.flatBank line) = true) : (s.scheduleOne ch sub nowNs ready) =
    s.serveGroup ch sub nowNs (hostReq line) := by
  have hrefresh : s.refreshDue (2 * ch + sub) = none := by
    unfold State.refreshDue
    rw [h.postponed]
    rfl
  have hrfm : s.rfmDue (2 * ch + sub) = none := by simp [State.rfmDue, h.rfm]
  have hmay : s.mayIssue (2 * ch + sub) ready (hostReq line, false) = true := by
    have hbank : s.flatBank (hostReq line).line = s.flatBank line := rfl
    simp only [State.mayIssue, hbank, hready, State.rfmAllows, h.rfm, Bool.not_false, Bool.true_or, Bool.and_self]
  unfold State.scheduleOne
  dsimp only
  rw [hrefresh, hrfm, h.queue]
  have hblocked : blockedAt [hostReq line] [] = [(hostReq line, false)] := rfl
  rw [hblocked, List.find?_cons_of_pos hmay]

theorem Queued.issuing {ready : List Nat} (hready : ready.contains (s.flatBank line) = true) :
    ((s.scheduleOne ch sub nowNs ready).issuing).2 (2 * ch + sub) = [] ∧
      (line, nowNs) ∈ ((s.scheduleOne ch sub nowNs ready).issuing).1 := by
  rw [h.scheduleOne nowNs hready, h.serveGroup nowNs, State.column_read, State.issuing_act]
  refine ⟨?_, List.mem_append_right _ (List.mem_singleton_self _)⟩
  show ((s.setSub _ _).subCh _).queue = []
  rw [State.subCh_setSub_self]

end

/-- The cycle's state before a request is admitted: issued writes have left the window. -/
def State.cycleBegun (s : State) (k nowNs : Nat) : State :=
  (({ s with dram := { s.dram with now := max s.dram.now nowNs } } : State).freeEntries k nowNs).backWaiting

theorem State.cycleBegun_eq {s : State} (hbuf : s.dram.wbuf = []) (hback : s.dram.wback = []) (k nowNs : Nat) :
    s.cycleBegun k nowNs = { s with dram := { s.dram with now := max s.dram.now nowNs, wbuf := [] } } := by
  have hfree : (({ s with dram := { s.dram with now := max s.dram.now nowNs } } : State).freeEntries k nowNs) =
      { s with dram := { s.dram with now := max s.dram.now nowNs, wbuf := [] } } := by
    unfold State.freeEntries
    dsimp only
    rw [hbuf]
    rfl
  unfold State.cycleBegun State.backWaiting
  rw [hfree]
  dsimp only
  rw [hback]
  rfl

theorem schedule_serves {s : State} {ch sub nowNs line : Nat} {ready : List Nat} (hruns : s.chRuns ch = true) (hsub : sub < 2) (hrun : s.mode = .run)
    (hreplay : (s.subCh (2 * ch + sub)).replay = none) (hlone : Lone s (2 * ch + sub) line) (hback : s.dram.wback = [])
    (hready : ready.contains (s.flatBank line) = true) :
    ∃ t, exec (.schedule ch sub nowNs ready) s = .next t ∧ (t.subCh (2 * ch + sub)).queue = [] ∧
      (∃ r ∈ t.dram.rdOut, r.line = line ∧ r.issuedAt = nowNs) := by
  have hcycle : s.cycle ch sub nowNs ready =
      (((s.cycleBegun (2 * ch + sub) nowNs).takeIn (2 * ch + sub)).scheduleOne ch sub nowNs ready).ledgerGo := by
    have hnone : (({ s with dram := { s.dram with now := max s.dram.now nowNs } } : State).subCh (2 * ch + sub)).replay = none := hreplay
    unfold State.cycle
    dsimp only
    rw [hnone]
    rfl
  have hexec : exec (.schedule ch sub nowNs ready) s = .next (s.cycle ch sub nowNs ready) :=
    congrArg Host.Outcome.next (if_pos (by simp [hruns, hsub]))
  have hbegun := State.cycleBegun_eq hlone.wbuf hback (2 * ch + sub) nowNs
  have hlone' : Lone (s.cycleBegun (2 * ch + sub) nowNs) (2 * ch + sub) line := by
    rw [hbegun]
    exact ⟨hlone.queue, hlone.waiting, hlone.retry, hlone.nref, hlone.postponed, hlone.rfm, rfl⟩
  have hmode : (s.cycleBegun (2 * ch + sub) nowNs).mode = .run := by rw [hbegun]; exact hrun
  have hbank : (s.cycleBegun (2 * ch + sub) nowNs).flatBank line = s.flatBank line := by rw [hbegun]; rfl
  rw [hcycle] at hexec
  generalize s.cycleBegun (2 * ch + sub) nowNs = u at hexec hlone' hmode hbank
  rw [hlone'.takeIn hmode] at hexec
  have hqueued := hlone'.queued
  have hbank' : ready.contains ((u.setSub (2 * ch + sub) ((u.subCh (2 * ch + sub)).admitted line)).flatBank line) = true := by
    rw [show (u.setSub (2 * ch + sub) ((u.subCh (2 * ch + sub)).admitted line)).flatBank line = u.flatBank line from rfl, hbank]
    exact hready
  generalize u.setSub (2 * ch + sub) ((u.subCh (2 * ch + sub)).admitted line) = v at hexec hqueued hbank'
  obtain ⟨hqueue, hout⟩ := hqueued.issuing nowNs hbank'
  generalize v.scheduleOne ch sub nowNs ready = w at hexec hqueue hout
  have hledger := w.issuing_ledgerGo
  rw [← hledger] at hqueue hout
  obtain ⟨r, hr, hkeys⟩ := List.mem_map.mp hout
  exact ⟨_, hexec, hqueue, r, hr, (Prod.ext_iff.mp hkeys).1, (Prod.ext_iff.mp hkeys).2⟩

/-! ### Every form of the wake, the restore and the upkeep -/

/-- Settles O60: each form's own proof, under its conditions, shows its own effect. -/
theorem wakeAndUpkeepFormsComplete : Obligations.WakeAndUpkeepFormsComplete := by
  refine ⟨fun s c sfdp x4 hready h0 hfit hbl => ?_, fun s ok0 ok1 reads hmode hstep hseq hlamp hforce => ?_,
    fun s l ces reads hmode hstep hlamp hforce hscan => ?_, fun _ => restoreDecision_decides, fun _ bad => manifestLoad_loads bad,
    fun _ _ rd => granuleFetchDone_ends rd, fun _ _ rd => verifyGranule_matches rd, fun _ => restoreComplete_runs, fun s hlamp => ?_,
    fun s hdoubt => ?_, fun s g => ?_, fun s hrun hlamp hfence => ?_,
    fun s a hrun hlamp hfence htrk hqueue hfree hdirty htarget hdoubt => ?_, fun s n hcheck hkind hfence hmay => ?_,
    fun s n loc hlamp hmode hfence hstage hidle hsupply hpick => ?_,
    fun s ch sub nowNs line ready hruns hsub hrun hreplay hqueue hwaiting hretry hnref hpostponed hrfm hbuf =>
      schedule_serves hruns hsub hrun hreplay ⟨hqueue, hwaiting, hretry, hnref, hpostponed, hrfm, hbuf⟩,
    fun s ch sub forced dbl hot hruns hsub hgo hreplay hrun => ?_, fun s ch sub nowNs highNs hruns hsub hnone => ?_,
    fun _ _ => eraseDone_erases, fun _ _ => eraseTimeout_fails, fun _ _ _ _ rd => relocate_drops rd, fun _ _ _ => nandPatrol_lists,
    fun _ => checkpointStart_begins, fun _ _ _ _ _ => checkpointCommit_commits⟩
  · obtain ⟨t, hexec, hdmk, -⟩ := daymarkRead_takes hready sfdp x4 h0 hfit hbl
    exact ⟨t, hexec, by rw [hdmk], by rw [hdmk]⟩
  · obtain ⟨t, hexec, -, htrained, hhold, -⟩ := dramTrainingDone_completes hmode hstep hseq hlamp hforce ok0 ok1 reads
    exact ⟨t, hexec, htrained, hhold⟩
  · obtain ⟨t, hexec, -, -, hend, -, hfails, -⟩ := nandScanDone_completes hmode hstep hlamp hforce l ces reads
    exact ⟨t, hexec, hend hscan, hfails⟩
  · obtain ⟨t, hexec, hlimit, hstale, -⟩ := coverStale_closes hlamp
    exact ⟨t, hexec, hlimit, hstale⟩
  · exact ⟨_, doubtWriterDone_counts hdoubt, rfl, rfl⟩
  · obtain ⟨t, hexec, hgone, -, -, hframe⟩ := mirrorWrite_writes s g
    exact ⟨t, hexec, hgone, by rw [hframe]⟩
  · obtain ⟨t, hexec, hmode, -⟩ := trickleMode_completes hrun hlamp hfence
    exact ⟨t, hexec, hmode⟩
  · obtain ⟨t, hexec, haged, -⟩ := sweepVisit_ages hrun hlamp hfence htrk hqueue hfree hdirty htarget hdoubt
    exact ⟨t, hexec, haged⟩
  · obtain ⟨t, hexec, -, -, hmaps, -⟩ := copyMapped_maps hcheck hkind hfence
    exact ⟨t, hexec, hmaps hmay⟩
  · obtain ⟨t, hexec, hst, hpage, -⟩ := contextArm_arms hlamp hmode hfence hstage hidle hsupply hpick
    exact ⟨t, hexec, hst, hpage⟩
  · obtain ⟨t, hexec, hdoubled, -⟩ := retrainPause_completes dbl hot rfl hruns hsub hgo hreplay hrun
    exact ⟨t, hexec, hdoubled⟩
  · obtain ⟨t, hexec, hfirst, -, hstate, -⟩ := caParityAlert_completes hruns hsub nowNs highNs
    obtain ⟨r, hreplay, htime, -⟩ := hfirst hnone
    exact ⟨t, hexec, (hstate fun r hr => by rw [hnone] at hr; cases hr).2.1, r, hreplay, htime⟩

end Sys2Proof.Machine

/-! SUPPORT. Proofs of the statements of the burrow family. -/

namespace Sys2Proof.Machine

/-! ### The sweep's visit and the count of cache faults (R208, R242) -/

/-- A sweep about to take granule 0, whose cached map entry is faulted, with NB_TCACHE.PAR_ERR full. -/
def cacheFaultsFull : State := { State.reset.setF Reg.NB_TCACHE_PAR_ERR 255 with
  mode := .burrow
  phase := .p2
  cover := { CoverSt.reset with ledger := [(0, .dirty 0)] }
  bur := { BurrowSt.reset with ctx := [(0, { Ctx.idle with st := .armed })] }
  nand := { NandSt.reset with tcache := [0] } }

/-- Refutes O23: NB_TCACHE.PAR_ERR is eight bits wide, so a 256th fault of the translation cache leaves it at 255, where the statement counts on to
0xFFFF. -/
theorem not_burrowBegins : ¬ Obligations.BurrowBegins := by
  rintro ⟨-, -, -, -, hvisit, -⟩
  obtain ⟨t, hexec, -, -, -, -, -, -, -, -, -, hcount⟩ := hvisit cacheFaultsFull (cacheFaultsFull.loadTurns.cacheParity true 0) false true 0 0
    rfl rfl rfl (by decide) rfl rfl (by decide) (by decide) rfl (by decide) (by decide) rfl
  cases hexec
  exact absurd hcount (by decide)

/-! ### Programs (R213, R214, R223) -/

/-- The state in which a confirmed program runs, before the contexts that waited for their LUN's turn to load go on. -/
def State.confirmed (s : State) (n : Nat) : State :=
  let c := s.ctxOf n
  let p := s.copyPage c
  ((s.putPage c.page p).setCtx n { c with st := .prog, poison := !p.lp.isEmpty }).spend 1

theorem exec_programConfirm {s : State} {n : Nat} (hload : (s.ctxOf n).st = .load) (hread : s.ctxReading n = false) (hpaid : 0 < s.bur.account)
    (hfree : s.lunBusy (locLun (s.ctxOf n).page) = false) (habn : s.bur.abn = .none) (hup : s.lunUp (locLun (s.ctxOf n).page) = true)
    (hready : s.mode = .run → s.keepsReady (locLun (s.ctxOf n).page) = true) :
    exec (.programConfirm n) s = .next (s.confirmed n).loadTurns := by
  have hkeeps : (s.mode != .run || s.keepsReady (locLun (s.ctxOf n).page)) = true := by
    by_cases hrun : s.mode = .run
    · rw [hready hrun, Bool.or_true]
    · simp [hrun]
  exact congrArg Host.Outcome.next (if_pos (by simp [hload, hread, hpaid, hfree, habn, hup, hkeeps]))

/-- Two copies of one LUN in P2: context 0 has its data, and context 1 waits for the LUN's turn to load (R214). -/
def nextLoadWaits : State := { State.reset with
  mode := .burrow
  phase := .p2
  bur := { BurrowSt.reset with
    ctx := [(0, { Ctx.idle with st := .load, kind := .burrow }), (1, { Ctx.idle with st := .setup, kind := .burrow, gran := 1, page := 1 })]
    account := 1 } }

/-- Refutes O24: a confirmed program leaves its LUN's turn to load to the next context, which asks DRAM for its granule (R214); the statement's
frame keeps the requests to DRAM as they were. -/
theorem not_burrowPrograms : ¬ Obligations.BurrowPrograms := by
  rintro ⟨hconfirm, -⟩
  have hread : nextLoadWaits.ctxReading 0 = false := by decide
  have hfree : nextLoadWaits.lunBusy (locLun (nextLoadWaits.ctxOf 0).page) = false := by decide
  have hup : nextLoadWaits.lunUp (locLun (nextLoadWaits.ctxOf 0).page) = true := by decide
  have hmode (h : nextLoadWaits.mode = .run) : nextLoadWaits.keepsReady (locLun (nextLoadWaits.ctxOf 0).page) = true := by cases h
  obtain ⟨t, hexec, -, -, -, -, hframe⟩ := hconfirm nextLoadWaits 0 rfl hread (by decide) hfree rfl hup hmode
  have hkept : t.dram.sub = [] := by rw [hframe]; rfl
  rw [exec_programConfirm rfl hread (by decide) hfree rfl hup hmode] at hexec
  have hasked : (nextLoadWaits.confirmed 0).loadTurns.dram.sub.length = 2 := by decide
  cases hexec
  rw [hkept] at hasked
  cases hasked

/-! ### The start of P5 (R222) -/

/-- The registers that the start of P5 sets. -/
def p5Flds : List Fld := [Reg.MD_ABANDON_FORCE_NEXT, Reg.BE_ENERGY_E_SPENT, Reg.SQ_STATUS_QUEUED]

/-- With a shed step still to run, or without VIN, the decision of P5 does not enter WAKE: it queues a shed step or waits for those in progress. -/
theorem State.p5Decide_shows {s : State} (h : s.stepsBusy = true ∨ s.vinRet = false) :
    s.p5Decide.mode = s.mode ∧ s.p5Decide.phase = s.phase ∧ s.p5Decide.bur = s.bur ∧ RegsKept p5Flds s s.p5Decide := by
  have hqueued (v : Nat) : RegsKept p5Flds s (s.setF Reg.SQ_STATUS_QUEUED v) := regsKept_setF (by simp [p5Flds])
  unfold State.p5Decide
  dsimp only
  split
  · exact ⟨rfl, rfl, rfl, hqueued _⟩
  split
  case isTrue hvin =>
    rw [if_pos (h.resolve_right (by simp [hvin]))]
    exact ⟨rfl, rfl, rfl, .refl _ _⟩
  case isFalse => split <;> exact ⟨rfl, rfl, rfl, hqueued _⟩

/-- What the start of P5 shows when it does not enter WAKE. -/
theorem State.p5_shows {s : State} (h : s.stepsBusy = true ∨ s.vinRet = false) :
    s.p5.mode = s.mode ∧ s.p5.phase = .p5 ∧ s.p5.bur = { s.bur with abnTimes := [] } ∧ RegsKept p5Flds s s.p5 := by
  unfold State.p5
  generalize hu : ({ s with phase := .p5, host := _, twin := _, bur := _, regs := _ } : State) = u
  have hregs : RegsKept p5Flds s u := by
    subst hu
    exact (regsKept_setFs (s := s) (a := [(Reg.MD_ABANDON_FORCE_NEXT, 0), (Reg.BE_ENERGY_E_SPENT, _)]) (by simp [p5Flds])).trans (.of_regs rfl)
  have hbase : u.mode = s.mode ∧ u.phase = .p5 ∧ u.bur = { s.bur with abnTimes := [] } := by
    subst hu
    exact ⟨rfl, rfl, rfl⟩
  have hbusy : u.stepsBusy = true ∨ u.vinRet = false := by
    have hseq : u.getF Reg.SQ_STATUS_SEQ = s.getF Reg.SQ_STATUS_SEQ := hregs _ (by decide)
    have hqueued : u.getF Reg.SQ_STATUS_QUEUED = s.getF Reg.SQ_STATUS_QUEUED := by
      subst hu
      exact State.getF_setFs_ne s [(Reg.MD_ABANDON_FORCE_NEXT, 0), (Reg.BE_ENERGY_E_SPENT, _)] _ (by simp; decide)
    have hvin : u.vinRet = s.vinRet := by
      unfold State.vinRet State.getB
      rw [hregs _ (by decide)]
    unfold State.stepsBusy
    rw [hseq, hqueued, hvin]
    exact h
  obtain ⟨hmode, hphase, hbur, hkept⟩ := State.p5Decide_shows hbusy
  exact ⟨hmode.trans hbase.1, hphase.trans hbase.2.1, hbur.trans hbase.2.2, hregs.trans hkept⟩

/-! ### The fence (R194, R200 to R202) -/

/-- The mode and phase of a burrow, the marks its fence set in the engine and the shed steps done stay. -/
structure FenceKept (s t : State) : Prop where
  mode : t.mode = s.mode
  phase : t.phase = s.phase
  fenced : t.bur.fenced = s.bur.fenced
  version : t.bur.version = s.bur.version
  shed : t.getF Reg.BE_STATUS_SHED = s.getF Reg.BE_STATUS_SHED

theorem FenceKept.refl (s : State) : FenceKept s s := ⟨rfl, rfl, rfl, rfl, rfl⟩

theorem FenceKept.trans {s t u : State} (h : FenceKept s t) (h' : FenceKept t u) : FenceKept s u :=
  ⟨h'.mode.trans h.mode, h'.phase.trans h.phase, h'.fenced.trans h.fenced, h'.version.trans h.version, h'.shed.trans h.shed⟩

theorem FenceKept.ite {s t u : State} {p : Prop} [Decidable p] (ht : FenceKept s t) (hu : FenceKept s u) : FenceKept s (if p then t else u) := by
  split
  · exact ht
  · exact hu

theorem FenceKept.foldl {α : Type} {f : State → α → State} (h : ∀ a x, FenceKept a (f a x)) (l : List α) (s : State) :
    FenceKept s (l.foldl f s) := by
  induction l generalizing s with
  | nil => exact .refl s
  | cons x l ih => exact (h s x).trans (ih _)

/-- A step that leaves the mode, the phase, the registers and the fence's marks alone. -/
theorem FenceKept.of_frame {s t : State} (h : t = { s with
    host := t.host, cover := t.cover, dram := t.dram, nand := t.nand, twin := t.twin, rail := t.rail
    bur := { t.bur with fenced := s.bur.fenced, version := s.bur.version } }) : FenceKept s t :=
  ⟨by rw [h], by rw [h], by rw [h], by rw [h], RegsKept.of_regs (l := []) (by rw [h]) _ (by simp)⟩

theorem FenceKept.of_entries {s t : State} (h : EntriesMoved s t) : FenceKept s t := by
  obtain ⟨hframe, hregs⟩ := h
  exact ⟨by rw [hframe], by rw [hframe], by rw [hframe], by rw [hframe], hregs _ (by decide)⟩

theorem fenceKept_setF {s : State} {f : Fld} {v : Nat} (h : Reg.BE_STATUS_SHED.key ≠ f.key) : FenceKept s (s.setF f v) :=
  ⟨rfl, rfl, rfl, rfl, State.getF_setF_ne s v h⟩

theorem fenceKept_setCtx {s : State} {n : Nat} {c : Ctx} : FenceKept s (s.setCtx n c) := .of_frame rfl

theorem fenceKept_rearm {s : State} {n : Nat} : FenceKept s (s.rearm n) := by
  unfold State.rearm
  cases harm : s.armCtx n with
  | none => exact fenceKept_setCtx
  | some t =>
    unfold State.armCtx at harm
    split at harm
    · cases harm
    · obtain ⟨loc, -, rfl⟩ := Option.map_eq_some_iff.mp harm
      exact .of_frame rfl

theorem fenceKept_handoff {s : State} {g : Nat} : FenceKept s (s.handoff g) := .of_frame rfl

theorem fenceKept_handoffClean {s : State} {g : Nat} : FenceKept s (s.handoffClean g) := .ite fenceKept_handoff (.refl s)

theorem fenceKept_trickleBack {s : State} {g age : Nat} : FenceKept s (s.trickleBack g age) := .of_frame rfl

theorem fenceKept_keepPage {s : State} {n : Nat} : FenceKept s (s.keepPage n) := .of_frame rfl

theorem fenceKept_dropCtxReads {s : State} {n : Nat} : FenceKept s (s.dropCtxReads n) := .of_frame rfl

theorem fenceKept_addOrphan {s : State} {page g : Nat} : FenceKept s (s.addOrphan page g) := by
  have hlist : FenceKept s (s.listOrphan page g) := .ite (.of_frame rfl) (.of_frame rfl)
  exact .ite hlist (hlist.trans (fenceKept_setF (by decide)))

theorem fenceKept_fenceCtx {s : State} {n : Nat} : FenceKept s (s.fenceCtx n) := by
  have hstop : FenceKept s ((s.dropCtxReads n).keepPage n) := fenceKept_dropCtxReads.trans fenceKept_keepPage
  unfold State.fenceCtx
  dsimp only
  split
  case h_1 | h_2 =>
    split
    · exact hstop.trans fenceKept_trickleBack
    · exact hstop.trans fenceKept_handoffClean
    · exact hstop
  case h_3 =>
    split
    · exact fenceKept_handoffClean
    · exact fenceKept_addOrphan
    · exact .refl s
  case h_4 =>
    split
    · exact (fenceKept_trickleBack.trans fenceKept_handoff).trans fenceKept_rearm
    · exact fenceKept_handoffClean.trans fenceKept_rearm
    · exact fenceKept_addOrphan.trans fenceKept_rearm
    · exact fenceKept_rearm
  case h_5 => exact .refl s

theorem fenceKept_strand {s : State} : FenceKept s s.strand := .foldl (fun a _ => .ite (.refl a) fenceKept_handoffClean) _ s

theorem fenceKept_setupAll {s : State} : FenceKept s s.setupAll := by
  refine .foldl (fun a ch => ?_) _ s
  unfold State.setupCh
  split
  · exact fenceKept_setCtx
  · exact .refl a

theorem fenceKept_fenceTwin {s : State} : FenceKept s s.fenceTwin := by
  unfold State.fenceTwin
  refine .ite (.refl s) ?_
  dsimp only
  generalize hu : s.frameIf s.twinUp 5 (if s.isStandby = true then s.twin.apl else s.twin.acc) = u
  have hframe : FenceKept s u := by
    subst hu
    rw [State.frameIf_frame]
    exact .of_frame rfl
  exact (hframe.trans (fenceKept_setF (f := Reg.TW_HELD_FX) (v := b2n s.twin.partnerFence) (by decide))).trans (.of_frame rfl)

theorem fenceKept_noRetry {s : State} : FenceKept s s.noRetry := by
  unfold State.noRetry
  dsimp only
  refine .ite (.refl s) ?_
  exact (FenceKept.of_entries (.foldl (fun a n => entriesMoved_setEnt a n 5) _ s)).trans (fenceKept_setF (by decide))

/-! #### What a broken rail does to a fenced burrow (Table 6-5) -/

theorem fenceKept_recount {s : State} : FenceKept s s.recount := .of_frame rfl

theorem fenceKept_takenLost {s : State} {g : Nat} : FenceKept s (s.takenLost g) :=
  (FenceKept.of_frame (t := s.lostSlot g) rfl).trans (fenceKept_setF (s := s.lostSlot g) (by decide))

theorem fenceKept_loseChannels {s : State} : FenceKept s s.loseChannels := by
  refine (FenceKept.foldl (fun (a : State) (c : Nat × Ctx) => ?_) _ s).trans (.of_frame rfl)
  exact .ite ((fenceKept_dropCtxReads.trans fenceKept_takenLost).trans fenceKept_keepPage) (fenceKept_takenLost.trans fenceKept_setCtx)

theorem fenceKept_haltGroup {s : State} {p : Nat → Bool} : FenceKept s (s.haltGroup p) := by
  unfold State.haltGroup
  extract_lets hit gs backs s1
  have hback : FenceKept s s1 := .foldl (fun _ _ => fenceKept_trickleBack.trans fenceKept_handoff) _ s
  exact ((hback.trans (.of_frame rfl)).trans (fenceKept_setF (by decide))).trans fenceKept_recount

theorem fenceKept_stopSweep {s : State} : FenceKept s s.stopSweep :=
  .ite (.refl s) ((fenceKept_setF (s := s) (f := Reg.BE_STATUS_ESTOP) (v := 1) (by decide)).trans (.of_frame rfl))

/-- A burrow has its fence behind it: until P5 no shed step has run. -/
structure FenceStands (v : Nat) (s : State) : Prop where
  mode : s.mode = .burrow
  fenced : s.bur.fenced = true
  version : s.bur.version = v
  shed : s.phase = .p5 ∨ s.getF Reg.BE_STATUS_SHED = 15

theorem FenceStands.kept {v : Nat} {s t : State} (hs : FenceStands v s) (h : FenceKept s t) : FenceStands v t :=
  ⟨h.mode.trans hs.mode, h.fenced.trans hs.fenced, h.version.trans hs.version, by rw [h.phase, h.shed]; exact hs.shed⟩

/-- A lamp die that stops before shed step 1 leaves the decision of P5 waiting for the shed steps it queues. -/
theorem fenceStands_lampStops {v : Nat} {s : State} (hs : FenceStands v s) (hshed : s.getF Reg.BE_STATUS_SHED = 15) : FenceStands v s.lampStops := by
  have hbits (q : Nat) : (q ||| 6) % 2 ^ 4 % 8 ≠ 0 := by
    intro h
    have hbit : ((q ||| 6) % 2 ^ 4 % 2 ^ 3).testBit 1 = true := by
      rw [Nat.testBit_mod_two_pow, Nat.testBit_mod_two_pow, Nat.testBit_or, show Nat.testBit 6 1 = true from rfl]
      simp
    rw [show (q ||| 6) % 2 ^ 4 % 2 ^ 3 = 0 from h] at hbit
    simp at hbit
  unfold State.lampStops State.shedNo
  rw [if_pos hshed]
  dsimp only
  generalize hu : State.setF _ Reg.SQ_STATUS_QUEUED _ = u
  have hqueued : u.getF Reg.SQ_STATUS_QUEUED % 8 ≠ 0 := by
    subst hu
    rw [State.getF_setF_self]
    exact hbits _
  have hkept : u.mode = s.mode ∧ u.bur.fenced = s.bur.fenced ∧ u.bur.version = s.bur.version := by
    subst hu
    exact ⟨rfl, rfl, rfl⟩
  obtain ⟨hmode, hphase, hbur, -⟩ := State.p5_shows (s := u) (.inl (by simp [State.stepsBusy, hqueued]))
  refine ⟨hmode.trans (hkept.1.trans hs.mode), ?_, ?_, .inl hphase⟩
  · rw [hbur]
    exact hkept.2.1.trans hs.fenced
  · rw [hbur]
    exact hkept.2.2.trans hs.version

theorem fenceStands_burrowRail {v : Nat} {s : State} (hs : FenceStands v s) (n : Nat) : FenceStands v (s.burrowRail n) := by
  have hlamp (hphase : s.phase ≠ .p5) := fenceStands_lampStops hs (hs.shed.resolve_left hphase)
  unfold State.burrowRail
  split
  case isTrue h => exact hlamp (by simp [h.1])
  case isFalse =>
  split
  case isTrue => exact hs.kept (.ite (.of_frame rfl) (.refl s))
  case isFalse hphase =>
  split
  case isTrue => exact hlamp fun h => hphase (.inl h)
  case isFalse =>
    have hgroup : FenceKept s { (s.haltGroup (fun _ => true)).stopSweep with
        bur := { (s.haltGroup (fun _ => true)).stopSweep.bur with noManifest := true } } :=
      (fenceKept_haltGroup.trans fenceKept_stopSweep).trans (.of_frame rfl)
    exact hs.kept (.ite fenceKept_loseChannels (.ite hgroup (.ite fenceKept_haltGroup (.ite fenceKept_haltGroup (.refl s)))))

theorem fenceStands_burrowRails {v : Nat} (l : List Nat) {s : State} (hs : FenceStands v s) : FenceStands v (l.foldl State.burrowRail s) := by
  induction l generalizing s with
  | nil => exact hs
  | cons n l ih => exact ih (fenceStands_burrowRail hs n)

/-- The fence's own marks, before what the contexts and the broken rails make of it. -/
theorem State.fenceRegs_stands {s : State} (hmode : s.mode = .burrow) : FenceStands (s.nand.epoch + 1) s.fenceBur.fenceRegs where
  mode := hmode
  fenced := rfl
  version := rfl
  shed := .inr (by
    refine (State.getF_setFs_mid _ [_, _, _, _, _, _, _] Reg.BE_STATUS_SHED 15 _ ?_).trans rfl
    simp
    decide)

theorem State.fence_stands (s : State) : FenceStands (s.nand.epoch + 1) s.fence := by
  have hepoch : ((s.blockForce 5).enterMode .burrow .p0).lsaStop.zeroStaging.nand = s.nand := by
    rw [show ((s.blockForce 5).enterMode .burrow .p0).lsaStop.zeroStaging.nand = ((s.blockForce 5).enterMode .burrow .p0).lsaStop.nand from rfl,
      State.lsaStop_frame, State.enterMode_frame, State.blockForce, State.comeInto_frame]
  have hmode : ((s.blockForce 5).enterMode .burrow .p0).lsaStop.zeroStaging.mode = .burrow := by
    rw [show ((s.blockForce 5).enterMode .burrow .p0).lsaStop.zeroStaging.mode = ((s.blockForce 5).enterMode .burrow .p0).lsaStop.mode from rfl,
      State.lsaStop_frame, State.enterMode_frame]
  have hbase := State.fenceRegs_stands hmode
  rw [hepoch] at hbase
  unfold State.fence
  dsimp only
  generalize hu : State.noRetry _ = u
  have hfenced : FenceStands (s.nand.epoch + 1) u := hu ▸ hbase.kept fenceKept_noRetry
  have hnoted : FenceKept u { u with bur := { u.bur with inRestore := s.mode == Mode.restore } } := .of_frame rfl
  refine fenceStands_burrowRails _ ((hfenced.kept hnoted).kept ?_)
  exact (((FenceKept.foldl (fun _ _ => fenceKept_fenceCtx) _ _).trans fenceKept_strand).trans fenceKept_setupAll).trans fenceKept_fenceTwin

theorem fence_completes {s : State} (htrig : s.bur.trig = true) (hswitch : s.twin.switching = false) (hrun : s.mode = .run)
    (hlrst : s.getB Reg.MD_STATUS_LRST_ACT = false) :
    ∃ t, exec .fence s = .next t ∧ t.mode = .burrow ∧ t.bur.fenced = true ∧ t.bur.version = s.nand.epoch + 1 := by
  have hexec : exec .fence s = .next s.fence := congrArg Host.Outcome.next (if_pos (by simp [htrig, hswitch, hrun, hlrst]))
  have hstands := s.fence_stands
  exact ⟨_, hexec, hstands.mode, hstands.fenced, hstands.version⟩

/-! ### Shed steps (R204, R206, R222) -/

/-- The registers that show a shed step in progress. -/
def shedFlds : List Fld := [Reg.SQ_STATUS_SEQ, Reg.SQ_STATUS_STEP, Reg.BE_STATUS_SHED]

/-- Shed step k runs, and no other sequence waits behind it. -/
structure ShedRuns (k : Nat) (s : State) : Prop where
  seq : s.getF Reg.SQ_STATUS_SEQ = 3
  step : s.getF Reg.SQ_STATUS_STEP = k
  shed : s.getF Reg.BE_STATUS_SHED = k
  down : s.rail.downTo = 0

theorem ShedRuns.kept {k : Nat} {s t : State} (hs : ShedRuns k s) (hregs : ∀ g ∈ shedFlds, t.getF g = s.getF g)
    (hrail : t.rail.downTo = s.rail.downTo) : ShedRuns k t :=
  ⟨(hregs _ (by simp [shedFlds])).trans hs.seq, (hregs _ (by simp [shedFlds])).trans hs.step, (hregs _ (by simp [shedFlds])).trans hs.shed,
    hrail.trans hs.down⟩

theorem shedRuns_holdDram {k : Nat} {s : State} (hs : ShedRuns k s) : ShedRuns k s.holdDram := by
  have hregs : RegsKept [Reg.DC_STATUS_HOLD, Reg.DC_STATUS_CH0_STATE, Reg.DC_STATUS_CH1_STATE, Reg.MD_STATUS_DRAM_HELD] s s.holdDram := by
    have hhold : RegsKept [Reg.DC_STATUS_HOLD, Reg.DC_STATUS_CH0_STATE, Reg.DC_STATUS_CH1_STATE, Reg.MD_STATUS_DRAM_HELD] s s.takeHold :=
      regsKept_setFs (by simp)
    exact (hhold.trans (regsKept_setF (by simp))).trans (.of_regs rfl)
  exact hs.kept (fun g hg => hregs g (by revert g; decide)) rfl

theorem shedRuns_repower {k : Nat} {s : State} (hs : ShedRuns k s) : ShedRuns k s.repower := by
  have hlasts : ∀ g ∈ shedFlds, g.outlastsPower := by decide
  exact hs.kept (fun g hg => State.getF_repower (hlasts g hg) s) (by rw [s.repower_rail])

/-- A shed step before the last one leaves its number when its outputs are off (R358). -/
theorem ShedRuns.seqCheck {k : Nat} {s : State} (hs : ShedRuns k s) (hk : k < 3) :
    s.seqCheck.getF Reg.SQ_STATUS_STEP = k ∧ s.seqCheck.getF Reg.BE_STATUS_SHED = k := by
  have hended : RegsKept [Reg.SQ_STATUS_SEQ] s (s.setFs [(Reg.SQ_STATUS_SEQ, 0)]) := regsKept_setFs (by simp)
  have hcheck : s.seqCheck = s ∨ s.seqCheck = s.setFs [(Reg.SQ_STATUS_SEQ, 0)] := by
    have hstep : s.getF Reg.SQ_STATUS_STEP ≠ 3 := by rw [hs.step]; omega
    have hdown : (s.setFs [(Reg.SQ_STATUS_SEQ, 0)]).rail.downTo = 0 := hs.down
    unfold State.seqCheck
    split
    case h_3 =>
      rw [if_neg hstep]
      dsimp only
      rw [hdown]
      split
      · exact .inl rfl
      · exact .inr (ite_self _)
    all_goals simp_all [hs.seq]
  obtain h | h := hcheck <;> rw [h]
  · exact ⟨hs.step, hs.shed⟩
  · exact ⟨(hended _ (by decide)).trans hs.step, (hended _ (by decide)).trans hs.shed⟩

/-- The registers that shed step k sets as it begins. -/
def shedSets (u : State) (k : Nat) : List (Fld × Nat) :=
  [(Reg.SQ_STATUS_QUEUED, u.getF Reg.SQ_STATUS_QUEUED - 2 ^ k), (Reg.SQ_STATUS_SEQ, 3), (Reg.SQ_STATUS_STEP, k), (Reg.SQ_STATUS_ELAPSED, 0),
    (Reg.BE_STATUS_SHED, k), (Reg.ES_STATUS_ACC_ON, if min 2 (u.getF Reg.SQ_CFG_ACC_SHED) = k then 0 else u.getF Reg.ES_STATUS_ACC_ON),
    (Reg.ES_STATUS_CHG, if k = 0 ∧ u.getF Reg.ES_STATUS_CHG ≠ 5 then 0 else u.getF Reg.ES_STATUS_CHG),
    (Reg.ES_STATUS_BAL_ACTIVE, if k = 0 then 0 else u.getF Reg.ES_STATUS_BAL_ACTIVE)]

/-- Shed step k as it begins, before its outputs are turned off. -/
def State.shedBegun (u : State) (k : Nat) : State :=
  { u.setFs (shedSets u k) with
    phase := if u.phase = .p0 then .p1 else u.phase
    rail := { u.rail with seqStart := u.rail.tick } }

/-- The outputs that wait to come up in shed step k go off. -/
def State.shedWaiters (s : State) (k : Nat) : State :=
  s.setEnts (railEntries.filter (fun n => s.shedOf n == k && (s.entSt n == 1 || s.entSt n == 4))) 0

theorem State.shed_eq (s : State) (k : Nat) : s.shed k =
    (if k = 2 then ((s.seqForce.shedBegun k).shedWaiters k).holdDram else (s.seqForce.shedBegun k).shedWaiters k).repower.seqCheck := rfl

theorem State.shedSets_show (u : State) {k : Nat} (hk : k < 3) :
    (u.setFs (shedSets u k)).getF Reg.SQ_STATUS_SEQ = 3 ∧ (u.setFs (shedSets u k)).getF Reg.SQ_STATUS_STEP = k ∧
      (u.setFs (shedSets u k)).getF Reg.BE_STATUS_SHED = k := by
  have hstep : k % 2 ^ Reg.SQ_STATUS_STEP.w = k := Nat.mod_eq_of_lt (by simp [Reg.SQ_STATUS_STEP]; omega)
  have hshed : k % 2 ^ Reg.BE_STATUS_SHED.w = k := Nat.mod_eq_of_lt (by simp [Reg.BE_STATUS_SHED]; omega)
  refine ⟨?_, Eq.trans ?_ hstep, Eq.trans ?_ hshed⟩
  · exact u.getF_setFs_mid ((shedSets u k).take 1) Reg.SQ_STATUS_SEQ 3 ((shedSets u k).drop 2) (by simp [shedSets]; decide)
  · exact u.getF_setFs_mid ((shedSets u k).take 2) Reg.SQ_STATUS_STEP k ((shedSets u k).drop 3) (by simp [shedSets]; decide)
  · exact u.getF_setFs_mid ((shedSets u k).take 4) Reg.BE_STATUS_SHED k ((shedSets u k).drop 5) (by simp [shedSets]; decide)

theorem shedRuns_shedBegun {u : State} {k : Nat} (hk : k < 3) (hdown : u.rail.downTo = 0) : ShedRuns k (u.shedBegun k) := by
  obtain ⟨hseq, hstep, hshed⟩ := u.shedSets_show hk
  have hkept : RegsKept [] (u.setFs (shedSets u k)) (u.shedBegun k) := .of_regs rfl
  exact ⟨(hkept _ (by simp)).trans hseq, (hkept _ (by simp)).trans hstep, (hkept _ (by simp)).trans hshed, hdown⟩

theorem shedRuns_shedWaiters {k : Nat} {s : State} (hs : ShedRuns k s) : ShedRuns k (s.shedWaiters k) := by
  have hentries : ∀ g ∈ shedFlds, offEntries g = true := by decide
  obtain ⟨hframe, hregs⟩ : EntriesMoved s (s.shedWaiters k) := EntriesMoved.foldl (fun a n => entriesMoved_setEnt a n 0) _ s
  exact hs.kept (fun g hg => hregs g (hentries g hg)) (by rw [hframe])

theorem State.shed_shows {s : State} {k : Nat} (hk : k < 3) (hdown : s.rail.downTo = 0) :
    (s.shed k).getF Reg.SQ_STATUS_STEP = k ∧ (s.shed k).getF Reg.BE_STATUS_SHED = k := by
  have hforced : s.seqForce.rail.downTo = 0 := by rw [State.seqForce, State.comeInto_frame]; exact hdown
  have hruns := shedRuns_shedWaiters (shedRuns_shedBegun hk hforced)
  rw [State.shed_eq]
  refine (shedRuns_repower ?_).seqCheck hk
  split
  · exact shedRuns_holdDram hruns
  · exact hruns

theorem shedStep_begins {s : State} {k : Nat} (hmode : s.mode = .burrow) (habn : s.bur.abn = .none) (hseq : s.getF Reg.SQ_STATUS_SEQ = 0) (hk : k < 3)
    (hqueued : (s.getF Reg.SQ_STATUS_QUEUED).testBit k = true) (hlowest : s.getF Reg.SQ_STATUS_QUEUED % 2 ^ k = 0) (hdown : s.rail.downTo = 0)
    (hphase : k = 2 → s.phase = .p3) :
    ∃ t, exec (.shedStep k) s = .next t ∧ t.getF Reg.SQ_STATUS_STEP = k ∧ t.getF Reg.BE_STATUS_SHED = k := by
  have hp4 : ¬ (k = 2 ∧ s.phase = .p4 ∧ s.bur.manLoc = none) := fun ⟨htwo, hfour, _⟩ => by
    rw [hphase htwo] at hfour
    cases hfour
  have hk4 : k < 4 := by omega
  have hexec : exec (.shedStep k) s = .next (s.shed k) := by
    refine congrArg Host.Outcome.next ((if_pos ?_).trans (if_neg hp4))
    simp [hmode, habn, hseq, hk4, hqueued, hlowest]
  exact ⟨_, hexec, State.shed_shows hk hdown⟩

/-! ### P1 (R207) -/

theorem p1End_completes {s : State} (hmode : s.mode = .burrow) (hphase : s.phase = .p0 ∨ s.phase = .p1) (hwait : s.twin.fenceWait = false) :
    ∃ t, exec .p1End s = .next t ∧ t.phase = .p2 ∧ t.cover.mirrorPend = [] := by
  have hexec : exec .p1End s = .next { s.mirrorFlush with phase := .p2, bur := { s.bur with t2 := s.ms } } :=
    congrArg Host.Outcome.next (if_pos (by simp [hmode, hphase, hwait]))
  exact ⟨_, hexec, rfl, rfl⟩

theorem p1Late_completes {s : State} (hmode : s.mode = .burrow) (hactive : s.getB Reg.BE_STATUS_ACTIVE = true) (hshed : s.shedNo < 3)
    (hbuf : s.dram.wbuf ≠ []) : ∃ t, exec .p1Late s = .next t ∧ t.getF Reg.BE_STATUS_P1_LATE = 1 ∧ t.dram = s.dram := by
  have hexec : exec .p1Late s = .next (s.setF Reg.BE_STATUS_P1_LATE 1) :=
    congrArg Host.Outcome.next (if_pos (by simp [hmode, hactive, hshed, hbuf]))
  exact ⟨_, hexec, State.getF_setF_self _ _ _, rfl⟩

/-! ### What the turns to load leave alone (R214) -/

theorem State.loadTurn_frame (s : State) (n : Nat) : s.loadTurn n = { s with
    bur := { s.bur with ctx := (s.loadTurn n).bur.ctx }, dram := { s.dram with sub := (s.loadTurn n).dram.sub } } := by
  unfold State.loadTurn State.askCtx
  dsimp only
  split
  · split <;> rfl
  · rfl

/-- Contexts begin LOAD and ask DRAM for their granules: nothing else moves. -/
theorem State.loadTurns_frame (s : State) : s.loadTurns = { s with
    bur := { s.bur with ctx := s.loadTurns.bur.ctx }, dram := { s.dram with sub := s.loadTurns.dram.sub } } := by
  unfold State.loadTurns
  generalize s.bur.ctx.map (·.1) = l
  induction l generalizing s with
  | nil => rfl
  | cons n l ih =>
    rw [List.foldl_cons, ih, State.loadTurn_frame]

/-! ### The sweep's visit (R208, R216, R218) -/

/-- The sweep's own state, the ledger and the mirror stay: the contexts, the DRAM's requests and the translation cache may move. -/
structure SweepKept (s t : State) : Prop where
  frame : t = { s with regs := t.regs, nand := t.nand, dram := t.dram, bur := { s.bur with ctx := t.bur.ctx } }
  regs : RegsKept [Reg.NB_TCACHE_PAR_ERR] s t

theorem sweepKept_loadTurns (s : State) : SweepKept s s.loadTurns :=
  ⟨by rw [s.loadTurns_frame], .of_regs (by rw [s.loadTurns_frame])⟩

theorem SweepKept.cacheParity {s t : State} (h : SweepKept s t) (fault : Bool) (g : Nat) : SweepKept s (t.cacheParity fault g) := by
  unfold State.cacheParity
  split
  · refine ⟨?_, h.regs.trans ?_⟩
    · conv_lhs => rw [h.frame]
      rfl
    · exact regsKept_addSat (s := { t with nand := { t.nand with tcache := sdel g t.nand.tcache } }) (by simp)
  · exact h

/-- The sweep's next granule is read from the ledger and the mirror alone. -/
theorem SweepKept.nextDirty {s t : State} (h : SweepKept s t) : t.nextDirty = s.nextDirty := by
  have hpop : ∀ f ∈ popFlds, ∀ g ∈ [Reg.NB_TCACHE_PAR_ERR], f.key ≠ g.key := by decide
  have hotp : t.otp = s.otp := by rw [h.frame]
  have hcover : t.cover = s.cover := by rw [h.frame]
  have hledger (g : Nat) : t.ledgerOf g = s.ledgerOf g := State.ledgerOf_congr hotp h.regs hpop (by rw [hcover]) (by rw [hcover]) g
  have hreported : t.nReported = s.nReported := by
    unfold State.nReported State.cap256M
    rw [State.nUser_congr hotp fun f hf => h.regs f (hpop f hf)]
  have hsweep (g : Nat) : t.sweepable g = s.sweepable g := by
    unfold State.sweepable State.mirrorDirty
    rw [hledger, hcover, h.frame]
  have hpos : t.bur.pos = s.bur.pos := by rw [h.frame]
  unfold State.nextDirty
  simp only [hcover, hpos, hsweep, hreported]

/-- With the sweep stopped its visit records the granule LOST and goes on behind it. -/
theorem State.burrowVisit_stopped {s : State} {g : Nat} (hsan : s.bur.inSanitize = false) (htake : s.bur.faultTake = [])
    (hhand : s.bur.handoff.length ≤ 256) (hpass : s.bur.pass < s.passes) (hnext : s.nextDirty = some g) (hstop : s.bur.stopped = true) :
    mfind g s.burrowVisit.bur.staging = some ⟨0, true, false, false⟩ ∧ s.burrowVisit.bur.pos = g + 1 := by
  have hland : s.land g = some (s.recordLost g) := if_pos (by simp [hstop])
  have hvisit : s.burrowVisit = { s.recordLost g with bur := { (s.recordLost g).bur with pos := g + 1 } } := by
    unfold State.burrowVisit
    rw [htake, if_neg (by simp [hsan]), hnext]
    dsimp only
    rw [if_neg (by omega), if_pos hpass, hland]
    rfl
  rw [hvisit]
  exact ⟨(mfind_mset _ _ _ _).trans (if_pos rfl), rfl⟩

theorem sweepVisit_stopped {s : State} (m b : Bool) {g : Nat} (hmode : s.mode = .burrow) (hphase : s.phase = .p2) (habn : s.bur.abn = .none)
    (hhand : s.bur.handoff.length ≤ 256) (hsan : s.bur.inSanitize = false) (htake : s.bur.faultTake = []) (hpass : s.bur.pass < s.passes)
    (hnext : s.nextDirty = some g) (hstop : s.bur.stopped = true) :
    ∃ t, exec (.burrowSweepVisit none m b) s = .next t ∧ mfind g t.bur.staging = some ⟨0, true, false, false⟩ ∧ t.bur.pos = g + 1 := by
  obtain ⟨v, hexec, hv⟩ : ∃ v : State, exec (.burrowSweepVisit none m b) s = .next v.burrowVisit ∧ SweepKept s v := by
    refine ⟨_, congrArg Host.Outcome.next (if_pos (by simp [hmode, hphase, habn])), ?_⟩
    split
    · exact (sweepKept_loadTurns s).cacheParity b _
    · exact sweepKept_loadTurns s
  have hbur : v.bur = { s.bur with ctx := v.bur.ctx } := by rw [hv.frame]
  refine ⟨_, hexec, State.burrowVisit_stopped ?_ ?_ ?_ ?_ (hv.nextDirty.trans hnext) ?_⟩
  · rw [hbur]; exact hsan
  · rw [hbur]; exact htake
  · rw [hbur]; exact hhand
  · unfold State.passes
    rw [hbur]
    exact hpass
  · rw [hbur]; exact hstop

/-! ### Programs (R213, R223) -/

theorem State.ctxOf_setCtx_ne (s : State) {n m : Nat} (c : Ctx) (h : m ≠ n) : (s.setCtx n c).ctxOf m = s.ctxOf m := mget_mset_ne _ _ _ h

theorem State.ctxOf_askCtx (s : State) (n m : Nat) : (s.askCtx n).ctxOf m = s.ctxOf m := by
  unfold State.askCtx
  dsimp only
  split <;> rfl

/-- A context that does not wait for its LUN's turn is the same after all turns. -/
theorem State.ctxOf_loadTurn {s : State} {m : Nat} (h : (s.ctxOf m).waits = false) (n : Nat) : (s.loadTurn n).ctxOf m = s.ctxOf m := by
  unfold State.loadTurn
  dsimp only
  split
  case isTrue hturn =>
    have hne : m ≠ n := fun e => by simp [← e, h] at hturn
    rw [State.ctxOf_askCtx, State.ctxOf_setCtx_ne _ _ hne]
  case isFalse => rfl

theorem State.ctxOf_loadTurns {s : State} {m : Nat} (h : (s.ctxOf m).waits = false) : s.loadTurns.ctxOf m = s.ctxOf m := by
  unfold State.loadTurns
  generalize s.bur.ctx.map (·.1) = l
  induction l generalizing s with
  | nil => rfl
  | cons n l ih =>
    have hone := State.ctxOf_loadTurn h n
    exact (ih (by rwa [hone])).trans hone

theorem programConfirm_completes {s : State} {n : Nat} (hload : (s.ctxOf n).st = .load) (hread : s.ctxReading n = false) (hpaid : 0 < s.bur.account)
    (hfree : s.lunBusy (locLun (s.ctxOf n).page) = false) (habn : s.bur.abn = .none) (hup : s.lunUp (locLun (s.ctxOf n).page) = true)
    (hready : s.mode = .run → s.keepsReady (locLun (s.ctxOf n).page) = true) :
    ∃ t, exec (.programConfirm n) s = .next t ∧ (t.ctxOf n).st = .prog ∧
      mfind (s.ctxOf n).page t.nand.pages = some (s.copyPage (s.ctxOf n)) := by
  have hctx : (s.confirmed n).ctxOf n = { s.ctxOf n with st := .prog, poison := !(s.copyPage (s.ctxOf n)).lp.isEmpty } :=
    mget_mset_self _ _ _ _
  have hpages : mfind (s.ctxOf n).page (s.confirmed n).nand.pages = some (s.copyPage (s.ctxOf n)) := (mfind_mset _ _ _ _).trans (if_pos rfl)
  refine ⟨_, exec_programConfirm hload hread hpaid hfree habn hup hready, ?_, ?_⟩
  · rw [State.ctxOf_loadTurns (by rw [hctx]; rfl), hctx]
  · rw [State.loadTurns_frame]
    exact hpages

theorem State.rearm_staging (s : State) (n : Nat) : (s.rearm n).bur.staging = s.bur.staging := by
  unfold State.rearm
  cases harm : s.armCtx n with
  | none => rfl
  | some t =>
    unfold State.armCtx at harm
    split at harm
    · cases harm
    · obtain ⟨loc, -, rfl⟩ := Option.map_eq_some_iff.mp harm
      rfl

theorem programStatus_lands {s : State} {n : Nat} (hprog : (s.ctxOf n).st = .prog) (hmode : s.mode = .burrow) (hkind : (s.ctxOf n).kind = .burrow) :
    ∃ t, exec (.programStatus n true) s = .next t ∧
      mfind (s.ctxOf n).gran t.bur.staging = some ⟨(s.ctxOf n).page, false, (s.ctxOf n).poison, (s.ctxOf n).newUe⟩ := by
  have hfine : s.programFine (s.ctxOf n) = s.lunFine (locLun (s.ctxOf n).page) := if_pos (.inl hmode)
  have hexec : exec (.programStatus n true) s = .next ((s.lunFine (locLun (s.ctxOf n).page)).landed n) := by
    simp only [exec, execProgramStatus, hprog, hmode, hkind, hfine, ne_eq, not_true_eq_false, if_false, if_true, Bool.not_true, Bool.false_eq_true]
  refine ⟨_, hexec, ?_⟩
  rw [State.landed, State.rearm_staging]
  exact (mfind_mset _ _ _ _).trans (if_pos rfl)

theorem lunNotReady_fails {s : State} {l : Nat} (hprog : s.lunProg l = true) (hpop : s.lunPop l = true) :
    ∃ t, exec (.lunNotReady l) s = .next t ∧ t.lunFailed l = true ∧ t.mode = s.mode := by
  have hexec : exec (.lunNotReady l) s = .next (((s.failLun l).loadTurns).alertScan s.crossed) := congrArg Host.Outcome.next (if_pos hprog)
  have hscan := regsKept_alertScan (s.failLun l).loadTurns s.crossed
  have hregs : RegsKept evFlds (s.failLun l) ((s.failLun l).loadTurns.alertScan s.crossed) :=
    RegsKept.trans (.of_regs (by rw [State.loadTurns_frame])) hscan
  refine ⟨_, hexec, ?_, ?_⟩
  · rw [lunFailed_congr (fun f hf => hregs f (by revert f; decide)) (lunPop_lt hpop)]
    exact State.failLun_fails hpop
  · rw [State.alertScan_frame, State.loadTurns_frame]
    exact (lunsMoved_failLun s l).mode

/-! ### The ends of P2 and P3 (R216, R219, R220) -/

theorem p2End_completes {s : State} (hmode : s.mode = .burrow) (hphase : s.phase = .p2) (habn : s.bur.abn = .none) (hdone : s.sweepDone = true) :
    ∃ t, exec .p2End s = .next t ∧ t.phase = .p3 ∧ t.bur.t3 = s.ms := by
  have hexec : exec .p2End s = .next (({ (s.setF Reg.BE_DUR_P2_MS (min 0xFFFF (s.ms - s.bur.t2))) with
      phase := .p3, bur := { s.bur with t3 := s.ms } } : State).queueShed 1) :=
    congrArg Host.Outcome.next (if_pos (by simp [hmode, hphase, habn, hdone]))
  exact ⟨_, hexec, rfl, rfl⟩

theorem p2Timeout_stops {s : State} (hmode : s.mode = .burrow) (hphase : s.phase = .p2) (habn : s.bur.abn = .none) (hstop : s.bur.stopped = false) :
    ∃ t, exec .p2Timeout s = .next t ∧ t.bur.stopped = true ∧ t.getF Reg.BE_STATUS_ESTOP = 1 := by
  have hexec : exec .p2Timeout s = .next s.stopSweep := congrArg Host.Outcome.next (if_pos (by simp [hmode, hphase, habn]))
  refine ⟨_, hexec, ?_⟩
  unfold State.stopSweep
  rw [if_neg (by simp [hstop])]
  exact ⟨rfl, State.getF_setF_self s Reg.BE_STATUS_ESTOP 1⟩

theorem State.inP3_intro {s : State} (hmode : s.mode = .burrow) (hphase : s.phase = .p3) (habn : s.bur.abn = .none) : s.inP3 = true := by
  simp [State.inP3, hmode, hphase, habn]

theorem p3End_barred {s : State} (fails : List Nat) (hbarred : s.bur.noManifest = true) :
    ∃ t, exec (.p3End fails) s = .next t ∧ t.bur = s.bur ∧ t.nand = s.nand :=
  ⟨s, congrArg Host.Outcome.next (if_neg (by simp [hbarred])), rfl, rfl⟩

/-- LOST marks move the ledger alone. -/
theorem State.setLedgers_frame {α : Type} (g : α → Nat) (l : List α) (s : State) :
    l.foldl (fun (a : State) x => a.setLedger (g x) .lost) s =
      { s with cover := (l.foldl (fun (a : State) x => a.setLedger (g x) .lost) s).cover } := by
  induction l generalizing s with
  | nil => rfl
  | cons x l ih =>
    rw [List.foldl_cons, ih]
    rfl

/-- What the start of P4 shows: its time, and the closed manifest as before. -/
theorem State.beginP4_shows (s : State) : s.beginP4.phase = .p4 ∧ s.beginP4.bur = { s.bur with t4 := s.ms } ∧
    s.beginP4.getF Reg.BE_STATUS_MAN_CLOSED = s.getF Reg.BE_STATUS_MAN_CLOSED := by
  have hframe := State.setLedgers_frame (fun x : Nat × Slot => x.1) (s.bur.staging.filter (fun x => x.2.lost)) s
  unfold State.beginP4
  dsimp only
  generalize (s.bur.staging.filter (fun x => x.2.lost)).foldl (fun (a : State) x => a.setLedger x.1 .lost) s = m at hframe
  have hbur : m.rebuildBooks.bur = s.bur := by
    rw [hframe]
    rfl
  have hmarked : RegsKept [Reg.BE_DUR_P3_MS, Reg.SQ_STATUS_QUEUED] s m.rebuildBooks := .of_regs (by
    rw [hframe]
    rfl)
  generalize m.rebuildBooks = t at hbur hmarked
  have htime : RegsKept [Reg.BE_DUR_P3_MS, Reg.SQ_STATUS_QUEUED] t (t.setF Reg.BE_DUR_P3_MS (min 0xFF (s.ms - s.bur.t3))) := regsKept_setF (by simp)
  generalize t.setF Reg.BE_DUR_P3_MS (min 0xFF (s.ms - s.bur.t3)) = u at htime
  have hbegun : RegsKept [Reg.BE_DUR_P3_MS, Reg.SQ_STATUS_QUEUED] u { u with phase := .p4, bur := { t.bur with t4 := s.ms } } := .of_regs rfl
  have hqueued {v : State} : RegsKept [Reg.BE_DUR_P3_MS, Reg.SQ_STATUS_QUEUED] v (v.queueShed 2) := regsKept_setF (by simp)
  exact ⟨rfl, by rw [← hbur]; rfl, (((hmarked.trans htime).trans hbegun).trans hqueued) _ (by decide)⟩

theorem p3End_closes {s u : State} {pages fails : List Nat} (hmode : s.mode = .burrow) (hphase : s.phase = .p3) (habn : s.bur.abn = .none)
    (hfree : s.bur.noManifest = false) (hpaid : 0 < s.bur.account)
    (hput : s.putManifest (manPieces s.manEntries s.voidEntries).length fails (manPieces s.manEntries s.voidEntries) 0 noLoc [] = some (u, pages)) :
    ∃ t, exec (.p3End fails) s = .next t ∧ t.phase = .p4 ∧ t.getF Reg.BE_STATUS_MAN_CLOSED = 1 ∧ t.bur.manPages = pages := by
  have hexec : exec (.p3End fails) s = .next ({ (u.setF Reg.BE_STATUS_MAN_CLOSED 1) with
      bur := { u.bur with manLoc := pages.getLast?, manPages := pages } } : State).beginP4 := by
    refine congrArg Host.Outcome.next ((if_pos (by simp [State.inP3_intro hmode hphase habn, hfree, hpaid])).trans ?_)
    dsimp only
    rw [hput]
  obtain ⟨hp4, hbur, hclosed⟩ := State.beginP4_shows ({ (u.setF Reg.BE_STATUS_MAN_CLOSED 1) with
    bur := { u.bur with manLoc := pages.getLast?, manPages := pages } } : State)
  exact ⟨_, hexec, hp4, hclosed.trans (State.getF_setF_self u Reg.BE_STATUS_MAN_CLOSED 1), by rw [hbur]⟩

theorem armKept_manTake {s t : State} {loc : Nat} (h : s.manTake = some (t, loc)) : ArmKept s t := by
  unfold State.manTake at h
  split at h
  · cases h
    exact (armKept_metaTake _ _).trans (armKept_rearm _)
  · cases h
    exact .ite rfl rfl
  · cases h
    exact armKept_rearm _
  · split at h
    · cases h
    · obtain ⟨l, -, hl⟩ := Option.map_eq_some_iff.mp h
      cases hl
      rfl

/-- Manifest pages whose programs all pass are programmed at once. -/
theorem armKept_putManifest (total : Nat) (l : List (List MEnt)) {s t : State} {no prev : Nat} {done pages : List Nat}
    (h : s.putManifest total [] l no prev done = some (t, pages)) : ArmKept s t := by
  induction l generalizing s no prev done with
  | nil =>
    cases h
    exact .refl _
  | cons e l ih =>
    unfold State.putManifest at h
    split at h
    case h_1 => cases h
    case h_2 a loc hpick => 
      have hput (p : NPage) (k : Nat) : ArmKept a (((a.putPage loc p).lunFine (locLun loc)).spend k) := rfl
      exact ((armKept_manTake hpick).trans (hput _ _)).trans (ih h)

theorem p3Timeout_begins {s : State} (n : Nat) (hmode : s.mode = .burrow) (hphase : s.phase = .p3) (habn : s.bur.abn = .none) :
    ∃ t, exec (.p3Timeout n) s = .next t ∧ t.phase = .p4 ∧ t.bur.t4 = s.ms := by
  obtain ⟨v, hexec, hms⟩ : ∃ v : State, exec (.p3Timeout n) s = .next v.beginP4 ∧ v.ms = s.ms := by
    refine ⟨_, congrArg Host.Outcome.next (if_pos (State.inP3_intro hmode hphase habn)), ?_⟩
    split
    case h_1 t pages hput =>
      have hkept := armKept_putManifest _ _ hput
      rw [show t = _ from hkept]
    case h_2 => rfl
  obtain ⟨hp4, hbur, -⟩ := v.beginP4_shows
  exact ⟨_, hexec, hp4, by rw [hbur]; exact hms⟩

/-! ### P4 (R31, R96, R220, R221) -/

/-- Without VIN the end of P4 begins P5: its time and the registers of P5 apart, registers stay. -/
theorem State.endP4_shows {s : State} (hvin : s.vinRet = false) : s.endP4.phase = .p5 ∧ s.endP4.bur = { s.bur with abnTimes := [] } ∧
    RegsKept (Reg.BE_DUR_P4_MS :: p5Flds) s s.endP4 := by
  have htime : RegsKept [Reg.BE_DUR_P4_MS] s (s.setF Reg.BE_DUR_P4_MS (min 0xFF (s.ms - s.bur.t4))) := regsKept_setF (by simp)
  have hgone : (s.setF Reg.BE_DUR_P4_MS (min 0xFF (s.ms - s.bur.t4))).vinRet = false := by
    unfold State.vinRet State.getB at hvin ⊢
    rw [htime _ (by decide)]
    exact hvin
  obtain ⟨-, hphase, hbur, hregs⟩ := State.p5_shows (.inr hgone)
  exact ⟨hphase, hbur, (htime.mono (by simp)).trans (hregs.mono (by simp))⟩

theorem prepKept_twinRec {s : State} : PrepKept s s.twinRec := by
  unfold State.twinRec
  exact .ite (prepKept_jNow.trans (.of_frame rfl)) (.refl s)

theorem journalCommit_commits {s : State} (hp4 : s.inP4 = true) (hup : s.keep.up = true) (hdead : s.jDead = false) (hvin : s.vinRet = false) :
    ∃ t, exec .journalCommit s = .next t ∧ t.phase = .p5 ∧ t.bur.committed = true ∧
      t.getF Reg.NB_MANPTR_LOC = s.bur.manLoc.getD noLoc % 2 ^ 32 := by
  obtain ⟨u, live, hexec, hu⟩ : ∃ (u : State) (live : List Nat), exec .journalCommit s = .next
      ({ (u.setF Reg.NB_MANPTR_LOC (s.bur.manLoc.getD noLoc)) with
        bur := { u.bur with committed := true }, nand := { u.nand with live := live } } : State).endP4 ∧ PrepKept s u :=
    ⟨_, _, congrArg Host.Outcome.next (if_pos (by simp [hp4, hup, hdead])), (prepKept_shutdownEnd.trans prepKept_jNow).trans prepKept_twinRec⟩
  generalize hv : ({ (u.setF Reg.NB_MANPTR_LOC (s.bur.manLoc.getD noLoc)) with
    bur := { u.bur with committed := true }, nand := { u.nand with live := live } } : State) = v at hexec
  have hptr : v.getF Reg.NB_MANPTR_LOC = s.bur.manLoc.getD noLoc % 2 ^ 32 := by
    rw [← hv]
    exact State.getF_setF_self u Reg.NB_MANPTR_LOC _
  have hcommitted : v.bur.committed = true := by
    rw [← hv]
  have hgone : v.vinRet = false := by
    have hkept : RegsKept prepFlds u v := by
      rw [← hv]
      exact (regsKept_setF (s := u) (f := Reg.NB_MANPTR_LOC) (v := s.bur.manLoc.getD noLoc) (by simp [prepFlds])).trans (.of_regs rfl)
    unfold State.vinRet State.getB at hvin ⊢
    rw [hkept _ (by decide), hu.2 _ (by decide)]
    exact hvin
  obtain ⟨hphase, hbur, hregs⟩ := State.endP4_shows hgone
  exact ⟨_, hexec, hphase, by rw [hbur]; exact hcommitted, (hregs _ (by decide)).trans hptr⟩

theorem p4Timeout_defers {s : State} (hmode : s.mode = .burrow) (hphase : s.phase = .p4) (hman : s.bur.manLoc.isSome = true)
    (hopen : s.bur.committed = false) (hvin : s.vinRet = false) :
    ∃ t, exec .p4Timeout s = .next t ∧ t.phase = .p5 ∧ t.getF Reg.BE_STATUS_DEFERRED = 1 := by
  have hexec : exec .p4Timeout s = .next (s.setF Reg.BE_STATUS_DEFERRED 1).endP4 :=
    congrArg Host.Outcome.next (if_pos (by simp [hmode, hphase, hman, hopen]))
  have hgone : (s.setF Reg.BE_STATUS_DEFERRED 1).vinRet = false := by
    unfold State.vinRet State.getB at hvin ⊢
    rw [State.getF_setF_ne s _ (by decide)]
    exact hvin
  obtain ⟨hp5, -, hregs⟩ := State.endP4_shows hgone
  exact ⟨_, hexec, hp5, (hregs _ (by decide)).trans (State.getF_setF_self s _ _)⟩

/-! ### The abandon's forms (R57 to R61) -/

theorem abandonUpDone_completes {s : State} (hpowered : s.abnPowered = true) :
    ∃ t, exec .abandonUpDone s = .next t ∧ t.bur.abn = (if s.linkAwaited then .settling else .none) ∧
      t.mode = (if s.linkAwaited then s.mode else .run) := by
  by_cases hlink : s.linkAwaited = true
  · exact ⟨_, abandonUpDone_waits hpowered hlink, by simp [hlink], by simp [hlink]⟩
  · rw [Bool.not_eq_true] at hlink
    obtain ⟨t, hexec, hmode, -, habn, -⟩ := abandonUpDone_ends hpowered hlink
    exact ⟨t, hexec, by simp [hlink, habn], by simp [hlink, hmode]⟩

/-! ### DEN and the hardware cut (R270, R386) -/

theorem denRebase_completes {s : State} (hden : s.mode = .den) (hseq : s.getF Reg.SQ_STATUS_SEQ ≠ 4)
    (hfloor : s.rebaseBooks.denFloor < s.rebaseBooks.cover.eAvail) :
    ∃ t, exec .denRebase s = .next t ∧ t.mode = .den ∧ t.getF Reg.LG_EAVAIL_HI_AGE_US = 0 := by
  have hexec : exec .denRebase s = .next s.rebaseBooks :=
    congrArg Host.Outcome.next ((if_pos ⟨hden, hseq⟩).trans (if_neg (Nat.not_le.mpr hfloor)))
  refine ⟨_, hexec, ?_, s.rebaseBooks_fresh.2⟩
  rw [State.rebaseBooks_frame]
  exact hden

theorem State.offBase_mode (s : State) : s.offBase.mode = .off := by
  obtain ⟨u, hu, -, hframe⟩ := s.offBase_frame
  rw [hframe, hu]
  show ((s.pendLock.setEnts railEntries 0).enterMode .off .none).mode = .off
  rw [State.enterMode_frame]

/-- A recorded reason holds the unit in OFF when its outputs are off. -/
theorem State.reachOff_mode {s : State} {i : Nat} (hlock : (s.getF Reg.MD_LOCKOUT_ALL).testBit i = true) : s.reachOff.mode = .off := by
  have hpend : DmkKept s s.pendLock := .ite dmkKept_recordLock (.refl s)
  have hstands : s.pendLock.getF Reg.MD_LOCKOUT_ALL ≠ 0 := fun h => by
    have hbit := hpend.lock i hlock
    rw [h, Nat.zero_testBit] at hbit
    cases hbit
  unfold State.reachOff
  dsimp only
  rw [if_neg (by simp [hstands]), State.repower_mode]
  exact s.offBase_mode

theorem hwCut_locks {s : State} {n : Nat} (hmode : s.mode ≠ .off) (hn : n ≤ 8) :
    ∃ t, exec (.hwCut n) s = .next t ∧ t.mode = .off ∧ (t.getF Reg.MD_LOCKOUT_ALL).testBit 6 = true := by
  obtain ⟨u, hexec, hlock⟩ : ∃ u : State, exec (.hwCut n) s = .next u.reachOff ∧ (u.getF Reg.MD_LOCKOUT_ALL).testBit 6 = true := by
    refine ⟨_, congrArg Host.Outcome.next (if_neg (by simp [hmode]; omega)), ?_⟩
    generalize hr : State.recordLock _ 7 0 = r
    have hrecorded : (r.getF Reg.MD_LOCKOUT_ALL).testBit 6 = true := hr ▸ State.recordLock_records _ (by decide) 0
    have hopened : RegsKept [Reg.ES_STATUS_PATH, Reg.ES_STATUS_ACC_ON, Reg.MD_STATUS_BRIDGE] r
        (r.setFs [(Reg.ES_STATUS_PATH, 0), (Reg.ES_STATUS_ACC_ON, 0), (Reg.MD_STATUS_BRIDGE, 0)]) := regsKept_setFs (by simp)
    generalize r.setFs [(Reg.ES_STATUS_PATH, 0), (Reg.ES_STATUS_ACC_ON, 0), (Reg.MD_STATUS_BRIDGE, 0)] = v at hopened ⊢
    have hcut : RegsKept [] v ({ v with keep := { v.keep with jq := [] } } : State).flashCut := .of_regs (by rw [State.flashCut_frame])
    rw [hcut _ (by simp), hopened _ (by decide)]
    exact hrecorded
  exact ⟨_, hexec, State.reachOff_mode hlock, dmkKept_reachOff.lock 6 hlock⟩

/-- Settles O59. The fence is `FenceStands`, a shed step `ShedRuns`; P5 begins without entering WAKE while VIN is absent (`State.p5_shows`). -/
theorem burrowFormsComplete : Obligations.BurrowFormsComplete :=
  ⟨fun _ => fence_completes, fun _ _ => shedStep_begins, fun _ => p1End_completes, fun _ => p1Late_completes,
    fun _ m b _ => sweepVisit_stopped m b, fun _ _ => programConfirm_completes, fun _ _ => programStatus_lands,
    fun _ _ hprog _ => lunNotReady_fails hprog, fun _ => p2End_completes, fun _ => p2Timeout_stops,
    fun _ fails _ _ _ => p3End_barred fails, fun _ _ _ _ => p3End_closes, fun _ n => p3Timeout_begins n, fun _ => journalCommit_commits,
    fun _ => p4Timeout_defers,
    fun _ hvin hmay => (vinReturn_abandons hvin hmay).imp fun _ ⟨hexec, _, habn, habandoning, _⟩ => ⟨hexec, habn, habandoning⟩,
    fun _ hmode habn hidle hwhole => (abandonRecordWritten_powers hmode habn hidle).imp fun _ ⟨hexec, _, hman, hpowers, _⟩ =>
      ⟨hexec, hpowers hwhole, hman⟩,
    fun _ => abandonUpDone_completes,
    fun _ hmode habn => (abandonLinkWaitExpiry_ends hmode habn).imp fun _ ⟨hexec, hrun, _, hnone, _⟩ => ⟨hexec, hrun, hnone⟩,
    fun _ => ⟨_, rfl, rfl, rfl⟩, fun _ => denRebase_completes, fun _ _ => hwCut_locks⟩

end Sys2Proof.Machine
